-- ==== Sys2Proof/Word.lean ====
section
/-! DEFINITION. The word types of the module and the sparse map type that holds its tables (R14, R15, R33). -/

namespace Sys2Proof

/-- A byte of memory. -/
abbrev Byte := BitVec 8

/-- A 64-bit register, a lane register, a queue or frame word. -/
abbrev W64 := BitVec 64

/-- A table indexed by a number: the entries that differ from the table's default, keys strictly rising. -/
abbrev NMap (α : Type) := List (Nat × α)

end Sys2Proof
end

