-- ==== Sys2Proof/Params.lean ====
section
/-! DEFINITION. The operand types of the commands and the data the manual lays out: register fields, signal records, the
sections of a Book, mailbox headers, mirrored commands, frames and records of the links. Plain data only. -/

namespace Sys2Proof

/-- A register field: address inside the slot region of R33, low bit, width (R14). -/
structure Fld where
  addr : Nat
  lo : Nat
  len : Nat
  deriving DecidableEq, Repr

/-- A signal record (R46). STAMP is in microseconds modulo 2^48; FLAGS bit 0 FORCED, 1 RETAINED, 2 CHANGED. -/
structure Rec where
  value : W64
  stamp : Nat
  qual : Nat
  flags : Nat
  deriving DecidableEq, Repr

/-- A register write that hardware answers with an occurrence in the same clock (R18, R84, R122 and their like). -/
abbrev SameClock := Bool

/-! ### The sections of a Book (R201) -/

/-- The schedule of one task class (R85 to R89, R98): periods and offsets in 500 µs ticks, margin in µs. -/
structure SchedClass where
  period : Nat
  offset : Nat
  margin : Nat
  lanes : Nat
  skip : Nat
  deriving DecidableEq, Repr

/-- The SCHEDULE section: eight classes, Hold Limit in 10 ms, start kind, spare lane, undo area bases (R201, R264). -/
structure Schedule where
  classes : List SchedClass
  holdLimit : Nat
  startCold : Bool
  spare : Option Nat
  undo : NMap Nat
  deriving DecidableEq, Repr

/-- A Signal Directory entry without its CHECK (R52). -/
structure DirEntry where
  typ : Nat
  bind : Nat
  cls : Nat
  kind : Nat
  retain : Bool
  crossing : Bool
  owner : Nat
  init : W64
  stop : W64
  unit : Nat
  pos : Nat
  retslot : Nat
  deriving DecidableEq, Repr

/-- A row of the DIRECTORY section. -/
structure DirRow where
  sig : Nat
  e : DirEntry
  deriving DecidableEq, Repr

/-- A block list entry (R129). `rsv` holds its reserved bits. -/
structure ListEntry where
  frame : Nat
  grains : Nat
  code : Nat
  cond : Bool
  rsv : Nat
  deriving DecidableEq, Repr

/-- The block list of one class on one lane (R129, R201). -/
structure BlockList where
  lane : Nat
  cls : Nat
  base : Nat
  entries : List ListEntry
  deriving DecidableEq, Repr

/-- A grain of the FRAMES section: eight words. -/
structure FrameInit where
  grain : Nat
  words : List W64
  deriving DecidableEq, Repr

/-- A row of the INSTANCES section; `retOff` is the byte offset in the Retain store, 0 for none. -/
structure InstRow where
  inst : Nat
  lane : Nat
  cls : Nat
  frame : Nat
  grains : Nat
  typ : Nat
  firstState : Nat
  retOff : Nat
  deriving DecidableEq, Repr

/-- The crossing list of a class (R70): first record index and entries of signal and record index (R136 XREC). -/
structure CrossList where
  cls : Nat
  area : Nat
  entries : List (Nat × Nat)
  deriving DecidableEq, Repr

/-- A Retain slot of a signal (R77). -/
structure RetSig where
  sig : Nat
  slot : Nat
  deriving DecidableEq, Repr

/-- A Retain slot of an instance (R119): byte offset in the Retain store and retained length in 8-byte units. -/
structure RetInst where
  inst : Nat
  off : Nat
  len8 : Nat
  deriving DecidableEq, Repr

/-- A ring of the STATIONS section (R324): 10 Gbit/s or 1 Gbit/s, SAMPLE_OFFSET in µs. -/
structure RingCfg where
  rate10 : Bool
  sampleOffset : Nat
  deriving DecidableEq, Repr

/-- A station of the STATIONS section (R324). -/
structure StationCfg where
  num : Nat
  order : Nat
  m : Nat
  ni : Nat
  no : Nat
  tconv : Nat
  timeout : Nat
  stale : Nat
  release : Bool
  cfgGen : Nat
  model : List Byte
  deriving DecidableEq, Repr

/-- A published sounding (R376). -/
structure PubSounding where
  idx : Nat
  cls : Nat
  k : Nat
  members : List Nat
  deriving DecidableEq, Repr

/-- A subscription (R377). -/
structure SubSounding where
  idx : Nat
  pair : Nat
  sidx : Nat
  layout : Nat
  stale : Nat
  deriving DecidableEq, Repr

/-- An analogue input of the FIELD section (R563). -/
structure AiCfg where
  loop : Bool
  namur : Bool
  filter : Nat
  deriving DecidableEq, Repr

/-- The FIELD section (R563): eight AI channels, FAIL of four AO channels. -/
structure FieldCfg where
  ai : List AiCfg
  ao : List Nat
  deriving DecidableEq, Repr

/-- The Code Store bank image of one lane (R138, R139, R201). -/
structure LaneCode where
  lane : Nat
  words : NMap (BitVec 32)
  deriving DecidableEq, Repr

/-- A Book image (R200, R201): its bytes, from which header, section table, section CRCs, signature and identity are read, and the content of
its sections, whose layout inside a section the manual does not give. What rests on bytes the manual does not place or keys it does not
print comes as an operand: the TYPE of the first section of an encrypted Book that AES-256-GCM refuses, or whose CRC then fails; whether
Psidel's signature over the LIBRARY section holds, and its Library revision (assumption 13). -/
structure Book where
  image : List Byte
  decryptBad : Option Nat
  plainBad : Option Nat
  libOk : Bool
  libRevision : Nat
  sched : Schedule
  dir : List DirRow
  code : List LaneCode
  lists : List BlockList
  frames : List FrameInit
  insts : List InstRow
  cross : List CrossList
  retSigs : List RetSig
  retInsts : List RetInst
  rings : List RingCfg
  stations : List StationCfg
  pubs : List PubSounding
  subs : List SubSounding
  field : FieldCfg
  deriving DecidableEq, Repr

/-! ### Mailbox headers (R490, R495) -/

/-- The transport a command ring is bound to (R495). -/
inductive Transport where
  | pcie
  | fabric (addr : Nat)
  | service (ip port : Nat)
  deriving DecidableEq, Repr

/-- The header of a command the mailbox firmware takes (R490): ring pair, TALLY, CLIENT, LEVEL, LEN, the LEN its opcode
requires, whether its continuation entries lie within PI (R491), its transport and its ACK. `offs` are the byte offsets of its parameters in
the order in which the operands of the command follow, counted from parameter byte 0 (R520). -/
structure Hdr where
  pair : Nat
  tally : Nat
  client : Nat
  level : Nat
  len : Nat
  need : Nat
  whole : Bool
  via : Transport
  ack : Nat
  offs : List Nat
  deriving DecidableEq, Repr

/-- A host write to the MSI-X capability or table (R508, R511): a vector's address and data, its mask bit, the enable and function mask of
the capability. -/
inductive MsixWrite where
  | entry (v : Fin 272) (addr data : W64)
  | mask (v : Fin 272) (b : Bool)
  | control (enable mask : Bool)
  deriving DecidableEq, Repr

/-- Which module a command of R634 names: the receiving module, the partner, or both. -/
inductive Side where
  | own | partner | both
  deriving DecidableEq, Repr

/-- The kind of a RUN command (R109). -/
inductive RunKind where
  | resume | cold | warm
  deriving DecidableEq, Repr

/-- A mode command (R109, R518). A class set is a mask of eight bits. -/
inductive ModeCmd where
  | stop
  | run (kind : RunKind)
  | hold (set : Nat)
  | step (cls : Nat)
  deriving DecidableEq, Repr

/-- The parameters of PAIR_CONFIG (R322): the fields of PAIR_CFG and the Preferred serial number. -/
structure PairCfg where
  strict : Nat
  strictWait : Nat
  reclaim : Nat
  detachWarm : Bool
  exercise : Nat
  pwait : Nat
  serial : Nat
  deriving DecidableEq, Repr


/-! ### Configurations carried by mirrored commands (R295) -/

/-- FABRIC_CONFIG (R394). -/
structure FabricCfg where
  pair : Nat
  cost2 : Nat
  cost3 : Nat
  deriving DecidableEq, Repr

/-- The PTP settings of a port (R423): profile, encapsulation, two-step, latencies and asymmetry as the registers of R421 code them,
intervals. -/
structure PtpPortCfg where
  profile : Nat
  encap : Nat
  twoStep : Bool
  latIn : Nat
  latEg : Nat
  asym : Nat
  syncInt : Int
  annInt : Int
  deriving DecidableEq, Repr

/-- TIME_CONFIG (R423). -/
structure TimeCfg where
  domA : Nat
  domB : Nat
  domR : Nat
  ports : List PtpPortCfg
  prio1 : Nat
  prio2 : Nat
  follow : Bool
  window : Nat
  deriving DecidableEq, Repr

/-- A PTP message other than Sync (R404, R405): the domain (0 A, 1 B, 2 ring) and what it carries; `data` is an Announce's data set in
the order its comparison takes it, `utc` its currentUtcOffset if it is valid. -/
inductive PtpMsg where
  | announce (dom : Fin 3) (data : List Nat) (utc : Option (BitVec 16))
  | followUp (dom : Fin 3) (off : Int)
  | delayReq (dom : Fin 3)
  | pdelayReq (dom : Fin 3)
  | pdelayResp (dom : Fin 3)
  | management
  deriving DecidableEq, Repr

/-- LOG_CONFIG (R541, R556). -/
structure LogCfg where
  interval : Nat
  freeze : Nat
  deriving DecidableEq, Repr

/-- MODULE_CONFIG (R518): comparator window code, EXPERT, service port IPv4 address and prefix, EtherTypes, MACSEC, FCOL_CFG fields. -/
structure ModuleCfg where
  window : Nat
  expert : Nat
  ipv4 : Nat
  prefix_ : Nat
  stnEtype : Nat
  fabEtype : Nat
  macsec : Bool
  dwell : Nat
  escLimit : Nat
  scrubSram : Bool
  scrubDram : Bool
  deriving DecidableEq, Repr

/-- MODULE_CONFIG before any command: the Cold values of the registers, EXPERT for PCIe only, 192.168.120.20/24 (R502, R516, R518). -/
def ModuleCfg.init : ModuleCfg := ⟨2, 1, 0xC0A87814, 24, 0x88B6, 0x88B5, true, 20, 3, true, true⟩

/-- A firmware image received by UPDATE_LOAD (R536): the 64 bytes of its header, its length, and whether the signature under Psidel's firmware
key, which the manual does not print, holds. -/
structure FwImage where
  head : List Byte
  len : Nat
  sigOk : Bool
  deriving DecidableEq, Repr

/-- A CAN filter (R588 CANn_FLTf). -/
structure CanFilter where
  mtch : Nat
  ide : Bool
  action : Nat
  mask : Nat
  deriving DecidableEq, Repr

/-- CAN_CONFIG (R592). -/
structure CanCfg where
  ch : Nat
  nominal : Nat
  data : Nat
  autoRec : Bool
  watchEn : Bool
  watchId : Nat
  filters : List CanFilter
  deriving DecidableEq, Repr

/-- CAN_OBJECT (R592): both words and the data of an object. -/
structure CanObjCfg where
  ch : Nat
  obj : Nat
  w0 : W64
  w1 : W64
  data : List W64
  deriving DecidableEq, Repr

/-- A state-changing command of R295, as the Command record carries it. -/
inductive MirBody where
  | mode (m : ModeCmd)
  | tune (inst word : Nat) (v : W64)
  | signalWrite (sig qual : Nat) (v : W64)
  | forceSet (sig qual : Nat) (v : W64)
  | forceRelease (sig : Nat)
  | forceReleaseAll (cls : Option Nat)
  | bookTurn (slot : Nat) (notBefore : Option Nat)
  | pairConfig (c : PairCfg)
  | fabricConfig (c : FabricCfg)
  | timeConfig (c : TimeCfg)
  | timeSet (tai : Nat) (utcOffset : Int)
  | tb2Step (target : Option Nat)
  | stationRelease (station : Nat)
  | stationReleaseAll (ring : Option Nat)
  | logConfig (c : LogCfg)
  | canConfig (c : CanCfg)
  | canObject (c : CanObjCfg)
  | canSend (ch obj : Nat)
  deriving DecidableEq, Repr

/-! ### Frames and records -/

/-- A CAN frame as received (R580, R584): identifier, IDE, FDF, BRS, ESI, data. -/
structure CanRx where
  id : Nat
  ide : Bool
  fdf : Bool
  brs : Bool
  esi : Bool
  data : List Byte
  deriving DecidableEq, Repr

/-- What fault confinement under ISO 11898-1 leaves after a bus event (R587): TEC, REC, error state (0 active, 1 passive, 2 bus-off), errors
detected. -/
structure CanConf where
  tec : BitVec 8
  rec_ : BitVec 8
  err : Fin 3
  errors : Nat
  deriving DecidableEq, Repr

/-- A station ring frame (R327, R328), with what its receiver finds of ETYPE, VLAN tag, CHECK and VER. -/
structure StnFrame where
  etypeOk : Bool
  vlan : Bool
  checkOk : Bool
  ver : Nat
  typ : Nat
  station : Nat
  towardB : Bool
  relayed : Bool
  all : Bool
  pair : Nat
  seg : Nat
  nseg : Nat
  first : Nat
  count : Nat
  watch : Nat
  wake : Nat
  time : Nat
  aux : Nat
  values : List W64
  quals : List Nat
  deriving DecidableEq, Repr

/-- A HELLO of a fabric neighbour (R362, R366): SRC and WATCH of its header, and its payload. -/
structure Hello where
  src : Nat
  watch : Nat
  serial : Nat
  port : Nat
  state : Nat
  cost : Nat
  heard : Nat
  heardPort : Nat
  deriving DecidableEq, Repr

/-- An adjacency in an LSR (R368). -/
structure LsrAdj where
  addr : Nat
  lport : Nat
  nport : Nat
  cost : Nat
  deriving DecidableEq, Repr

/-- A link-state record (R368) with the WATCH of its frame; `subs` are publisher pair number and sounding index. -/
structure Lsr where
  seq : Nat
  age : Nat
  serial : Nat
  state : Nat
  watch : Nat
  adj : List LsrAdj
  subs : List (Nat × Nat)
  deriving DecidableEq, Repr

/-- A segment of a sounding (R380) with HOPS, SRC and WATCH of its frame. -/
structure SoundSeg where
  hops : Nat
  src : Nat
  watch : Nat
  index : Nat
  seg : Nat
  nseg : Nat
  first : Nat
  epoch : Nat
  wake : Nat
  interval : Nat
  layout : Nat
  recs : List Rec
  deriving DecidableEq, Repr

/-- A fabric frame (R362) with what FAB finds of ETYPE, VER and TYPE, and CHECK. -/
structure FabFrame where
  etypeOk : Bool
  verOk : Bool
  checkOk : Bool
  typ : Nat
  hops : Nat
  dst : Nat
  src : Nat
  watch : Nat
  payload : List Nat
  deriving DecidableEq, Repr

/-- A 72-byte entry of a pair link record (R284): a Signal SRAM address, BOTH, and the eight words of a grain. -/
structure GrainEntry where
  addr : Nat
  both : Bool
  words : List W64
  deriving DecidableEq, Repr

/-- The fields of a Status record (R285), with the sender's Watch number from the header (R284). -/
structure StatusRec where
  state : Nat
  fit : Bool
  preferred : Bool
  timeMaster : Bool
  fault : Bool
  watch : Nat
  deriving DecidableEq, Repr

/-- What a module brings to the election of R277: may it run the program, FIT, Preferred, the highest Watch number at
which it held the active role, its serial number, its stored Watch number, PAIR_LEVEL and VERSION of its firmware (R540). -/
structure ElectInfo where
  mayRun : Bool
  fit : Bool
  preferred : Bool
  held : Nat
  serial : Nat
  watch : Nat
  pairLevel : Nat
  version : Nat
  books : List Nat
  busy : Bool
  deriving DecidableEq, Repr

/-- What the header of a received pair link record says of it beside its kind (R284): SEQ and the sender's Watch number. -/
structure LinkIn where
  seq : BitVec 16
  watch : BitVec 32
  deriving DecidableEq, Repr

/-- A receiver of the class D reaction lines (R432, R442). -/
inductive LineBlock where
  | rstc | pair | lanes | fld | stn
  | can (n : Fin 2)
  deriving DecidableEq, Repr

/-- A dual-rail path that shows 00 or 11 for 160 ns: the report path of a source, as FCOL sees it (R425), or the class D reaction lines, as a
receiving block sees them (R442). -/
inductive BrokenPath where
  | source (src : Fin 69)
  | line (b : LineBlock)
  deriving DecidableEq, Repr

/-- What an Ack record acknowledges (R285): the Input or Commit record of a class and Wake number, the Command record of a client and Tally, a
Mirror record, the Notice of a SEQ. `at2` is the TB2 count in ns at which the partner acknowledged (R107). -/
inductive PairAck where
  | input (cls : Fin 8) (wake : Nat)
  | commit (cls : Fin 8) (wake : Nat)
  | command (client tally at2 : Nat)
  | mirror
  | notice (seq : Nat)
  deriving DecidableEq, Repr

/-- What a SYNCING module has of the active at the end of a sweep (R313): identities of the Books in both slots, slot that runs, page bits, mode
and held set, mode of each class, pair configuration. -/
structure SweepEnd where
  books : List Nat
  running : Fin 2
  pageIn : BitVec 8
  pageOut : BitVec 8
  mode : Fin 3
  held : BitVec 8
  modes : List (Fin 4)
  cfg : PairCfg
  deriving DecidableEq, Repr

/-- A Logbook record (R544, R545): SEQ, TYPE, FLAGS, CLASS, WAKE, LEN, TB3 and TB0 of its making, body in 8-byte words, 72-byte entries, and for
the read of a checkpoint the mirrored state read, and for a COMMAND record the command. -/
structure LogRec where
  seq : Nat
  typ : Nat
  flags : Nat
  cls : Nat
  wake : Nat
  len : Nat
  at3 : Nat
  at0 : Nat
  body : List Nat
  gs : List GrainEntry
  image : NMap Byte
  cmd : Option MirBody
  deriving DecidableEq, Repr

/-- One measurement by SENS (R527): T0 to T11 in 1/16 °C, RAIL0 to RAIL19 in mV, both feeds in mV and mA, losses of the silver and the copper
film in Å. -/
structure SensorSet where
  temps : List (BitVec 16)
  rails : List (BitVec 16)
  va : BitVec 16
  ia : BitVec 16
  vb : BitVec 16
  ib : BitVec 16
  ag : BitVec 16
  cu : BitVec 16
  deriving DecidableEq, Repr

/-- The settings of a pulse output (R416): TIME_TPOk_START and PERIOD in ns, and TIME_TPOk_CFG with the base, POL, WIDTH and the enable. -/
structure TpoProg where
  start : Nat
  period : Nat
  base : Nat
  pol : Bool
  width : Nat
  en : Bool
  deriving DecidableEq, Repr

/-- A module's part of a command that names modules (R634): the command and its parameters. -/
inductive Query where
  | pairStatus
  | fabricStatus
  | timeStatus
  | tpoProgram (k : Fin 4) (p : TpoProg)
  | tpiConfig (i : Fin 2) (edge : Nat)
  | tpiRead (i : Fin 2)
  | faultStatus
  | faultHistory
  | faultClear (first acount : Bool)
  | fieldStatus
  | canStatus (ch : Fin 2)
  deriving DecidableEq, Repr

/-- The settings of ACCESS_CONFIG (R465, R514): windows 7 to 63, master table words by register address, and the apertures 3 to 7 with
HOST_APn_BASE and HOST_APn_LEN. -/
structure AccessCfg where
  wins : List (Nat × W64)
  tables : List (Nat × W64)
  aps : List (Nat × W64 × W64)
  deriving DecidableEq, Repr

/-- What KEY_PROVISION carries (R473): a wrapped secret key and whether its tag holds, a public key and whether the key it replaces signed
it, or the identity certificate. -/
inductive KeyItem where
  | wrapped (slot : Nat) (tagOk : Bool)
  | pub (slot : Nat) (key : List W64) (signed : Bool)
  | cert (c : List W64)
  deriving DecidableEq, Repr

/-- An unlock token (R475): its 160 bytes, and whether its signature holds under Psidel's service key, which the manual does not print. -/
structure Token where
  bytes : List Byte
  serviceOk : Bool
  deriving DecidableEq, Repr

/-- A chunk of a bulk transfer (R504): ID, OFFSET, TOTAL, CRC, its data. -/
structure Chunk where
  id : Nat
  offset : Nat
  total : Nat
  crc : Nat
  data : List Byte
  deriving DecidableEq, Repr

/-- The command that owns a bulk transfer: BOOK_LOAD into a slot, REPLAY_IMPORT, UPDATE_LOAD. -/
inductive BulkFor where
  | book (slot : Nat)
  | replay
  | update
  deriving DecidableEq, Repr

/-- The step of a field trim (R572). -/
inductive TrimStep where
  | drive4 | set4 | drive20 | set20 | commit
  deriving DecidableEq, Repr

/-- A transceiver as its SFF-8472 identification names it (R619): 10GBASE-SR, 10GBASE-LR, 1000BASE-X, declared power in mW, status byte. -/
structure Sfp where
  sr : Bool
  lr : Bool
  x : Bool
  mw : Nat
  status : Byte
  deriving DecidableEq, Repr

/-- What start-up finds (R608): the firmware slots whose signature passes, sources whose report path fails the test (R444), lanes that fail the
comparator test with their first failed step (R253). -/
structure BootFind where
  slotOk : BitVec 2
  paths : List (Fin 69)
  lanes : List (Fin 8 × Fin 387)
  deriving DecidableEq, Repr

/-- A record of the pair link, without its header (R285). -/
inductive PairRec where
  /-- A Status record (R276). -/
  | status (r : StatusRec)
  /-- An Ack record: FLAGS bit; class and Wake number of an Input or Commit record, client and Tally of a Command record, 0 and SEQ of a
  Notice (R288). -/
  | ack (bit cls wake : Nat)
  /-- A Notice record: code and WAKE field. -/
  | notice (code wake : Nat)
  /-- A Relay or Forward record (R338, R339). -/
  | relay (ring : Nat) (f : StnFrame)
  | forward (ring : Nat) (f : StnFrame)
  /-- A part of an Input or Commit record (R286, R287). -/
  | input (cls wake : Nat) (noexec last : Bool) (es : List GrainEntry)
  | commit (cls wake : Nat) (turn late skipped last : Bool) (es : List GrainEntry)
  /-- A Command record (R295): a second one carries the effect instant once it is fixed, 0 until then. -/
  | command (client tally : Nat) (b : MirBody) (effect : Nat)
  /-- A part of the Mirror sweep, a Book image and the result of its verification (R205), a Query request or reply (R313, R634). -/
  | mirror (es : List GrainEntry) (done : Bool)
  | bookRec (slot : Nat) (identity : Nat)
  | bookResult (slot : Nat) (result : Nat)
  | query (q : Query) (offs : List Nat)
  | queryReply (status detail : Nat) (bytes : List Byte)
  deriving DecidableEq, Repr

/-- What the module sends or drives as seen outside, in the order sent: the model's own record of outputs. -/
inductive Output where
  /-- A station ring frame from the module's own ring end (R327). -/
  | station (ring : Nat) (f : StnFrame)
  /-- A record of the pair link, with SEQ and WATCH of its header (R284, R285). -/
  | link (seq watch : Nat) (r : PairRec)
  /-- The request for a record with a bad CHECK (R285). -/
  | askAgain (seq : Nat)
  /-- An MSI-X message (R507, R508). -/
  | msix (vec : Nat)
  /-- An EVENT payload or MBOX entries to a fabric or service port address (R509, R510, R515). -/
  | eventTo (addr queue : Nat)
  | mboxTo (dest : Transport) (queue client : Nat) (entries : List (List W64))
  /-- A fabric frame: kind (R363), port, header and payload words. -/
  | fabric (typ port : Nat) (words : List Nat)
  /-- A PTP message: port, message type, words (R404 to R410). -/
  | ptp (port typ : Nat) (words : List Nat)
  /-- A pulse output edge (R415): output, level. -/
  | pulse (k : Nat) (level : Bool)
  /-- A cabinet bus frame: channel, identifier, extended, FD, data (R583 to R585). -/
  | can (ch id : Nat) (ide fd : Bool) (data : List Byte)
  /-- A command frame to the field island (R558). -/
  | field (words : List Nat) (stages : List (Int × Nat))
  /-- Data out of the TAP, and the pins driven from its boundary cells (R474). -/
  | tap (words : List W64)
  | pins (cells : List Bool)
  deriving DecidableEq, Repr

end Sys2Proof
end

