-- ==== Sys2Proof/Machine/Operands.lean ====
section
/-! DEFINITION. The operand forms of a lane instruction: the formats R, C, I, M and S of its 32-bit word (R144, R145). -/

namespace Sys2Proof.Machine

/-- OP and PRED of a word. -/
def wordHead (op : Nat) (neg : Bool) (pr : BitVec 3) : Nat :=
  op * 2 ^ 24 + (if neg then 2 ^ 23 else 0) + pr.toNat * 2 ^ 20

/-- Format R: D, A, B. -/
def wordR (op : Nat) (neg : Bool) (pr : BitVec 3) (d a b : BitVec 6) : BitVec 32 :=
  BitVec.ofNat 32 (wordHead op neg pr + d.toNat * 2 ^ 14 + a.toNat * 2 ^ 8 + b.toNat * 2 ^ 2)

/-- Format C: target predicate, A, B. -/
def wordC (op : Nat) (neg : Bool) (pr t : BitVec 3) (a b : BitVec 6) : BitVec 32 :=
  BitVec.ofNat 32 (wordHead op neg pr + t.toNat * 2 ^ 14 + a.toNat * 2 ^ 8 + b.toNat * 2 ^ 2)

/-- Format I: D, IMM. -/
def wordI (op : Nat) (neg : Bool) (pr : BitVec 3) (d : BitVec 6) (imm : BitVec 14) : BitVec 32 :=
  BitVec.ofNat 32 (wordHead op neg pr + d.toNat * 2 ^ 14 + imm.toNat)

/-- Format M: D, W. -/
def wordM (op : Nat) (neg : Bool) (pr : BitVec 3) (d : BitVec 6) (w : BitVec 12) : BitVec 32 :=
  BitVec.ofNat 32 (wordHead op neg pr + d.toNat * 2 ^ 14 + w.toNat)

/-- Format S: D, A, CONN. -/
def wordS (op : Nat) (neg : Bool) (pr : BitVec 3) (d a : BitVec 6) (conn : BitVec 8) : BitVec 32 :=
  BitVec.ofNat 32 (wordHead op neg pr + d.toNat * 2 ^ 14 + a.toNat * 2 ^ 8 + conn.toNat)

/-- Bits `lo` upward of an instruction word, `len` of them. -/
def wordBits (w : BitVec 32) (lo len : Nat) : Nat := w.toNat / 2 ^ lo % 2 ^ len

end Sys2Proof.Machine
end

