-- ==== Sys2Proof/Syntax.lean ====
section
/-! DEFINITION. The commands of the module: one constructor for every row of spec/opcode_table.json, with its operands.
A command that the manual ties to an instant carries it as a TB2 or TB3 count in nanoseconds. -/

namespace Sys2Proof

/-- A command: a lane instruction, a mailbox command, a register write, a record, a frame, a pin event or a timer expiry. -/
inductive Instr where
  /-- NOP (R147). -/
  | nop (l : Fin 8) (neg : Bool) (pr : BitVec 3)
  /-- END (R131). -/
  | endScan (l : Fin 8) (neg : Bool) (pr : BitVec 3)
  /-- MOV (R147). -/
  | mov (l : Fin 8) (neg : Bool) (pr : BitVec 3) (d a : BitVec 6)
  /-- LDI (R147). -/
  | ldi (l : Fin 8) (neg : Bool) (pr : BitVec 3) (d : BitVec 6) (imm : BitVec 14)
  /-- LDK (R147). -/
  | ldk (l : Fin 8) (neg : Bool) (pr : BitVec 3) (d : BitVec 6) (imm : BitVec 14)
  /-- GET (R155). -/
  | get (l : Fin 8) (neg : Bool) (pr : BitVec 3) (d : BitVec 6) (imm : BitVec 14)
  /-- IADD (R148). -/
  | iadd (l : Fin 8) (neg : Bool) (pr : BitVec 3) (d a b : BitVec 6)
  /-- ISUB (R148). -/
  | isub (l : Fin 8) (neg : Bool) (pr : BitVec 3) (d a b : BitVec 6)
  /-- IMUL (R148). -/
  | imul (l : Fin 8) (neg : Bool) (pr : BitVec 3) (d a b : BitVec 6)
  /-- IDIV (R156). -/
  | idiv (l : Fin 8) (neg : Bool) (pr : BitVec 3) (d a b : BitVec 6)
  /-- IREM (R156). -/
  | irem (l : Fin 8) (neg : Bool) (pr : BitVec 3) (d a b : BitVec 6)
  /-- INEG (R148). -/
  | ineg (l : Fin 8) (neg : Bool) (pr : BitVec 3) (d a : BitVec 6)
  /-- IABS (R148). -/
  | iabs (l : Fin 8) (neg : Bool) (pr : BitVec 3) (d a : BitVec 6)
  /-- IMIN (R148). -/
  | imin (l : Fin 8) (neg : Bool) (pr : BitVec 3) (d a b : BitVec 6)
  /-- IMAX (R148). -/
  | imax (l : Fin 8) (neg : Bool) (pr : BitVec 3) (d a b : BitVec 6)
  /-- ISAT32 (R148). -/
  | isat32 (l : Fin 8) (neg : Bool) (pr : BitVec 3) (d a : BitVec 6)
  /-- IADDW (R148). -/
  | iaddw (l : Fin 8) (neg : Bool) (pr : BitVec 3) (d a b : BitVec 6)
  /-- ISUBW (R148). -/
  | isubw (l : Fin 8) (neg : Bool) (pr : BitVec 3) (d a b : BitVec 6)
  /-- IMULW (R148). -/
  | imulw (l : Fin 8) (neg : Bool) (pr : BitVec 3) (d a b : BitVec 6)
  /-- AND (R149). -/
  | andB (l : Fin 8) (neg : Bool) (pr : BitVec 3) (d a b : BitVec 6)
  /-- OR (R149). -/
  | orB (l : Fin 8) (neg : Bool) (pr : BitVec 3) (d a b : BitVec 6)
  /-- XOR (R149). -/
  | xorB (l : Fin 8) (neg : Bool) (pr : BitVec 3) (d a b : BitVec 6)
  /-- NOT (R149). -/
  | notB (l : Fin 8) (neg : Bool) (pr : BitVec 3) (d a : BitVec 6)
  /-- SHL (R149). -/
  | shl (l : Fin 8) (neg : Bool) (pr : BitVec 3) (d a b : BitVec 6)
  /-- SHR (R149). -/
  | shr (l : Fin 8) (neg : Bool) (pr : BitVec 3) (d a b : BitVec 6)
  /-- SAR (R149). -/
  | sar (l : Fin 8) (neg : Bool) (pr : BitVec 3) (d a b : BitVec 6)
  /-- ROL (R149). -/
  | rol (l : Fin 8) (neg : Bool) (pr : BitVec 3) (d a b : BitVec 6)
  /-- POPC (R149). -/
  | popc (l : Fin 8) (neg : Bool) (pr : BitVec 3) (d a : BitVec 6)
  /-- BNOT (R149). -/
  | bnot (l : Fin 8) (neg : Bool) (pr : BitVec 3) (d a : BitVec 6)
  /-- BOOL (R149). -/
  | boolOf (l : Fin 8) (neg : Bool) (pr : BitVec 3) (d a : BitVec 6)
  /-- QOF (R149). -/
  | qof (l : Fin 8) (neg : Bool) (pr : BitVec 3) (d a : BitVec 6)
  /-- IEQ (R150). -/
  | ieq (l : Fin 8) (neg : Bool) (pr : BitVec 3) (t : BitVec 3) (a b : BitVec 6)
  /-- ILT (R150). -/
  | ilt (l : Fin 8) (neg : Bool) (pr : BitVec 3) (t : BitVec 3) (a b : BitVec 6)
  /-- ILE (R150). -/
  | ile (l : Fin 8) (neg : Bool) (pr : BitVec 3) (t : BitVec 3) (a b : BitVec 6)
  /-- ULT (R150). -/
  | ult (l : Fin 8) (neg : Bool) (pr : BitVec 3) (t : BitVec 3) (a b : BitVec 6)
  /-- FEQ (R159). -/
  | feq (l : Fin 8) (neg : Bool) (pr : BitVec 3) (t : BitVec 3) (a b : BitVec 6)
  /-- FLT (R159). -/
  | flt (l : Fin 8) (neg : Bool) (pr : BitVec 3) (t : BitVec 3) (a b : BitVec 6)
  /-- FLE (R159). -/
  | fle (l : Fin 8) (neg : Bool) (pr : BitVec 3) (t : BitVec 3) (a b : BitVec 6)
  /-- FUN (R159). -/
  | fun (l : Fin 8) (neg : Bool) (pr : BitVec 3) (t : BitVec 3) (a b : BitVec 6)
  /-- TST (R150). -/
  | tst (l : Fin 8) (neg : Bool) (pr : BitVec 3) (t : BitVec 3) (a : BitVec 6)
  /-- PAND (R150). -/
  | pand (l : Fin 8) (neg : Bool) (pr : BitVec 3) (t a b : BitVec 3)
  /-- POR (R150). -/
  | por (l : Fin 8) (neg : Bool) (pr : BitVec 3) (t a b : BitVec 3)
  /-- PNOT (R150). -/
  | pnot (l : Fin 8) (neg : Bool) (pr : BitVec 3) (t a : BitVec 3)
  /-- PMOV (R150). -/
  | pmov (l : Fin 8) (neg : Bool) (pr : BitVec 3) (d : BitVec 6) (a : BitVec 3)
  /-- FADD (R157). -/
  | fadd (l : Fin 8) (neg : Bool) (pr : BitVec 3) (d a b : BitVec 6)
  /-- FSUB (R157). -/
  | fsub (l : Fin 8) (neg : Bool) (pr : BitVec 3) (d a b : BitVec 6)
  /-- FMUL (R157). -/
  | fmul (l : Fin 8) (neg : Bool) (pr : BitVec 3) (d a b : BitVec 6)
  /-- FDIV (R157). -/
  | fdiv (l : Fin 8) (neg : Bool) (pr : BitVec 3) (d a b : BitVec 6)
  /-- FSQRT (R157). -/
  | fsqrt (l : Fin 8) (neg : Bool) (pr : BitVec 3) (d a : BitVec 6)
  /-- FMA (R157). -/
  | fma (l : Fin 8) (neg : Bool) (pr : BitVec 3) (d a b : BitVec 6)
  /-- FMIN (R159). -/
  | fmin (l : Fin 8) (neg : Bool) (pr : BitVec 3) (d a b : BitVec 6)
  /-- FMAX (R159). -/
  | fmax (l : Fin 8) (neg : Bool) (pr : BitVec 3) (d a b : BitVec 6)
  /-- FABS (R151). -/
  | fabs (l : Fin 8) (neg : Bool) (pr : BitVec 3) (d a : BitVec 6)
  /-- FNEG (R151). -/
  | fneg (l : Fin 8) (neg : Bool) (pr : BitVec 3) (d a : BitVec 6)
  /-- FCLAMP (R159). -/
  | fclamp (l : Fin 8) (neg : Bool) (pr : BitVec 3) (d a b : BitVec 6)
  /-- FRINT (R151). -/
  | frint (l : Fin 8) (neg : Bool) (pr : BitVec 3) (d a : BitVec 6)
  /-- FTRUNC (R151). -/
  | ftrunc (l : Fin 8) (neg : Bool) (pr : BitVec 3) (d a : BitVec 6)
  /-- FFLOOR (R151). -/
  | ffloor (l : Fin 8) (neg : Bool) (pr : BitVec 3) (d a : BitVec 6)
  /-- FCEIL (R151). -/
  | fceil (l : Fin 8) (neg : Bool) (pr : BitVec 3) (d a : BitVec 6)
  /-- ITOF (R159). -/
  | itof (l : Fin 8) (neg : Bool) (pr : BitVec 3) (d a : BitVec 6)
  /-- FTOI (R159). -/
  | ftoi (l : Fin 8) (neg : Bool) (pr : BitVec 3) (d a : BitVec 6)
  /-- FTOIN (R159). -/
  | ftoin (l : Fin 8) (neg : Bool) (pr : BitVec 3) (d a : BitVec 6)
  /-- FEXP (R160). -/
  | fexp (l : Fin 8) (neg : Bool) (pr : BitVec 3) (d a : BitVec 6)
  /-- FLN (R160). -/
  | fln (l : Fin 8) (neg : Bool) (pr : BitVec 3) (d a : BitVec 6)
  /-- FSIN (R160). -/
  | fsin (l : Fin 8) (neg : Bool) (pr : BitVec 3) (d a : BitVec 6)
  /-- FCOS (R160). -/
  | fcos (l : Fin 8) (neg : Bool) (pr : BitVec 3) (d a : BitVec 6)
  /-- FATAN2 (R160). -/
  | fatan2 (l : Fin 8) (neg : Bool) (pr : BitVec 3) (d a b : BitVec 6)
  /-- LDF (R152). -/
  | ldf (l : Fin 8) (neg : Bool) (pr : BitVec 3) (d : BitVec 6) (w : BitVec 12)
  /-- STF (R152). -/
  | stf (l : Fin 8) (neg : Bool) (pr : BitVec 3) (d : BitVec 6) (w : BitVec 12)
  /-- LDFX (R152). -/
  | ldfx (l : Fin 8) (neg : Bool) (pr : BitVec 3) (d a b : BitVec 6)
  /-- STFX (R152). -/
  | stfx (l : Fin 8) (neg : Bool) (pr : BitVec 3) (d a b : BitVec 6)
  /-- LDSV (R163). -/
  | ldsv (l : Fin 8) (neg : Bool) (pr : BitVec 3) (d : BitVec 6) (conn : BitVec 8)
  /-- LDSM (R163). -/
  | ldsm (l : Fin 8) (neg : Bool) (pr : BitVec 3) (d : BitVec 6) (conn : BitVec 8)
  /-- STS (R164). -/
  | sts (l : Fin 8) (neg : Bool) (pr : BitVec 3) (d a : BitVec 6) (conn : BitVec 8)
  /-- STSR (R164). -/
  | stsr (l : Fin 8) (neg : Bool) (pr : BitVec 3) (d a : BitVec 6) (conn : BitVec 8)
  /-- TSTC (R154). -/
  | tstc (l : Fin 8) (neg : Bool) (pr : BitVec 3) (t : BitVec 3) (conn : BitVec 8)
  /-- UNASSIGNED_OPCODE (R141). -/
  | unassignedOpcode (l : Fin 8) (op : BitVec 8) (rest : BitVec 24)
  /-- CLASS_NOMINAL_START (R86). -/
  | classNominalStart (c : Fin 8) (t : Nat)
  /-- CROSSING_COPY_DONE (R70). -/
  | crossingCopyDone (c : Fin 8)
  /-- BLOCK_SCAN_START (R131). -/
  | blockScanStart (l : Fin 8)
  /-- GRAIN_TRANSFER_DONE (R165). -/
  | grainTransferDone (l : Fin 8) (grain : Nat) (bad parity : Bool)
  /-- STORE_DRAIN (R164). -/
  | storeDrain (l : Fin 8)
  /-- FRAME_WRITE_BACK (R265). -/
  | frameWriteBack (l : Fin 8) (line : Fin 896)
  /-- LANE_PART_COMPLETE (R133). -/
  | lanePartComplete (l : Fin 8) (t : Nat)
  /-- NOMINAL_PUBLICATION (R59). -/
  | nominalPublication (c : Fin 8) (t : Nat)
  /-- BACKFILL_DONE (R61). -/
  | backfillDone (c : Fin 8) (out : Bool)
  /-- RETAIN_SLOT_WRITE (R78). -/
  | retainSlotWrite (c : Fin 8)
  /-- HOLD_LIMIT_EXPIRY (R114). -/
  | holdLimitExpiry (c : Fin 8) (t : Nat)
  /-- EFFECT_INSTANT (R107). -/
  | effectInstant (t : Nat)
  /-- MODULE_STATUS (R518). -/
  | moduleStatus (h : Hdr)
  /-- MODULE_CONFIG (R518). -/
  | moduleConfig (h : Hdr) (c : ModuleCfg)
  /-- MODE (R109). -/
  | modeCmd (h : Hdr) (m : ModeCmd)
  /-- MODULE_RESET (R518). -/
  | moduleReset (h : Hdr) (cold : Bool)
  /-- CLIENT_OPEN (R496). -/
  | clientOpen (h : Hdr) (client level : Nat) (idle : Option Nat)
  /-- CLIENT_CLOSE (R501). -/
  | clientClose (h : Hdr)
  /-- QUEUE_READ (R518). -/
  | queueRead (h : Hdr) (q : Nat) (first : BitVec 32) (count : Nat)
  /-- QUEUE_ADVANCE (R487). -/
  | queueAdvance (h : Hdr) (q : Nat) (v : BitVec 32)
  /-- QUEUE_BIND (R506). -/
  | queueBind (h : Hdr) (q holdoff : Nat) (notify : List Nat) (dest destRing : Nat)
  /-- EVENT_REGISTER (R506). -/
  | eventRegister (h : Hdr) (q : Nat) (ranges : List (Nat × Nat))
  /-- QUEUE_RELEASE (R518). -/
  | queueRelease (h : Hdr) (q : Nat)
  /-- ACCESS_STATUS (R484). -/
  | accessStatus (h : Hdr)
  /-- ACCESS_CONFIG (R465). -/
  | accessConfig (h : Hdr) (c : AccessCfg)
  /-- KEY_STATUS (R484). -/
  | keyStatus (h : Hdr)
  /-- KEY_IDENTITY (R484). -/
  | keyIdentity (h : Hdr)
  /-- KEY_PROVISION (R473). -/
  | keyProvision (h : Hdr) (k : KeyItem)
  /-- KEY_COMMIT (R480). -/
  | keyCommit (h : Hdr)
  /-- DEBUG_CHALLENGE (R476). -/
  | debugChallenge (h : Hdr)
  /-- DEBUG_UNLOCK (R477). -/
  | debugUnlock (h : Hdr) (t : Token) (bad : Option (Fin 4))
  /-- DEBUG_CLOSE (R478). -/
  | debugClose (h : Hdr)
  /-- SENSOR_READ (R557). -/
  | sensorRead (h : Hdr)
  /-- SENSOR_CONFIG (R529). -/
  | sensorConfig (h : Hdr) (limit : Nat)
  /-- SIGNAL_READ (R519). -/
  | signalRead (h : Hdr) (first count : Nat)
  /-- SIGNAL_WRITE (R68). -/
  | signalWrite (h : Hdr) (sig : Nat) (v : W64) (qual : Nat)
  /-- DIRECTORY_READ (R519). -/
  | directoryRead (h : Hdr) (first count : Nat)
  /-- PARAM_READ (R519). -/
  | paramRead (h : Hdr) (inst first count : Nat)
  /-- PARAM_TUNE (R178). -/
  | paramTune (h : Hdr) (inst word : Nat) (v : W64)
  /-- BOOK_STATUS (R238). -/
  | bookStatus (h : Hdr)
  /-- BOOK_LOAD (R205). -/
  | bookLoad (h : Hdr) (i : Nat) (c : Chunk) (b : Book)
  /-- BOOK_CHECK (R210). -/
  | bookCheck (h : Hdr) (i : Nat)
  /-- BOOK_REPORT (R211). -/
  | bookReport (h : Hdr) (i : Nat)
  /-- BOOK_TURN (R213). -/
  | bookTurn (h : Hdr) (i : Nat) (notBefore : Option (BitVec 64))
  /-- BOOK_SELECT (R238). -/
  | bookSelect (h : Hdr) (i : Nat)
  /-- BOOK_ERASE (R238). -/
  | bookErase (h : Hdr) (i : Nat)
  /-- BOOK_VERIFY_DONE (R204). -/
  | bookVerifyDone (i : Fin 2)
  /-- TURN_ARMING_DONE (R214). -/
  | turnArmingDone (own : Bool) (t : Nat)
  /-- TURN_INSTANT (R215). -/
  | turnInstant
  /-- TURN_ARM_TIMEOUT (R215). -/
  | turnArmTimeout
  /-- TURN_WORK (R216). -/
  | turnWork (c : Fin 8)
  /-- BULK_CHUNK (R505). -/
  | bulkChunk (h : Hdr) (for_ : BulkFor) (c : Chunk)
  /-- BULK_TRANSFER_TIMEOUT (R505). -/
  | bulkTransferTimeout (id : BitVec 32) (pair : Fin 32)
  /-- FORCE_LIST (R224). -/
  | forceList (h : Hdr) (first count : Nat)
  /-- FORCE_SET (R230). -/
  | forceSet (h : Hdr) (sig qual : Nat) (v : W64)
  /-- FORCE_RELEASE (R231). -/
  | forceRelease (h : Hdr) (sig : Nat)
  /-- FORCE_RELEASE_ALL (R231). -/
  | forceReleaseAll (h : Hdr) (cls : Option Nat)
  /-- PAIR_STATUS (R322). -/
  | pairStatus (h : Hdr)
  /-- PAIR_HANDOVER (R307). -/
  | pairHandover (h : Hdr) (notBefore : Option (BitVec 64))
  /-- PAIR_CONFIG (R315). -/
  | pairConfig (h : Hdr) (c : PairCfg)
  /-- PAIR_TIMES (R301). -/
  | pairTimes (h : Hdr)
  /-- STATION_STATUS (R353). -/
  | stationStatus (h : Hdr) (first count : Nat)
  /-- RING_STATUS (R353). -/
  | ringStatus (h : Hdr) (r : Nat)
  /-- STATION_RELEASE (R347). -/
  | stationRelease (h : Hdr) (st : Nat)
  /-- STATION_RELEASE_ALL (R353). -/
  | stationReleaseAll (h : Hdr) (ring : Option Nat)
  /-- STATION_CLEAR (R353). -/
  | stationClear (h : Hdr) (station : Bool) (n : Nat)
  /-- STATION_CAPTURE (R352). -/
  | stationCapture (h : Hdr) (r : Nat) (on : Bool) (count : Nat)
  /-- FABRIC_STATUS (R394). -/
  | fabricStatus (h : Hdr)
  /-- FABRIC_CONFIG (R360). -/
  | fabricConfig (h : Hdr) (c : FabricCfg)
  /-- FABRIC_NODES (R394). -/
  | fabricNodes (h : Hdr) (first count : Nat)
  /-- FABRIC_ROUTES (R394). -/
  | fabricRoutes (h : Hdr) (first count : Nat)
  /-- SOUNDING_STATUS (R394). -/
  | soundingStatus (h : Hdr)
  /-- FABRIC_CLEAR (R394). -/
  | fabricClear (h : Hdr) (port : Option Nat)
  /-- TIME_STATUS (R423). -/
  | timeStatus (h : Hdr)
  /-- TIME_CONFIG (R423). -/
  | timeConfig (h : Hdr) (c : TimeCfg)
  /-- TIME_SET (R423). -/
  | timeSet (h : Hdr) (tai : BitVec 64) (utc : Int)
  /-- TB2_STEP (R91). -/
  | tb2Step (h : Hdr) (target : Option (BitVec 64))
  /-- TPO_PROGRAM (R416). -/
  | tpoProgram (h : Hdr) (side : Side) (k : Fin 4) (p : TpoProg)
  /-- TPI_CONFIG (R423). -/
  | tpiConfig (h : Hdr) (side : Side) (i : Fin 2) (edge : Nat)
  /-- TPI_READ (R423). -/
  | tpiRead (h : Hdr) (partner : Bool) (i : Fin 2)
  /-- FAULT_STATUS (R450). -/
  | faultStatus (h : Hdr) (side : Side)
  /-- FAULT_HISTORY (R450). -/
  | faultHistory (h : Hdr) (partner : Bool)
  /-- FAULT_CLEAR (R450). -/
  | faultClear (h : Hdr) (side : Side) (first acount : Bool)
  /-- EVENTLOG_STATUS (R557). -/
  | eventlogStatus (h : Hdr)
  /-- EVENTLOG_READ (R557). -/
  | eventlogRead (h : Hdr) (first : BitVec 32) (count : Nat)
  /-- LOG_STATUS (R557). -/
  | logStatus (h : Hdr)
  /-- LOG_CONFIG (R541). -/
  | logConfig (h : Hdr) (c : LogCfg)
  /-- LOG_FREEZE (R549). -/
  | logFreeze (h : Hdr) (t0 : BitVec 64)
  /-- LOG_RELEASE (R549). -/
  | logRelease (h : Hdr) (num : Nat)
  /-- LOG_EXPORT (R551). -/
  | logExport (h : Hdr) (win : Option Nat) (first last : Nat)
  /-- LOG_CHECKPOINT (R547). -/
  | logCheckpoint (h : Hdr)
  /-- REPLAY_IMPORT (R557). -/
  | replayImport (h : Hdr) (c : Chunk) (recs : Option (List LogRec))
  /-- REPLAY_START (R553). -/
  | replayStart (h : Hdr) (bySeq : Bool) (v stop : Nat) (check : Bool)
  /-- REPLAY_STATUS (R555). -/
  | replayStatus (h : Hdr)
  /-- REPLAY_STOP (R557). -/
  | replayStop (h : Hdr)
  /-- REPLAY_PUBLISH_COMPARE (R554). -/
  | replayPublishCompare (c : Fin 8)
  /-- FIELD_STATUS (R592). -/
  | fieldStatus (h : Hdr) (side : Side)
  /-- FIELD_TRIM (R572). -/
  | fieldTrim (h : Hdr) (k : Nat) (step : TrimStep) (amps : BitVec 32)
  /-- FIELD_CLEAR (R592). -/
  | fieldClear (h : Hdr) (k : Nat)
  /-- CAN_STATUS (R592). -/
  | canStatus (h : Hdr) (n : Fin 2)
  /-- CAN_CONFIG (R586). -/
  | canConfig (h : Hdr) (c : CanCfg)
  /-- CAN_OBJECT (R586). -/
  | canObject (h : Hdr) (c : CanObjCfg)
  /-- CAN_SEND (R586). -/
  | canSend (h : Hdr) (n k : Nat)
  /-- CAN_READ (R592). -/
  | canRead (h : Hdr) (n first count : Nat)
  /-- CAN_RECOVER (R587). -/
  | canRecover (h : Hdr) (n : Nat)
  /-- CAN_CLEAR (R592). -/
  | canClear (h : Hdr) (n : Nat)
  /-- UPDATE_STATUS (R557). -/
  | updateStatus (h : Hdr)
  /-- UPDATE_LOAD (R537). -/
  | updateLoad (h : Hdr) (c : Chunk) (sigOk : Bool)
  /-- UPDATE_ACTIVATE (R538). -/
  | updateActivate (h : Hdr)
  /-- UPDATE_COMMIT (R539). -/
  | updateCommit (h : Hdr)
  /-- UPDATE_REVERT (R539). -/
  | updateRevert (h : Hdr)
  /-- EXPERT_READ (R503). -/
  | expertRead (h : Hdr) (a : BitVec 64) (colour width count : Nat)
  /-- EXPERT_WRITE (R503). -/
  | expertWrite (h : Hdr) (a : BitVec 64) (colour width : Nat) (ws : List W64)
  /-- HOST_INDEX_WRITE (R513). -/
  | hostIndexWrite (q : Fin 256) (pi ci : Option (BitVec 32))
  /-- HOST_RING_ENTRY_WRITE (R513). -/
  | hostRingEntryWrite (e : Fin 32768) (off : Fin 64) (wide : Bool) (v : W64)
  /-- HOST_APERTURE_ACCESS (R514). -/
  | hostApertureAccess (k : Fin 8) (off : BitVec 28) (n : Fin 257) (w : Option (List Byte))
  /-- MSIX_HOLDOFF_EXPIRY (R508). -/
  | msixHoldoffExpiry (v : Fin 272)
  /-- CLIENT_IDLE_TIMEOUT (R501). -/
  | clientIdleTimeout (p : Fin 32)
  /-- PCIE_LINK_DOWN_TIMEOUT (R501). -/
  | pcieLinkDownTimeout
  /-- MBOX_FRAME_RX (R515). -/
  | mboxFrameRx (via : Transport) (toPair : Bool) (p : Fin 2) (watch : BitVec 32) (q : Fin 256) (txRing : BitVec 8) (entries : List (List W64))
  /-- FABRIC_MSG_TRANSMIT (R510). -/
  | fabricMsgTransmit (j : Fin 32)
  /-- REGISTER_WRITE (R16). -/
  | registerWrite (m : Fin 16) (slot : Fin 256) (off : Fin 65536) (wide : Bool) (v : W64)
  /-- DIR_OWNFLT_CLEAR (R84). -/
  | dirOwnfltClear (m : Fin 16) (occ : Option (BitVec 18 × Fin 16 × Fin 8))
  /-- BOOK_STATS_CLEAR (R122). -/
  | bookStatsClear (m : Fin 16) (c : Fin 8) (occ : Option (Bool × Bool × Bool))
  /-- LANE_OOF_CLEAR (R173). -/
  | laneOofClear (m : Fin 16) (l : Fin 8) (occ : Option (BitVec 32))
  /-- CMP_LOCK (R270). -/
  | cmpLock (m : Fin 16)
  /-- CMP_INJ_ARM (R252). -/
  | cmpInjArm (m : Fin 16) (w : W64)
  /-- CMP_FAULT_CLEAR (R271). -/
  | cmpFaultClear (m : Fin 16) (occ : Option (Fin 8 × Fin 5))
  /-- LANE_DEBUG_HALT (R259). -/
  | laneDebugHalt (l : Fin 8)
  /-- LANE_DEBUG_STEP (R259). -/
  | laneDebugStep (l : Fin 8) (w : BitVec 32)
  /-- LANE_DEBUG_RESUME (R259). -/
  | laneDebugResume (l : Fin 8)
  /-- LANE_DEBUG_WRITE (R272). -/
  | laneDebugWrite (l : Fin 8) (index : BitVec 6) (space : BitVec 2) (word : BitVec 13)
  /-- LANE_DEBUG_READ (R272). -/
  | laneDebugRead (l : Fin 8) (index : BitVec 6) (space : BitVec 2) (word : BitVec 13)
  /-- BREAKPOINT_HIT (R259). -/
  | breakpointHit (l : Fin 8)
  /-- DEBUG_QUEUE_PERFORM (R259). -/
  | debugQueuePerform (l : Fin 8)
  /-- PAIR_FENCE_MISMATCH_CLEAR (R321). -/
  | pairFenceMismatchClear (m : Fin 16) (occ : SameClock)
  /-- PAIR_LINK_CNT_CLEAR (R320). -/
  | pairLinkCntClear (m : Fin 16)
  /-- PAIR_TAKE_CLEAR (R321). -/
  | pairTakeClear (m : Fin 16) (occ : Option (BitVec 32 × BitVec 4 × Bool))
  /-- STN_LOCK (R354). -/
  | stnLock (m : Fin 16)
  /-- STN_RING_CNT_CLEAR (R355). -/
  | stnRingCntClear (m : Fin 16) (r : Fin 2) (occ : Option (Fin 4))
  /-- STN_STATION_CNT_CLEAR (R355). -/
  | stnStationCntClear (m : Fin 16) (st : Fin 256) (occ : Option Bool)
  /-- FAB_LOCK (R392). -/
  | fabLock (m : Fin 16)
  /-- FAB_PORT_CNT_CLEAR (R393). -/
  | fabPortCntClear (m : Fin 16) (p : Fin 2) (occ : Option (Fin 4))
  /-- TIME_SNAP (R398). -/
  | timeSnap (m : Fin 16)
  /-- TIME_INC_WRITE (R396). -/
  | timeIncWrite (m : Fin 16) (n : Fin 4) (v : W64)
  /-- TIME_STEP_WRITE (R397). -/
  | timeStepWrite (m : Fin 16) (n : Fin 4) (v : W64)
  /-- TPO_CFG_WRITE (R416). -/
  | tpoCfgWrite (m : Fin 16) (k : Fin 4) (v : W64)
  /-- TPI_CNT_CLEAR (R422). -/
  | tpiCntClear (m : Fin 16) (i : Fin 2) (occ : Option Bool)
  /-- PTP_LOST_CLEAR (R422). -/
  | ptpLostClear (m : Fin 16) (p : Fin 4) (occ : SameClock)
  /-- FCOL_LOCK (R449). -/
  | fcolLock (m : Fin 16)
  /-- FCOL_ACLEAR (R440). -/
  | fcolAclear (m : Fin 16) (occ : Option (Fin 69 × BitVec 32))
  /-- FCOL_TEST_STEP (R444). -/
  | fcolTestStep (m : Fin 16) (src : BitVec 7) (pattern : BitVec 2) (seen : Fin 3)
  /-- FCOL_FIRST_CLEAR (R439). -/
  | fcolFirstClear (m : Fin 16) (occ : List (Fin 69 × BitVec 32))
  /-- ACFG_LOCK (R481). -/
  | acfgLock (m : Fin 16)
  /-- ACFG_LOAD (R462). -/
  | acfgLoad (m : Fin 16)
  /-- ACFG_VIOL_CLEAR (R469). -/
  | acfgViolClear (m : Fin 16) (occ : Option (Fin 16 × Nat × Nat × Nat × Bool))
  /-- ACFG_TAG_WRITE (R452). -/
  | acfgTagWrite (m : Fin 16) (grain : BitVec 20) (colour : BitVec 4)
  /-- DBG_GATE_CLOSE (R478). -/
  | dbgGateClose (m : Fin 16)
  /-- DBG_NEWCHAL (R483). -/
  | dbgNewchal (m : Fin 16)
  /-- CHALLENGE_EXPIRY (R476). -/
  | challengeExpiry
  /-- QMGR_LOST_CLEAR (R523). -/
  | qmgrLostClear (m : Fin 16) (q : Fin 256) (occ : SameClock)
  /-- HOST_LOCK (R522). -/
  | hostLock (m : Fin 16)
  /-- HOST_CNT_CLEAR (R523). -/
  | hostCntClear (m : Fin 16) (occ : Option (Fin 3))
  /-- HOST_LINK_LOST_CLEAR (R523). -/
  | hostLinkLostClear (m : Fin 16) (occ : SameClock)
  /-- FLD_LINKLOSS_CLEAR (R589). -/
  | fldLinklossClear (m : Fin 16) (occ : SameClock)
  /-- FLD_AO_FLAGS_CLEAR (R589). -/
  | fldAoFlagsClear (m : Fin 16) (k : Fin 4) (mask : BitVec 3) (occ : Option (Fin 3))
  /-- CAN_CTRL_WRITE (R588). -/
  | canCtrlWrite (m : Fin 16) (n : Fin 2) (v : W64)
  /-- CAN_CNT_CLEAR_REG (R589). -/
  | canCntClearReg (m : Fin 16) (n : Fin 2) (occ : Option (Fin 5))
  /-- CAN_OBJ_NEW_CLEAR (R589). -/
  | canObjNewClear (m : Fin 16) (n : Fin 2) (k : Fin 256) (occ : SameClock)
  /-- RSTC_SWRST_WARM (R599). -/
  | rstcSwrstWarm (m : Fin 16)
  /-- RSTC_SWRST_COLD (R599). -/
  | rstcSwrstCold (m : Fin 16)
  /-- RSTC_ISLRST_WRITE (R593). -/
  | rstcIslrstWrite (m : Fin 16) (w : BitVec 22)
  /-- RSTC_WDOG_KICK (R525). -/
  | rstcWdogKick (m : Fin 16)
  /-- RSTC_HOLD_WRITE (R613). -/
  | rstcHoldWrite (m : Fin 16) (v : BitVec 9)
  /-- RSTC_CAUSE_CLEAR (R614). -/
  | rstcCauseClear (m : Fin 16) (debug island : Bool) (occ : Option Bool)
  /-- WINDOW_CLOSE (R245). -/
  | windowClose (l : Fin 8)
  /-- CHECKER_LATE (R248). -/
  | checkerLate (l : Fin 8)
  /-- LANE_STALL (R248). -/
  | laneStall (l : Fin 8)
  /-- SPARE_SELF_TEST (R257). -/
  | spareSelfTest (kind : Option (Fin 5))
  /-- FAULT_REPORT_TAKEN (R430). -/
  | faultReportTaken (n : Nat) (found : List (Fin 69 × BitVec 32))
  /-- BROKEN_REPORT_PATH (R425, R442). -/
  | brokenReportPath (p : BrokenPath)
  /-- CLASS_C_RESET_TIMEOUT (R431). -/
  | classCResetTimeout
  /-- ESCALATION_EXPIRY (R433). -/
  | escalationExpiry
  /-- COLLECTOR_COPY_MISMATCH (R441). -/
  | collectorCopyMismatch (off : BitVec 16)
  /-- ALWAYS_ON_CLOCK_FAULT (R443). -/
  | alwaysOnClockFault
  /-- HANDSHAKE_TIMEOUT (R30). -/
  | handshakeTimeout (req tgt : Fin 22)
  /-- ISLAND_CLOCK_FAULT (R31). -/
  | islandClockFault (i : Fin 20) (good : Bool)
  /-- TB3_COPY_RX (R438). -/
  | tb3CopyRx
  /-- TB3_COPY_TIMEOUT (R438). -/
  | tb3CopyTimeout
  /-- SRAM_SCRUB_PASS (R446). -/
  | sramScrubPass (err : Option (Fin 786432 × Bool))
  /-- DRAM_SCRUB_PASS (R446). -/
  | dramScrubPass (err : Option (Fin 0x200000000 × Bool))
  /-- ACFG_WINDOW_CHECK (R463). -/
  | acfgWindowCheck (v w : Fin 64) (parity : Option Nat)
  /-- ALIVE_OUT_TOGGLE (R275). -/
  | aliveOutToggle
  /-- ALIVE_IN_SILENT (R297). -/
  | aliveInSilent
  /-- ALIVE_IN_TOGGLING (R275). -/
  | aliveInToggling
  /-- STATUS_RECORD_SEND (R276). -/
  | statusRecordSend
  /-- PAIR_LINK_LOST (R276). -/
  | pairLinkLost (lanes : BitVec 2)
  /-- PAIR_LINK_UP (R276). -/
  | pairLinkUp (lanes : BitVec 2) (r : StatusRec) (e : Option ElectInfo)
  /-- STATUS_RECORD_RX (R285). -/
  | statusRecordRx (lanes : BitVec 2) (r : StatusRec) (e : Option ElectInfo)
  /-- ACK_RECORD_RX (R288). -/
  | ackRecordRx (l : LinkIn) (a : PairAck)
  /-- HANDOVER_NOTICE_RX (R297). -/
  | handoverNoticeRx (l : LinkIn)
  /-- LEAVE_NOTICE_RX (R310). -/
  | leaveNoticeRx (l : LinkIn)
  /-- HANDOVER_REQUEST_RX (R308). -/
  | handoverRequestRx (l : LinkIn)
  /-- HANDOVER_READY_RX (R308). -/
  | handoverReadyRx (l : LinkIn)
  /-- HANDOVER_AT_RX (R308). -/
  | handoverAtRx (l : LinkIn) (ticks : BitVec 48)
  /-- LAG_NOTICE_RX (R291). -/
  | lagNoticeRx (l : LinkIn)
  /-- RECLAIM_NOTICE_RX (R316). -/
  | reclaimNoticeRx (l : LinkIn)
  /-- RELAY_RECORD_RX (R340). -/
  | relayRecordRx (l : LinkIn) (r : Fin 2) (f : StnFrame)
  /-- FORWARD_RECORD_RX (R334). -/
  | forwardRecordRx (l : LinkIn) (r : Fin 2) (f : StnFrame) (t : Nat)
  /-- INPUT_RECORD_RX (R293). -/
  | inputRecordRx (l : LinkIn) (c : Fin 8) (wake : BitVec 48) (noexec last : Bool) (es : List GrainEntry)
  /-- COMMIT_RECORD_RX (R293). -/
  | commitRecordRx (l : LinkIn) (c : Fin 8) (wake : BitVec 48) (turn late last : Bool) (es : List GrainEntry)
  /-- COMMAND_RECORD_RX (R295). -/
  | commandRecordRx (l : LinkIn) (client tally op : BitVec 16) (b : MirBody) (params : List Nat) (t : Nat)
  /-- MIRROR_RECORD_RX (R313). -/
  | mirrorRecordRx (l : LinkIn) (es : List GrainEntry)
  /-- MIRROR_SWEEP_DONE (R313). -/
  | mirrorSweepDone (x : SweepEnd)
  /-- BOOK_RECORD_RX (R205). -/
  | bookRecordRx (l : LinkIn) (i : Fin 2) (load last : Bool) (b : Book)
  /-- QUERY_RECORD_RX (R634). -/
  | queryRecordRx (l : LinkIn) (q : Query) (offs : List Nat)
  /-- QUERY_REPLY_RX (R634). -/
  | queryReplyRx (l : LinkIn) (op : BitVec 16) (status detail : Nat) (bytes : List Byte)
  /-- QUERY_REPLY_TIMEOUT (R634). -/
  | queryReplyTimeout (op : BitVec 16)
  /-- STARTUP_TESTS_COMPLETE (R274). -/
  | startupTestsComplete
  /-- PARTNER_WAIT_EXPIRY (R274). -/
  | partnerWaitExpiry
  /-- CATCH_UP_DONE (R299). -/
  | catchUpDone (c : Fin 8)
  /-- FENCE_IN_VALID (R281). -/
  | fenceInValid
  /-- FENCE_IN_MISMATCH (R282). -/
  | fenceInMismatch (p : Bool)
  /-- FENCE_IN_CLEARED (R283). -/
  | fenceInCleared
  /-- STRICT_WAIT_EXPIRY (R290). -/
  | strictWaitExpiry (c : Fin 8)
  /-- HANDOVER_AT_ACK_TIMEOUT (R308). -/
  | handoverAtAckTimeout
  /-- HANDOVER_RETRY (R307). -/
  | handoverRetry
  /-- HANDOVER_INSTANT (R308). -/
  | handoverInstant
  /-- CROSSFADE_STEP (R576). -/
  | crossfadeStep (j : Fin 21)
  /-- CAN_NORMAL_AFTER_H (R309). -/
  | canNormalAfterH
  /-- EJECT_N_ASSERT (R310). -/
  | ejectNAssert
  /-- EJECT_N_DEASSERT (R631). -/
  | ejectNDeassert
  /-- YIELD_PRESS (R307). -/
  | yieldPress
  /-- RECLAIM_TIME_EXPIRY (R316). -/
  | reclaimTimeExpiry
  /-- EXERCISE_INTERVAL_EXPIRY (R319). -/
  | exerciseIntervalExpiry
  /-- STATION_SAMPLING_INSTANT (R332). -/
  | stationSamplingInstant (r : Fin 2) (start : Nat)
  /-- STATION_INPUT_FRAME_RX (R334). -/
  | stationInputFrameRx (r : Fin 2) (f : StnFrame) (t : Nat)
  /-- STATION_CUTOFF (R337). -/
  | stationCutoff (r : Fin 2) (start : Nat)
  /-- STATION_ACK_RX (R341). -/
  | stationAckRx (r : Fin 2) (f : StnFrame) (t : Nat)
  /-- STATION_JOIN_RX (R345). -/
  | stationJoinRx (r : Fin 2) (f : StnFrame) (t : Nat)
  /-- CONFIG_REPEAT (R345). -/
  | configRepeat (st : Fin 256)
  /-- SAFE_FRAME_REPEAT (R351). -/
  | safeFrameRepeat
  /-- SAFE_SET_REBUILD (R350). -/
  | safeSetRebuild
  /-- SFP_INSERT (R619). -/
  | sfpInsert (p : Fin 4) (x : Sfp)
  /-- HELLO_SEND (R366). -/
  | helloSend (p : Fin 2)
  /-- HELLO_RX (R367). -/
  | helloRx (p : Fin 2) (h : Hello)
  /-- ADJ_HELLO_TIMEOUT (R367). -/
  | adjHelloTimeout (p : Fin 2)
  /-- FABRIC_PORT_LINK_UP (R367). -/
  | fabricPortLinkUp (p : Fin 2) (rate10 : Bool)
  /-- FABRIC_PORT_LINK_DOWN (R367). -/
  | fabricPortLinkDown (p : Fin 2)
  /-- MKA_SECURED (R367). -/
  | mkaSecured (p : Fin 2) (cak : Fin 2)
  /-- MACSEC_TIMEOUT (R390). -/
  | macsecTimeout (p : Fin 2)
  /-- SAK_REKEY (R390). -/
  | sakRekey (p : Fin 2)
  /-- LSR_RX (R370). -/
  | lsrRx (p : Fin 2) (src : BitVec 16) (hops : Nat) (l : Lsr)
  /-- LSR_ORIGINATE (R369). -/
  | lsrOriginate
  /-- LSR_AGE_EXPIRY (R370). -/
  | lsrAgeExpiry (src : BitVec 16)
  /-- ROUTE_RECOMPUTE (R375). -/
  | routeRecompute
  /-- SOUNDING_FRAME_RX (R382). -/
  | soundingFrameRx (p : Fin 2) (f : SoundSeg) (late : Bool) (t : Nat)
  /-- SOUNDING_AGE_CHECK (R384). -/
  | soundingAgeCheck (c : Fin 8) (start : Nat)
  /-- ANNOUNCE_RX (R385). -/
  | announceRx (p : Fin 2) (src : BitVec 16) (watch : BitVec 32) (hops : Nat)
  /-- PTP_SYNC_RX (R406). -/
  | ptpSyncRx (p : Fin 4) (domB : Bool) (off : Int)
  /-- PTP_ANNOUNCE_TIMEOUT (R406). -/
  | ptpAnnounceTimeout (p : Fin 4) (domB : Bool)
  /-- PTP_EGRESS_STAMP (R408). -/
  | ptpEgressStamp (p : Fin 4) (dom : Fin 3) (typ : BitVec 4) (seq : BitVec 16) (t : Nat)
  /-- TB2_FOLLOW_UPDATE (R400). -/
  | tb2FollowUpdate
  /-- PAIR_TIME_SYNC (R414). -/
  | pairTimeSync (tb0 tb1 tb2 : Nat) (inc3 : Nat)
  /-- TIME_MASTER_HOLDOVER_EXPIRY (R412). -/
  | timeMasterHoldoverExpiry (partnerLocked : Bool)
  /-- TPO_LEADING_EDGE (R415). -/
  | tpoLeadingEdge (k : Fin 4)
  /-- TPO_TRAILING_EDGE (R415). -/
  | tpoTrailingEdge (k : Fin 4)
  /-- TPI_EDGE (R418). -/
  | tpiEdge (i : Fin 2) (rising : Bool)
  /-- BINNACLE_WDOG_EXPIRY (R525). -/
  | binnacleWdogExpiry
  /-- BINNACLE_WDOG_RESET (R593). -/
  | binnacleWdogReset
  /-- SENSOR_SAMPLE (R527). -/
  | sensorSample (m : SensorSet)
  /-- EVENT_LOG_WRITE (R534). -/
  | eventLogWrite
  /-- FIRMWARE_BOOT (R608). -/
  | firmwareBoot (x : BootFind)
  /-- FIRMWARE_TRIAL_TIMEOUT (R538). -/
  | firmwareTrialTimeout
  /-- CHECKPOINT_BEGIN (R547). -/
  | checkpointBegin (t : Nat)
  /-- CHECKPOINT_READ_DONE (R547). -/
  | checkpointReadDone
  /-- LOG_STAGING_DRAIN (R548). -/
  | logStagingDrain (n : Nat)
  /-- FIELD_LINK_FRAME_RX (R558). -/
  | fieldLinkFrameRx (ok : Bool) (storeMv : BitVec 16) (t : Nat)
  /-- FIELD_LINK_LOSS (R559). -/
  | fieldLinkLoss
  /-- ISLAND_HOLD_EXPIRY (R601). -/
  | islandHoldExpiry (tpo : Option (Fin 4))
  /-- OPEN_LINE_ASSERT (R560). -/
  | openLineAssert
  /-- FLD_FIRST_SWITCH_COMMAND (R601). -/
  | fldFirstSwitchCommand
  /-- AI_CONVERSION_END (R565). -/
  | aiConversionEnd (t : Nat) (ai : List (BitVec 28 × Bool)) (ao : List (BitVec 28 × Bool))
  /-- AI_VALUE_WRITE (R566). -/
  | aiValueWrite (c : Fin 8) (start : Nat)
  /-- AO_APPLY (R570). -/
  | aoApply (k : Fin 4)
  /-- AO_READBACK_JUDGE (R573). -/
  | aoReadbackJudge (k : Fin 4)
  /-- FIELD_STORE_READY (R578). -/
  | fieldStoreReady
  /-- FIELD_TRIM_TIMEOUT (R572). -/
  | fieldTrimTimeout
  /-- CAN_RATE_PROBE (R582). -/
  | canRateProbe (n : Fin 2)
  /-- CAN_PERIODIC_TX (R583). -/
  | canPeriodicTx (n : Fin 2) (k : Fin 256) (t : Nat) (sent : Bool) (conf : Option CanConf)
  /-- CAN_FRAME_RX (R584). -/
  | canFrameRx (n : Fin 2) (f : Option CanRx) (conf : Option CanConf)
  /-- CAN_FIFO_MOVE (R584). -/
  | canFifoMove (n f : Fin 2)
  /-- CAN_WATCH_SEND (R585). -/
  | canWatchSend (n : Fin 2) (conf : Option CanConf)
  /-- CAN_WATCH_RX (R585). -/
  | canWatchRx (n : Fin 2) (pair : BitVec 16) (watch : BitVec 32) (slot state : BitVec 8)
  /-- CAN_BUS_OFF_RECOVERY (R587). -/
  | canBusOffRecovery (n : Fin 2)
  /-- POWER_ON_RESET_ASSERT (R593). -/
  | powerOnResetAssert
  /-- PRESENT_N_DEASSERT (R611). -/
  | presentNDeassert
  /-- CARRIER_RESET_ASSERT (R593). -/
  | carrierResetAssert
  /-- RESET_SOURCE_RELEASE (R593). -/
  | resetSourceRelease (src : Fin 7)
  /-- ISLAND_RELEASE (R596). -/
  | islandRelease (i : Fin 22)
  /-- STRAP_DECODE_DONE (R603). -/
  | strapDecodeDone (v ref : Nat)
  /-- TAP_BYPASS (R474). -/
  | tapBypass (tdi : W64)
  /-- TAP_IDCODE (R474). -/
  | tapIdcode
  /-- TAP_SAMPLE_PRELOAD (R474). -/
  | tapSamplePreload (pins cells : List Bool)
  /-- TAP_EXTEST (R474). -/
  | tapExtest
  /-- LANE_RESET (R598). -/
  | laneReset
  /-- TAP_MEMORY_READ (R483). -/
  | tapMemoryRead (addr : BitVec 48) (colour : BitVec 4)
  /-- TAP_MEMORY_WRITE (R483). -/
  | tapMemoryWrite (addr : BitVec 48) (colour : BitVec 4) (data : W64)
  /-- WATCH_ANNOUNCE_REPEAT (R298). -/
  | watchAnnounceRepeat
  /-- PAIR_RECORD_BAD_CHECK (R285). -/
  | pairRecordBadCheck (seq : BitVec 16)
  /-- PAIR_RECORD_RESEND_REQUEST (R285). -/
  | pairRecordResendRequest (seq : BitVec 16)
  /-- PCIE_LINK_DOWN (R522). -/
  | pcieLinkDown
  /-- PCIE_LINK_UP (R511). -/
  | pcieLinkUp (speed width : Fin 3)
  /-- MSIX_TABLE_WRITE (R508). -/
  | msixTableWrite (w : MsixWrite)
  /-- PTP_MESSAGE_RX (R404). -/
  | ptpMessageRx (p : Fin 4) (msg : PtpMsg)
  /-- PTP_MASTER_SEND_INTERVAL (R405). -/
  | ptpMasterSendInterval (p : Fin 4) (dom : Fin 3) (announce : Bool)
  /-- ALWAYS_ON_CLOCK_RETURN (R443). -/
  | alwaysOnClockReturn
  /-- FAULT_CONDITION_CLEARED (R426). -/
  | faultConditionCleared (src : Fin 69)
  /-- FABRIC_TRANSIT_FRAME_RX (R364). -/
  | fabricTransitFrameRx (p : Fin 2) (f : FabFrame) (full : Bool)
  /-- CAN_BUS_IDLE (R588). -/
  | canBusIdle (n : Fin 2)
  /-- BOOK_PARTNER_RESULT_RX (R205). -/
  | bookPartnerResultRx (l : LinkIn) (i : Fin 2) (code : BitVec 8)
  deriving DecidableEq, Repr

end Sys2Proof
end

