-- ==== Sys2Proof/Decode.lean ====
section
/-! DEFINITION. Decoding: by the bits of spec/opcode_table.json, and a lane instruction from its 32-bit word, with the word that
spells it (R144 to R154). -/

namespace Sys2Proof

open Sys2Proof.Machine

/-- The command that a word spells by the table's bits. No row of spec/opcode_table.json gives its command bits, so no word
spells one. -/
def decodeTableWord (_nbits _w : Nat) : Option Instr := none

/-- The lane and the word that spells a lane instruction (R144 to R154). -/
def Instr.laneWord : Instr → Option (Fin 8 × BitVec 32)
  | .nop l neg pr => some (l, wordR 0x00 neg pr 0 0 0)
  | .endScan l neg pr => some (l, wordR 0x01 neg pr 0 0 0)
  | .mov l neg pr d a => some (l, wordR 0x02 neg pr d a 0)
  | .ldi l neg pr d imm => some (l, wordI 0x03 neg pr d imm)
  | .ldk l neg pr d imm => some (l, wordI 0x04 neg pr d imm)
  | .get l neg pr d imm => some (l, wordI 0x05 neg pr d imm)
  | .iadd l neg pr d a b => some (l, wordR 0x10 neg pr d a b)
  | .isub l neg pr d a b => some (l, wordR 0x11 neg pr d a b)
  | .imul l neg pr d a b => some (l, wordR 0x12 neg pr d a b)
  | .idiv l neg pr d a b => some (l, wordR 0x13 neg pr d a b)
  | .irem l neg pr d a b => some (l, wordR 0x14 neg pr d a b)
  | .ineg l neg pr d a => some (l, wordR 0x15 neg pr d a 0)
  | .iabs l neg pr d a => some (l, wordR 0x16 neg pr d a 0)
  | .imin l neg pr d a b => some (l, wordR 0x17 neg pr d a b)
  | .imax l neg pr d a b => some (l, wordR 0x18 neg pr d a b)
  | .isat32 l neg pr d a => some (l, wordR 0x19 neg pr d a 0)
  | .iaddw l neg pr d a b => some (l, wordR 0x1A neg pr d a b)
  | .isubw l neg pr d a b => some (l, wordR 0x1B neg pr d a b)
  | .imulw l neg pr d a b => some (l, wordR 0x1C neg pr d a b)
  | .andB l neg pr d a b => some (l, wordR 0x20 neg pr d a b)
  | .orB l neg pr d a b => some (l, wordR 0x21 neg pr d a b)
  | .xorB l neg pr d a b => some (l, wordR 0x22 neg pr d a b)
  | .notB l neg pr d a => some (l, wordR 0x23 neg pr d a 0)
  | .shl l neg pr d a b => some (l, wordR 0x24 neg pr d a b)
  | .shr l neg pr d a b => some (l, wordR 0x25 neg pr d a b)
  | .sar l neg pr d a b => some (l, wordR 0x26 neg pr d a b)
  | .rol l neg pr d a b => some (l, wordR 0x27 neg pr d a b)
  | .popc l neg pr d a => some (l, wordR 0x28 neg pr d a 0)
  | .bnot l neg pr d a => some (l, wordR 0x29 neg pr d a 0)
  | .boolOf l neg pr d a => some (l, wordR 0x2A neg pr d a 0)
  | .qof l neg pr d a => some (l, wordR 0x2B neg pr d a 0)
  | .ieq l neg pr t a b => some (l, wordC 0x30 neg pr t a b)
  | .ilt l neg pr t a b => some (l, wordC 0x31 neg pr t a b)
  | .ile l neg pr t a b => some (l, wordC 0x32 neg pr t a b)
  | .ult l neg pr t a b => some (l, wordC 0x33 neg pr t a b)
  | .feq l neg pr t a b => some (l, wordC 0x34 neg pr t a b)
  | .flt l neg pr t a b => some (l, wordC 0x35 neg pr t a b)
  | .fle l neg pr t a b => some (l, wordC 0x36 neg pr t a b)
  | .fun l neg pr t a b => some (l, wordC 0x37 neg pr t a b)
  | .tst l neg pr t a => some (l, wordC 0x38 neg pr t a 0)
  | .pand l neg pr t a b => some (l, wordC 0x39 neg pr t (a.setWidth 6) (b.setWidth 6))
  | .por l neg pr t a b => some (l, wordC 0x3A neg pr t (a.setWidth 6) (b.setWidth 6))
  | .pnot l neg pr t a => some (l, wordC 0x3B neg pr t (a.setWidth 6) 0)
  | .pmov l neg pr d a => some (l, wordR 0x3C neg pr d (a.setWidth 6) 0)
  | .fadd l neg pr d a b => some (l, wordR 0x40 neg pr d a b)
  | .fsub l neg pr d a b => some (l, wordR 0x41 neg pr d a b)
  | .fmul l neg pr d a b => some (l, wordR 0x42 neg pr d a b)
  | .fdiv l neg pr d a b => some (l, wordR 0x43 neg pr d a b)
  | .fsqrt l neg pr d a => some (l, wordR 0x44 neg pr d a 0)
  | .fma l neg pr d a b => some (l, wordR 0x45 neg pr d a b)
  | .fmin l neg pr d a b => some (l, wordR 0x46 neg pr d a b)
  | .fmax l neg pr d a b => some (l, wordR 0x47 neg pr d a b)
  | .fabs l neg pr d a => some (l, wordR 0x48 neg pr d a 0)
  | .fneg l neg pr d a => some (l, wordR 0x49 neg pr d a 0)
  | .fclamp l neg pr d a b => some (l, wordR 0x4A neg pr d a b)
  | .frint l neg pr d a => some (l, wordR 0x4B neg pr d a 0)
  | .ftrunc l neg pr d a => some (l, wordR 0x4C neg pr d a 0)
  | .ffloor l neg pr d a => some (l, wordR 0x4D neg pr d a 0)
  | .fceil l neg pr d a => some (l, wordR 0x4E neg pr d a 0)
  | .itof l neg pr d a => some (l, wordR 0x50 neg pr d a 0)
  | .ftoi l neg pr d a => some (l, wordR 0x51 neg pr d a 0)
  | .ftoin l neg pr d a => some (l, wordR 0x52 neg pr d a 0)
  | .fexp l neg pr d a => some (l, wordR 0x53 neg pr d a 0)
  | .fln l neg pr d a => some (l, wordR 0x54 neg pr d a 0)
  | .fsin l neg pr d a => some (l, wordR 0x55 neg pr d a 0)
  | .fcos l neg pr d a => some (l, wordR 0x56 neg pr d a 0)
  | .fatan2 l neg pr d a b => some (l, wordR 0x57 neg pr d a b)
  | .ldf l neg pr d w => some (l, wordM 0x60 neg pr d w)
  | .stf l neg pr d w => some (l, wordM 0x61 neg pr d w)
  | .ldfx l neg pr d a b => some (l, wordR 0x62 neg pr d a b)
  | .stfx l neg pr d a b => some (l, wordR 0x63 neg pr d a b)
  | .ldsv l neg pr d conn => some (l, wordS 0x70 neg pr d 0 conn)
  | .ldsm l neg pr d conn => some (l, wordS 0x71 neg pr d 0 conn)
  | .sts l neg pr d a conn => some (l, wordS 0x72 neg pr d a conn)
  | .stsr l neg pr d a conn => some (l, wordS 0x73 neg pr d a conn)
  | .tstc l neg pr t conn => some (l, wordS 0x74 neg pr (t.setWidth 6) 0 conn)
  | .unassignedOpcode l op rest => some (l, BitVec.ofNat 32 (op.toNat * 2 ^ 24 + rest.toNat))
  | _ => none

/-- A field of a word. -/
def wordField (w : BitVec 32) (lo len : Nat) : BitVec len := BitVec.ofNat len (wordBits w lo len)

/-- The NOT bit of PRED (R127, R144). -/
def wordNot (w : BitVec 32) : Bool := wordBits w 23 1 == 1

/-- The instruction that a word spells on a lane; an opcode that R147 to R154 leave unassigned spells UNASSIGNED_OPCODE (R141). -/
def decodeLaneWord (l : Fin 8) (w : BitVec 32) : Instr :=
  match wordBits w 24 8 with
  | 0x00 => .nop l (wordNot w) (wordField w 20 3)
  | 0x01 => .endScan l (wordNot w) (wordField w 20 3)
  | 0x02 => .mov l (wordNot w) (wordField w 20 3) (wordField w 14 6) (wordField w 8 6)
  | 0x03 => .ldi l (wordNot w) (wordField w 20 3) (wordField w 14 6) (wordField w 0 14)
  | 0x04 => .ldk l (wordNot w) (wordField w 20 3) (wordField w 14 6) (wordField w 0 14)
  | 0x05 => .get l (wordNot w) (wordField w 20 3) (wordField w 14 6) (wordField w 0 14)
  | 0x10 => .iadd l (wordNot w) (wordField w 20 3) (wordField w 14 6) (wordField w 8 6) (wordField w 2 6)
  | 0x11 => .isub l (wordNot w) (wordField w 20 3) (wordField w 14 6) (wordField w 8 6) (wordField w 2 6)
  | 0x12 => .imul l (wordNot w) (wordField w 20 3) (wordField w 14 6) (wordField w 8 6) (wordField w 2 6)
  | 0x13 => .idiv l (wordNot w) (wordField w 20 3) (wordField w 14 6) (wordField w 8 6) (wordField w 2 6)
  | 0x14 => .irem l (wordNot w) (wordField w 20 3) (wordField w 14 6) (wordField w 8 6) (wordField w 2 6)
  | 0x15 => .ineg l (wordNot w) (wordField w 20 3) (wordField w 14 6) (wordField w 8 6)
  | 0x16 => .iabs l (wordNot w) (wordField w 20 3) (wordField w 14 6) (wordField w 8 6)
  | 0x17 => .imin l (wordNot w) (wordField w 20 3) (wordField w 14 6) (wordField w 8 6) (wordField w 2 6)
  | 0x18 => .imax l (wordNot w) (wordField w 20 3) (wordField w 14 6) (wordField w 8 6) (wordField w 2 6)
  | 0x19 => .isat32 l (wordNot w) (wordField w 20 3) (wordField w 14 6) (wordField w 8 6)
  | 0x1A => .iaddw l (wordNot w) (wordField w 20 3) (wordField w 14 6) (wordField w 8 6) (wordField w 2 6)
  | 0x1B => .isubw l (wordNot w) (wordField w 20 3) (wordField w 14 6) (wordField w 8 6) (wordField w 2 6)
  | 0x1C => .imulw l (wordNot w) (wordField w 20 3) (wordField w 14 6) (wordField w 8 6) (wordField w 2 6)
  | 0x20 => .andB l (wordNot w) (wordField w 20 3) (wordField w 14 6) (wordField w 8 6) (wordField w 2 6)
  | 0x21 => .orB l (wordNot w) (wordField w 20 3) (wordField w 14 6) (wordField w 8 6) (wordField w 2 6)
  | 0x22 => .xorB l (wordNot w) (wordField w 20 3) (wordField w 14 6) (wordField w 8 6) (wordField w 2 6)
  | 0x23 => .notB l (wordNot w) (wordField w 20 3) (wordField w 14 6) (wordField w 8 6)
  | 0x24 => .shl l (wordNot w) (wordField w 20 3) (wordField w 14 6) (wordField w 8 6) (wordField w 2 6)
  | 0x25 => .shr l (wordNot w) (wordField w 20 3) (wordField w 14 6) (wordField w 8 6) (wordField w 2 6)
  | 0x26 => .sar l (wordNot w) (wordField w 20 3) (wordField w 14 6) (wordField w 8 6) (wordField w 2 6)
  | 0x27 => .rol l (wordNot w) (wordField w 20 3) (wordField w 14 6) (wordField w 8 6) (wordField w 2 6)
  | 0x28 => .popc l (wordNot w) (wordField w 20 3) (wordField w 14 6) (wordField w 8 6)
  | 0x29 => .bnot l (wordNot w) (wordField w 20 3) (wordField w 14 6) (wordField w 8 6)
  | 0x2A => .boolOf l (wordNot w) (wordField w 20 3) (wordField w 14 6) (wordField w 8 6)
  | 0x2B => .qof l (wordNot w) (wordField w 20 3) (wordField w 14 6) (wordField w 8 6)
  | 0x30 => .ieq l (wordNot w) (wordField w 20 3) (wordField w 14 3) (wordField w 8 6) (wordField w 2 6)
  | 0x31 => .ilt l (wordNot w) (wordField w 20 3) (wordField w 14 3) (wordField w 8 6) (wordField w 2 6)
  | 0x32 => .ile l (wordNot w) (wordField w 20 3) (wordField w 14 3) (wordField w 8 6) (wordField w 2 6)
  | 0x33 => .ult l (wordNot w) (wordField w 20 3) (wordField w 14 3) (wordField w 8 6) (wordField w 2 6)
  | 0x34 => .feq l (wordNot w) (wordField w 20 3) (wordField w 14 3) (wordField w 8 6) (wordField w 2 6)
  | 0x35 => .flt l (wordNot w) (wordField w 20 3) (wordField w 14 3) (wordField w 8 6) (wordField w 2 6)
  | 0x36 => .fle l (wordNot w) (wordField w 20 3) (wordField w 14 3) (wordField w 8 6) (wordField w 2 6)
  | 0x37 => .fun l (wordNot w) (wordField w 20 3) (wordField w 14 3) (wordField w 8 6) (wordField w 2 6)
  | 0x38 => .tst l (wordNot w) (wordField w 20 3) (wordField w 14 3) (wordField w 8 6)
  | 0x39 => .pand l (wordNot w) (wordField w 20 3) (wordField w 14 3) (wordField w 8 3) (wordField w 2 3)
  | 0x3A => .por l (wordNot w) (wordField w 20 3) (wordField w 14 3) (wordField w 8 3) (wordField w 2 3)
  | 0x3B => .pnot l (wordNot w) (wordField w 20 3) (wordField w 14 3) (wordField w 8 3)
  | 0x3C => .pmov l (wordNot w) (wordField w 20 3) (wordField w 14 6) (wordField w 8 3)
  | 0x40 => .fadd l (wordNot w) (wordField w 20 3) (wordField w 14 6) (wordField w 8 6) (wordField w 2 6)
  | 0x41 => .fsub l (wordNot w) (wordField w 20 3) (wordField w 14 6) (wordField w 8 6) (wordField w 2 6)
  | 0x42 => .fmul l (wordNot w) (wordField w 20 3) (wordField w 14 6) (wordField w 8 6) (wordField w 2 6)
  | 0x43 => .fdiv l (wordNot w) (wordField w 20 3) (wordField w 14 6) (wordField w 8 6) (wordField w 2 6)
  | 0x44 => .fsqrt l (wordNot w) (wordField w 20 3) (wordField w 14 6) (wordField w 8 6)
  | 0x45 => .fma l (wordNot w) (wordField w 20 3) (wordField w 14 6) (wordField w 8 6) (wordField w 2 6)
  | 0x46 => .fmin l (wordNot w) (wordField w 20 3) (wordField w 14 6) (wordField w 8 6) (wordField w 2 6)
  | 0x47 => .fmax l (wordNot w) (wordField w 20 3) (wordField w 14 6) (wordField w 8 6) (wordField w 2 6)
  | 0x48 => .fabs l (wordNot w) (wordField w 20 3) (wordField w 14 6) (wordField w 8 6)
  | 0x49 => .fneg l (wordNot w) (wordField w 20 3) (wordField w 14 6) (wordField w 8 6)
  | 0x4A => .fclamp l (wordNot w) (wordField w 20 3) (wordField w 14 6) (wordField w 8 6) (wordField w 2 6)
  | 0x4B => .frint l (wordNot w) (wordField w 20 3) (wordField w 14 6) (wordField w 8 6)
  | 0x4C => .ftrunc l (wordNot w) (wordField w 20 3) (wordField w 14 6) (wordField w 8 6)
  | 0x4D => .ffloor l (wordNot w) (wordField w 20 3) (wordField w 14 6) (wordField w 8 6)
  | 0x4E => .fceil l (wordNot w) (wordField w 20 3) (wordField w 14 6) (wordField w 8 6)
  | 0x50 => .itof l (wordNot w) (wordField w 20 3) (wordField w 14 6) (wordField w 8 6)
  | 0x51 => .ftoi l (wordNot w) (wordField w 20 3) (wordField w 14 6) (wordField w 8 6)
  | 0x52 => .ftoin l (wordNot w) (wordField w 20 3) (wordField w 14 6) (wordField w 8 6)
  | 0x53 => .fexp l (wordNot w) (wordField w 20 3) (wordField w 14 6) (wordField w 8 6)
  | 0x54 => .fln l (wordNot w) (wordField w 20 3) (wordField w 14 6) (wordField w 8 6)
  | 0x55 => .fsin l (wordNot w) (wordField w 20 3) (wordField w 14 6) (wordField w 8 6)
  | 0x56 => .fcos l (wordNot w) (wordField w 20 3) (wordField w 14 6) (wordField w 8 6)
  | 0x57 => .fatan2 l (wordNot w) (wordField w 20 3) (wordField w 14 6) (wordField w 8 6) (wordField w 2 6)
  | 0x60 => .ldf l (wordNot w) (wordField w 20 3) (wordField w 14 6) (wordField w 0 12)
  | 0x61 => .stf l (wordNot w) (wordField w 20 3) (wordField w 14 6) (wordField w 0 12)
  | 0x62 => .ldfx l (wordNot w) (wordField w 20 3) (wordField w 14 6) (wordField w 8 6) (wordField w 2 6)
  | 0x63 => .stfx l (wordNot w) (wordField w 20 3) (wordField w 14 6) (wordField w 8 6) (wordField w 2 6)
  | 0x70 => .ldsv l (wordNot w) (wordField w 20 3) (wordField w 14 6) (wordField w 0 8)
  | 0x71 => .ldsm l (wordNot w) (wordField w 20 3) (wordField w 14 6) (wordField w 0 8)
  | 0x72 => .sts l (wordNot w) (wordField w 20 3) (wordField w 14 6) (wordField w 8 6) (wordField w 0 8)
  | 0x73 => .stsr l (wordNot w) (wordField w 20 3) (wordField w 14 6) (wordField w 8 6) (wordField w 0 8)
  | 0x74 => .tstc l (wordNot w) (wordField w 20 3) (wordField w 14 3) (wordField w 0 8)
  | _ => .unassignedOpcode l (wordField w 24 8) (wordField w 0 24)

end Sys2Proof
end

