-- ==== Sys2Proof/Config.lean ====
section
/-! DEFINITION. What the manual leaves open: values no rule gives, as constants without a body. Each is applied to the
model's own counter `State.free`, so that every use is a fresh value of which nothing is known. -/

namespace Sys2Proof.Config

/-- A 64-bit value that no rule of the manual states (DESIGN CHOICE, assumption 5). -/
opaque freeWord : Nat → W64

/-- A 32-bit value that no rule of the manual states (DESIGN CHOICE, assumption 5). -/
opaque freeWord32 : Nat → BitVec 32

/-- A byte that no rule of the manual states (DESIGN CHOICE, assumption 5). -/
opaque freeByte : Nat → Byte

/-- The IDCODE of the TAP (R474), which no rule states (DESIGN CHOICE, assumption 5). -/
opaque idcode : BitVec 32

/-- The nominal voltage of each supply rail in mV (R530), which no rule states (DESIGN CHOICE, assumption 5). -/
opaque railNominal : Nat → BitVec 16

end Sys2Proof.Config
end

