-- ==== Sys2Proof/Machine/Maps.lean ====
section
/-! DEFINITION. Reading and writing a sparse table, and its canonical form: keys strictly rising, no entry equal to what
an unlisted key reads as. Memory, registers and every indexed table of the module are held this way. -/

namespace Sys2Proof.Machine

/-- The entry at `k`, `d` where none is listed. -/
def mget {α : Type} (d : α) : NMap α → Nat → α
  | [], _ => d
  | (a, v) :: m, k => if a = k then v else mget d m k

/-- The table without an entry at `k`. -/
def mdel {α : Type} : NMap α → Nat → NMap α
  | [], _ => []
  | (a, v) :: m, k => if a = k then mdel m k else (a, v) :: mdel m k

/-- The table with `v` at `k` before the first greater key. -/
def mins {α : Type} : NMap α → Nat → α → NMap α
  | [], k, v => [(k, v)]
  | (a, w) :: m, k, v => if k < a then (k, v) :: (a, w) :: m else (a, w) :: mins m k v

/-- The table with `v` at `k`, kept canonical for the default `d`. What it reads as afterwards holds of every list, canonical or not. -/
def mput {α : Type} [DecidableEq α] (d : α) (m : NMap α) (k : Nat) (v : α) : NMap α :=
  if v = d then mdel m k else mins (mdel m k) k v

/-- Every key of the table is above `b`, and the keys rise. -/
def mrising {α : Type} : Nat → NMap α → Bool
  | _, [] => true
  | b, (a, _) :: m => decide (b < a) && mrising a m

/-- The canonical form of a table whose unlisted key `k` reads as `d k`. -/
def mwfBy {α : Type} [DecidableEq α] (d : Nat → α) (m : NMap α) : Bool :=
  (match m with
    | [] => true
    | (a, _) :: m => mrising a m) &&
  m.all fun e => decide (e.2 ≠ d e.1)

/-- The canonical form of a table with default `d`. -/
def mwf {α : Type} [DecidableEq α] (d : α) (m : NMap α) : Bool := mwfBy (fun _ => d) m

/-- The entry at `k` changed by `f`. -/
def mmod {α : Type} [DecidableEq α] (d : α) (m : NMap α) (k : Nat) (f : α → α) : NMap α :=
  mput d m k (f (mget d m k))

/-- The smallest key listed, if any. -/
def mfirst {α : Type} (m : NMap α) : Option Nat := m.head?.map (·.1)

end Sys2Proof.Machine
end

