-- ==== Sys2Proof/Machine/Regs.lean ====
section
/-! DEFINITION. The register tables of the manual: one `Fld` for every field of every register, named after it, and the
table of access types and reset columns (R14, R16, R20, R21). An address here is the offset inside the slot region of R33:
slot number times 1_0000h plus the register's offset. -/

namespace Sys2Proof.Machine

/-- Access type of a register field (R16): `bin` is an RO field its chapter says the Binnacle loads or sets,
`rsv` a reserved field (R20). -/
inductive Acc where
  | ro | bin | rw | w1c | wo | rwl | rsv
  deriving DecidableEq, Repr

/-- A row of a register table: low bit, width, access type, Cold value, Warm value (`none`: kept, or set by the rule the
table names). -/
structure FieldRow where
  lo : Nat
  len : Nat
  acc : Acc
  cold : Nat
  warm : Option Nat
  deriving DecidableEq, Repr

/-- A register table: first slot, number of slots, offset, index strides with their counts, rows. -/
structure RegRow where
  slot : Nat
  slots : Nat
  off : Nat
  dims : List (Nat × Nat)
  fields : List FieldRow
  deriving DecidableEq, Repr

namespace R

/-- DIR_PAGE (R83), the whole word. -/
def dirPage : Fld := ⟨0x320000, 0, 64⟩
def dirPagePageIn : Fld := ⟨0x320000, 0, 8⟩
def dirPagePageOut : Fld := ⟨0x320000, 8, 8⟩
/-- DIR_OWNFLT (R83), the whole word. -/
def dirOwnflt : Fld := ⟨0x320008, 0, 64⟩
def dirOwnfltSignal : Fld := ⟨0x320008, 0, 18⟩
def dirOwnfltMaster : Fld := ⟨0x320008, 18, 4⟩
def dirOwnfltClass : Fld := ⟨0x320008, 22, 3⟩
def dirOwnfltCount : Fld := ⟨0x320008, 32, 16⟩
def dirOwnfltValid : Fld := ⟨0x320008, 63, 1⟩
/-- BOOK_MODE (R121), the whole word. -/
def bookMode : Fld := ⟨0x300100, 0, 64⟩
def bookModeMode : Fld := ⟨0x300100, 0, 2⟩
def bookModeHeld : Fld := ⟨0x300100, 8, 8⟩
def bookModePending : Fld := ⟨0x300100, 16, 1⟩
def bookModeRestart : Fld := ⟨0x300100, 17, 2⟩
def bookModeHoldLimit : Fld := ⟨0x300100, 32, 9⟩
/-- BOOK_TCn_CFG (R121), the whole word. -/
def bookTcCfg (n : Nat) : Fld := ⟨0x301000 + n * 0x100, 0, 64⟩
def bookTcCfgPeriod (n : Nat) : Fld := ⟨0x301000 + n * 0x100, 0, 15⟩
def bookTcCfgOffset (n : Nat) : Fld := ⟨0x301000 + n * 0x100, 16, 15⟩
def bookTcCfgMargin (n : Nat) : Fld := ⟨0x301000 + n * 0x100, 32, 16⟩
def bookTcCfgLanes (n : Nat) : Fld := ⟨0x301000 + n * 0x100, 48, 8⟩
def bookTcCfgSkipLimit (n : Nat) : Fld := ⟨0x301000 + n * 0x100, 56, 8⟩
/-- BOOK_TCn_LAST (R121), the whole word. -/
def bookTcLast (n : Nat) : Fld := ⟨0x301008 + n * 0x100, 0, 64⟩
def bookTcLastRunTime (n : Nat) : Fld := ⟨0x301008 + n * 0x100, 0, 32⟩
def bookTcLastPublished (n : Nat) : Fld := ⟨0x301008 + n * 0x100, 32, 1⟩
def bookTcLastOverrun (n : Nat) : Fld := ⟨0x301008 + n * 0x100, 33, 1⟩
def bookTcLastSkip (n : Nat) : Fld := ⟨0x301008 + n * 0x100, 34, 1⟩
def bookTcLastHeld (n : Nat) : Fld := ⟨0x301008 + n * 0x100, 35, 1⟩
def bookTcLastStopped (n : Nat) : Fld := ⟨0x301008 + n * 0x100, 36, 1⟩
/-- BOOK_TCn_WAKE (R121), the whole word. -/
def bookTcWake (n : Nat) : Fld := ⟨0x301010 + n * 0x100, 0, 64⟩
def bookTcWakeWake (n : Nat) : Fld := ⟨0x301010 + n * 0x100, 0, 48⟩
/-- BOOK_TCn_MAX (R121), the whole word. -/
def bookTcMax (n : Nat) : Fld := ⟨0x301018 + n * 0x100, 0, 64⟩
def bookTcMaxMaxRun (n : Nat) : Fld := ⟨0x301018 + n * 0x100, 0, 32⟩
def bookTcMaxMinSlack (n : Nat) : Fld := ⟨0x301018 + n * 0x100, 32, 32⟩
/-- BOOK_TCn_COUNT (R121), the whole word. -/
def bookTcCount (n : Nat) : Fld := ⟨0x301020 + n * 0x100, 0, 64⟩
def bookTcCountOverruns (n : Nat) : Fld := ⟨0x301020 + n * 0x100, 0, 24⟩
def bookTcCountSkips (n : Nat) : Fld := ⟨0x301020 + n * 0x100, 24, 24⟩
def bookTcCountClear (n : Nat) : Fld := ⟨0x301020 + n * 0x100, 63, 1⟩
/-- LANEn_BANK (R172), the whole word. -/
def laneBank (l : Nat) : Fld := ⟨0x200000 + l * 0x10000 + 0x0, 0, 64⟩
def laneBankBank (l : Nat) : Fld := ⟨0x200000 + l * 0x10000 + 0x0, 0, 8⟩
/-- LANEn_STATE (R172), the whole word. -/
def laneState (l : Nat) : Fld := ⟨0x200000 + l * 0x10000 + 0x8, 0, 64⟩
def laneStateClass (l : Nat) : Fld := ⟨0x200000 + l * 0x10000 + 0x8, 0, 3⟩
def laneStateBusy (l : Nat) : Fld := ⟨0x200000 + l * 0x10000 + 0x8, 3, 1⟩
def laneStateSuspended (l : Nat) : Fld := ⟨0x200000 + l * 0x10000 + 0x8, 4, 8⟩
def laneStatePos (l : Nat) : Fld := ⟨0x200000 + l * 0x10000 + 0x8, 12, 18⟩
/-- LANEn_BLOCKS (R172), the whole word. -/
def laneBlocks (l : Nat) : Fld := ⟨0x200000 + l * 0x10000 + 0x10, 0, 64⟩
def laneBlocksExecuted (l : Nat) : Fld := ⟨0x200000 + l * 0x10000 + 0x10, 0, 32⟩
def laneBlocksSkipped (l : Nat) : Fld := ⟨0x200000 + l * 0x10000 + 0x10, 32, 32⟩
/-- LANEn_OOF (R172), the whole word. -/
def laneOof (l : Nat) : Fld := ⟨0x200000 + l * 0x10000 + 0x18, 0, 64⟩
def laneOofInstance (l : Nat) : Fld := ⟨0x200000 + l * 0x10000 + 0x18, 0, 32⟩
def laneOofCount (l : Nat) : Fld := ⟨0x200000 + l * 0x10000 + 0x18, 32, 16⟩
def laneOofValid (l : Nat) : Fld := ⟨0x200000 + l * 0x10000 + 0x18, 63, 1⟩
/-- LANEn_LISTc (R172), the whole word. -/
def laneList (l : Nat) (c : Nat) : Fld := ⟨0x200000 + l * 0x10000 + 0x100 + c * 0x8, 0, 64⟩
def laneListBase (l : Nat) (c : Nat) : Fld := ⟨0x200000 + l * 0x10000 + 0x100 + c * 0x8, 0, 19⟩
def laneListCount (l : Nat) (c : Nat) : Fld := ⟨0x200000 + l * 0x10000 + 0x100 + c * 0x8, 20, 18⟩
/-- BOOK_SLOTS (R238), the whole word. -/
def bookSlots : Fld := ⟨0x300000, 0, 64⟩
def bookSlotsStateA : Fld := ⟨0x300000, 0, 3⟩
def bookSlotsOnlineA : Fld := ⟨0x300000, 3, 1⟩
def bookSlotsStateB : Fld := ⟨0x300000, 8, 3⟩
def bookSlotsOnlineB : Fld := ⟨0x300000, 11, 1⟩
def bookSlotsSelect : Fld := ⟨0x300000, 16, 1⟩
def bookSlotsRevision : Fld := ⟨0x300000, 32, 32⟩
/-- BOOK_TURN (R238), the whole word. -/
def bookTurn : Fld := ⟨0x300008, 0, 64⟩
def bookTurnInstant : Fld := ⟨0x300008, 0, 48⟩
def bookTurnTurned : Fld := ⟨0x300008, 48, 8⟩
def bookTurnPending : Fld := ⟨0x300008, 56, 1⟩
def bookTurnArmed : Fld := ⟨0x300008, 57, 1⟩
/-- BOOK_TCn_TURN (R238), the whole word. -/
def bookTcTurn (n : Nat) : Fld := ⟨0x301028 + n * 0x100, 0, 64⟩
def bookTcTurnWake (n : Nat) : Fld := ⟨0x301028 + n * 0x100, 0, 48⟩
def bookTcTurnValid (n : Nat) : Fld := ⟨0x301028 + n * 0x100, 63, 1⟩
/-- FORCE_STATUS (R239), the whole word. -/
def forceStatus : Fld := ⟨0x310000, 0, 64⟩
def forceStatusCount : Fld := ⟨0x310000, 0, 13⟩
def forceStatusClasses : Fld := ⟨0x310000, 16, 8⟩
def forceStatusFaults : Fld := ⟨0x310000, 48, 15⟩
def forceStatusAny : Fld := ⟨0x310000, 63, 1⟩
/-- CMP_CTRL (R270), the whole word. -/
def cmpCtrl : Fld := ⟨0x280000, 0, 64⟩
def cmpCtrlWindow : Fld := ⟨0x280000, 0, 3⟩
def cmpCtrlLocked : Fld := ⟨0x280000, 4, 1⟩
def cmpCtrlLock : Fld := ⟨0x280000, 5, 1⟩
def cmpCtrlTest : Fld := ⟨0x280000, 6, 1⟩
/-- CMP_STATUS (R270), the whole word. -/
def cmpStatus : Fld := ⟨0x280008, 0, 64⟩
def cmpStatusBarred : Fld := ⟨0x280008, 0, 8⟩
def cmpStatusFailed : Fld := ⟨0x280008, 8, 8⟩
def cmpStatusSpare : Fld := ⟨0x280008, 16, 8⟩
def cmpStatusSpared : Fld := ⟨0x280008, 24, 3⟩
def cmpStatusSparing : Fld := ⟨0x280008, 27, 1⟩
def cmpStatusDegraded : Fld := ⟨0x280008, 28, 1⟩
/-- CMP_FAULT (R270), the whole word. -/
def cmpFault : Fld := ⟨0x280010, 0, 64⟩
def cmpFaultLane : Fld := ⟨0x280010, 0, 3⟩
def cmpFaultKind : Fld := ⟨0x280010, 3, 3⟩
def cmpFaultIdle : Fld := ⟨0x280010, 6, 1⟩
def cmpFaultWindows : Fld := ⟨0x280010, 8, 32⟩
def cmpFaultCount : Fld := ⟨0x280010, 40, 16⟩
def cmpFaultValid : Fld := ⟨0x280010, 63, 1⟩
/-- CMP_TEST (R270), the whole word. -/
def cmpTest : Fld := ⟨0x280018, 0, 64⟩
def cmpTestPass : Fld := ⟨0x280018, 0, 8⟩
def cmpTestDone : Fld := ⟨0x280018, 8, 8⟩
def cmpTestStep : Fld := ⟨0x280018, 16, 9⟩
def cmpTestFlane : Fld := ⟨0x280018, 25, 3⟩
def cmpTestFailed : Fld := ⟨0x280018, 28, 1⟩
/-- CMP_INJ (R270), the whole word. -/
def cmpInj : Fld := ⟨0x280020, 0, 64⟩
def cmpInjLanes : Fld := ⟨0x280020, 0, 8⟩
def cmpInjTarget : Fld := ⟨0x280020, 8, 2⟩
def cmpInjPol : Fld := ⟨0x280020, 10, 1⟩
def cmpInjBit : Fld := ⟨0x280020, 11, 6⟩
def cmpInjDelay : Fld := ⟨0x280020, 17, 1⟩
def cmpInjStage : Fld := ⟨0x280020, 18, 1⟩
/-- LANEn_SIG (R272), the whole word. -/
def laneSig (l : Nat) : Fld := ⟨0x200000 + l * 0x10000 + 0x400, 0, 64⟩
def laneSigMainSig (l : Nat) : Fld := ⟨0x200000 + l * 0x10000 + 0x400, 0, 64⟩
/-- LANEn_WIN (R272), the whole word. -/
def laneWin (l : Nat) : Fld := ⟨0x200000 + l * 0x10000 + 0x408, 0, 64⟩
def laneWinWindows (l : Nat) : Fld := ⟨0x200000 + l * 0x10000 + 0x408, 0, 32⟩
/-- LANEn_RETIRE (R272), the whole word. -/
def laneRetire (l : Nat) : Fld := ⟨0x200000 + l * 0x10000 + 0x410, 0, 64⟩
def laneRetireRetired (l : Nat) : Fld := ⟨0x200000 + l * 0x10000 + 0x410, 0, 64⟩
/-- LANEn_DBGCTL (R272), the whole word. -/
def laneDbgctl (l : Nat) : Fld := ⟨0x200000 + l * 0x10000 + 0x418, 0, 64⟩
def laneDbgctlHalt (l : Nat) : Fld := ⟨0x200000 + l * 0x10000 + 0x418, 0, 1⟩
def laneDbgctlStep (l : Nat) : Fld := ⟨0x200000 + l * 0x10000 + 0x418, 1, 1⟩
def laneDbgctlResume (l : Nat) : Fld := ⟨0x200000 + l * 0x10000 + 0x418, 2, 1⟩
def laneDbgctlBreakEn (l : Nat) : Fld := ⟨0x200000 + l * 0x10000 + 0x418, 3, 1⟩
def laneDbgctlBreakAddr (l : Nat) : Fld := ⟨0x200000 + l * 0x10000 + 0x418, 4, 16⟩
def laneDbgctlBreakBank (l : Nat) : Fld := ⟨0x200000 + l * 0x10000 + 0x418, 20, 1⟩
/-- LANEn_DBGSTAT (R272), the whole word. -/
def laneDbgstat (l : Nat) : Fld := ⟨0x200000 + l * 0x10000 + 0x420, 0, 64⟩
def laneDbgstatHalted (l : Nat) : Fld := ⟨0x200000 + l * 0x10000 + 0x420, 0, 1⟩
def laneDbgstatPending (l : Nat) : Fld := ⟨0x200000 + l * 0x10000 + 0x420, 1, 1⟩
def laneDbgstatDepth (l : Nat) : Fld := ⟨0x200000 + l * 0x10000 + 0x420, 2, 7⟩
/-- LANEn_DBGACC (R272), the whole word. -/
def laneDbgacc (l : Nat) : Fld := ⟨0x200000 + l * 0x10000 + 0x428, 0, 64⟩
def laneDbgaccIndex (l : Nat) : Fld := ⟨0x200000 + l * 0x10000 + 0x428, 0, 6⟩
def laneDbgaccSpace (l : Nat) : Fld := ⟨0x200000 + l * 0x10000 + 0x428, 6, 2⟩
def laneDbgaccWord (l : Nat) : Fld := ⟨0x200000 + l * 0x10000 + 0x428, 8, 13⟩
def laneDbgaccWrite (l : Nat) : Fld := ⟨0x200000 + l * 0x10000 + 0x428, 21, 1⟩
def laneDbgaccRead (l : Nat) : Fld := ⟨0x200000 + l * 0x10000 + 0x428, 22, 1⟩
/-- LANEn_DBGDATA (R272), the whole word. -/
def laneDbgdata (l : Nat) : Fld := ⟨0x200000 + l * 0x10000 + 0x430, 0, 64⟩
def laneDbgdataData (l : Nat) : Fld := ⟨0x200000 + l * 0x10000 + 0x430, 0, 64⟩
/-- PAIR_STATE (R320), the whole word. -/
def pairState : Fld := ⟨0x40000, 0, 64⟩
def pairStateState : Fld := ⟨0x40000, 0, 3⟩
def pairStatePstate : Fld := ⟨0x40000, 3, 3⟩
def pairStateFit : Fld := ⟨0x40000, 6, 1⟩
def pairStatePfit : Fld := ⟨0x40000, 7, 1⟩
def pairStatePreferred : Fld := ⟨0x40000, 8, 1⟩
def pairStatePpreferred : Fld := ⟨0x40000, 9, 1⟩
def pairStateLink : Fld := ⟨0x40000, 10, 1⟩
def pairStateAliveIn : Fld := ⟨0x40000, 11, 1⟩
def pairStateTimemaster : Fld := ⟨0x40000, 12, 1⟩
def pairStateSlot : Fld := ⟨0x40000, 13, 1⟩
/-- PAIR_WATCH (R320), the whole word. -/
def pairWatch : Fld := ⟨0x40008, 0, 64⟩
def pairWatchWatch : Fld := ⟨0x40008, 0, 32⟩
def pairWatchSeen : Fld := ⟨0x40008, 32, 32⟩
/-- PAIR_FENCE (R320), the whole word. -/
def pairFence : Fld := ⟨0x40010, 0, 64⟩
def pairFenceOut : Fld := ⟨0x40010, 0, 1⟩
def pairFenceInP : Fld := ⟨0x40010, 1, 1⟩
def pairFenceInN : Fld := ⟨0x40010, 2, 1⟩
def pairFenceValid : Fld := ⟨0x40010, 3, 1⟩
def pairFenceFenced : Fld := ⟨0x40010, 4, 1⟩
def pairFenceMismatch : Fld := ⟨0x40010, 63, 1⟩
/-- PAIR_LINK (R320), the whole word. -/
def pairLink : Fld := ⟨0x40018, 0, 64⟩
def pairLinkUp : Fld := ⟨0x40018, 0, 1⟩
def pairLinkLanes : Fld := ⟨0x40018, 1, 2⟩
def pairLinkRetry : Fld := ⟨0x40018, 16, 16⟩
def pairLinkLosses : Fld := ⟨0x40018, 32, 16⟩
def pairLinkClear : Fld := ⟨0x40018, 63, 1⟩
/-- PAIR_CFG (R320), the whole word. -/
def pairCfg : Fld := ⟨0x40020, 0, 64⟩
def pairCfgStrict : Fld := ⟨0x40020, 0, 8⟩
def pairCfgStrictWait : Fld := ⟨0x40020, 8, 10⟩
def pairCfgReclaim : Fld := ⟨0x40020, 18, 11⟩
def pairCfgDetachWarm : Fld := ⟨0x40020, 29, 1⟩
def pairCfgExercise : Fld := ⟨0x40020, 30, 8⟩
def pairCfgPwait : Fld := ⟨0x40020, 38, 10⟩
/-- PAIR_TAKE (R320), the whole word. -/
def pairTake : Fld := ⟨0x40028, 0, 64⟩
def pairTakeWatch : Fld := ⟨0x40028, 0, 32⟩
def pairTakeCause : Fld := ⟨0x40028, 32, 4⟩
def pairTakeRole : Fld := ⟨0x40028, 36, 1⟩
def pairTakeValid : Fld := ⟨0x40028, 63, 1⟩
/-- PAIR_CLASSc (R320), the whole word. -/
def pairClass (c : Nat) : Fld := ⟨0x40100 + c * 0x8, 0, 64⟩
def pairClassAcked (c : Nat) : Fld := ⟨0x40100 + c * 0x8, 0, 48⟩
def pairClassPending (c : Nat) : Fld := ⟨0x40100 + c * 0x8, 48, 4⟩
def pairClassInputOk (c : Nat) : Fld := ⟨0x40100 + c * 0x8, 52, 1⟩
def pairClassValid (c : Nat) : Fld := ⟨0x40100 + c * 0x8, 63, 1⟩
/-- STN_CTRL (R354), the whole word. -/
def stnCtrl : Fld := ⟨0x50000, 0, 64⟩
def stnCtrlEtype : Fld := ⟨0x50000, 0, 16⟩
def stnCtrlLocked : Fld := ⟨0x50000, 16, 1⟩
def stnCtrlLock : Fld := ⟨0x50000, 17, 1⟩
/-- STN_SAFE (R354), the whole word. -/
def stnSafe : Fld := ⟨0x50008, 0, 64⟩
def stnSafeSafeTx : Fld := ⟨0x50008, 0, 1⟩
def stnSafeStopped : Fld := ⟨0x50008, 1, 1⟩
def stnSafeRelay : Fld := ⟨0x50008, 2, 1⟩
def stnSafeSafeWatch : Fld := ⟨0x50008, 16, 32⟩
/-- STN_RINGr (R354), the whole word. -/
def stnRing (r : Nat) : Fld := ⟨0x50100 + r * 0x20, 0, 64⟩
def stnRingPortUp (r : Nat) : Fld := ⟨0x50100 + r * 0x20, 0, 1⟩
def stnRingRateBad (r : Nat) : Fld := ⟨0x50100 + r * 0x20, 1, 1⟩
def stnRingBroken (r : Nat) : Fld := ⟨0x50100 + r * 0x20, 2, 1⟩
def stnRingLastA (r : Nat) : Fld := ⟨0x50100 + r * 0x20, 3, 8⟩
def stnRingFirstB (r : Nat) : Fld := ⟨0x50100 + r * 0x20, 11, 8⟩
def stnRingPresent (r : Nat) : Fld := ⟨0x50100 + r * 0x20, 19, 8⟩
def stnRingLost (r : Nat) : Fld := ⟨0x50100 + r * 0x20, 27, 8⟩
def stnRingHeld (r : Nat) : Fld := ⟨0x50100 + r * 0x20, 35, 8⟩
/-- STN_RINGr_CNT (R354), the whole word. -/
def stnRingCnt (r : Nat) : Fld := ⟨0x50108 + r * 0x20, 0, 64⟩
def stnRingCntCrcerr (r : Nat) : Fld := ⟨0x50108 + r * 0x20, 0, 16⟩
def stnRingCntLate (r : Nat) : Fld := ⟨0x50108 + r * 0x20, 16, 16⟩
def stnRingCntForeign (r : Nat) : Fld := ⟨0x50108 + r * 0x20, 32, 16⟩
def stnRingCntSkew (r : Nat) : Fld := ⟨0x50108 + r * 0x20, 48, 15⟩
def stnRingCntClear (r : Nat) : Fld := ⟨0x50108 + r * 0x20, 63, 1⟩
/-- STN_STs (R354), the whole word. -/
def stnSt (s : Nat) : Fld := ⟨0x51000 + s * 0x10, 0, 64⟩
def stnStState (s : Nat) : Fld := ⟨0x51000 + s * 0x10, 0, 3⟩
def stnStViaA (s : Nat) : Fld := ⟨0x51000 + s * 0x10, 3, 1⟩
def stnStViaB (s : Nat) : Fld := ⟨0x51000 + s * 0x10, 4, 1⟩
def stnStSafeheld (s : Nat) : Fld := ⟨0x51000 + s * 0x10, 5, 1⟩
def stnStRelease (s : Nat) : Fld := ⟨0x51000 + s * 0x10, 6, 1⟩
def stnStMissed (s : Nat) : Fld := ⟨0x51000 + s * 0x10, 7, 8⟩
def stnStCfgGen (s : Nat) : Fld := ⟨0x51000 + s * 0x10, 15, 8⟩
def stnStUndelivered (s : Nat) : Fld := ⟨0x51000 + s * 0x10, 32, 32⟩
/-- STN_STs1 (R354), the whole word. -/
def stnSt1 (s : Nat) : Fld := ⟨0x51008 + s * 0x10, 0, 64⟩
def stnSt1Losses (s : Nat) : Fld := ⟨0x51008 + s * 0x10, 0, 32⟩
def stnSt1Clear (s : Nat) : Fld := ⟨0x51008 + s * 0x10, 63, 1⟩
/-- FAB_CTRL (R392), the whole word. -/
def fabCtrl : Fld := ⟨0x60000, 0, 64⟩
def fabCtrlEtype : Fld := ⟨0x60000, 0, 16⟩
def fabCtrlLocked : Fld := ⟨0x60000, 16, 1⟩
def fabCtrlLock : Fld := ⟨0x60000, 17, 1⟩
def fabCtrlMacsec : Fld := ⟨0x60000, 18, 1⟩
def fabCtrlJoined : Fld := ⟨0x60000, 19, 1⟩
/-- FAB_ADDR (R392), the whole word. -/
def fabAddr : Fld := ⟨0x60008, 0, 64⟩
def fabAddrAddr : Fld := ⟨0x60008, 0, 16⟩
def fabAddrValid : Fld := ⟨0x60008, 16, 1⟩
def fabAddrConflict : Fld := ⟨0x60008, 17, 1⟩
/-- FAB_DB (R392), the whole word. -/
def fabDb : Fld := ⟨0x60010, 0, 64⟩
def fabDbNodes : Fld := ⟨0x60010, 0, 14⟩
def fabDbRoutes : Fld := ⟨0x60010, 16, 14⟩
def fabDbSoundings : Fld := ⟨0x60010, 32, 13⟩
def fabDbSpfRuns : Fld := ⟨0x60010, 48, 15⟩
/-- FAB_PORTp (R392), the whole word. -/
def fabPort (p : Nat) : Fld := ⟨0x60100 + (p - 2) * 0x20, 0, 64⟩
def fabPortAdj (p : Nat) : Fld := ⟨0x60100 + (p - 2) * 0x20, 0, 3⟩
def fabPortLink (p : Nat) : Fld := ⟨0x60100 + (p - 2) * 0x20, 3, 1⟩
def fabPortSecured (p : Nat) : Fld := ⟨0x60100 + (p - 2) * 0x20, 4, 1⟩
def fabPortNaddr (p : Nat) : Fld := ⟨0x60100 + (p - 2) * 0x20, 5, 16⟩
def fabPortNport (p : Nat) : Fld := ⟨0x60100 + (p - 2) * 0x20, 21, 8⟩
def fabPortCost (p : Nat) : Fld := ⟨0x60100 + (p - 2) * 0x20, 29, 16⟩
/-- FAB_PORTp_CNT (R392), the whole word. -/
def fabPortCnt (p : Nat) : Fld := ⟨0x60108 + (p - 2) * 0x20, 0, 64⟩
def fabPortCntCrcerr (p : Nat) : Fld := ⟨0x60108 + (p - 2) * 0x20, 0, 16⟩
def fabPortCntHops (p : Nat) : Fld := ⟨0x60108 + (p - 2) * 0x20, 16, 16⟩
def fabPortCntDropped (p : Nat) : Fld := ⟨0x60108 + (p - 2) * 0x20, 32, 16⟩
def fabPortCntUnreach (p : Nat) : Fld := ⟨0x60108 + (p - 2) * 0x20, 48, 15⟩
def fabPortCntClear (p : Nat) : Fld := ⟨0x60108 + (p - 2) * 0x20, 63, 1⟩
/-- TIME_CTRL (R420), the whole word. -/
def timeCtrl : Fld := ⟨0x30000, 0, 64⟩
def timeCtrlSnap : Fld := ⟨0x30000, 0, 1⟩
def timeCtrlTb2Follow : Fld := ⟨0x30000, 1, 1⟩
def timeCtrlBlocked : Fld := ⟨0x30000, 2, 1⟩
def timeCtrlSlewing : Fld := ⟨0x30000, 3, 1⟩
/-- TIME_STATUS (R420), the whole word. -/
def timeStatus : Fld := ⟨0x30008, 0, 64⟩
def timeStatusTb0State : Fld := ⟨0x30008, 0, 2⟩
def timeStatusTb1State : Fld := ⟨0x30008, 2, 2⟩
def timeStatusTb0Valid : Fld := ⟨0x30008, 4, 1⟩
def timeStatusTb1Valid : Fld := ⟨0x30008, 5, 1⟩
def timeStatusPairsync : Fld := ⟨0x30008, 6, 1⟩
def timeStatusUtcOffset : Fld := ⟨0x30008, 16, 16⟩
def timeStatusUtcValid : Fld := ⟨0x30008, 32, 1⟩
/-- TIME_TBn_SNAP (R420), the whole word. -/
def timeTbSnap (n : Nat) : Fld := ⟨0x30100 + n * 0x20, 0, 64⟩
def timeTbSnapNs (n : Nat) : Fld := ⟨0x30100 + n * 0x20, 0, 64⟩
/-- TIME_TBn_INC (R420), the whole word. -/
def timeTbInc (n : Nat) : Fld := ⟨0x30108 + n * 0x20, 0, 64⟩
def timeTbIncInc (n : Nat) : Fld := ⟨0x30108 + n * 0x20, 0, 36⟩
/-- TIME_TBn_STEP (R420), the whole word. -/
def timeTbStep (n : Nat) : Fld := ⟨0x30110 + n * 0x20, 0, 64⟩
def timeTbStepStep (n : Nat) : Fld := ⟨0x30110 + n * 0x20, 0, 64⟩
/-- TIME_TPOk_START (R420), the whole word. -/
def timeTpoStart (k : Nat) : Fld := ⟨0x30200 + k * 0x20, 0, 64⟩
def timeTpoStartStart (k : Nat) : Fld := ⟨0x30200 + k * 0x20, 0, 64⟩
/-- TIME_TPOk_PERIOD (R420), the whole word. -/
def timeTpoPeriod (k : Nat) : Fld := ⟨0x30208 + k * 0x20, 0, 64⟩
def timeTpoPeriodPeriod (k : Nat) : Fld := ⟨0x30208 + k * 0x20, 0, 48⟩
/-- TIME_TPOk_CFG (R420), the whole word. -/
def timeTpoCfg (k : Nat) : Fld := ⟨0x30210 + k * 0x20, 0, 64⟩
def timeTpoCfgBase (k : Nat) : Fld := ⟨0x30210 + k * 0x20, 0, 2⟩
def timeTpoCfgEn (k : Nat) : Fld := ⟨0x30210 + k * 0x20, 2, 1⟩
def timeTpoCfgPol (k : Nat) : Fld := ⟨0x30210 + k * 0x20, 3, 1⟩
def timeTpoCfgWidth (k : Nat) : Fld := ⟨0x30210 + k * 0x20, 8, 32⟩
def timeTpoCfgMissed (k : Nat) : Fld := ⟨0x30210 + k * 0x20, 40, 16⟩
def timeTpoCfgActive (k : Nat) : Fld := ⟨0x30210 + k * 0x20, 63, 1⟩
/-- TIME_TPOk_NEXT (R420), the whole word. -/
def timeTpoNext (k : Nat) : Fld := ⟨0x30218 + k * 0x20, 0, 64⟩
def timeTpoNextNext (k : Nat) : Fld := ⟨0x30218 + k * 0x20, 0, 64⟩
/-- TIME_TPIi_CTL (R420), the whole word. -/
def timeTpiCtl (i : Nat) : Fld := ⟨0x30300 + i * 0x40, 0, 64⟩
def timeTpiCtlEdge (i : Nat) : Fld := ⟨0x30300 + i * 0x40, 0, 2⟩
def timeTpiCtlLast (i : Nat) : Fld := ⟨0x30300 + i * 0x40, 2, 1⟩
def timeTpiCtlCount (i : Nat) : Fld := ⟨0x30300 + i * 0x40, 16, 32⟩
def timeTpiCtlMissed (i : Nat) : Fld := ⟨0x30300 + i * 0x40, 48, 15⟩
def timeTpiCtlClear (i : Nat) : Fld := ⟨0x30300 + i * 0x40, 63, 1⟩
/-- TIME_TPIi_TBn (R420), the whole word. -/
def timeTpiTb (i : Nat) (n : Nat) : Fld := ⟨0x30308 + i * 0x40 + n * 0x8, 0, 64⟩
def timeTpiTbNs (i : Nat) (n : Nat) : Fld := ⟨0x30308 + i * 0x40 + n * 0x8, 0, 64⟩
/-- PORTn_PTP (R421), the whole word. -/
def portPtp (p : Nat) : Fld := ⟨0x70000 + p * 0x10000 + 0x400, 0, 64⟩
def portPtpStamp (p : Nat) : Fld := ⟨0x70000 + p * 0x10000 + 0x400, 0, 2⟩
def portPtpEncap (p : Nat) : Fld := ⟨0x70000 + p * 0x10000 + 0x400, 2, 2⟩
def portPtpLost (p : Nat) : Fld := ⟨0x70000 + p * 0x10000 + 0x400, 16, 16⟩
def portPtpClear (p : Nat) : Fld := ⟨0x70000 + p * 0x10000 + 0x400, 63, 1⟩
/-- PORTn_PTP_LAT (R421), the whole word. -/
def portPtpLat (p : Nat) : Fld := ⟨0x70000 + p * 0x10000 + 0x408, 0, 64⟩
def portPtpLatIng (p : Nat) : Fld := ⟨0x70000 + p * 0x10000 + 0x408, 0, 32⟩
def portPtpLatEgr (p : Nat) : Fld := ⟨0x70000 + p * 0x10000 + 0x408, 32, 32⟩
/-- PORTn_PTP_ASYM (R421), the whole word. -/
def portPtpAsym (p : Nat) : Fld := ⟨0x70000 + p * 0x10000 + 0x410, 0, 64⟩
def portPtpAsymAsym (p : Nat) : Fld := ⟨0x70000 + p * 0x10000 + 0x410, 0, 32⟩
/-- FCOL_STATUS (R449), the whole word. -/
def fcolStatus : Fld := ⟨0x10000, 0, 64⟩
def fcolStatusWorst : Fld := ⟨0x10000, 0, 3⟩
def fcolStatusSafe : Fld := ⟨0x10000, 3, 1⟩
def fcolStatusCPending : Fld := ⟨0x10000, 4, 1⟩
def fcolStatusInhibit : Fld := ⟨0x10000, 5, 1⟩
def fcolStatusCopyFault : Fld := ⟨0x10000, 6, 1⟩
def fcolStatusOpen : Fld := ⟨0x10000, 8, 8⟩
def fcolStatusAcount : Fld := ⟨0x10000, 32, 32⟩
/-- FCOL_CFG (R449), the whole word. -/
def fcolCfg : Fld := ⟨0x10008, 0, 64⟩
def fcolCfgDDwell : Fld := ⟨0x10008, 0, 8⟩
def fcolCfgEscLimit : Fld := ⟨0x10008, 8, 4⟩
def fcolCfgScrubSram : Fld := ⟨0x10008, 12, 1⟩
def fcolCfgScrubDram : Fld := ⟨0x10008, 13, 1⟩
/-- FCOL_CTRL (R449), the whole word. -/
def fcolCtrl : Fld := ⟨0x10010, 0, 64⟩
def fcolCtrlLock : Fld := ⟨0x10010, 0, 1⟩
def fcolCtrlTest : Fld := ⟨0x10010, 1, 1⟩
def fcolCtrlAclear : Fld := ⟨0x10010, 2, 1⟩
def fcolCtrlLocked : Fld := ⟨0x10010, 3, 1⟩
/-- FCOL_TEST (R449), the whole word. -/
def fcolTest : Fld := ⟨0x10018, 0, 64⟩
def fcolTestSource : Fld := ⟨0x10018, 0, 7⟩
def fcolTestPattern : Fld := ⟨0x10018, 7, 2⟩
def fcolTestDone : Fld := ⟨0x10018, 9, 1⟩
def fcolTestSeen : Fld := ⟨0x10018, 10, 2⟩
/-- FCOL_NOWk (R449), the whole word. -/
def fcolNow (k : Nat) : Fld := ⟨0x10020 + k * 0x8, 0, 64⟩
def fcolNowFault (k : Nat) : Fld := ⟨0x10020 + k * 0x8, 0, 64⟩
/-- FCOL_BROKENk (R449), the whole word. -/
def fcolBroken (k : Nat) : Fld := ⟨0x10030 + k * 0x8, 0, 64⟩
def fcolBrokenBroken (k : Nat) : Fld := ⟨0x10030 + k * 0x8, 0, 64⟩
/-- FCOL_FIRST0 (R449), the whole word. -/
def fcolFirst0 : Fld := ⟨0x10040, 0, 64⟩
def fcolFirst0Valid : Fld := ⟨0x10040, 7, 1⟩
/-- FCOL_FIRST1 (R449), the whole word. -/
def fcolFirst1 : Fld := ⟨0x10048, 0, 64⟩
def fcolFirst1Stamp : Fld := ⟨0x10048, 0, 64⟩
/-- FCOL_HEAD (R449), the whole word. -/
def fcolHead : Fld := ⟨0x10050, 0, 64⟩
def fcolHeadHead : Fld := ⟨0x10050, 0, 5⟩
def fcolHeadTotal : Fld := ⟨0x10050, 32, 32⟩
/-- FCOL_ESC (R449), the whole word. -/
def fcolEsc : Fld := ⟨0x10058, 0, 64⟩
def fcolEscCount : Fld := ⟨0x10058, 0, 4⟩
def fcolEscBlocked : Fld := ⟨0x10058, 4, 1⟩
/-- FCOL_HISTk0 (R449), the whole word. -/
def fcolHist0 (k : Nat) : Fld := ⟨0x10100 + k * 0x10, 0, 64⟩
def fcolHist0EntryWord0 (k : Nat) : Fld := ⟨0x10100 + k * 0x10, 0, 64⟩
/-- FCOL_HISTk1 (R449), the whole word. -/
def fcolHist1 (k : Nat) : Fld := ⟨0x10108 + k * 0x10, 0, 64⟩
def fcolHist1Stamp (k : Nat) : Fld := ⟨0x10108 + k * 0x10, 0, 64⟩
/-- ACFG_CTRL (R481), the whole word. -/
def acfgCtrl : Fld := ⟨0x20000, 0, 64⟩
def acfgCtrlLock : Fld := ⟨0x20000, 0, 1⟩
def acfgCtrlLocked : Fld := ⟨0x20000, 1, 1⟩
def acfgCtrlLoad : Fld := ⟨0x20000, 2, 1⟩
def acfgCtrlLoaded : Fld := ⟨0x20000, 3, 1⟩
def acfgCtrlLoaderr : Fld := ⟨0x20000, 4, 1⟩
def acfgCtrlErrA : Fld := ⟨0x20000, 5, 6⟩
def acfgCtrlErrB : Fld := ⟨0x20000, 11, 6⟩
def acfgCtrlOverlap : Fld := ⟨0x20000, 17, 1⟩
/-- ACFG_VIOL (R481), the whole word. -/
def acfgViol : Fld := ⟨0x20008, 0, 64⟩
def acfgViolAddr : Fld := ⟨0x20008, 0, 48⟩
def acfgViolMaster : Fld := ⟨0x20008, 48, 4⟩
def acfgViolWrite : Fld := ⟨0x20008, 52, 1⟩
def acfgViolReason : Fld := ⟨0x20008, 53, 3⟩
def acfgViolValid : Fld := ⟨0x20008, 63, 1⟩
/-- ACFG_VIOL_INFO (R481), the whole word. -/
def acfgViolInfo : Fld := ⟨0x20010, 0, 64⟩
def acfgViolInfoCtx : Fld := ⟨0x20010, 0, 4⟩
def acfgViolInfoTag : Fld := ⟨0x20010, 4, 4⟩
def acfgViolInfoSlot : Fld := ⟨0x20010, 8, 8⟩
def acfgViolInfoIsslot : Fld := ⟨0x20010, 16, 1⟩
def acfgViolInfoCount : Fld := ⟨0x20010, 32, 16⟩
/-- ACFG_TAGW (R481), the whole word. -/
def acfgTagw : Fld := ⟨0x20018, 0, 64⟩
def acfgTagwGrain : Fld := ⟨0x20018, 0, 20⟩
def acfgTagwColour : Fld := ⟨0x20018, 20, 4⟩
def acfgTagwGo : Fld := ⟨0x20018, 24, 1⟩
/-- ACFG_WINw (R481), the whole word. -/
def acfgWin (w : Nat) : Fld := ⟨0x20100 + w * 0x8, 0, 64⟩
def acfgWinBase (w : Nat) : Fld := ⟨0x20100 + w * 0x8, 0, 27⟩
def acfgWinLimit (w : Nat) : Fld := ⟨0x20100 + w * 0x8, 32, 27⟩
def acfgWinColour (w : Nat) : Fld := ⟨0x20100 + w * 0x8, 59, 4⟩
def acfgWinEn (w : Nat) : Fld := ⟨0x20100 + w * 0x8, 63, 1⟩
/-- ACFG_MTm_t (R481), the whole word. -/
def acfgMt (m : Nat) (t : Nat) : Fld := ⟨0x20400 + m * 0x20 + t * 0x8, 0, 64⟩
def acfgMtRead (m : Nat) (t : Nat) : Fld := ⟨0x20400 + m * 0x20 + t * 0x8, 0, 15⟩
def acfgMtWrite (m : Nat) (t : Nat) : Fld := ⟨0x20400 + m * 0x20 + t * 0x8, 16, 15⟩
/-- ACFG_SLOTn (R481), the whole word. -/
def acfgSlot (n : Nat) : Fld := ⟨0x21000 + n * 0x8, 0, 64⟩
def acfgSlotRd (n : Nat) : Fld := ⟨0x21000 + n * 0x8, 0, 16⟩
def acfgSlotWr (n : Nat) : Fld := ⟨0x21000 + n * 0x8, 16, 16⟩
def acfgSlotRdh (n : Nat) : Fld := ⟨0x21000 + n * 0x8, 32, 16⟩
def acfgSlotWrh (n : Nat) : Fld := ⟨0x21000 + n * 0x8, 48, 16⟩
/-- KEYS_STATUS (R482), the whole word. -/
def keysStatus : Fld := ⟨0x120000, 0, 64⟩
def keysStatusPresent : Fld := ⟨0x120000, 0, 9⟩
def keysStatusFault : Fld := ⟨0x120000, 16, 9⟩
def keysStatusOpened : Fld := ⟨0x120000, 32, 1⟩
def keysStatusZeroed : Fld := ⟨0x120000, 33, 1⟩
def keysStatusBusy : Fld := ⟨0x120000, 34, 1⟩
/-- DBG_GATE (R483), the whole word. -/
def dbgGate : Fld := ⟨0x130000, 0, 64⟩
def dbgGateOpen : Fld := ⟨0x130000, 0, 1⟩
def dbgGateScope : Fld := ⟨0x130000, 1, 3⟩
def dbgGateNewchal : Fld := ⟨0x130000, 4, 1⟩
/-- DBG_CHAL (R483), the whole word. -/
def dbgChal : Fld := ⟨0x130008, 0, 64⟩
def dbgChalChallenge : Fld := ⟨0x130008, 0, 64⟩
/-- DBG_MCTL (R483), the whole word. -/
def dbgMctl : Fld := ⟨0x130010, 0, 64⟩
def dbgMctlAddr : Fld := ⟨0x130010, 0, 48⟩
def dbgMctlColour : Fld := ⟨0x130010, 48, 4⟩
def dbgMctlRead : Fld := ⟨0x130010, 52, 1⟩
def dbgMctlWrite : Fld := ⟨0x130010, 53, 1⟩
def dbgMctlError : Fld := ⟨0x130010, 54, 1⟩
def dbgMctlDone : Fld := ⟨0x130010, 55, 1⟩
/-- DBG_MDATA (R483), the whole word. -/
def dbgMdata : Fld := ⟨0x130018, 0, 64⟩
def dbgMdataData : Fld := ⟨0x130018, 0, 64⟩
/-- QMGR_Qn_IDX (R521), the whole word. -/
def qmgrQIdx (n : Nat) : Fld := ⟨0xb1000 + n * 0x10, 0, 64⟩
def qmgrQIdxPi (n : Nat) : Fld := ⟨0xb1000 + n * 0x10, 0, 32⟩
def qmgrQIdxCi (n : Nat) : Fld := ⟨0xb1000 + n * 0x10, 32, 32⟩
/-- QMGR_Qn_CFG (R521), the whole word. -/
def qmgrQCfg (n : Nat) : Fld := ⟨0xb1008 + n * 0x10, 0, 64⟩
def qmgrQCfgBase (n : Nat) : Fld := ⟨0xb1008 + n * 0x10, 0, 15⟩
def qmgrQCfgLog2size (n : Nat) : Fld := ⟨0xb1008 + n * 0x10, 16, 4⟩
def qmgrQCfgHoldoff (n : Nat) : Fld := ⟨0xb1008 + n * 0x10, 24, 8⟩
def qmgrQCfgMask (n : Nat) : Fld := ⟨0xb1008 + n * 0x10, 32, 1⟩
def qmgrQCfgBound (n : Nat) : Fld := ⟨0xb1008 + n * 0x10, 33, 1⟩
def qmgrQCfgFull (n : Nat) : Fld := ⟨0xb1008 + n * 0x10, 34, 1⟩
def qmgrQCfgLost (n : Nat) : Fld := ⟨0xb1008 + n * 0x10, 48, 15⟩
def qmgrQCfgClear (n : Nat) : Fld := ⟨0xb1008 + n * 0x10, 63, 1⟩
/-- HOST_STATUS (R522), the whole word. -/
def hostStatus : Fld := ⟨0xc0000, 0, 64⟩
def hostStatusLinkup : Fld := ⟨0xc0000, 0, 1⟩
def hostStatusSpeed : Fld := ⟨0xc0000, 1, 2⟩
def hostStatusWidth : Fld := ⟨0xc0000, 3, 3⟩
def hostStatusMsixEn : Fld := ⟨0xc0000, 6, 1⟩
def hostStatusLinkLost : Fld := ⟨0xc0000, 7, 1⟩
def hostStatusIdxErr : Fld := ⟨0xc0000, 16, 16⟩
def hostStatusRingErr : Fld := ⟨0xc0000, 32, 16⟩
def hostStatusApErr : Fld := ⟨0xc0000, 48, 15⟩
def hostStatusClear : Fld := ⟨0xc0000, 63, 1⟩
/-- HOST_CTRL (R522), the whole word. -/
def hostCtrl : Fld := ⟨0xc0008, 0, 64⟩
def hostCtrlLock : Fld := ⟨0xc0008, 0, 1⟩
def hostCtrlLocked : Fld := ⟨0xc0008, 1, 1⟩
/-- HOST_APn_BASE (R522), the whole word. -/
def hostApBase (n : Nat) : Fld := ⟨0xc0100 + n * 0x10, 0, 64⟩
def hostApBaseBase (n : Nat) : Fld := ⟨0xc0100 + n * 0x10, 0, 48⟩
def hostApBaseColour (n : Nat) : Fld := ⟨0xc0100 + n * 0x10, 48, 4⟩
def hostApBaseEn (n : Nat) : Fld := ⟨0xc0100 + n * 0x10, 63, 1⟩
/-- HOST_APn_LEN (R522), the whole word. -/
def hostApLen (n : Nat) : Fld := ⟨0xc0108 + n * 0x10, 0, 64⟩
def hostApLenLast (n : Nat) : Fld := ⟨0xc0108 + n * 0x10, 0, 22⟩
/-- SENS_TEMPk (R530), the whole word. -/
def sensTemp (k : Nat) : Fld := ⟨0x110000 + k * 0x8, 0, 64⟩
def sensTempTemp (k : Nat) : Fld := ⟨0x110000 + k * 0x8, 0, 16⟩
def sensTempMax (k : Nat) : Fld := ⟨0x110000 + k * 0x8, 16, 16⟩
/-- SENS_RAILk (R530), the whole word. -/
def sensRail (k : Nat) : Fld := ⟨0x110100 + k * 0x8, 0, 64⟩
def sensRailMv (k : Nat) : Fld := ⟨0x110100 + k * 0x8, 0, 16⟩
def sensRailNominal (k : Nat) : Fld := ⟨0x110100 + k * 0x8, 16, 16⟩
def sensRailMinmv (k : Nat) : Fld := ⟨0x110100 + k * 0x8, 32, 16⟩
def sensRailMaxmv (k : Nat) : Fld := ⟨0x110100 + k * 0x8, 48, 16⟩
/-- SENS_FEED (R530), the whole word. -/
def sensFeed : Fld := ⟨0x110200, 0, 64⟩
def sensFeedVa : Fld := ⟨0x110200, 0, 16⟩
def sensFeedIa : Fld := ⟨0x110200, 16, 16⟩
def sensFeedVb : Fld := ⟨0x110200, 32, 16⟩
def sensFeedIb : Fld := ⟨0x110200, 48, 16⟩
/-- SENS_CORR (R530), the whole word. -/
def sensCorr : Fld := ⟨0x110208, 0, 64⟩
def sensCorrAgRate : Fld := ⟨0x110208, 0, 16⟩
def sensCorrCuRate : Fld := ⟨0x110208, 16, 16⟩
def sensCorrClass : Fld := ⟨0x110208, 32, 3⟩
def sensCorrSpent : Fld := ⟨0x110208, 35, 1⟩
def sensCorrLimit : Fld := ⟨0x110208, 36, 3⟩
def sensCorrAgLeft : Fld := ⟨0x110208, 40, 8⟩
def sensCorrCuLeft : Fld := ⟨0x110208, 48, 8⟩
/-- LOGB_STATUS (R556), the whole word. -/
def logbStatus : Fld := ⟨0x100000, 0, 64⟩
def logbStatusState : Fld := ⟨0x100000, 0, 2⟩
def logbStatusFrozen : Fld := ⟨0x100000, 8, 4⟩
def logbStatusRate : Fld := ⟨0x100000, 16, 16⟩
def logbStatusBacklog : Fld := ⟨0x100000, 32, 16⟩
def logbStatusGaps : Fld := ⟨0x100000, 48, 15⟩
/-- LOGB_SEQ (R556), the whole word. -/
def logbSeq : Fld := ⟨0x100008, 0, 64⟩
def logbSeqNewest : Fld := ⟨0x100008, 0, 64⟩
/-- LOGB_CKPT (R556), the whole word. -/
def logbCkpt : Fld := ⟨0x100010, 0, 64⟩
def logbCkptLast : Fld := ⟨0x100010, 0, 64⟩
/-- LOGB_CFG (R556), the whole word. -/
def logbCfg : Fld := ⟨0x100018, 0, 64⟩
def logbCfgInterval : Fld := ⟨0x100018, 0, 11⟩
def logbCfgFreeze : Fld := ⟨0x100018, 11, 6⟩
/-- FLD_STATUS (R579), the whole word. -/
def fldStatus : Fld := ⟨0xf0000, 0, 64⟩
def fldStatusLink : Fld := ⟨0xf0000, 0, 1⟩
def fldStatusReady : Fld := ⟨0xf0000, 1, 1⟩
def fldStatusOpenline : Fld := ⟨0xf0000, 2, 1⟩
def fldStatusXfade : Fld := ⟨0xf0000, 3, 1⟩
def fldStatusClosed : Fld := ⟨0xf0000, 4, 4⟩
def fldStatusStoreMv : Fld := ⟨0xf0000, 16, 16⟩
def fldStatusLinkloss : Fld := ⟨0xf0000, 32, 16⟩
def fldStatusClear : Fld := ⟨0xf0000, 63, 1⟩
/-- FLD_AIk (R579), the whole word. -/
def fldAi (k : Nat) : Fld := ⟨0xf0100 + k * 0x8, 0, 64⟩
def fldAiCurrent (k : Nat) : Fld := ⟨0xf0100 + k * 0x8, 0, 28⟩
def fldAiOpen (k : Nat) : Fld := ⟨0xf0100 + k * 0x8, 28, 1⟩
def fldAiShort (k : Nat) : Fld := ⟨0xf0100 + k * 0x8, 29, 1⟩
def fldAiOver (k : Nat) : Fld := ⟨0xf0100 + k * 0x8, 30, 1⟩
def fldAiLoop (k : Nat) : Fld := ⟨0xf0100 + k * 0x8, 31, 1⟩
/-- FLD_AOk (R579), the whole word. -/
def fldAo (k : Nat) : Fld := ⟨0xf0200 + k * 0x10, 0, 64⟩
def fldAoCmd (k : Nat) : Fld := ⟨0xf0200 + k * 0x10, 0, 28⟩
def fldAoReadback (k : Nat) : Fld := ⟨0xf0200 + k * 0x10, 32, 28⟩
/-- FLD_AOk_FLAGS (R579), the whole word. -/
def fldAoFlags (k : Nat) : Fld := ⟨0xf0208 + k * 0x10, 0, 64⟩
def fldAoFlagsOpen (k : Nat) : Fld := ⟨0xf0208 + k * 0x10, 0, 1⟩
def fldAoFlagsCompliance (k : Nat) : Fld := ⟨0xf0208 + k * 0x10, 1, 1⟩
def fldAoFlagsStage (k : Nat) : Fld := ⟨0xf0208 + k * 0x10, 2, 1⟩
def fldAoFlagsOpenL (k : Nat) : Fld := ⟨0xf0208 + k * 0x10, 8, 1⟩
def fldAoFlagsComplL (k : Nat) : Fld := ⟨0xf0208 + k * 0x10, 9, 1⟩
def fldAoFlagsStageL (k : Nat) : Fld := ⟨0xf0208 + k * 0x10, 10, 1⟩
/-- FLD_AOk_TRIM (R579), the whole word. -/
def fldAoTrim (k : Nat) : Fld := ⟨0xf0300 + k * 0x8, 0, 64⟩
def fldAoTrimM4 (k : Nat) : Fld := ⟨0xf0300 + k * 0x8, 0, 28⟩
def fldAoTrimM20 (k : Nat) : Fld := ⟨0xf0300 + k * 0x8, 32, 28⟩
/-- CANn_CTRL (R588), the whole word. -/
def canCtrl (c : Nat) : Fld := ⟨0xD0000 + c * 0x10000 + 0x0, 0, 64⟩
def canCtrlNominal (c : Nat) : Fld := ⟨0xD0000 + c * 0x10000 + 0x0, 0, 3⟩
def canCtrlData (c : Nat) : Fld := ⟨0xD0000 + c * 0x10000 + 0x0, 3, 3⟩
def canCtrlAutoRec (c : Nat) : Fld := ⟨0xD0000 + c * 0x10000 + 0x0, 6, 1⟩
def canCtrlWatchEn (c : Nat) : Fld := ⟨0xD0000 + c * 0x10000 + 0x0, 7, 1⟩
def canCtrlWatchId (c : Nat) : Fld := ⟨0xD0000 + c * 0x10000 + 0x0, 8, 11⟩
/-- CANn_STATUS (R588), the whole word. -/
def canStatus (c : Nat) : Fld := ⟨0xD0000 + c * 0x10000 + 0x8, 0, 64⟩
def canStatusMode (c : Nat) : Fld := ⟨0xD0000 + c * 0x10000 + 0x8, 0, 2⟩
def canStatusErrstate (c : Nat) : Fld := ⟨0xD0000 + c * 0x10000 + 0x8, 2, 2⟩
def canStatusRate (c : Nat) : Fld := ⟨0xD0000 + c * 0x10000 + 0x8, 4, 3⟩
def canStatusYielded (c : Nat) : Fld := ⟨0xD0000 + c * 0x10000 + 0x8, 7, 1⟩
def canStatusTec (c : Nat) : Fld := ⟨0xD0000 + c * 0x10000 + 0x8, 8, 8⟩
def canStatusRec (c : Nat) : Fld := ⟨0xD0000 + c * 0x10000 + 0x8, 16, 8⟩
def canStatusSeen (c : Nat) : Fld := ⟨0xD0000 + c * 0x10000 + 0x8, 32, 32⟩
/-- CANn_CNT (R588), the whole word. -/
def canCnt (c : Nat) : Fld := ⟨0xD0000 + c * 0x10000 + 0x10, 0, 64⟩
def canCntTxok (c : Nat) : Fld := ⟨0xD0000 + c * 0x10000 + 0x10, 0, 16⟩
def canCntRxok (c : Nat) : Fld := ⟨0xD0000 + c * 0x10000 + 0x10, 16, 16⟩
def canCntErrors (c : Nat) : Fld := ⟨0xD0000 + c * 0x10000 + 0x10, 32, 16⟩
def canCntOvf0 (c : Nat) : Fld := ⟨0xD0000 + c * 0x10000 + 0x10, 48, 8⟩
def canCntOvf1 (c : Nat) : Fld := ⟨0xD0000 + c * 0x10000 + 0x10, 56, 7⟩
def canCntClear (c : Nat) : Fld := ⟨0xD0000 + c * 0x10000 + 0x10, 63, 1⟩
/-- CANn_FLTf0 (R588), the whole word. -/
def canFlt0 (c : Nat) (f : Nat) : Fld := ⟨0xD0000 + c * 0x10000 + 0x100 + f * 0x10, 0, 64⟩
def canFlt0Match (c : Nat) (f : Nat) : Fld := ⟨0xD0000 + c * 0x10000 + 0x100 + f * 0x10, 0, 29⟩
def canFlt0Ide (c : Nat) (f : Nat) : Fld := ⟨0xD0000 + c * 0x10000 + 0x100 + f * 0x10, 29, 1⟩
def canFlt0Action (c : Nat) (f : Nat) : Fld := ⟨0xD0000 + c * 0x10000 + 0x100 + f * 0x10, 30, 2⟩
/-- CANn_FLTf1 (R588), the whole word. -/
def canFlt1 (c : Nat) (f : Nat) : Fld := ⟨0xD0000 + c * 0x10000 + 0x108 + f * 0x10, 0, 64⟩
def canFlt1Mask (c : Nat) (f : Nat) : Fld := ⟨0xD0000 + c * 0x10000 + 0x108 + f * 0x10, 0, 29⟩
/-- CANn_OBJk (R588), the whole word. -/
def canObj (c : Nat) (k : Nat) : Fld := ⟨0xD0000 + c * 0x10000 + 0x1000 + k * 0x50, 0, 64⟩
def canObjId (c : Nat) (k : Nat) : Fld := ⟨0xD0000 + c * 0x10000 + 0x1000 + k * 0x50, 0, 29⟩
def canObjIde (c : Nat) (k : Nat) : Fld := ⟨0xD0000 + c * 0x10000 + 0x1000 + k * 0x50, 29, 1⟩
def canObjFdf (c : Nat) (k : Nat) : Fld := ⟨0xD0000 + c * 0x10000 + 0x1000 + k * 0x50, 30, 1⟩
def canObjBrs (c : Nat) (k : Nat) : Fld := ⟨0xD0000 + c * 0x10000 + 0x1000 + k * 0x50, 31, 1⟩
def canObjLen (c : Nat) (k : Nat) : Fld := ⟨0xD0000 + c * 0x10000 + 0x1000 + k * 0x50, 32, 7⟩
def canObjTx (c : Nat) (k : Nat) : Fld := ⟨0xD0000 + c * 0x10000 + 0x1000 + k * 0x50, 39, 1⟩
def canObjEn (c : Nat) (k : Nat) : Fld := ⟨0xD0000 + c * 0x10000 + 0x1000 + k * 0x50, 40, 1⟩
/-- CANn_OBJk1 (R588), the whole word. -/
def canObj1 (c : Nat) (k : Nat) : Fld := ⟨0xD0000 + c * 0x10000 + 0x1008 + k * 0x50, 0, 64⟩
def canObj1Period (c : Nat) (k : Nat) : Fld := ⟨0xD0000 + c * 0x10000 + 0x1008 + k * 0x50, 0, 16⟩
def canObj1New (c : Nat) (k : Nat) : Fld := ⟨0xD0000 + c * 0x10000 + 0x1008 + k * 0x50, 16, 1⟩
def canObj1Count (c : Nat) (k : Nat) : Fld := ⟨0xD0000 + c * 0x10000 + 0x1008 + k * 0x50, 32, 32⟩
/-- RSTC_CAUSE (R613), the whole word. -/
def rstcCause : Fld := ⟨0x0, 0, 64⟩
def rstcCausePor : Fld := ⟨0x0, 0, 1⟩
def rstcCauseCarrier : Fld := ⟨0x0, 1, 1⟩
def rstcCauseWdog : Fld := ⟨0x0, 2, 1⟩
def rstcCauseEsc : Fld := ⟨0x0, 3, 1⟩
def rstcCauseSwwarm : Fld := ⟨0x0, 4, 1⟩
def rstcCauseSwcold : Fld := ⟨0x0, 5, 1⟩
def rstcCauseDebug : Fld := ⟨0x0, 6, 1⟩
def rstcCauseIsland : Fld := ⟨0x0, 7, 1⟩
def rstcCauseWidest : Fld := ⟨0x0, 8, 3⟩
/-- RSTC_SWRST (R613), the whole word. -/
def rstcSwrst : Fld := ⟨0x8, 0, 64⟩
def rstcSwrstWarm : Fld := ⟨0x8, 0, 1⟩
def rstcSwrstCold : Fld := ⟨0x8, 1, 1⟩
/-- RSTC_ISLRST (R613), the whole word. -/
def rstcIslrst : Fld := ⟨0x10, 0, 64⟩
def rstcIslrstBitsLo : Fld := ⟨0x10, 0, 9⟩
def rstcIslrstBitsMid : Fld := ⟨0x10, 10, 10⟩
def rstcIslrstBitI21 : Fld := ⟨0x10, 21, 1⟩
/-- RSTC_ISLSTAT (R613), the whole word. -/
def rstcIslstat : Fld := ⟨0x18, 0, 64⟩
def rstcIslstatInreset : Fld := ⟨0x18, 0, 22⟩
/-- RSTC_STRAP (R613), the whole word. -/
def rstcStrap : Fld := ⟨0x20, 0, 64⟩
def rstcStrapCode : Fld := ⟨0x20, 0, 4⟩
def rstcStrapValid : Fld := ⟨0x20, 4, 1⟩
def rstcStrapRatio : Fld := ⟨0x20, 8, 8⟩
/-- RSTC_WDOG (R613), the whole word. -/
def rstcWdog : Fld := ⟨0x28, 0, 64⟩
def rstcWdogKick : Fld := ⟨0x28, 0, 1⟩
def rstcWdogExpired : Fld := ⟨0x28, 1, 1⟩
/-- RSTC_HOLD (R613), the whole word. -/
def rstcHold : Fld := ⟨0x30, 0, 64⟩
def rstcHoldLimit : Fld := ⟨0x30, 0, 9⟩
/-- RSTC_BKPn (R613), the whole word. -/
def rstcBkp (n : Nat) : Fld := ⟨0x100 + n * 0x8, 0, 64⟩
def rstcBkpData (n : Nat) : Fld := ⟨0x100 + n * 0x8, 0, 32⟩
/-- CANn_OBJk word w (2 to 9), DATA (R588). -/
def canObjData (c k w : Nat) : Fld := ⟨0xD0000 + c * 0x10000 + 0x1000 + k * 0x50 + w * 8, 0, 64⟩

end R

/-- The register tables of DIR. -/
def regsDir : List RegRow := [
  ⟨0x32, 1, 0x0, [],
    [⟨0, 8, .ro, 0, (some 0)⟩, ⟨8, 8, .ro, 0, (some 0)⟩, ⟨16, 48, .rsv, 0, (some 0)⟩]⟩,
  ⟨0x32, 1, 0x8, [],
    [⟨0, 18, .ro, 0, (some 0)⟩, ⟨18, 4, .ro, 0, (some 0)⟩, ⟨22, 3, .ro, 0, (some 0)⟩, ⟨25, 7, .rsv, 0, (some 0)⟩,
     ⟨32, 16, .ro, 0, (some 0)⟩, ⟨48, 15, .rsv, 0, (some 0)⟩, ⟨63, 1, .w1c, 0, (some 0)⟩]⟩]

/-- The register tables of BOOK. -/
def regsBook : List RegRow := [
  ⟨0x30, 1, 0x100, [],
    [⟨0, 2, .ro, 0, (some 0)⟩, ⟨2, 6, .rsv, 0, (some 0)⟩, ⟨8, 8, .ro, 0, (some 0)⟩, ⟨16, 1, .ro, 0, (some 0)⟩,
     ⟨17, 2, .ro, 0, (some 0)⟩, ⟨19, 13, .rsv, 0, (some 0)⟩, ⟨32, 9, .bin, 0, (some 0)⟩, ⟨41, 23, .rsv, 0, (some 0)⟩]⟩,
  ⟨0x30, 1, 0x1000, [(0x100, 8)],
    [⟨0, 15, .bin, 0, (some 0)⟩, ⟨15, 1, .rsv, 0, (some 0)⟩, ⟨16, 15, .bin, 0, (some 0)⟩, ⟨31, 1, .rsv, 0, (some 0)⟩,
     ⟨32, 16, .bin, 0, (some 0)⟩, ⟨48, 8, .bin, 0, (some 0)⟩, ⟨56, 8, .bin, 0, (some 0)⟩]⟩,
  ⟨0x30, 1, 0x1008, [(0x100, 8)],
    [⟨0, 32, .ro, 0, (some 0)⟩, ⟨32, 1, .ro, 0, (some 0)⟩, ⟨33, 1, .ro, 0, (some 0)⟩, ⟨34, 1, .ro, 0, (some 0)⟩,
     ⟨35, 1, .ro, 0, (some 0)⟩, ⟨36, 1, .ro, 0, (some 0)⟩, ⟨37, 27, .rsv, 0, (some 0)⟩]⟩,
  ⟨0x30, 1, 0x1010, [(0x100, 8)],
    [⟨0, 48, .ro, 0, (some 0)⟩, ⟨48, 16, .rsv, 0, (some 0)⟩]⟩,
  ⟨0x30, 1, 0x1018, [(0x100, 8)],
    [⟨0, 32, .ro, 0, (some 0)⟩, ⟨32, 32, .ro, 0xffffffff, (some 0xffffffff)⟩]⟩,
  ⟨0x30, 1, 0x1020, [(0x100, 8)],
    [⟨0, 24, .ro, 0, (some 0)⟩, ⟨24, 24, .ro, 0, (some 0)⟩, ⟨48, 15, .rsv, 0, (some 0)⟩, ⟨63, 1, .wo, 0, (some 0)⟩]⟩,
  ⟨0x30, 1, 0x0, [],
    [⟨0, 3, .bin, 0, (some 0)⟩, ⟨3, 1, .bin, 0, (some 0)⟩, ⟨4, 4, .rsv, 0, (some 0)⟩, ⟨8, 3, .bin, 0, (some 0)⟩,
     ⟨11, 1, .bin, 0, (some 0)⟩, ⟨12, 4, .rsv, 0, (some 0)⟩, ⟨16, 1, .bin, 0, (some 0)⟩, ⟨17, 15, .rsv, 0, (some 0)⟩,
     ⟨32, 32, .bin, 0, (some 0)⟩]⟩,
  ⟨0x30, 1, 0x8, [],
    [⟨0, 48, .bin, 0, (some 0)⟩, ⟨48, 8, .bin, 0, (some 0)⟩, ⟨56, 1, .bin, 0, (some 0)⟩, ⟨57, 1, .bin, 0, (some 0)⟩,
     ⟨58, 6, .rsv, 0, (some 0)⟩]⟩,
  ⟨0x30, 1, 0x1028, [(0x100, 8)],
    [⟨0, 48, .ro, 0, (some 0)⟩, ⟨48, 15, .rsv, 0, (some 0)⟩, ⟨63, 1, .ro, 0, (some 0)⟩]⟩]

/-- The register tables of LANEn. -/
def regsLanen : List RegRow := [
  ⟨0x20, 8, 0x0, [],
    [⟨0, 8, .ro, 0, (some 0)⟩, ⟨8, 56, .rsv, 0, (some 0)⟩]⟩,
  ⟨0x20, 8, 0x8, [],
    [⟨0, 3, .ro, 0, (some 0)⟩, ⟨3, 1, .ro, 0, (some 0)⟩, ⟨4, 8, .ro, 0, (some 0)⟩, ⟨12, 18, .ro, 0, (some 0)⟩,
     ⟨30, 34, .rsv, 0, (some 0)⟩]⟩,
  ⟨0x20, 8, 0x10, [],
    [⟨0, 32, .ro, 0, (some 0)⟩, ⟨32, 32, .ro, 0, (some 0)⟩]⟩,
  ⟨0x20, 8, 0x18, [],
    [⟨0, 32, .ro, 0, (some 0)⟩, ⟨32, 16, .ro, 0, (some 0)⟩, ⟨48, 15, .rsv, 0, (some 0)⟩, ⟨63, 1, .w1c, 0, (some 0)⟩]⟩,
  ⟨0x20, 8, 0x100, [(0x8, 8)],
    [⟨0, 19, .ro, 0, (some 0)⟩, ⟨19, 1, .rsv, 0, (some 0)⟩, ⟨20, 18, .ro, 0, (some 0)⟩, ⟨38, 26, .rsv, 0, (some 0)⟩]⟩,
  ⟨0x20, 8, 0x400, [],
    [⟨0, 64, .ro, 0, (some 0)⟩]⟩,
  ⟨0x20, 8, 0x408, [],
    [⟨0, 32, .ro, 0, (some 0)⟩, ⟨32, 32, .rsv, 0, (some 0)⟩]⟩,
  ⟨0x20, 8, 0x410, [],
    [⟨0, 64, .ro, 0, (some 0)⟩]⟩,
  ⟨0x20, 8, 0x418, [],
    [⟨0, 1, .wo, 0, (some 0)⟩, ⟨1, 1, .wo, 0, (some 0)⟩, ⟨2, 1, .wo, 0, (some 0)⟩, ⟨3, 1, .rw, 0, (some 0)⟩,
     ⟨4, 16, .rw, 0, (some 0)⟩, ⟨20, 1, .rw, 0, (some 0)⟩, ⟨21, 43, .rsv, 0, (some 0)⟩]⟩,
  ⟨0x20, 8, 0x420, [],
    [⟨0, 1, .ro, 0, (some 0)⟩, ⟨1, 1, .ro, 0, (some 0)⟩, ⟨2, 7, .ro, 0, (some 0)⟩, ⟨9, 55, .rsv, 0, (some 0)⟩]⟩,
  ⟨0x20, 8, 0x428, [],
    [⟨0, 6, .rw, 0, (some 0)⟩, ⟨6, 2, .rw, 0, (some 0)⟩, ⟨8, 13, .rw, 0, (some 0)⟩, ⟨21, 1, .wo, 0, (some 0)⟩,
     ⟨22, 1, .wo, 0, (some 0)⟩, ⟨23, 41, .rsv, 0, (some 0)⟩]⟩,
  ⟨0x20, 8, 0x430, [],
    [⟨0, 64, .rw, 0, (some 0)⟩]⟩]

/-- The register tables of FORCE. -/
def regsForce : List RegRow := [
  ⟨0x31, 1, 0x0, [],
    [⟨0, 13, .ro, 0, none⟩, ⟨13, 3, .rsv, 0, (some 0)⟩, ⟨16, 8, .ro, 0, none⟩, ⟨24, 24, .rsv, 0, (some 0)⟩,
     ⟨48, 15, .ro, 0, (some 0)⟩, ⟨63, 1, .ro, 0, none⟩]⟩]

/-- The register tables of CMP. -/
def regsCmp : List RegRow := [
  ⟨0x28, 1, 0x0, [],
    [⟨0, 3, .rwl, 2, (some 2)⟩, ⟨3, 1, .rsv, 0, (some 0)⟩, ⟨4, 1, .ro, 0, (some 0)⟩, ⟨5, 1, .wo, 0, (some 0)⟩,
     ⟨6, 1, .rwl, 0, (some 0)⟩, ⟨7, 57, .rsv, 0, (some 0)⟩]⟩,
  ⟨0x28, 1, 0x8, [],
    [⟨0, 8, .bin, 0, (some 0)⟩, ⟨8, 8, .ro, 0, (some 0)⟩, ⟨16, 8, .ro, 0, (some 0)⟩, ⟨24, 3, .ro, 0, (some 0)⟩,
     ⟨27, 1, .ro, 0, (some 0)⟩, ⟨28, 1, .ro, 0, (some 0)⟩, ⟨29, 35, .rsv, 0, (some 0)⟩]⟩,
  ⟨0x28, 1, 0x10, [],
    [⟨0, 3, .ro, 0, (some 0)⟩, ⟨3, 3, .ro, 0, (some 0)⟩, ⟨6, 1, .ro, 0, (some 0)⟩, ⟨7, 1, .rsv, 0, (some 0)⟩,
     ⟨8, 32, .ro, 0, (some 0)⟩, ⟨40, 16, .ro, 0, (some 0)⟩, ⟨56, 7, .rsv, 0, (some 0)⟩, ⟨63, 1, .w1c, 0, (some 0)⟩]⟩,
  ⟨0x28, 1, 0x18, [],
    [⟨0, 8, .ro, 0, (some 0)⟩, ⟨8, 8, .ro, 0, (some 0)⟩, ⟨16, 9, .ro, 0, (some 0)⟩, ⟨25, 3, .ro, 0, (some 0)⟩,
     ⟨28, 1, .ro, 0, (some 0)⟩, ⟨29, 35, .rsv, 0, (some 0)⟩]⟩,
  ⟨0x28, 1, 0x20, [],
    [⟨0, 8, .rwl, 0, (some 0)⟩, ⟨8, 2, .rwl, 0, (some 0)⟩, ⟨10, 1, .rwl, 0, (some 0)⟩, ⟨11, 6, .rwl, 0, (some 0)⟩,
     ⟨17, 1, .rwl, 0, (some 0)⟩, ⟨18, 1, .rwl, 0, (some 0)⟩, ⟨19, 45, .rsv, 0, (some 0)⟩]⟩]

/-- The register tables of PAIR. -/
def regsPair : List RegRow := [
  ⟨0x4, 1, 0x0, [],
    [⟨0, 3, .ro, 0, (some 0)⟩, ⟨3, 3, .ro, 0, (some 0)⟩, ⟨6, 1, .ro, 0, (some 0)⟩, ⟨7, 1, .ro, 0, (some 0)⟩,
     ⟨8, 1, .ro, 0, (some 0)⟩, ⟨9, 1, .ro, 0, (some 0)⟩, ⟨10, 1, .ro, 0, (some 0)⟩, ⟨11, 1, .ro, 0, (some 0)⟩,
     ⟨12, 1, .ro, 0, (some 0)⟩, ⟨13, 1, .ro, 0, none⟩, ⟨14, 50, .rsv, 0, (some 0)⟩]⟩,
  ⟨0x4, 1, 0x8, [],
    [⟨0, 32, .ro, 0, (some 0)⟩, ⟨32, 32, .ro, 0, (some 0)⟩]⟩,
  ⟨0x4, 1, 0x10, [],
    [⟨0, 1, .ro, 0, (some 0)⟩, ⟨1, 1, .ro, 0, (some 0)⟩, ⟨2, 1, .ro, 0, (some 0)⟩, ⟨3, 1, .ro, 0, (some 0)⟩,
     ⟨4, 1, .ro, 0, (some 0)⟩, ⟨5, 58, .rsv, 0, (some 0)⟩, ⟨63, 1, .w1c, 0, (some 0)⟩]⟩,
  ⟨0x4, 1, 0x18, [],
    [⟨0, 1, .ro, 0, (some 0)⟩, ⟨1, 2, .ro, 0, (some 0)⟩, ⟨3, 13, .rsv, 0, (some 0)⟩, ⟨16, 16, .ro, 0, (some 0)⟩,
     ⟨32, 16, .ro, 0, (some 0)⟩, ⟨48, 15, .rsv, 0, (some 0)⟩, ⟨63, 1, .wo, 0, (some 0)⟩]⟩,
  ⟨0x4, 1, 0x20, [],
    [⟨0, 8, .bin, 0, (some 0)⟩, ⟨8, 10, .bin, 0, (some 0)⟩, ⟨18, 11, .bin, 0, (some 0)⟩, ⟨29, 1, .bin, 0, (some 0)⟩,
     ⟨30, 8, .bin, 0, (some 0)⟩, ⟨38, 10, .bin, 0, (some 0)⟩, ⟨48, 16, .rsv, 0, (some 0)⟩]⟩,
  ⟨0x4, 1, 0x28, [],
    [⟨0, 32, .ro, 0, (some 0)⟩, ⟨32, 4, .ro, 0, (some 0)⟩, ⟨36, 1, .ro, 0, (some 0)⟩, ⟨37, 26, .rsv, 0, (some 0)⟩,
     ⟨63, 1, .w1c, 0, (some 0)⟩]⟩,
  ⟨0x4, 1, 0x100, [(0x8, 8)],
    [⟨0, 48, .ro, 0, (some 0)⟩, ⟨48, 4, .ro, 0, (some 0)⟩, ⟨52, 1, .ro, 0, (some 0)⟩, ⟨53, 10, .rsv, 0, (some 0)⟩,
     ⟨63, 1, .ro, 0, (some 0)⟩]⟩]

/-- The register tables of STN. -/
def regsStn : List RegRow := [
  ⟨0x5, 1, 0x0, [],
    [⟨0, 16, .rwl, 0x88b6, none⟩, ⟨16, 1, .ro, 0, (some 0)⟩, ⟨17, 1, .wo, 0, (some 0)⟩, ⟨18, 46, .rsv, 0, (some 0)⟩]⟩,
  ⟨0x5, 1, 0x8, [],
    [⟨0, 1, .ro, 0, (some 0)⟩, ⟨1, 1, .ro, 0, (some 0)⟩, ⟨2, 1, .ro, 0, (some 0)⟩, ⟨3, 13, .rsv, 0, (some 0)⟩,
     ⟨16, 32, .ro, 0, (some 0)⟩, ⟨48, 16, .rsv, 0, (some 0)⟩]⟩,
  ⟨0x5, 1, 0x100, [(0x20, 2)],
    [⟨0, 1, .ro, 0, (some 0)⟩, ⟨1, 1, .ro, 0, (some 0)⟩, ⟨2, 1, .ro, 0, (some 0)⟩, ⟨3, 8, .ro, 0xff, (some 0xff)⟩,
     ⟨11, 8, .ro, 0xff, (some 0xff)⟩, ⟨19, 8, .ro, 0, (some 0)⟩, ⟨27, 8, .ro, 0, (some 0)⟩, ⟨35, 8, .ro, 0, (some 0)⟩,
     ⟨43, 21, .rsv, 0, (some 0)⟩]⟩,
  ⟨0x5, 1, 0x108, [(0x20, 2)],
    [⟨0, 16, .ro, 0, (some 0)⟩, ⟨16, 16, .ro, 0, (some 0)⟩, ⟨32, 16, .ro, 0, (some 0)⟩, ⟨48, 15, .ro, 0, (some 0)⟩,
     ⟨63, 1, .wo, 0, (some 0)⟩]⟩,
  ⟨0x5, 1, 0x1000, [(0x10, 256)],
    [⟨0, 3, .ro, 0, (some 0)⟩, ⟨3, 1, .ro, 0, (some 0)⟩, ⟨4, 1, .ro, 0, (some 0)⟩, ⟨5, 1, .ro, 0, (some 0)⟩,
     ⟨6, 1, .ro, 0, (some 0)⟩, ⟨7, 8, .ro, 0, (some 0)⟩, ⟨15, 8, .ro, 0, (some 0)⟩, ⟨23, 9, .rsv, 0, (some 0)⟩,
     ⟨32, 32, .ro, 0, (some 0)⟩]⟩,
  ⟨0x5, 1, 0x1008, [(0x10, 256)],
    [⟨0, 32, .ro, 0, (some 0)⟩, ⟨32, 31, .rsv, 0, (some 0)⟩, ⟨63, 1, .wo, 0, (some 0)⟩]⟩]

/-- The register tables of FAB. -/
def regsFab : List RegRow := [
  ⟨0x6, 1, 0x0, [],
    [⟨0, 16, .rwl, 0x88b5, none⟩, ⟨16, 1, .ro, 0, (some 0)⟩, ⟨17, 1, .wo, 0, (some 0)⟩, ⟨18, 1, .rwl, 1, none⟩,
     ⟨19, 1, .ro, 0, (some 0)⟩, ⟨20, 44, .rsv, 0, (some 0)⟩]⟩,
  ⟨0x6, 1, 0x8, [],
    [⟨0, 16, .ro, 0, (some 0)⟩, ⟨16, 1, .ro, 0, (some 0)⟩, ⟨17, 1, .ro, 0, (some 0)⟩, ⟨18, 46, .rsv, 0, (some 0)⟩]⟩,
  ⟨0x6, 1, 0x10, [],
    [⟨0, 14, .ro, 0, (some 0)⟩, ⟨14, 2, .rsv, 0, (some 0)⟩, ⟨16, 14, .ro, 0, (some 0)⟩, ⟨30, 2, .rsv, 0, (some 0)⟩,
     ⟨32, 13, .ro, 0, (some 0)⟩, ⟨45, 3, .rsv, 0, (some 0)⟩, ⟨48, 15, .ro, 0, (some 0)⟩, ⟨63, 1, .rsv, 0, (some 0)⟩]⟩,
  ⟨0x6, 1, 0x100, [(0x20, 2)],
    [⟨0, 3, .ro, 0, (some 0)⟩, ⟨3, 1, .ro, 0, (some 0)⟩, ⟨4, 1, .ro, 0, (some 0)⟩, ⟨5, 16, .ro, 0, (some 0)⟩,
     ⟨21, 8, .ro, 0, (some 0)⟩, ⟨29, 16, .bin, 0, (some 0)⟩, ⟨45, 19, .rsv, 0, (some 0)⟩]⟩,
  ⟨0x6, 1, 0x108, [(0x20, 2)],
    [⟨0, 16, .ro, 0, (some 0)⟩, ⟨16, 16, .ro, 0, (some 0)⟩, ⟨32, 16, .ro, 0, (some 0)⟩, ⟨48, 15, .ro, 0, (some 0)⟩,
     ⟨63, 1, .wo, 0, (some 0)⟩]⟩]

/-- The register tables of TIME. -/
def regsTime : List RegRow := [
  ⟨0x3, 1, 0x0, [],
    [⟨0, 1, .wo, 0, (some 0)⟩, ⟨1, 1, .rw, 1, none⟩, ⟨2, 1, .ro, 0, none⟩, ⟨3, 1, .ro, 0, none⟩,
     ⟨4, 60, .rsv, 0, (some 0)⟩]⟩,
  ⟨0x3, 1, 0x8, [],
    [⟨0, 2, .ro, 0, none⟩, ⟨2, 2, .ro, 0, none⟩, ⟨4, 1, .ro, 0, none⟩, ⟨5, 1, .ro, 0, none⟩,
     ⟨6, 1, .ro, 0, (some 0)⟩, ⟨7, 9, .rsv, 0, (some 0)⟩, ⟨16, 16, .ro, 0, none⟩, ⟨32, 1, .ro, 0, none⟩,
     ⟨33, 31, .rsv, 0, (some 0)⟩]⟩,
  ⟨0x3, 1, 0x100, [(0x20, 4)],
    [⟨0, 64, .ro, 0, none⟩]⟩,
  ⟨0x3, 1, 0x108, [(0x20, 4)],
    [⟨0, 36, .rw, 0x400000000, none⟩, ⟨36, 28, .rsv, 0, (some 0)⟩]⟩,
  ⟨0x3, 1, 0x110, [(0x20, 4)],
    [⟨0, 64, .wo, 0, (some 0)⟩]⟩,
  ⟨0x3, 1, 0x200, [(0x20, 4)],
    [⟨0, 64, .rw, 0, (some 0)⟩]⟩,
  ⟨0x3, 1, 0x208, [(0x20, 4)],
    [⟨0, 48, .rw, 0, (some 0)⟩, ⟨48, 16, .rsv, 0, (some 0)⟩]⟩,
  ⟨0x3, 1, 0x210, [(0x20, 4)],
    [⟨0, 2, .rw, 0, (some 0)⟩, ⟨2, 1, .rw, 0, (some 0)⟩, ⟨3, 1, .rw, 0, (some 0)⟩, ⟨4, 4, .rsv, 0, (some 0)⟩,
     ⟨8, 32, .rw, 0, (some 0)⟩, ⟨40, 16, .ro, 0, (some 0)⟩, ⟨56, 7, .rsv, 0, (some 0)⟩, ⟨63, 1, .ro, 0, (some 0)⟩]⟩,
  ⟨0x3, 1, 0x218, [(0x20, 4)],
    [⟨0, 64, .ro, 0, (some 0)⟩]⟩,
  ⟨0x3, 1, 0x300, [(0x40, 2)],
    [⟨0, 2, .rw, 0, (some 0)⟩, ⟨2, 1, .ro, 0, (some 0)⟩, ⟨3, 13, .rsv, 0, (some 0)⟩, ⟨16, 32, .ro, 0, (some 0)⟩,
     ⟨48, 15, .ro, 0, (some 0)⟩, ⟨63, 1, .wo, 0, (some 0)⟩]⟩,
  ⟨0x3, 1, 0x308, [(0x40, 2), (0x8, 4)],
    [⟨0, 64, .ro, 0, (some 0)⟩]⟩]

/-- The register tables of PORTn. -/
def regsPortn : List RegRow := [
  ⟨0x7, 4, 0x400, [],
    [⟨0, 2, .rw, 0, (some 0)⟩, ⟨2, 2, .rw, 0, (some 0)⟩, ⟨4, 12, .rsv, 0, (some 0)⟩, ⟨16, 16, .ro, 0, (some 0)⟩,
     ⟨32, 31, .rsv, 0, (some 0)⟩, ⟨63, 1, .wo, 0, (some 0)⟩]⟩,
  ⟨0x7, 4, 0x408, [],
    [⟨0, 32, .rw, 0, (some 0)⟩, ⟨32, 32, .rw, 0, (some 0)⟩]⟩,
  ⟨0x7, 4, 0x410, [],
    [⟨0, 32, .rw, 0, (some 0)⟩, ⟨32, 32, .rsv, 0, (some 0)⟩]⟩]

/-- The register tables of FCOL. -/
def regsFcol : List RegRow := [
  ⟨0x1, 1, 0x0, [],
    [⟨0, 3, .ro, 0, none⟩, ⟨3, 1, .ro, 0, (some 0)⟩, ⟨4, 1, .ro, 0, (some 0)⟩, ⟨5, 1, .ro, 0, (some 0)⟩,
     ⟨6, 1, .ro, 0, none⟩, ⟨7, 1, .rsv, 0, (some 0)⟩, ⟨8, 8, .ro, 0, (some 0)⟩, ⟨16, 16, .rsv, 0, (some 0)⟩,
     ⟨32, 32, .ro, 0, none⟩]⟩,
  ⟨0x1, 1, 0x8, [],
    [⟨0, 8, .rwl, 0x14, none⟩, ⟨8, 4, .rwl, 3, none⟩, ⟨12, 1, .rwl, 1, none⟩, ⟨13, 1, .rwl, 1, none⟩,
     ⟨14, 50, .rsv, 0, (some 0)⟩]⟩,
  ⟨0x1, 1, 0x10, [],
    [⟨0, 1, .wo, 0, (some 0)⟩, ⟨1, 1, .rwl, 0, (some 0)⟩, ⟨2, 1, .wo, 0, (some 0)⟩, ⟨3, 1, .ro, 0, (some 0)⟩,
     ⟨4, 60, .rsv, 0, (some 0)⟩]⟩,
  ⟨0x1, 1, 0x18, [],
    [⟨0, 7, .rwl, 0, (some 0)⟩, ⟨7, 2, .rwl, 0, (some 0)⟩, ⟨9, 1, .ro, 0, (some 0)⟩, ⟨10, 2, .ro, 0, (some 0)⟩,
     ⟨12, 52, .rsv, 0, (some 0)⟩]⟩,
  ⟨0x1, 1, 0x20, [(0x8, 2)],
    [⟨0, 64, .ro, 0, (some 0)⟩]⟩,
  ⟨0x1, 1, 0x30, [(0x8, 2)],
    [⟨0, 64, .ro, 0, (some 0)⟩]⟩,
  ⟨0x1, 1, 0x40, [],
    [⟨0, 7, .ro, 0, none⟩, ⟨8, 56, .ro, 0, none⟩, ⟨7, 1, .w1c, 0, none⟩]⟩,
  ⟨0x1, 1, 0x48, [],
    [⟨0, 64, .ro, 0, none⟩]⟩,
  ⟨0x1, 1, 0x50, [],
    [⟨0, 5, .ro, 0, none⟩, ⟨5, 27, .rsv, 0, (some 0)⟩, ⟨32, 32, .ro, 0, none⟩]⟩,
  ⟨0x1, 1, 0x58, [],
    [⟨0, 4, .ro, 0, none⟩, ⟨4, 1, .ro, 0, none⟩, ⟨5, 59, .rsv, 0, (some 0)⟩]⟩,
  ⟨0x1, 1, 0x100, [(0x10, 32)],
    [⟨0, 64, .ro, 0, none⟩]⟩,
  ⟨0x1, 1, 0x108, [(0x10, 32)],
    [⟨0, 64, .ro, 0, none⟩]⟩]

/-- The register tables of ACFG. -/
def regsAcfg : List RegRow := [
  ⟨0x2, 1, 0x0, [],
    [⟨0, 1, .wo, 0, (some 0)⟩, ⟨1, 1, .ro, 0, (some 0)⟩, ⟨2, 1, .wo, 0, (some 0)⟩, ⟨3, 1, .ro, 0, (some 0)⟩,
     ⟨4, 1, .ro, 0, (some 0)⟩, ⟨5, 6, .ro, 0, (some 0)⟩, ⟨11, 6, .ro, 0, (some 0)⟩, ⟨17, 1, .ro, 0, (some 0)⟩,
     ⟨18, 46, .rsv, 0, (some 0)⟩]⟩,
  ⟨0x2, 1, 0x8, [],
    [⟨0, 48, .ro, 0, (some 0)⟩, ⟨48, 4, .ro, 0, (some 0)⟩, ⟨52, 1, .ro, 0, (some 0)⟩, ⟨53, 3, .ro, 0, (some 0)⟩,
     ⟨56, 7, .rsv, 0, (some 0)⟩, ⟨63, 1, .w1c, 0, (some 0)⟩]⟩,
  ⟨0x2, 1, 0x10, [],
    [⟨0, 4, .ro, 0, (some 0)⟩, ⟨4, 4, .ro, 0, (some 0)⟩, ⟨8, 8, .ro, 0, (some 0)⟩, ⟨16, 1, .ro, 0, (some 0)⟩,
     ⟨17, 15, .rsv, 0, (some 0)⟩, ⟨32, 16, .ro, 0, (some 0)⟩, ⟨48, 16, .rsv, 0, (some 0)⟩]⟩,
  ⟨0x2, 1, 0x18, [],
    [⟨0, 20, .rw, 0, (some 0)⟩, ⟨20, 4, .rw, 0, (some 0)⟩, ⟨24, 1, .wo, 0, (some 0)⟩, ⟨25, 39, .rsv, 0, (some 0)⟩]⟩,
  ⟨0x2, 1, 0x100, [(0x8, 64)],
    [⟨0, 27, .rwl, 0, (some 0)⟩, ⟨27, 5, .rsv, 0, (some 0)⟩, ⟨32, 27, .rwl, 0, (some 0)⟩, ⟨59, 4, .rwl, 0, (some 0)⟩,
     ⟨63, 1, .rwl, 0, (some 0)⟩]⟩,
  ⟨0x2, 1, 0x400, [(0x20, 16), (0x8, 3)],
    [⟨0, 15, .rwl, 0, (some 0)⟩, ⟨15, 1, .rsv, 0, (some 0)⟩, ⟨16, 15, .rwl, 0, (some 0)⟩, ⟨31, 1, .rsv, 0, (some 0)⟩,
     ⟨32, 32, .rsv, 0, (some 0)⟩]⟩,
  ⟨0x2, 1, 0x1000, [(0x8, 256)],
    [⟨0, 16, .rwl, 0, (some 0)⟩, ⟨16, 16, .rwl, 0, (some 0)⟩, ⟨32, 16, .rwl, 0, (some 0)⟩, ⟨48, 16, .rwl, 0, (some 0)⟩]⟩]

/-- The register tables of KEYS. -/
def regsKeys : List RegRow := [
  ⟨0x12, 1, 0x0, [],
    [⟨0, 9, .ro, 0, (some 0)⟩, ⟨9, 7, .rsv, 0, (some 0)⟩, ⟨16, 9, .ro, 0, (some 0)⟩, ⟨25, 7, .rsv, 0, (some 0)⟩,
     ⟨32, 1, .ro, 0, (some 0)⟩, ⟨33, 1, .ro, 0, (some 0)⟩, ⟨34, 1, .ro, 0, (some 0)⟩, ⟨35, 29, .rsv, 0, (some 0)⟩]⟩]

/-- The register tables of DBG. -/
def regsDbg : List RegRow := [
  ⟨0x13, 1, 0x0, [],
    [⟨0, 1, .rw, 0, (some 0)⟩, ⟨1, 3, .rw, 0, (some 0)⟩, ⟨4, 1, .wo, 0, (some 0)⟩, ⟨5, 59, .rsv, 0, (some 0)⟩]⟩,
  ⟨0x13, 1, 0x8, [],
    [⟨0, 64, .ro, 0, (some 0)⟩]⟩,
  ⟨0x13, 1, 0x10, [],
    [⟨0, 48, .ro, 0, (some 0)⟩, ⟨48, 4, .ro, 0, (some 0)⟩, ⟨52, 1, .ro, 0, (some 0)⟩, ⟨53, 1, .ro, 0, (some 0)⟩,
     ⟨54, 1, .ro, 0, (some 0)⟩, ⟨55, 1, .ro, 0, (some 0)⟩, ⟨56, 8, .rsv, 0, (some 0)⟩]⟩,
  ⟨0x13, 1, 0x18, [],
    [⟨0, 64, .ro, 0, (some 0)⟩]⟩]

/-- The register tables of QMGR. -/
def regsQmgr : List RegRow := [
  ⟨0xb, 1, 0x1000, [(0x10, 256)],
    [⟨0, 32, .ro, 0, (some 0)⟩, ⟨32, 32, .ro, 0, (some 0)⟩]⟩,
  ⟨0xb, 1, 0x1008, [(0x10, 256)],
    [⟨0, 15, .ro, 0, none⟩, ⟨15, 1, .rsv, 0, (some 0)⟩, ⟨16, 4, .ro, 0, none⟩, ⟨20, 4, .rsv, 0, (some 0)⟩,
     ⟨24, 8, .rw, 0, (some 0)⟩, ⟨32, 1, .rw, 0, (some 0)⟩, ⟨33, 1, .ro, 0, (some 0)⟩, ⟨34, 1, .ro, 0, (some 0)⟩,
     ⟨35, 13, .rsv, 0, (some 0)⟩, ⟨48, 15, .ro, 0, (some 0)⟩, ⟨63, 1, .wo, 0, (some 0)⟩]⟩]

/-- The register tables of HOST. -/
def regsHost : List RegRow := [
  ⟨0xc, 1, 0x0, [],
    [⟨0, 1, .ro, 0, (some 0)⟩, ⟨1, 2, .ro, 0, (some 0)⟩, ⟨3, 3, .ro, 0, (some 0)⟩, ⟨6, 1, .ro, 0, (some 0)⟩,
     ⟨7, 1, .w1c, 0, (some 0)⟩, ⟨8, 8, .rsv, 0, (some 0)⟩, ⟨16, 16, .ro, 0, (some 0)⟩, ⟨32, 16, .ro, 0, (some 0)⟩,
     ⟨48, 15, .ro, 0, (some 0)⟩, ⟨63, 1, .wo, 0, (some 0)⟩]⟩,
  ⟨0xc, 1, 0x8, [],
    [⟨0, 1, .wo, 0, (some 0)⟩, ⟨1, 1, .ro, 0, (some 0)⟩, ⟨2, 62, .rsv, 0, (some 0)⟩]⟩,
  ⟨0xc, 1, 0x100, [(0x10, 8)],
    [⟨0, 48, .rwl, 0, (some 0)⟩, ⟨48, 4, .rwl, 0, (some 0)⟩, ⟨52, 11, .rsv, 0, (some 0)⟩, ⟨63, 1, .rwl, 0, (some 0)⟩]⟩,
  ⟨0xc, 1, 0x108, [(0x10, 8)],
    [⟨0, 22, .rwl, 0, (some 0)⟩, ⟨22, 42, .rsv, 0, (some 0)⟩]⟩]

/-- The register tables of SENS. -/
def regsSens : List RegRow := [
  ⟨0x11, 1, 0x0, [(0x8, 12)],
    [⟨0, 16, .ro, 0, (some 0)⟩, ⟨16, 16, .ro, 0, (some 0)⟩, ⟨32, 32, .rsv, 0, (some 0)⟩]⟩,
  ⟨0x11, 1, 0x100, [(0x8, 20)],
    [⟨0, 16, .ro, 0, (some 0)⟩, ⟨16, 16, .ro, 0, (some 0)⟩, ⟨32, 16, .ro, 0, (some 0)⟩, ⟨48, 16, .ro, 0, (some 0)⟩]⟩,
  ⟨0x11, 1, 0x200, [],
    [⟨0, 16, .ro, 0, (some 0)⟩, ⟨16, 16, .ro, 0, (some 0)⟩, ⟨32, 16, .ro, 0, (some 0)⟩, ⟨48, 16, .ro, 0, (some 0)⟩]⟩,
  ⟨0x11, 1, 0x208, [],
    [⟨0, 16, .bin, 0, (some 0)⟩, ⟨16, 16, .bin, 0, (some 0)⟩, ⟨32, 3, .bin, 0, (some 0)⟩, ⟨35, 1, .bin, 0, (some 0)⟩,
     ⟨36, 3, .bin, 0, (some 0)⟩, ⟨39, 1, .rsv, 0, (some 0)⟩, ⟨40, 8, .bin, 0, (some 0)⟩, ⟨48, 8, .bin, 0, (some 0)⟩,
     ⟨56, 8, .rsv, 0, (some 0)⟩]⟩]

/-- The register tables of LOGB. -/
def regsLogb : List RegRow := [
  ⟨0x10, 1, 0x0, [],
    [⟨0, 2, .ro, 0, (some 0)⟩, ⟨2, 6, .rsv, 0, (some 0)⟩, ⟨8, 4, .ro, 0, (some 0)⟩, ⟨12, 4, .rsv, 0, (some 0)⟩,
     ⟨16, 16, .ro, 0, (some 0)⟩, ⟨32, 16, .ro, 0, (some 0)⟩, ⟨48, 15, .ro, 0, (some 0)⟩, ⟨63, 1, .rsv, 0, (some 0)⟩]⟩,
  ⟨0x10, 1, 0x8, [],
    [⟨0, 64, .ro, 0, (some 0)⟩]⟩,
  ⟨0x10, 1, 0x10, [],
    [⟨0, 64, .ro, 0, (some 0)⟩]⟩,
  ⟨0x10, 1, 0x18, [],
    [⟨0, 11, .bin, 0, (some 0)⟩, ⟨11, 6, .bin, 0, (some 0)⟩, ⟨17, 47, .rsv, 0, (some 0)⟩]⟩]

/-- The register tables of FLD. -/
def regsFld : List RegRow := [
  ⟨0xf, 1, 0x0, [],
    [⟨0, 1, .ro, 0, (some 0)⟩, ⟨1, 1, .ro, 0, (some 0)⟩, ⟨2, 1, .ro, 0, (some 0)⟩, ⟨3, 1, .ro, 0, (some 0)⟩,
     ⟨4, 4, .ro, 0, (some 0)⟩, ⟨8, 8, .rsv, 0, (some 0)⟩, ⟨16, 16, .ro, 0, (some 0)⟩, ⟨32, 16, .ro, 0, (some 0)⟩,
     ⟨48, 15, .rsv, 0, (some 0)⟩, ⟨63, 1, .wo, 0, (some 0)⟩]⟩,
  ⟨0xf, 1, 0x100, [(0x8, 8)],
    [⟨0, 28, .ro, 0, (some 0)⟩, ⟨28, 1, .ro, 0, (some 0)⟩, ⟨29, 1, .ro, 0, (some 0)⟩, ⟨30, 1, .ro, 0, (some 0)⟩,
     ⟨31, 1, .ro, 0, (some 0)⟩, ⟨32, 32, .rsv, 0, (some 0)⟩]⟩,
  ⟨0xf, 1, 0x200, [(0x10, 4)],
    [⟨0, 28, .ro, 0, (some 0)⟩, ⟨28, 4, .rsv, 0, (some 0)⟩, ⟨32, 28, .ro, 0, (some 0)⟩, ⟨60, 4, .rsv, 0, (some 0)⟩]⟩,
  ⟨0xf, 1, 0x208, [(0x10, 4)],
    [⟨0, 1, .ro, 0, (some 0)⟩, ⟨1, 1, .ro, 0, (some 0)⟩, ⟨2, 1, .ro, 0, (some 0)⟩, ⟨3, 5, .rsv, 0, (some 0)⟩,
     ⟨8, 1, .w1c, 0, (some 0)⟩, ⟨9, 1, .w1c, 0, (some 0)⟩, ⟨10, 1, .w1c, 0, (some 0)⟩, ⟨11, 53, .rsv, 0, (some 0)⟩]⟩,
  ⟨0xf, 1, 0x300, [(0x8, 4)],
    [⟨0, 28, .bin, 0, (some 0)⟩, ⟨28, 4, .rsv, 0, (some 0)⟩, ⟨32, 28, .bin, 0, (some 0)⟩, ⟨60, 4, .rsv, 0, (some 0)⟩]⟩]

/-- The register tables of CANn. -/
def regsCann : List RegRow := [
  ⟨0xD, 2, 0x0, [],
    [⟨0, 3, .rw, 0, (some 0)⟩, ⟨3, 3, .rw, 0, (some 0)⟩, ⟨6, 1, .rw, 1, (some 1)⟩, ⟨7, 1, .rw, 1, (some 1)⟩,
     ⟨8, 11, .rw, 0x10, (some 0x10)⟩, ⟨19, 45, .rsv, 0, (some 0)⟩]⟩,
  ⟨0xD, 2, 0x8, [],
    [⟨0, 2, .ro, 0, (some 0)⟩, ⟨2, 2, .ro, 0, (some 0)⟩, ⟨4, 3, .ro, 0, (some 0)⟩, ⟨7, 1, .ro, 0, (some 0)⟩,
     ⟨8, 8, .ro, 0, (some 0)⟩, ⟨16, 8, .ro, 0, (some 0)⟩, ⟨24, 8, .rsv, 0, (some 0)⟩, ⟨32, 32, .ro, 0, (some 0)⟩]⟩,
  ⟨0xD, 2, 0x10, [],
    [⟨0, 16, .ro, 0, (some 0)⟩, ⟨16, 16, .ro, 0, (some 0)⟩, ⟨32, 16, .ro, 0, (some 0)⟩, ⟨48, 8, .ro, 0, (some 0)⟩,
     ⟨56, 7, .ro, 0, (some 0)⟩, ⟨63, 1, .wo, 0, (some 0)⟩]⟩,
  ⟨0xD, 2, 0x100, [(0x10, 64)],
    [⟨0, 29, .rw, 0, (some 0)⟩, ⟨29, 1, .rw, 0, (some 0)⟩, ⟨30, 2, .rw, 0, (some 0)⟩, ⟨32, 32, .rsv, 0, (some 0)⟩]⟩,
  ⟨0xD, 2, 0x108, [(0x10, 64)],
    [⟨0, 29, .rw, 0, (some 0)⟩, ⟨29, 35, .rsv, 0, (some 0)⟩]⟩,
  ⟨0xD, 2, 0x1000, [(0x50, 256)],
    [⟨0, 29, .rw, 0, (some 0)⟩, ⟨29, 1, .rw, 0, (some 0)⟩, ⟨30, 1, .rw, 0, (some 0)⟩, ⟨31, 1, .rw, 0, (some 0)⟩,
     ⟨32, 7, .rw, 0, (some 0)⟩, ⟨39, 1, .rw, 0, (some 0)⟩, ⟨40, 1, .rw, 0, (some 0)⟩, ⟨41, 23, .rsv, 0, (some 0)⟩]⟩,
  ⟨0xD, 2, 0x1008, [(0x50, 256)],
    [⟨0, 16, .rw, 0, (some 0)⟩, ⟨16, 1, .w1c, 0, (some 0)⟩, ⟨17, 15, .rsv, 0, (some 0)⟩, ⟨32, 32, .ro, 0, (some 0)⟩]⟩,
  ⟨0xD, 2, 0x1010, [(0x50, 256), (0x8, 8)], [⟨0, 64, .rw, 0, (some 0)⟩]⟩]

/-- The register tables of RSTC. -/
def regsRstc : List RegRow := [
  ⟨0x0, 1, 0x0, [],
    [⟨0, 1, .ro, 0, (some 0)⟩, ⟨1, 1, .ro, 0, (some 0)⟩, ⟨2, 1, .ro, 0, (some 0)⟩, ⟨3, 1, .ro, 0, (some 0)⟩,
     ⟨4, 1, .ro, 0, (some 0)⟩, ⟨5, 1, .ro, 0, (some 0)⟩, ⟨6, 1, .w1c, 0, (some 0)⟩, ⟨7, 1, .w1c, 0, (some 0)⟩,
     ⟨8, 3, .ro, 4, (some 3)⟩, ⟨11, 53, .rsv, 0, (some 0)⟩]⟩,
  ⟨0x0, 1, 0x8, [],
    [⟨0, 1, .wo, 0, (some 0)⟩, ⟨1, 1, .wo, 0, (some 0)⟩, ⟨2, 62, .rsv, 0, (some 0)⟩]⟩,
  ⟨0x0, 1, 0x10, [],
    [⟨0, 9, .rw, 0, (some 0)⟩, ⟨9, 1, .rsv, 0, (some 0)⟩, ⟨10, 10, .rw, 0, (some 0)⟩, ⟨20, 1, .rsv, 0, (some 0)⟩,
     ⟨21, 1, .rw, 0, (some 0)⟩, ⟨22, 42, .rsv, 0, (some 0)⟩]⟩,
  ⟨0x0, 1, 0x18, [],
    [⟨0, 22, .ro, 0, (some 0)⟩, ⟨22, 42, .rsv, 0, (some 0)⟩]⟩,
  ⟨0x0, 1, 0x20, [],
    [⟨0, 4, .ro, 0, none⟩, ⟨4, 1, .ro, 0, none⟩, ⟨5, 3, .rsv, 0, (some 0)⟩, ⟨8, 8, .ro, 0, none⟩,
     ⟨16, 48, .rsv, 0, (some 0)⟩]⟩,
  ⟨0x0, 1, 0x28, [],
    [⟨0, 1, .wo, 0, (some 0)⟩, ⟨1, 1, .ro, 0, (some 0)⟩, ⟨2, 62, .rsv, 0, (some 0)⟩]⟩,
  ⟨0x0, 1, 0x30, [],
    [⟨0, 9, .rw, 0, none⟩, ⟨9, 55, .rsv, 0, (some 0)⟩]⟩,
  ⟨0x0, 1, 0x100, [(0x8, 16)],
    [⟨0, 32, .rw, 0, none⟩, ⟨32, 32, .rsv, 0, (some 0)⟩]⟩]

/-- The addresses an index list reaches from `a`: strides with counts. -/
def indexAddrs : List (Nat × Nat) → Nat → List Nat
  | [], a => [a]
  | (st, n) :: ds, a => (List.range n).flatMap fun i => indexAddrs ds (a + i * st)

/-- The Cold word of a register table. -/
def coldWord (r : RegRow) : W64 :=
  BitVec.ofNat 64 (r.fields.foldl (fun w f => w + (f.cold % 2 ^ f.len) * 2 ^ f.lo) 0)

/-- Base entry of ring n (R485). -/
def ringBase (n : Nat) : Nat :=
  if n < 64 then n * 64 else if n < 128 then 4096 + (n - 64) * 256 else if n < 192 then 20480 + (n - 128) * 64
  else if n < 224 then 24576 + (n - 192) * 64 else if n < 240 then 26624 + (n - 224) * 128
  else 28672 + (n - 240) * 256

/-- LOG2SIZE of ring n (R485). -/
def ringLog (n : Nat) : Nat :=
  if n < 64 then 6 else if n < 128 then 8 else if n < 224 then 6 else if n < 240 then 7 else 8

/-- The Cold value of the register at an address: what the file reads where nothing is listed. Most registers are 0; QMGR_Qn_CFG
holds the BASE and LOG2SIZE of R485. -/
def regCold (a : Nat) : W64 :=
  if a = 0x301018 ∨ a = 0x301118 ∨ a = 0x301218 ∨ a = 0x301318 ∨ a = 0x301418 ∨ a = 0x301518 ∨ a = 0x301618 ∨ a = 0x301718 then 0xffffffff00000000 else
  if a = 0x280000 then 0x2 else
  if a = 0x50000 then 0x88b6 else
  if a = 0x50100 ∨ a = 0x50120 then 0x7fff8 else
  if a = 0x60000 then 0x488b5 else
  if a = 0x30000 then 0x2 else
  if a = 0x30108 ∨ a = 0x30128 ∨ a = 0x30148 ∨ a = 0x30168 then 0x400000000 else
  if a = 0x10008 then 0x3314 else
  if a = 0xd0000 ∨ a = 0xe0000 then 0x10c0 else
  if a = 0x0 then 0x400 else
  if 0xB1008 ≤ a ∧ a < 0xB2008 ∧ a % 0x10 = 8 then
    BitVec.ofNat 64 (ringBase ((a - 0xB1008) / 0x10) + ringLog ((a - 0xB1008) / 0x10) * 2 ^ 16)
  else 0

/-- Every register table of the manual. -/
def regTable : List RegRow :=
  regsDir ++ regsBook ++ regsLanen ++ regsForce ++ regsCmp ++ regsPair ++ regsStn ++ regsFab ++ regsTime ++ regsPortn ++ regsFcol ++ regsAcfg ++ regsKeys ++ regsDbg ++ regsQmgr ++ regsHost ++ regsSens ++ regsLogb ++ regsFld ++ regsCann ++ regsRstc

end Sys2Proof.Machine
end

