-- ==== Sys2Proof/Machine/State.lean ====
section
/-! DEFINITION. The state of the module as plain data: every register, memory, buffer, queue, latch, timer and pin the
manual gives it, the queue of waiting commands, and the outcomes of a step. Tables are sparse (`NMap`); memory lists bytes.
Registers live in one sparse file keyed by their address inside the slot region (R33). -/

namespace Sys2Proof.Machine

/-- The one fault the host interface asks a name for. No meaning of this model raises it: the manual gives every command an
effect or lets it leave the module as it is. Safe. -/
inductive Fault where
  /-- Raised by no command of this model. Safe. -/
  | stopped
  deriving DecidableEq, Repr

/-- The reasons a command has no meaning in the model. -/
inductive Refusal where
  /-- The command of this mnemonic is not modelled yet: raised by its arm in Dispatch. Safe: the model stops. -/
  | notModelled (mnemonic : String)
  deriving DecidableEq, Repr

/-! ### Lanes (R124, R142, R240 to R273) -/

/-- A Block Engine: X0 to X63, predicates (bit 0 is P0 and reads 1), Frame Cache words by cache word number, both Code
Store banks (key bank × 65,536 + word address), signature, words folded since the last close,
words folded after the W of a window whose close is due (R245), instructions issued, halt. -/
structure Engine where
  x : NMap W64
  p : BitVec 8
  fc : NMap W64
  code : NMap (BitVec 32)
  sig : W64
  folds : Nat
  extra : List W64
  issued : Nat
  halted : Bool
  deriving DecidableEq, Repr

/-- The scan in progress on a lane (R131): frame, grains, entry code word, bank, class, list position, next code word,
NCONN. -/
structure Scan where
  frame : Nat
  grains : Nat
  code : Nat
  bank : Nat
  cls : Nat
  pos : Nat
  pc : Nat
  nconn : Nat
  deriving DecidableEq, Repr

/-- A store in the store queue (R164): target signal, VALUE, STAMP, QUALITY, class of the work. -/
structure Store where
  sig : Nat
  value : W64
  stamp : Nat
  qual : Nat
  cls : Nat
  deriving DecidableEq, Repr

/-- A debugger action in the debug replay queue (R259). -/
inductive DbgAct where
  | halt
  | step
  | resume
  | setX (n : Nat) (v : W64)
  | setP (n : Nat) (b : Bool)
  | setWord (w : Nat) (v : W64)
  deriving DecidableEq, Repr

/-- A debug replay queue entry: the action and its retire point (R259). -/
structure DbgEntry where
  act : DbgAct
  at_ : Nat
  deriving DecidableEq, Repr

/-- An armed injection of the comparator test (R252): target (1 half H, 2 half L, 3 both), POL, BIT, windows waited. -/
structure Inj where
  target : Nat
  pol : Bool
  bit : Nat
  waited : Nat
  deriving DecidableEq, Repr

/-- One lane: main and checker engines, Frame Cache tags (grain + 1 by cache line), dirty lines, last use, record buffer,
store queue with the checker's own stores (R241), the scan in progress, next entry of each suspended or pending list, classes whose part
waits to run, stop after a fault, debug replay queue, injection armed, a failed step of the comparator test, the step in progress. A dirty
line holds its class + 1. -/
structure LaneSt where
  main : Engine
  chk : Engine
  tags : NMap Nat
  dirty : NMap Nat
  used : NMap Nat
  useCount : Nat
  recs : NMap (Option Rec)
  storeQ : List Store
  chkQ : List Store
  scan : Option Scan
  next : NMap Nat
  ready : Nat
  stopped : Bool
  dbgQ : List DbgEntry
  inj : Option Inj
  testBad : Bool
  testStep : Nat
  deriving DecidableEq, Repr

/-! ### Task classes (R85 to R123) -/

/-- What a class is doing: its mode in force (0 stopped, 1 running, 2 held, 3 stepping), the latest nominal start (TB2 ns)
and whether there has been one since the restart, the cycle in flight with its start, Wake number, completion and lanes still to complete,
crossing copy done with the records it copies as they were at the start (R69, R70), skips it caused, the publication due in the window, stop record state, hold timer, window statistics,
overrun event rate limit, cycle time of the latest start (µs of TB0), quads written since the last flips, frame grains
written back and Turn and force grains written for the cycle, grains to ship in the next Commit record with the contents Wake
staging preserves for it (R287, R292), its flags, quads that the back-fills in progress copy and the UNDER records of the signals
forced at the latest flip, Wake number and TB3 of the latest publication, Commit record due, latest Input record sent and not acknowledged, its Wake number and that of
the latest executed start's, TB2 stepped since the latest start (R91), Turn work done and its Turn number. -/
structure ClassSt where
  mode : Nat
  modeTo : Option Nat
  begun : Bool
  start : Nat
  inFlight : Bool
  cycStart : Nat
  cycWake : Nat
  cycTime : Nat
  flyTime : Nat
  crossDone : Bool
  crossSnap : List (Nat × Rec)
  parts : Nat
  complete : Bool
  completeAt : Nat
  cycSkips : Nat
  pubDone : Bool
  stopDue : Bool
  stopTime : Nat
  stopped : Bool
  holdFrom : Option Nat
  holdFired : Bool
  winPub : Bool
  winRun : Nat
  winOver : Bool
  winSlack : Nat
  ovrAt : Option Nat
  ovrSkips : Nat
  wrIn : NMap Bool
  wrOut : NMap Bool
  wrFrm : NMap Bool
  wrMisc : NMap Bool
  ship : NMap Bool
  shipOld : NMap (List W64)
  shipWake : Nat
  shipLate : Bool
  shipTurn : Bool
  shipSkipped : Bool
  backIn : List Nat
  backOut : List Nat
  underIn : List (Nat × Rec)
  underOut : List (Nat × Rec)
  pubWake : Nat
  pubAt3 : Option Nat
  commitDue : Bool
  inputDue : Bool
  inputWake : Nat
  execWake : Option Nat
  stepped : Bool
  turnDone : Bool
  turnWake : Nat
  deriving DecidableEq, Repr

/-! ### Books and Turns (R200 to R239) -/

/-- A Book slot beside its BOOK_SLOTS fields: image, last result code and detail word (R207), counts of untouched, touched,
new and removed instances (R211), own and partner results of a load in progress, whether the load waits for the partner's, the ring pair to answer. -/
structure BookSlot where
  img : Option Book
  result : Nat
  detail : W64
  counts : List Nat
  own : Option Nat
  partner : Option Nat
  both : Bool
  answer : Option Nat
  deriving DecidableEq, Repr

/-- The Turn in progress beside the BOOK_TURN fields (R213 to R218): target slot, not-before time, TB3 of acceptance,
arming of this module with its instant on TB2, arming of the partner, client. -/
structure TurnSt where
  target : Nat
  notBefore : Option Nat
  acceptedAt : Nat
  armedOwn : Bool
  armedAt : Nat
  armedPartner : Bool
  client : Nat
  deriving DecidableEq, Repr

/-- A row of the Binnacle's copy of the force table in MRAM (R118): entry, signal, its TYPE, quality, value, SINCE, client, SEQ. -/
structure ForceRow where
  idx : Nat
  sig : Nat
  typ : Nat
  qual : Nat
  value : W64
  since : Nat
  client : Nat
  seq : Nat
  deriving DecidableEq, Repr

/-- A command that waits for a class to apply it (R178, R68, R230, R296): class, effect instant in TB2 ns, the Wake at which a follower takes it to
apply, client, SEQ of its COMMAND record, whether its force is in the table already, its body. -/
structure PendApply where
  cls : Nat
  effect : Nat
  wake : Option Nat
  client : Nat
  seq : Nat
  done : Bool
  body : MirBody
  deriving DecidableEq, Repr

/-- BOOK: the two slots, the slot of the running Book, the Turn, the Book store of the Logbook flash, the image of the Book that the Retain map
record names (R80), the MRAM copy of the force table (R118), TB3 of the last write of each Retain slot (key byte offset) and of the latest
blanking of the whole store, the mode command that waits for its effect
instant, commands that wait for a class to apply them,
the slot that BOOK_SELECT names. -/
structure BookSt where
  slots : NMap BookSlot
  running : Option Nat
  turn : Option TurnSt
  store : NMap (Option Book)
  mapImg : Option Book
  forceCopy : List ForceRow
  retAt : NMap (Option Nat)
  retAllAt : Option Nat
  pendMode : Option ModeCmd
  pend : List PendApply
  select : Nat
  deriving DecidableEq, Repr

/-- A mirrored state-changing command (R295, R296): client, Tally, ring pair to answer (own acceptance), opcode, body, TB2
of acceptance, whether the effect instant is fixed, the effect instant in TB2 ns, TB3 of arrival, taken effect, SEQ of its COMMAND record, its parameter words. -/
structure MirCmd where
  client : Nat
  tally : Nat
  pair : Option Nat
  op : Nat
  body : MirBody
  accepted : Nat
  fixed : Bool
  effect : Nat
  arrival : Nat
  done : Bool
  logSeq : Nat
  params : List Nat
  deriving DecidableEq, Repr

/-! ### Events and faults (R424 to R436, R531) -/

/-- An event raised and not yet written to the event log (R531, R534): its code, the stamps taken when it was raised, and
its DATA bytes. -/
structure Event where
  code : Nat
  slot : Nat
  tb0Valid : Bool
  pstate : Nat
  tb3 : Nat
  tb0 : Nat
  watch : Nat
  data : List Byte
  deriving DecidableEq, Repr

/-- A fault report on its way to FCOL (R424 to R426): source ID, detail word, broken path. -/
structure Report where
  src : Nat
  detail : Nat
  broken : Bool
  deriving DecidableEq, Repr

/-! ### Mailboxes (R485 to R523) -/

/-- A response kept for repeats (R497). -/
structure Resp where
  op : Nat
  tally : Nat
  status : Nat
  detail : Nat
  result : List Byte
  deriving DecidableEq, Repr

/-- A command taken whose answer waits (R499, R634): opcode, Tally, length of the partner's part if its reply to a Query is due, the own part of
the result with its status and detail, TB3 at which it was taken. -/
structure Wait where
  op : Nat
  tally : Nat
  query : Option Nat
  status : Nat
  detail : Nat
  own : List Byte
  at3 : Nat
  deriving DecidableEq, Repr

/-- A ring pair (R495 to R501): binding, open session with client ID, granted level, NEXT, Idle Time in s, TB3 of the last
command, responses held for repeats (newest first), and the command taken that still waits for its answer. -/
structure Session where
  bound : Option Transport
  isOpen : Bool
  client : Nat
  level : Nat
  next : Nat
  idle : Nat
  lastRx : Nat
  hist : List Resp
  waiting : Option Wait
  deriving DecidableEq, Repr

/-- A ring binding (R506, R510): client, notification addresses, destination address and ring of a transmit ring, event
filter ranges, drops since the last EVENTS_LOST. -/
structure Binding where
  client : Nat
  notify : List Nat
  dest : Nat
  destRing : Nat
  filter : List (Nat × Nat)
  deriving DecidableEq, Repr

/-- A bulk transfer (R504, R505): ID, owning ring pair, TOTAL, chunks received (offset and bytes), TB3 of the last one. -/
structure Bulk where
  id : Nat
  pair : Nat
  total : Nat
  chunks : List (Nat × List Byte)
  lastRx : Nat
  deriving DecidableEq, Repr

/-- QMGR and HOST beside their registers: queue memory words (entry × 8 + word), sessions, bindings, drops per ring since
the last EVENTS_LOST, transfers, MSI-X masks, pending bits and last messages (TB3 µs), PCIe link-down instant. -/
structure MailSt where
  qmem : NMap W64
  sess : NMap Session
  binds : NMap (Option Binding)
  drops : NMap Nat
  bulk : List Bulk
  vecMask : NMap Bool
  vecAddr : NMap (W64 × W64)
  vecPend : NMap Bool
  vecLast : NMap (Option Nat)
  funMask : Bool
  downAt : Option Nat
  deriving DecidableEq, Repr

/-- The reply of the latest register or memory access to its master (R16, R19, R29, R34, R35): error and data. -/
structure BusReply where
  err : Bool
  data : W64
  deriving DecidableEq, Repr

/-! ### The pair (R274 to R322) -/

/-- An Input record held by the standby (R293): class, Wake number, nominal start and cycle time of that start, NOEXEC, grains. -/
structure HeldInput where
  cls : Nat
  wake : Nat
  start : Nat
  ctime : Nat
  noexec : Bool
  grains : List GrainEntry
  deriving DecidableEq, Repr

/-- Output frames that wait for acknowledgements (R289, R290): class, Wake number of the cycle and of the Input record that goes with it,
publication instant, what is acknowledged, frames. -/
structure WaitOut where
  cls : Nat
  wake : Nat
  inWake : Nat
  pubAt : Nat
  inputOk : Bool
  commitOk : Bool
  frames : List StnFrame
  deriving DecidableEq, Repr

/-- An orderly handover in progress (R307 to R309): source as PAIR_TAKE CAUSE, requested, ready received, H (TB2 ns) fixed,
AT notice acknowledged and its SEQ, not-before time; `newActive` on the side that takes the role. -/
structure Handover where
  cause : Nat
  phase : Nat
  hAt : Nat
  acked : Bool
  atSeq : Nat
  notBefore : Nat
  newActive : Bool
  deriving DecidableEq, Repr

/-- PAIR and what the Binnacle keeps for it beside the PAIR registers (R275 to R319): ALIVE_OUT, TB3 at the end of the start-up tests, the
stored Watch numbers, the one at which the active role was held, serial numbers, what the partner brings to an election, PAIR_LEVEL, LEAVE
received, partner lagging, its FAULT flag, end of the own FAULT flag, valid Status records in a row, own fence asserted (TB3), the role kept under
R283, classes whose catch-up recomputes published cycles, t_d (TB2), parts of Commit and Input records, previous Input grains by class, Input
records held and the front contents they replaced, latest Wake in a Relay record by class, mirrored commands, output frames that wait, orderly
handover, deferred one (cause, TB3), old active of a handover, start of the Reclaim count, Exercise count (TB3, times raised), sweep, pair
configuration copied, end of the announcements, Books equal, class C fault taken, ALIVE_OUT static, EJECT_N asserted, SEQ of the next record and
the records sent that are kept for a resend (SEQ, WATCH, record, newest first), the loss of the partner acted on, cause of the handover just given,
sweep that waits for the partner's Books, the new active of a handover taking the old one's last cycles, PAIR's step of the class D reaction done. -/
structure PairSt where
  txSeq : Nat
  sent : List (Nat × Nat × PairRec)
  lostSeen : Bool
  gaveCause : Option Nat
  sweepDue : Bool
  newActive : Bool
  lineSafe : Bool
  aliveOut : Bool
  testsDone : Option Nat
  storedWatch : Nat
  pStoredWatch : Nat
  heldWatch : Nat
  serial : Nat
  prefSerial : Nat
  elect : Option ElectInfo
  pairLevel : Nat
  leaveSeen : Bool
  lagging : Bool
  pFault : Bool
  faultUntil : Nat
  statusGood : Nat
  fenceOutAt : Option Nat
  fenceWin : Bool
  catchUp : Nat
  tdAt : Option Nat
  commitParts : NMap (List GrainEntry)
  inputParts : NMap (List GrainEntry)
  prevInput : NMap (List GrainEntry)
  held : List HeldInput
  undo : NMap (List GrainEntry)
  relayed : NMap Nat
  mirrors : List MirCmd
  waitOut : List WaitOut
  handover : Option Handover
  deferred : Option (Nat × Nat)
  oldActive : Bool
  reclaimFrom : Option Nat
  exerciseFrom : Option (Nat × Nat)
  sweepBegun : Bool
  sweepEnded : Bool
  sweepCommits : Nat
  cfgCopied : Bool
  announceUntil : Option Nat
  booksEqual : Bool
  unfit : Bool
  aliveStop : Bool
  eject : Bool
  deriving DecidableEq, Repr

/-! ### Station rings (R323 to R355) -/

/-- A sample being received from a station (R334): its TIME, segments accepted, values and qualities by position. -/
structure Sample where
  time : Nat
  nseg : Nat
  segs : Nat
  vals : NMap W64
  quals : NMap Nat
  safeHeld : Bool
  deriving DecidableEq, Repr

/-- A station beside its STN_STs words: its segments in the port buffer, TIME of the latest sample that matched no instant (R335), whether its sample was complete before the cutoff and at
which ends it was heard, the output cycle awaiting an ACK, UNDELIVERED_LAST, the latest status word. -/
structure StationSt where
  sample : Option Sample
  skewAt : Option Nat
  whole : Bool
  viaA : Bool
  viaB : Bool
  genOk : Bool
  awaiting : Option Nat
  undelLast : Bool
  statusWord : W64
  statusStamp : Nat
  deriving DecidableEq, Repr

/-- STN beside its registers: stations, sampling latches per ring (sampling instant on TB2, TB0 µs), capture left per ring,
SAFE frame set, transceivers fitted in P0 to P3 as identified (an unlisted port holds a suitable one), the Book whose stations it was
configured for last. -/
structure StnSt where
  st : NMap StationSt
  latch : NMap (List (Nat × Nat))
  capture : NMap Nat
  safeSet : List StnFrame
  sfp : NMap (Option Sfp)
  cfg : Option Book
  deriving DecidableEq, Repr

/-! ### Access protection, keys, debug gate (R451 to R484) -/

/-- A key slot (R470): filled, CRC failing, the public key of slots 0 and 4 to 8. The values of slots 0 to 3 are read by no one. -/
structure KeySlot where
  present : Bool
  fault : Bool
  pub : List W64
  deriving DecidableEq, Repr

/-- ACFG, KEYS and DBG beside their registers: grain colours that differ from the layout's (R452), the windows, tables and slot words in
force since the load, keys, identity certificate and whether it is that of the key in slot 0, the Opened marking and ZEROED in the key backing, TB3 of the challenge drawn and whether it
is still valid, settings for the next start-up, TB3 of each master's last ACCESS_VIOLATION, gate closing (R478), TAP
instruction (0 BYPASS, 1 IDCODE, 2 SAMPLE/PRELOAD, 3 EXTEST) and boundary cells. -/
structure AccSt where
  tags : NMap (Option Nat)
  force : NMap W64
  keys : NMap KeySlot
  cert : List W64
  certOk : Bool
  opened : Bool
  zeroed : Bool
  chalAt : Option Nat
  next : Option AccessCfg
  violAt : NMap (Option Nat)
  closing : Bool
  tap : Nat
  cells : List Bool
  deriving DecidableEq, Repr

/-! ### Time (R395 to R423) -/

/-- What a port knows in one PTP domain (R405, R406): the data set it last received in an Announce (compared as a sequence), whether it
is a slave, no Sync since it became one, its latest offset. -/
structure PtpPort where
  best : Option (List Nat)
  slave : Bool
  fresh : Bool
  off : Int
  deriving DecidableEq, Repr

/-- TIME and what the Binnacle keeps for it: settings of TIME_CONFIG, ports (key 2 × port + domain), consecutive intervals within 1 µs
per domain, TB3 at which TB0 entered HOLDOVER, PULSE trailing edges due, drivers enabled since the cold episode, pin levels held by
the latches with the instant the hold ends (R601), TB3 of the latest capture per input, partner's TIMEMASTER flag. -/
structure TimeSt where
  cfg : TimeCfg
  ports : NMap PtpPort
  locked : NMap Nat
  holdAt : Option Nat
  trail : NMap (Option Nat)
  driven : NMap Bool
  held : NMap (Option Bool)
  holdUntil : Nat
  tpiLast : NMap (Option Nat)
  pMaster : Bool
  deriving DecidableEq, Repr

/-! ### Logbook and bench replay (R542 to R557) -/

/-- A frozen window (R549): number, first SEQ, TB3 of its end. -/
structure LogWin where
  num : Nat
  first : Nat
  until3 : Nat
  deriving DecidableEq, Repr

/-- A checkpoint being taken (R547): K, read ended, W_cp by class. -/
structure Ckpt where
  k : Nat
  readDone : Bool
  wcp : NMap (Option Nat)
  deriving DecidableEq, Repr

/-- The replay of one class (R553 to R555): SEQ of the next record, state (0 running, 1 done, 2 diverged), cycles compared, Wake, lanes,
expected and computed HASH and grain of a divergence, GAP and RESTART records crossed. -/
structure ReplayCls where
  pos : Nat
  state : Nat
  compared : Nat
  wake : Nat
  lanes : Nat
  want : Nat
  got : Nat
  grain : Option Nat
  crossed : List Nat
  deriving DecidableEq, Repr

/-- A replay (R553): SEQ of its start checkpoint and of its end, CHECK. -/
structure Replay where
  start : Nat
  stop : Nat
  check : Bool
  cls : NMap ReplayCls
  deriving DecidableEq, Repr

/-- An export stream (R551): entries still to place in Q246, its client. -/
structure Export where
  entries : List (List W64)
  client : Nat
  deriving DecidableEq, Repr

/-- LOGB beside its registers: next SEQ, staged records with their bytes, the recording area (oldest first) with its bytes, dropping since staging
filled, reason of the loss, checkpoint due, checkpoint in progress, windows, SEQ of the latest COMMAND records of modes, imported stream, replay,
export, records lost at a reset with no GAP record yet. -/
structure LogSt where
  seq : Nat
  staged : List LogRec
  backlog : Nat
  flash : List LogRec
  used : Nat
  dropping : Bool
  ckptDue : Bool
  ckpt : Option Ckpt
  wins : List LogWin
  modeSeq : Nat
  imported : Bool
  replay : Option Replay
  export_ : Option Export
  gapDue : Bool
  deriving DecidableEq, Repr

/-! ### FCOL (R424 to R449) -/

/-- FCOL beside its registers: report count SEQ, TB3 of each class A source's latest history entry, LOCAL, the latest TB3 copy, the HANDOVER notice of a class C reaction (TB3, source), the report that started the class D reaction (TB3), TB3 of the first escalation of
the count, sources whose path failed the test, always-on clock out, for each source that reports each occurrence TB3 of its last report (R633). -/
structure FcolSt where
  seq : Nat
  aAt : NMap (Option Nat)
  local_ : Bool
  copy : Nat
  cAt : Option (Nat × Nat)
  dAt : Option Nat
  escFrom : Nat
  testFail : List Nat
  clkOut : Bool
  pulseAt : NMap (Option Nat)
  deriving DecidableEq, Repr


/-! ### Field island and cabinet bus (R558 to R592) -/

/-- An analogue output beside its FLD registers: command formed at the latest publication and the latest one from a usable record (nA), formed and
not applied yet, drive in twentieths of the latched command during a crossfade, latched command, measured trim currents, for each condition of R573
the instant since which it holds and the read-backs without it, stage at the end of its range, instant from which it is judged. -/
structure AoSt where
  cmd : Nat
  last : Nat
  due : Bool
  part : Nat
  latched : Nat
  m4 : Option Nat
  m20 : Option Nat
  since : NMap (Option Nat)
  miss : NMap Nat
  limit : Bool
  judgeFrom : Nat
  deriving DecidableEq, Repr

/-- An AI conversion (R565): end of its window on TB2 in ns and as a STAMP, current in nA, loop power stage at its limit. -/
structure AiConv where
  at2 : Nat
  stamp : Nat
  cur : Nat
  short : Bool
  deriving DecidableEq, Repr

/-- FLD beside its registers: outputs, the 64 latest conversions of each input (newest first), inputs in fault, consecutive valid link frames, TB2 of
the latest, crossfade (H, new active), trim drive (channel, nA, TB3 of its start), calibration area, TB3 at which held outputs open, island hold time
loaded (ns), first switch command due, switches that the island holds closed through a warm episode, analogue inputs whose loop power stage is on. -/
structure FldSt where
  ao : NMap AoSt
  conv : NMap (List AiConv)
  aiBad : NMap Bool
  good : Nat
  lastRx : Nat
  xfade : Option (Nat × Bool)
  trim : Option (Nat × Nat × Nat)
  trims : NMap (Nat × Nat)
  holdUntil : Option Nat
  hold : Nat
  firstDue : Bool
  heldSw : Nat
  loops : Nat
  deriving DecidableEq, Repr

/-- A frame in a CAN receive FIFO: the frame, its filter, TB0 of its end in ns (R590). -/
structure CanEntry where
  f : CanRx
  filter : Nat
  at0 : Nat
  deriving DecidableEq, Repr

/-- A CAN channel beside its registers: FIFOs, pending transmit objects, rate listened at while detecting and frames received at it, change of
NOMINAL or DATA that waits for bus idle, TB3 of the next WATCH frame, recovery started, kept listen-only until H + 100 µs, TB3 of the
latest CAN_FIFO_OVERFLOW by FIFO. -/
structure CanSt where
  fifo : NMap (List CanEntry)
  pend : List Nat
  probe : Nat
  streak : Nat
  nomDue : Bool
  dataDue : Bool
  watchAt : Nat
  recovering : Bool
  wait : Bool
  ovfAt : NMap (Option Nat)
  deriving DecidableEq, Repr

/-! ### The plant fabric (R356 to R394) -/

/-- An LSR held, with TB3 of its receipt. -/
structure LsrHeld where
  l : Lsr
  at3 : Nat
  deriving DecidableEq, Repr

/-- An entry of the route table (R374): egress port and cost toward slot A or the node, toward slot B, ACTIVE slot. -/
structure Route where
  a : Option (Nat × Nat)
  b : Option (Nat × Nat)
  active : Option Nat
  deriving DecidableEq, Repr

/-- An entry of the sounding forwarding table (R381): arrival port (0 at the publisher), egress ports, local delivery. -/
structure TreeEnt where
  arrive : Nat
  out : List Nat
  loc : Bool
  deriving DecidableEq, Repr

/-- A subscription (R382 to R384): WATCH, EPOCH and WAKE of the segments held, which have arrived, their records by position, a complete set that
waits for the flip, WATCH, EPOCH and WAKE of the last accepted set, its qualities by position and interval (µs), TB2 at which it was
written, level (0 as received, 1 STALE, 2 BAD), TB3 of the latest SOUNDING_MISMATCH. -/
structure SubSt where
  cur : Option (Nat × Nat × Nat)
  got : Nat
  recs : NMap (Option Rec)
  waits : Bool
  last : Option (Nat × Nat × Nat)
  quals : NMap Nat
  interval : Nat
  newInterval : Nat
  at2 : Option Nat
  level : Nat
  missAt : Option Nat
  deriving DecidableEq, Repr

/-- FAB beside its registers: the configuration the Binnacle keeps (pair number, costs), restart count EPOCH, SEQ and content of the latest own LSR
and TB3 of its origination, database by address, a change since the last computation with TB3 of the first, routes, sounding forwarding
entries (pair × 64 + index), highest WATCH seen by source address, subscriptions, WAKE of the latest publication of each sounding, TB3 of each
port's latest valid HELLO and link up, serial number of its neighbour, SAKs distributed, TB3 of the latest FAB_DB_FULL. -/
structure FabSt where
  cfg : Option FabricCfg
  epoch : Nat
  seq : Nat
  lastOrig : Nat
  db : NMap (Option LsrHeld)
  dirty : Option Nat
  routes : NMap Route
  trees : NMap (Option TreeEnt)
  hi : NMap Nat
  subs : NMap SubSt
  pubWake : NMap (Option Nat)
  helloAt : NMap Nat
  upAt : NMap Nat
  sak : NMap Nat
  fullAt : Option Nat
  deriving DecidableEq, Repr

/-! ### The Binnacle (R496, R502, R518, R524 to R541) -/

/-- A firmware image in its slot (R536): VERSION, SECVER, PAIR_LEVEL. -/
structure FwSlot where
  version : Nat
  secver : Nat
  pairLevel : Nat
  deriving DecidableEq, Repr

/-- The marking of a trial (R538): slot, started, passed. -/
structure Trial where
  slot : Nat
  started : Bool
  passed : Bool
  deriving DecidableEq, Repr

/-- What the Binnacle keeps beside the state of the blocks it serves: next event number, TB3 of the last watchdog service while the watchdog runs,
firmware slots, slot made permanent, slot that UPDATE_LOAD filled last, slot running (none: the recovery image or no firmware), marking of a trial in the backup registers
and in the boot record, rollback counter, the recovery image runs, TB3 of the release of I9, VERSION of the partner, settings of MODULE_CONFIG,
PAIR_CONFIG, LOG_CONFIG, CAN_CONFIG and CAN_OBJECT (key 256 × channel + object), coating of the module (R4), time of exposure of the corrosion films in ms with the losses (silver, copper) at each change, newest first, the content of SENS_CORR (R530), feeds below 17 V at
the latest measurement, first measurement done since the reset, code and TB3 of the event on the front display, drops at each event queue since the last
EVENTS_LOST. -/
structure BinSt where
  evSeq : Nat
  wdog : Option Nat
  fw : NMap (Option FwSlot)
  perm : Nat
  loaded : Option Nat
  runs : Option Nat
  trialBkp : Option Trial
  trialRec : Option Trial
  rollback : Nat
  recovery : Bool
  releasedAt : Nat
  pVersion : Option Nat
  modCfg : ModuleCfg
  pairCfg : PairCfg
  logCfg : LogCfg
  canCfg : NMap (Option CanCfg)
  canObj : NMap (Option CanObjCfg)
  g3 : Bool
  exposed : Nat
  films : List (Nat × Nat × Nat)
  corr : W64
  feedLow : Nat
  sensed : Bool
  shown : Option (Nat × Nat)
  deriving DecidableEq, Repr

/-! ### RSTC (R593 to R614) -/

/-- RSTC beside its registers: sources asserted (0 power-on, 1 carrier, 2 watchdog, 3 escalation, 4 software warm, 5 software cold, 6 debug), the
module episode in progress (true: cold reach), islands held by a module source, strap decoded since the last cold assertion, islands whose
clock is out of tolerance. -/
structure RstSt where
  on : List Nat
  episode : Option Bool
  held : List Nat
  strapDone : Bool
  clockBad : List Nat
  deriving DecidableEq, Repr

/-- The state of the module. -/
structure State where
  /-- Commands that wait, first in first out. -/
  pending : List Instr
  /-- The model's own counter behind the free values of Config. -/
  free : Nat
  /-- Reply of the latest register or memory access to its master. -/
  bus : BusReply
  /-- What the module has sent or driven, oldest first. -/
  out : List Output
  /-- The register file, keyed by the address inside the slot region; an unlisted register holds its Cold value. After the power-on reset RSTC_CAUSE shows POR (R612), and the strap reads code 8 (R603, R604; DESIGN CHOICE, assumption 4). -/
  regs : NMap W64
  /-- Signal SRAM, MRAM and DRAM bytes. -/
  mem : List Host.Cell
  /-- TB0 to TB3 as ns × 2^32 plus the fraction (R395). -/
  tbs : NMap Nat
  /-- LANE0 to LANE7. -/
  lanes : NMap LaneSt
  /-- TC0 to TC7. -/
  classes : NMap ClassSt
  /-- PAGE_OUT flips and the origination of OUTPUT frames stopped by the class C reaction (R431). -/
  flipStop : Bool
  /-- Books, Turn, Book store. -/
  book : BookSt
  /-- Events raised and not yet written, oldest first. -/
  events : List Event
  /-- Fault reports that FCOL has not taken, oldest first. -/
  reports : List Report
  /-- Queue memory, sessions, bindings, transfers, MSI-X. -/
  mail : MailSt
  /-- PAIR beside its registers. -/
  pair : PairSt
  /-- STN beside its registers. -/
  stn : StnSt
  /-- ACFG, KEYS and DBG beside their registers. -/
  acc : AccSt
  /-- TIME and PTP beside their registers. -/
  time : TimeSt
  /-- LOGB beside its registers. -/
  log : LogSt
  /-- FCOL beside its registers. -/
  fcol : FcolSt
  /-- FLD beside its registers. -/
  field : FldSt
  /-- CAN0 and CAN1 beside their registers. -/
  can : NMap CanSt
  /-- FAB beside its registers. -/
  fab : FabSt
  /-- What the Binnacle keeps beside the blocks it serves. -/
  bin : BinSt
  /-- RSTC beside its registers. -/
  rst : RstSt
  deriving DecidableEq, Repr

/-- An engine after reset. Its Code Store and registers list nothing. -/
def Engine.init : Engine := ⟨[], 1, [], [], 0, 0, [], 0, false⟩

/-- A lane after reset: idle. -/
def LaneSt.init : LaneSt := ⟨Engine.init, Engine.init, [], [], [], 0, [], [], [], none, [], 0, false, [], none, false, 0⟩

/-- A class before its first start. -/
def ClassSt.init : ClassSt where
  mode := 0
  modeTo := none
  begun := false
  start := 0
  inFlight := false
  cycStart := 0
  cycWake := 0
  cycTime := 0
  flyTime := 0
  crossDone := false
  crossSnap := []
  parts := 0
  complete := false
  completeAt := 0
  cycSkips := 0
  pubDone := true
  stopDue := false
  stopTime := 0
  stopped := false
  holdFrom := none
  holdFired := false
  winPub := false
  winRun := 0
  winOver := false
  winSlack := 0
  ovrAt := none
  ovrSkips := 0
  wrIn := []
  wrOut := []
  wrFrm := []
  wrMisc := []
  ship := []
  shipOld := []
  shipWake := 0
  shipLate := false
  shipTurn := false
  shipSkipped := false
  backIn := []
  backOut := []
  underIn := []
  underOut := []
  pubWake := 0
  pubAt3 := none
  commitDue := false
  inputDue := false
  inputWake := 0
  execWake := none
  stepped := false
  turnDone := false
  turnWake := 0

/-- An empty Book slot. -/
def BookSlot.init : BookSlot := ⟨none, 0, 0, [], none, none, false, none⟩

/-- A free ring pair. -/
def Session.init : Session := ⟨none, false, 0, 0, 0, 0, 0, [], none⟩

/-- A station nothing has been heard from. -/
def StationSt.init : StationSt := ⟨none, none, false, false, false, false, none, false, 0, 0⟩

/-- The pair state after reset. The stored Watch numbers, the serial number and the Preferred serial number are items of
MRAM the manual gives no reset value for (DESIGN CHOICE, assumption 4). -/
def PairSt.init : PairSt where
  txSeq := 0
  sent := []
  lostSeen := true
  gaveCause := none
  sweepDue := false
  newActive := false
  lineSafe := false
  aliveOut := false
  testsDone := none
  storedWatch := 0
  pStoredWatch := 0
  heldWatch := 0
  serial := 1
  prefSerial := 0
  elect := none
  pairLevel := 1
  leaveSeen := false
  lagging := false
  pFault := false
  faultUntil := 0
  statusGood := 0
  fenceOutAt := none
  fenceWin := false
  catchUp := 0
  tdAt := none
  commitParts := []
  inputParts := []
  prevInput := []
  held := []
  undo := []
  relayed := []
  mirrors := []
  waitOut := []
  handover := none
  deferred := none
  oldActive := false
  reclaimFrom := none
  exerciseFrom := none
  sweepBegun := false
  sweepEnded := false
  sweepCommits := 0
  cfgCopied := false
  announceUntil := none
  booksEqual := false
  unfit := false
  aliveStop := true
  eject := false


/-- An empty key slot. -/
def KeySlot.init : KeySlot := ⟨false, false, []⟩

/-- Access protection after power-on of a module that holds no key: MRAM items without a reset value of their own (DESIGN CHOICE, assumption 4). -/
def AccSt.init : AccSt := ⟨[], [], [], [], false, false, false, none, none, [], false, 1, []⟩

/-- A port that has received no Announce. -/
def PtpPort.init : PtpPort := ⟨none, false, false, 0⟩

/-- TIME_CONFIG at its defaults (R400, R405). -/
def timeCfgInit : TimeCfg := ⟨0, 1, 20, [], 250, 128, true, 10⟩

/-- TIME after reset. -/
def TimeSt.init : TimeSt := ⟨timeCfgInit, [], [], none, [], [], [], 0, [], false⟩

/-- LOGB with an empty recording area. -/
def LogSt.init : LogSt := ⟨0, [], 0, [], 0, false, false, none, [], 0, false, none, none, false⟩

/-- The replay of a class at its start. -/
def ReplayCls.init : ReplayCls := ⟨0, 0, 0, 0, 0, 0, 0, none, []⟩

/-- FCOL after a cold reset. -/
def FcolSt.init : FcolSt := ⟨0, [], false, 0, none, none, 0, [], false, []⟩

/-- An analogue output after reset: no command formed. -/
def AoSt.init : AoSt := ⟨0, 0, false, 20, 0, none, none, [], [], false, 0⟩

/-- The trim values of a channel that the factory has not adjusted (R571; DESIGN CHOICE, assumption 4). -/
def trimNominal : Nat × Nat := (4000000, 20000000)

/-- FLD after a cold reset. -/
def FldSt.init : FldSt := ⟨[], [], [], 0, 0, none, none, [], none, 0, false, 0, 0⟩

/-- A CAN channel after reset. -/
def CanSt.init : CanSt := ⟨[], [], 1, 0, false, false, 0, false, false, []⟩

/-- A subscription before any segment. -/
def SubSt.init : SubSt := ⟨none, 0, [], false, none, [], 0, 0, none, 0, none⟩

/-- A route to nowhere. -/
def Route.none_ : Route := ⟨none, none, none⟩

/-- FAB after a cold reset. -/
def FabSt.init : FabSt := ⟨none, 0, 0, 0, [], none, [], [], [], [], [], [], [], [], none⟩

/-- The Binnacle of a module as delivered: firmware in slot A, nothing else set (R496, R502, R529; DESIGN CHOICE, assumption 4). -/
def BinSt.init : BinSt where
  evSeq := 0
  wdog := none
  fw := [(0, some ⟨0x01000000, 1, 1⟩)]
  perm := 0
  loaded := none
  runs := none
  trialBkp := none
  trialRec := none
  rollback := 0
  recovery := false
  releasedAt := 0
  pVersion := none
  modCfg := ModuleCfg.init
  pairCfg := ⟨0, 200, 10, true, 30, 120, 0⟩
  logCfg := ⟨10, 10⟩
  canCfg := []
  canObj := []
  g3 := false
  exposed := 0
  films := []
  corr := 0x64642000000000#64
  feedLow := 0
  sensed := false
  shown := none

/-- RSTC once every island is released. -/
def RstSt.init : RstSt := ⟨[], none, [], true, []⟩

/-- The module right after power-on reset: every register at its Cold value, every memory as `memDefault` reads, the
queue empty (R21, R594, R596, R602). -/
def State.reset : State where
  pending := []
  free := 0
  bus := ⟨false, 0⟩
  out := []
  regs := [(0x0, 0x401#64), (0x20, 0x8018#64)]
  mem := []
  tbs := []
  lanes := []
  classes := []
  flipStop := false
  book := ⟨[], none, none, [], none, [], [], none, none, [], 0⟩
  events := []
  reports := []
  mail := ⟨[], [], [], [], [], [], [], [], [], false, none⟩
  pair := PairSt.init
  stn := ⟨[], [], [], [], [], none⟩
  acc := AccSt.init
  time := TimeSt.init
  log := LogSt.init
  fcol := FcolSt.init
  field := FldSt.init
  can := []
  fab := FabSt.init
  bin := BinSt.init
  rst := RstSt.init

end Sys2Proof.Machine
end

