-- ==== Sys2Proof/Machine/Ops.lean ====
section
/-! DEFINITION. The named operations over registers, memory, time, events and fault reports that every meaning is written
with. -/

namespace Sys2Proof.Machine

/-! ### Registers (R14, R16) -/

/-- The word of the register at an address of the slot region. -/
def State.reg (s : State) (a : Nat) : W64 := mget (regCold a) s.regs a

/-- The state with a register word. -/
def State.setReg (s : State) (a : Nat) (w : W64) : State := { s with regs := mput (regCold a) s.regs a w }

/-- A field of a word. -/
def getBits (w : W64) (lo len : Nat) : Nat := w.toNat / 2 ^ lo % 2 ^ len

/-- The word with a field replaced. -/
def putBits (w : W64) (lo len v : Nat) : W64 :=
  BitVec.ofNat 64 (w.toNat - getBits w lo len * 2 ^ lo + v % 2 ^ len * 2 ^ lo)

/-- The value of a register field. -/
def State.fld (s : State) (f : Fld) : Nat := getBits (s.reg f.addr) f.lo f.len

/-- The state with a register field set, modulo its width. -/
def State.setFld (s : State) (f : Fld) (v : Nat) : State := s.setReg f.addr (putBits (s.reg f.addr) f.lo f.len v)

/-- A one-bit field. -/
def State.flag (s : State) (f : Fld) : Bool := s.fld f != 0

/-- The state with a one-bit field set or cleared. -/
def State.setFlag (s : State) (f : Fld) (b : Bool) : State := s.setFld f (if b then 1 else 0)

/-- A counter field that counts `n` more and saturates. -/
def State.addSat (s : State) (f : Fld) (n : Nat) : State := s.setFld f (min (s.fld f + n) (2 ^ f.len - 1))

/-- A counter field that counts one more and saturates. -/
def State.incSat (s : State) (f : Fld) : State := s.addSat f 1

/-- A counter field that counts one more modulo its width. -/
def State.incMod (s : State) (f : Fld) : State := s.setFld f (s.fld f + 1)

/-- Bit `i` of a mask field. -/
def State.bit (s : State) (f : Fld) (i : Nat) : Bool := (s.fld f).testBit i

/-- The state with bit `i` of a mask field set or cleared. -/
def State.setBit (s : State) (f : Fld) (i : Nat) (b : Bool) : State :=
  let v := s.fld f
  s.setFld f (if v.testBit i == b then v else if b then v + 2 ^ i else v - 2 ^ i)

/-! ### Numbers -/

/-- The low `n` bytes of a number, little-endian (R15). -/
def leBytes : Nat → Nat → List Byte
  | 0, _ => []
  | n + 1, v => BitVec.ofNat 8 v :: leBytes n (v / 256)

/-- The number that bytes spell, little-endian (R15). -/
def ofLe : List Byte → Nat
  | [] => 0
  | b :: bs => b.toNat + 256 * ofLe bs

/-- `⌈a / b⌉`. -/
def ceilDiv (a b : Nat) : Nat := (a + b - 1) / b

/-- Modulo-2^32 difference of two counts (R486). -/
def sub32 (a b : Nat) : Nat := (a + 2 ^ 32 - b % 2 ^ 32) % 2 ^ 32

/-! ### Checks -/

/-- One byte into a reflected CRC. -/
def crcRefl (poly : Nat) (c : Nat) : Nat → Nat
  | 0 => c
  | k + 1 => crcRefl poly (if c % 2 = 1 then (c / 2) ^^^ poly else c / 2) k

/-- CRC-32C of a byte string. -/
def crc32c (bs : List Byte) : Nat :=
  (bs.foldl (fun c b => crcRefl 0x82F63B78 (c ^^^ b.toNat) 8) 0xFFFFFFFF) ^^^ 0xFFFFFFFF

/-- One byte into a most-significant-first CRC of `w` bits. -/
def crcMsb (w poly : Nat) (c : Nat) : Nat → Nat
  | 0 => c
  | k + 1 =>
    crcMsb w poly (if c / 2 ^ (w - 1) % 2 = 1 then (c * 2 % 2 ^ w) ^^^ poly else c * 2 % 2 ^ w) k

/-- CRC-16/IBM-3740 of a byte string. -/
def crc16 (bs : List Byte) : Nat :=
  bs.foldl (fun c b => crcMsb 16 0x1021 (c ^^^ (b.toNat * 2 ^ 8)) 8) 0xFFFF

/-- CRC-64/ECMA-182 of a byte string. -/
def crc64 (bs : List Byte) : Nat :=
  bs.foldl (fun c b => crcMsb 64 0x42F0E1EBA9EA3693 (c ^^^ (b.toNat * 2 ^ 56)) 8) 0

/-! ### Memory (R33, R37, R38) -/

/-- CRC-32C over 28 zero bytes: the CHECK of an unused directory entry (R52). -/
def emptyCheck : Nat := 0xF7C9C769

/-- What a byte of memory that nothing has written reads as: an unused directory entry with its CHECK in the directory
region, a blank signal slot (R82) in the Retain store, zero elsewhere (DESIGN CHOICE, assumption 2). -/
def memDefault (a : Nat) : Byte :=
  if a < 0x800000 ∧ 28 ≤ a % 32 then BitVec.ofNat 8 (emptyCheck / 256 ^ (a % 32 - 28))
  else if 0x800000000 ≤ a ∧ a < 0x800080000 ∧ a % 16 = 14 then 0xFF
  else 0

/-- A byte of memory. -/
def State.byte (s : State) (a : Nat) : Byte := mget (memDefault a) s.mem a

/-- The state with a byte of memory. -/
def State.setByte (s : State) (a : Nat) (b : Byte) : State := { s with mem := mput (memDefault a) s.mem a b }

/-- `n` bytes of memory from `a`. -/
def State.bytes (s : State) : Nat → Nat → List Byte
  | 0, _ => []
  | n + 1, a => s.byte a :: s.bytes n (a + 1)

/-- The state with bytes written from `a`. -/
def State.setBytes (s : State) (a : Nat) : List Byte → State
  | [] => s
  | b :: bs => (s.setByte a b).setBytes (a + 1) bs

/-- A little-endian number of `n` bytes at `a` (R15). -/
def State.readN (s : State) (n a : Nat) : Nat := ofLe (s.bytes n a)

/-- The state with a little-endian number of `n` bytes at `a`. -/
def State.writeN (s : State) (n a v : Nat) : State := s.setBytes a (leBytes n v)

/-- A 64-bit word at `a`. -/
def State.rd64 (s : State) (a : Nat) : W64 := BitVec.ofNat 64 (s.readN 8 a)

/-- The state with a 64-bit word at `a`. -/
def State.wr64 (s : State) (a : Nat) (w : W64) : State := s.writeN 8 a w.toNat

/-- The eight words of the grain at `a`. -/
def State.grain (s : State) (a : Nat) : List W64 := (List.range 8).map fun i => s.rd64 (a + 8 * i)

/-- The state with words written from `a`, eight bytes apart. -/
def State.setWords (s : State) (a : Nat) : List W64 → State
  | [] => s
  | w :: ws => (s.wr64 a w).setWords (a + 8) ws

/-- The state with the bytes of a range as memory that nothing has written. -/
def State.clearRange (s : State) (a b : Nat) : State := { s with mem := s.mem.filter fun e => decide (e.1 < a) || decide (b ≤ e.1) }

/-! ### Time bases (R395) -/

/-- Base k as ns × 2^32 plus its fraction. -/
def State.tbFix (s : State) (k : Nat) : Nat := mget 0 s.tbs k

/-- The integer nanoseconds of base k. -/
def State.tb (s : State) (k : Nat) : Nat := s.tbFix k / 2 ^ 32

/-- The state with base k at a fixed-point count, modulo 2^96. -/
def State.setTbFix (s : State) (k v : Nat) : State := { s with tbs := mput 0 s.tbs k (v % 2 ^ 96) }

/-- The increment of base k in 2^-32 ns (R396). -/
def State.tbInc (s : State) (k : Nat) : Nat := s.fld (R.timeTbIncInc k)

/-- Every base advanced by `n` I16 clocks (R395). -/
def State.ticks (s : State) (n : Nat) : State :=
  let add := fun (s : State) k => s.setTbFix k (s.tbFix k + n * s.tbInc k)
  add (add (add (add s 0) 1) 2) 3

/-- I16 clocks until base k reaches `t` ns: 0 when it has (DESIGN CHOICE, assumption 6). -/
def State.clocksTo (s : State) (k t : Nat) : Nat :=
  if s.tbInc k = 0 then 0 else ceilDiv (t * 2 ^ 32 - s.tbFix k) (s.tbInc k)

/-- Time runs until TB2 reaches `t` ns (DESIGN CHOICE, assumption 6). -/
def State.to2 (s : State) (t : Nat) : State := s.ticks (s.clocksTo 2 t)

/-- Time runs until TB3 reaches `t` ns (DESIGN CHOICE, assumption 6). -/
def State.to3 (s : State) (t : Nat) : State := s.ticks (s.clocksTo 3 t)

/-- TB0 in microseconds modulo 2^48: the form of STAMP (R46). -/
def State.stampNow (s : State) : Nat := s.tb 0 / 1000 % 2 ^ 48

/-- The base tick at or after `t`: a multiple of 500 µs of TB2 (R107). -/
def tickAtOrAfter (t : Nat) : Nat := ceilDiv t 500000 * 500000

/-! ### Events, reports, outputs, replies -/

/-- Sends or drives something outside. -/
def State.emit (s : State) (o : Output) : State := { s with out := s.out ++ [o] }

/-- The state with the pair's own state changed. -/
def State.modPair (s : State) (f : PairSt → PairSt) : State := { s with pair := f s.pair }

/-- Wake, Relay and Forward records: those that stop with PAIR's step of the class D reaction (R432). -/
def linkStops : PairRec → Bool
  | .relay .. => true
  | .forward .. => true
  | .input .. => true
  | .commit .. => true
  | _ => false

/-- A record sent on the pair link under the next SEQ, and kept for a resend until its SEQ comes again (R284, R285). -/
def State.linkSend (s : State) (r : PairRec) : State :=
  if s.pair.lineSafe && linkStops r then s
  else
    let q := s.pair.txSeq
    let w := s.fld R.pairWatchWatch
    { s with out := s.out ++ [.link q w r],
             pair := { s.pair with txSeq := (q + 1) % 65536, sent := ((q, w, r) :: s.pair.sent).take 65535 } }

/-- The parts of a list of entries: at most 910 entries of 72 bytes each, what LEN admits; the last part carries END (R284, R287). -/
def linkParts : Nat → List GrainEntry → List (Bool × List GrainEntry)
  | 0, es => [(true, es)]
  | n + 1, es => if es.length ≤ 910 then [(true, es)] else (false, es.take 910) :: linkParts n (es.drop 910)

/-- A record of grain entries sent in the parts it takes (R287). -/
def State.linkSends (s : State) (es : List GrainEntry) (f : Bool → List GrainEntry → PairRec) : State :=
  (linkParts (es.length / 910) es).foldl (fun s p => s.linkSend (f p.1 p.2)) s

/-- Sends a list of outputs in order. -/
def State.emits (s : State) (os : List Output) : State := { s with out := s.out ++ os }

/-- The holdoff of a vector in ns (R508). -/
def State.vecHoldoff (s : State) (v : Nat) : Nat := if v < 256 then s.fld (R.qmgrQCfgHoldoff v) * 1000 else 100000

/-- The holdoff of a vector has ended, and MASK of its queue is 0 (R508). -/
def State.vecClear (s : State) (v : Nat) : Bool :=
  !(decide (v < 256) && s.flag (R.qmgrQCfgMask v)) &&
    (match mget none s.mail.vecLast v with | none => true | some t => decide (t + s.vecHoldoff v ≤ s.tb 3))

/-- A vector may be sent: the link is up, MSI-X enabled, neither function nor vector masked, the holdoff ended (R508). A table entry that the
host has not written is masked (PRESUMED, assumption 19). -/
def State.vecReady (s : State) (v : Nat) : Bool :=
  s.flag R.hostStatusLinkup && s.flag R.hostStatusMsixEn && !s.mail.funMask && !mget true s.mail.vecMask v && s.vecClear v

/-- The pending bit of a vector. -/
def State.setPend (s : State) (v : Nat) (b : Bool) : State := { s with mail := { s.mail with vecPend := mput false s.mail.vecPend v b } }

/-- A cause of a vector: its message now, or its pending bit (R508). -/
def State.vecPost (s : State) (v : Nat) : State :=
  if s.vecReady v then
    let s := { s with mail := { s.mail with vecLast := mput none s.mail.vecLast v (some (s.tb 3)) } }
    (s.setPend v false).emit (.msix v)
  else s.setPend v true

/-- The function vector of an event (R507). -/
def eventVec (code : Nat) : Option Nat :=
  if code = 0x800 then some 256 else if code = 0x702 ∨ code = 0x703 then some 258 else if code = 0x008 then some 261
  else if 0xC00 ≤ code ∧ code ≤ 0xC04 then some 259 else none

/-- Raises an event: the stamps of R531 are taken now, DATA is padded with zeros to 32 bytes (R532); the function vector it is a cause of
(R507). -/
def State.raise (s : State) (code : Nat) (data : List Byte) : State :=
  let s := match eventVec code with
    | some v => s.vecPost v
    | none => s
  { s with events := s.events ++ [{ code := code, slot := s.fld R.pairStateSlot, tb0Valid := s.flag R.timeStatusTb0Valid,
                                    pstate := s.fld R.pairStateState, tb3 := s.tb 3, tb0 := s.tb 0,
                                    watch := s.fld R.pairWatchWatch,
                                    data := (data ++ List.replicate 32 0).take 32 }] }

/-- Puts a fault report on its way to FCOL (R424, R426). -/
def State.report (s : State) (src detail : Nat) : State := { s with reports := s.reports ++ [⟨src, detail, false⟩] }

/-- The reply of an access to its master. -/
def State.reply (s : State) (err : Bool) (data : W64) : State := { s with bus := ⟨err, data⟩ }

/-- A use of the free-value counter. -/
def State.nextFree (s : State) : State := { s with free := s.free + 1 }

/-- RATE and BACKLOG follow the records (R556). -/
def State.logRate (s : State) : State :=
  let recent := fun (l : List LogRec) => (l.filter fun r => decide (s.tb 3 < r.at3 + 10000000000)).foldl (fun n r => n + r.len) 0
  let s := s.setFld R.logbStatusRate (min 0xFFFF ((recent s.log.staged + recent s.log.flash) / 10000))
  s.setFld R.logbStatusBacklog (s.log.backlog / 2 ^ 20)

/-- A Logbook record staged while LOGB records (R543, R544, R548); dropped while staging is full. -/
def State.logPut (s : State) (typ flags cls wake : Nat) (body : List Nat) (gs : List GrainEntry) (image : List Host.Cell)
    (whole : Nat) : State :=
  if s.fld R.logbStatusState ≠ 1 then s
  else
    let len := 32 + 8 * body.length + 72 * gs.length + whole
    if s.log.dropping ∨ 3 * 2 ^ 30 < s.log.backlog + len then { s with log := { s.log with dropping := true } }
    else
      let r : LogRec := ⟨s.log.seq, typ, flags, cls, wake, len, s.tb 3, s.tb 0, body, gs, image, none⟩
      let g := { s.log with seq := s.log.seq + 1, staged := s.log.staged ++ [r], backlog := s.log.backlog + len }
      ({ s with log := g }).logRate

/-- A Logbook record of a type with its FLAGS, CLASS, WAKE and body (R545). -/
def State.logRec (s : State) (typ flags cls wake : Nat) (body : List Nat) : State := s.logPut typ flags cls wake body [] [] 0

/-- A 48-byte identity as 8-byte words. -/
def idWords (n : Nat) : List Nat := (List.range 6).map fun i => n / 2 ^ (64 * i) % 2 ^ 64

/-! ### Rings of the queue memory (R485 to R489) -/

/-- SIZE of a ring. -/
def State.qSize (s : State) (q : Nat) : Nat := 2 ^ s.fld (R.qmgrQCfgLog2size q)

/-- Unread entries of a ring, PI − CI (R486). -/
def State.qUsed (s : State) (q : Nat) : Nat := sub32 (s.fld (R.qmgrQIdxPi q)) (s.fld (R.qmgrQIdxCi q))

/-- Free entries of a ring. -/
def State.qFree (s : State) (q : Nat) : Nat := s.qSize q - s.qUsed q

/-- Queue memory word `w` of entry count `i` of a ring (R485, R486). -/
def State.qKey (s : State) (q i w : Nat) : Nat := (s.fld (R.qmgrQCfgBase q) + i % s.qSize q) * 8 + w

/-- FULL of a ring follows its indices. -/
def State.qFullFlag (s : State) (q : Nat) : State := s.setFlag (R.qmgrQCfgFull q) (s.qUsed q == s.qSize q)

/-- The words of one entry at count `i`. -/
def State.qWrite (s : State) (q i : Nat) (ws : List W64) : State :=
  { s with mail := { s.mail with qmem := (List.range 8).foldl (fun m w => mput 0 m (s.qKey q i w) (ws.getD w 0)) s.mail.qmem } }

/-- The transport of the session that holds a client ID. -/
def State.clientVia (s : State) (client : Nat) : Option Transport :=
  (s.mail.sess.find? fun e => e.2.isOpen && e.2.client == client).bind (·.2.bound)

/-- The binding of a ring (R506). -/
def State.bindOf (s : State) (q : Nat) : Option Binding := mget none s.mail.binds q

/-- The transport that a ring is bound to: its pair's for Q0 to Q63, its bound client's for the rest (R495, R506). -/
def State.viaOf (s : State) (q : Nat) : Option Transport :=
  if q < 64 then (mget Session.init s.mail.sess (q / 2)).bound else (s.bindOf q).bind fun b => s.clientVia b.client

/-- The message of a ring whose producer or consumer index has advanced: its MSI-X vector, or the EVENT payload at each notification
address; response rings are not notified outside PCIe (R508, R509). -/
def State.qNotify (s : State) (q : Nat) : State :=
  match s.viaOf q with
  | none => s
  | some .pcie => s.vecPost q
  | some _ =>
    if q < 64 then s
    else if s.vecClear q then
      let s := { s with mail := { s.mail with vecLast := mput none s.mail.vecLast q (some (s.tb 3)) } }
      let s := s.setPend q false
      s.emits (((s.bindOf q).elim [] (·.notify)).map fun a => .eventTo a q)
    else s.setPend q true

/-- One entry written by its producer, or dropped and counted in LOST when the ring is full (R487, R489). -/
def State.qPut (s : State) (q : Nat) (ws : List W64) : State :=
  if s.qFree q = 0 then s.incSat (R.qmgrQCfgLost q)
  else (((s.qWrite q (s.fld (R.qmgrQIdxPi q)) ws).incMod (R.qmgrQIdxPi q)).qFullFlag q).qNotify q

/-- An entry between a block and the Binnacle, posted and taken at once (R352). -/
def State.qPass (s : State) (q : Nat) (ws : List W64) : State :=
  let s := s.qPut q ws
  (s.setFld (R.qmgrQIdxCi q) (s.fld (R.qmgrQIdxPi q))).qFullFlag q

/-- Bytes packed into words of 8, the last padded with zeros. -/
def packWords : Nat → List Byte → List W64
  | 0, _ => []
  | n + 1, bs => if bs.isEmpty then [] else BitVec.ofNat 64 (ofLe (bs.take 8)) :: packWords n (bs.drop 8)

/-- The 64-byte entries that hold a byte string. -/
def packEntries : Nat → List W64 → List (List W64)
  | 0, _ => []
  | n + 1, ws => if ws.isEmpty then [] else ws.take 8 :: packEntries n (ws.drop 8)

/-- Byte strings as 64-byte entries. -/
def toEntries (bs : List Byte) : List (List W64) := packEntries bs.length (packWords bs.length bs)

/-- A number of `n` bytes in network order. -/
def beBytes (n v : Nat) : List Byte := (leBytes n v).reverse

/-! ### Slots and modes -/

/-- The pair states as PAIR_STATE STATE codes them (R320). -/
def psStart : Nat := 0
@[inherit_doc psStart] def psActive : Nat := 1
@[inherit_doc psStart] def psStandby : Nat := 2
@[inherit_doc psStart] def psSyncing : Nat := 3
@[inherit_doc psStart] def psDetached : Nat := 4
@[inherit_doc psStart] def psSolo : Nat := 5
@[inherit_doc psStart] def psSafe : Nat := 6

/-- PAIR_STATE STATE. -/
def State.pstate (s : State) : Nat := s.fld R.pairStateState

/-- The module holds the active role. -/
def State.isActive (s : State) : Bool := s.pstate == psActive || s.pstate == psSolo

/-- The module applies the Wake: STANDBY or SYNCING. -/
def State.isFollower (s : State) : Bool := s.pstate == psStandby || s.pstate == psSyncing

/-- The partner's state as the active counts it for R289, R295 and R307: SYNCING once declared lagging (R291), absent when
the link is lost. -/
def State.partner (s : State) : Nat :=
  if ¬ s.flag R.pairLinkUp then psDetached
  else if s.pair.lagging ∧ s.fld R.pairStatePstate = psStandby then psSyncing
  else s.fld R.pairStatePstate

/-- The partner takes part in mirroring: STANDBY or SYNCING with the link up, or the new active of a handover for the last cycles of this
module (R295, R308). -/
def State.mirrored (s : State) : Bool :=
  s.flag R.pairLinkUp && (s.partner == psStandby || s.partner == psSyncing || s.pair.oldActive)

end Sys2Proof.Machine
end

