-- ==== Sys2Proof/Machine/BookImage.lean ====
section
/-! DEFINITION. The bytes of a Book image (R200 to R203), of an unlock token (R475) and of a firmware image (R536): header fields, section
table, section CRCs, signature and identity. -/

namespace Sys2Proof

open Sys2Proof.Machine

/-- Words as bytes, little-endian (R15). -/
def wordBytes (ws : List W64) : List Byte := ws.flatMap fun w => leBytes 8 w.toNat

/-- A public key as twelve words, zeros where a slot holds none. -/
def pubBytes (ws : List W64) : List Byte := wordBytes ((List.range 12).map fun i => ws.getD i 0)

/-- A little-endian field of a byte string. -/
def leAt (bs : List Byte) (off n : Nat) : Nat := ofLe ((bs.drop off).take n)

/-- Bytes `off` to `off + n` are zero. -/
def zerosAt (bs : List Byte) (off n : Nat) : Bool := ((bs.drop off).take n).all (· == 0)

/-! ### The header of a Book (R200) -/

/-- The header's ENCRYPTED flag. -/
def Book.encrypted (b : Book) : Bool := leAt b.image 6 1 % 2 == 1

/-- PROGRAM_ID. -/
def Book.programId (b : Book) : Nat := leAt b.image 8 8

/-- REVISION. -/
def Book.revision (b : Book) : Nat := leAt b.image 16 4

/-- IMAGE_LEN. -/
def Book.len (b : Book) : Nat := leAt b.image 20 4

/-- RMAP_ID. -/
def Book.rmapId (b : Book) : Nat := leAt b.image 24 8

/-- SECTIONS. -/
def Book.sections (b : Book) : Nat := leAt b.image 32 2

/-- KEY_INDEX. -/
def Book.keyIndex (b : Book) : Nat := leAt b.image 34 1

/-- BUILD_TIME, for display only. -/
def Book.buildTime (b : Book) : Nat := leAt b.image 40 8

/-- The identity of a Book: SHA-384 of its whole image (R203). -/
def Book.identity (b : Book) : Nat := sha384 b.image

/-! ### The section table (R201) -/

/-- An entry of the section table. -/
structure SectionRow where
  typ : Nat
  rsv : Nat
  off : Nat
  len : Nat
  crc : Nat
  deriving DecidableEq, Repr

/-- Entry `i` of the section table. -/
def Book.sectionRow (b : Book) (i : Nat) : SectionRow :=
  let o := 128 + 16 * i
  ⟨leAt b.image o 2, leAt b.image (o + 2) 2, leAt b.image (o + 4) 4, leAt b.image (o + 8) 4, leAt b.image (o + 12) 4⟩

/-- The offset in the image of the first bad field of an entry: TYPE, reserved, OFFSET or LENGTH outside the image. -/
def Book.sectionBad (b : Book) (i : Nat) : Option Nat :=
  let r := b.sectionRow i
  let o := 128 + 16 * i
  if r.typ = 0 ∨ 12 < r.typ then some o
  else if r.rsv ≠ 0 then some (o + 2)
  else if b.image.length < r.off then some (o + 4)
  else if b.image.length < r.off + r.len then some (o + 8)
  else none

/-- The byte offset of the first bad field, `none` for a well-formed header and section table (R200, R201, R203, R207). A TYPE that R201
does not list, and an IMAGE_LEN that is not the length of the image, are bad (DESIGN CHOICE, assumption 13). -/
def Book.formatBad (b : Book) : Option Nat :=
  let im := b.image
  if leAt im 0 4 ≠ 0x4B424348 then some 0
  else if leAt im 4 2 ≠ 1 then some 4
  else if 1 < leAt im 6 2 then some 6
  else if b.len ≠ im.length ∨ 64 * 2 ^ 20 < b.len then some 20
  else if b.sections = 0 ∨ 64 < b.sections ∨ im.length < 128 + 16 * b.sections + 96 then some 32
  else if ¬ zerosAt im 35 5 then some 35
  else if ¬ zerosAt im 48 80 then some 48
  else (List.range b.sections).findSome? fun i => b.sectionBad i

/-- The TYPE of the first section whose CRC-32C fails: over the bytes of the image, for an encrypted Book over what decryption gives (R201,
R203). -/
def Book.sectionFails (b : Book) : Option Nat :=
  if b.encrypted then b.plainBad
  else ((List.range b.sections).find? fun i =>
    let r := b.sectionRow i
    crc32c ((b.image.drop r.off).take r.len) != r.crc).map fun i => (b.sectionRow i).typ

/-! ### The unlock token (R475) -/

/-- KEYSEL. -/
def Token.keysel (t : Token) : Nat := leAt t.bytes 6 1

/-- SCOPE. -/
def Token.scope (t : Token) : Nat := leAt t.bytes 7 1

/-- SERIAL. -/
def Token.serial (t : Token) : Nat := leAt t.bytes 8 8

/-- CHALLENGE. -/
def Token.challenge (t : Token) : W64 := BitVec.ofNat 64 (leAt t.bytes 16 8)

/-- NOT_AFTER. -/
def Token.notAfter (t : Token) : Nat := leAt t.bytes 24 8

/-- MAGIC, FORMAT and the reserved fields are right. -/
def Token.formOk (t : Token) : Bool :=
  t.bytes.length == 160 && leAt t.bytes 0 4 == 0x4B444447 && leAt t.bytes 4 2 == 1 && decide (t.scope < 8) && zerosAt t.bytes 32 32

/-! ### The firmware image (R536) -/

/-- PAIR_LEVEL. -/
def FwImage.pairLevel (f : FwImage) : Nat := leAt f.head 6 2

/-- VERSION. -/
def FwImage.version (f : FwImage) : Nat := leAt f.head 8 4

/-- SECVER. -/
def FwImage.secver (f : FwImage) : Nat := leAt f.head 12 1

/-- The header is as R536 lays it out, for an image of `len` bytes. -/
def FwImage.headerOk (f : FwImage) : Bool :=
  f.head.length == 64 && leAt f.head 0 4 == 0x4B465743 && leAt f.head 4 2 == 1 && f.secver != 0 && zerosAt f.head 13 3 &&
    leAt f.head 16 4 == f.len && decide (f.len ≤ 256 * 2 ^ 20) && zerosAt f.head 20 44

/-- The CRC of a chunk is that of its data (R504). -/
def Chunk.crcOk (c : Chunk) : Bool := crc32c c.data == c.crc

end Sys2Proof
end

