-- ==== Sys2Proof/Machine/Images.lean ====
section
/-! DEFINITION. Signals, the directory and the two image buffers (R44 to R84). -/

namespace Sys2Proof.Machine

/-! ### Event codes (R533) -/

def evProgramRestarted : Nat := 0x0000
def evClassOverrun : Nat := 0x0001
def evClassStalled : Nat := 0x0002
def evHoldExpired : Nat := 0x0003
def evRetainInvalid : Nat := 0x0004
def evFrameIndex : Nat := 0x0005
def evLaneBarred : Nat := 0x0006
def evLaneFailed : Nat := 0x0007
def evModeApplied : Nat := 0x0008
def evEventsLost : Nat := 0x0009
def evMailboxFault : Nat := 0x000A
def evAccessViolation : Nat := 0x000B
def evKeyZeroiseFail : Nat := 0x000C
def evDebugOpened : Nat := 0x000D
def evKeysCommitted : Nat := 0x000E
def evSensorFilmSpent : Nat := 0x000F
def evBookTurned : Nat := 0x0200
def evBookTurnAbandoned : Nat := 0x0201
def evForceReleased : Nat := 0x0300
def evPairLinkDown : Nat := 0x0400
def evSynced : Nat := 0x0401
def evPartnerLost : Nat := 0x0402
def evDetached : Nat := 0x0403
def evWakeLag : Nat := 0x0404
def evFenced : Nat := 0x0405
def evWatchYield : Nat := 0x0406
def evPairUnfit : Nat := 0x0407
def evWatchExhausted : Nat := 0x0408
def evCommandCompleted : Nat := 0x0409
def evHandoverDeferred : Nat := 0x040A
def evEjectUnsafe : Nat := 0x040B
def evTakeoverNotBumpless : Nat := 0x040C
def evReclaim : Nat := 0x040D
def evExerciseDue : Nat := 0x040E
def evRoleChanged : Nat := 0x040F
def evStationLost : Nat := 0x0500
def evStationReturned : Nat := 0x0501
def evStationJoined : Nat := 0x0502
def evStationRejoined : Nat := 0x0503
def evStationReleased : Nat := 0x0504
def evRingBroken : Nat := 0x0505
def evRingClosed : Nat := 0x0506
def evRingRate : Nat := 0x0507
def evFabAdjUp : Nat := 0x0600
def evFabAdjDown : Nat := 0x0601
def evFabAddrConflict : Nat := 0x0602
def evFabDbFull : Nat := 0x0603
def evFabUnreachable : Nat := 0x0604
def evFabTreeFull : Nat := 0x0605
def evFabMacsecFail : Nat := 0x0606
def evSoundingMismatch : Nat := 0x0607
def evSoundingLost : Nat := 0x0608
def evTimeLocked : Nat := 0x0700
def evTimeHoldover : Nat := 0x0701
def evTimeStepped : Nat := 0x0702
def evTimeMasterChanged : Nat := 0x0703
def evTb2Blocked : Nat := 0x0704
def evFaultReported : Nat := 0x0800
def evEscalationBlocked : Nat := 0x0801
def evLogFrozen : Nat := 0x0900
def evLogFreezeRefused : Nat := 0x0901
def evLogGap : Nat := 0x0902
def evLogExported : Nat := 0x0903
def evReplayDone : Nat := 0x0904
def evReplayDiverged : Nat := 0x0905
def evUpdateLoaded : Nat := 0x0C00
def evUpdateRefused : Nat := 0x0C01
def evUpdateTrial : Nat := 0x0C02
def evUpdateCommitted : Nat := 0x0C03
def evUpdateRolledBack : Nat := 0x0C04

/-! ### Values (R44, R45, R158) -/

/-- The canonical NaN (R158). -/
def canonNaN : W64 := 0x7FF8000000000000

/-- A binary64 encoding of a NaN: exponent 7FFh and a nonzero fraction (R158). -/
def isNaN (w : W64) : Bool := w.toNat / 2 ^ 52 % 2048 == 2047 && w.toNat % 2 ^ 52 != 0

/-- The canonical form of a value of a type code (R44, R45). -/
def canonical (typ : Nat) (w : W64) : W64 :=
  if typ = 1 then (if w = 0 then 0 else 1)
  else if typ = 2 then (w.setWidth 32).signExtend 64
  else if typ = 4 then (if isNaN w then canonNaN else w)
  else w

/-- A quality a writer writes: a code above 04h is written as 00h (R47, R164, R335). -/
def writtenQual (q : Nat) : Nat := if q ≤ 4 then q else 0

/-- The record of all zeros (R48). -/
def recZero : Rec := ⟨0, 0, 0, 0⟩

/-! ### The directory (R52, R54) -/

/-- Address of a signal's directory entry (R52). -/
def dirAddr (sig : Nat) : Nat := sig * 0x20

/-- The 28 bytes of a directory entry before its CHECK (R52). -/
def dirBytes (e : DirEntry) : List Byte :=
  leBytes 1 e.typ ++ leBytes 1 e.bind ++
  leBytes 1 (e.cls % 8 + 8 * (e.kind % 2) + (if e.retain then 16 else 0) + (if e.crossing then 32 else 0)) ++
  leBytes 1 (e.owner % 16) ++ leBytes 8 e.init.toNat ++ leBytes 8 e.stop.toNat ++
  leBytes 4 (e.unit % 256 + 256 * (e.pos % 65536)) ++ leBytes 4 (e.retslot % 16384)

/-- The directory entry of a signal as memory holds it. -/
def State.dirEntry (s : State) (sig : Nat) : DirEntry :=
  let a := dirAddr sig
  let c := (s.byte (a + 2)).toNat
  { typ := (s.byte a).toNat, bind := (s.byte (a + 1)).toNat, cls := c % 8, kind := c / 8 % 2,
    retain := c.testBit 4, crossing := c.testBit 5, owner := (s.byte (a + 3)).toNat % 16,
    init := s.rd64 (a + 4), stop := s.rd64 (a + 12), unit := (s.byte (a + 20)).toNat,
    pos := s.readN 2 (a + 21), retslot := s.readN 4 (a + 24) % 16384 }

/-- DIR's test of an entry's CHECK (R54). -/
def State.dirOk (s : State) (sig : Nat) : Bool :=
  s.readN 4 (dirAddr sig + 28) == crc32c (s.bytes 28 (dirAddr sig))

/-- BOOK writes a directory entry with its CHECK. -/
def State.setDir (s : State) (sig : Nat) (e : DirEntry) : State :=
  (s.setBytes (dirAddr sig) (dirBytes e)).writeN 4 (dirAddr sig + 28) (crc32c (dirBytes e))

/-- The entry of an unused signal: TYPE 0, every byte zero. -/
def dirUnused : DirEntry := ⟨0, 0, 0, 0, false, false, 0, 0, 0, 0, 0, 0⟩

/-! ### Records in the two buffers (R55, R57, R58) -/

/-- Address of a signal's record in buffer b (R55). -/
def recAddr (b : Bool) (sig : Nat) : Nat := 0x800000 + (if b then 0x400000 else 0) + sig * 0x10

/-- A record at an address (R46). -/
def State.recAt (s : State) (a : Nat) : Rec :=
  ⟨s.rd64 a, s.readN 6 (a + 8), (s.byte (a + 14)).toNat, (s.byte (a + 15)).toNat⟩

/-- The bytes of a record (R46). -/
def recBytes (r : Rec) : List Byte :=
  leBytes 8 r.value.toNat ++ leBytes 6 r.stamp ++ leBytes 1 r.qual ++ leBytes 1 r.flags

/-- The state with a record at an address. -/
def State.setRec (s : State) (a : Nat) (r : Rec) : State := s.setBytes a (recBytes r)

/-- The front buffer of a class and kind (R57): PAGE_IN for KIND 1, PAGE_OUT for KIND 0. -/
def State.front (s : State) (cls kind : Nat) : Bool :=
  if kind = 1 then s.bit R.dirPagePageIn cls else s.bit R.dirPagePageOut cls

/-- The front record of a signal (R58). -/
def State.frontRec (s : State) (sig : Nat) : Rec :=
  let e := s.dirEntry sig
  s.recAt (recAddr (s.front e.cls e.kind) sig)

/-- DIR's test of the entry at a read of its signal's record: a mismatch is reported (R54, source 1Bh). -/
def State.dirRead (s : State) (sig : Nat) : State := if s.dirOk sig then s else (s.report 0x1B sig).nextFree.nextFree

/-- What a read of a signal's record gives: the front record; where DIR refuses the access (R54), a value no rule states (assumption 5). -/
def State.readRec (s : State) (sig : Nat) : Rec :=
  if s.dirOk sig then s.frontRec sig
  else
    let w := Config.freeWord s.free
    ⟨Config.freeWord (s.free + 1), getBits w 0 48, getBits w 48 3, 0⟩

/-- The class state. -/
def State.cls (s : State) (c : Nat) : ClassSt := mget ClassSt.init s.classes c

/-- The state with a class changed. -/
def State.modCls (s : State) (c : Nat) (f : ClassSt → ClassSt) : State :=
  { s with classes := mmod ClassSt.init s.classes c f }

/-- Marks the record of a signal as written since the last flip of its class and kind (R61, R62). -/
def State.markWritten (s : State) (cls kind sig : Nat) : State :=
  s.modCls cls fun k =>
    if kind = 1 then { k with wrIn := mput false k.wrIn sig true }
    else { k with wrOut := mput false k.wrOut sig true }

/-- FLAGS of a written record: CHANGED when VALUE or QUALITY differs from what readers see (R51); a writer's own write leaves
RETAINED and FORCED clear. -/
def changedFlag (new seen : Rec) : Nat := if new.value ≠ seen.value ∨ new.qual ≠ seen.qual then 4 else 0

/-- A record into the back buffer of its signal, CHANGED under R51, without an owner check (R58, R62). -/
def State.writeBack (s : State) (sig : Nat) (value : W64) (stamp qual : Nat) : State :=
  let e := s.dirEntry sig
  let f := s.front e.cls e.kind
  let r : Rec := ⟨value, stamp % 2 ^ 48, qual, 0⟩
  let r := { r with flags := changedFlag r (s.recAt (recAddr f sig)) }
  (s.setRec (recAddr (!f) sig) r).markWritten e.cls e.kind sig

/-- Latches an owner fault in DIR_OWNFLT and reports it (R66, R83, source 1Ch). -/
def State.ownerFault (s : State) (sig master cls : Nat) : State :=
  let s := if s.flag R.dirOwnfltValid then s.incSat R.dirOwnfltCount
    else ((((s.setFld R.dirOwnfltSignal sig).setFld R.dirOwnfltMaster master).setFld R.dirOwnfltClass
      (if master < 8 then cls else 0)).setFlag R.dirOwnfltValid true).setFld R.dirOwnfltCount 1
  s.report 0x1C sig

/-- The lane a lane's work counts as for the owner check: the failed lane's while its lists are spared (R67). -/
def State.asOwner (s : State) (master : Nat) : Nat :=
  if s.flag R.cmpStatusSparing ∧ s.bit R.cmpStatusSpare master ∧ master < 8 then s.fld R.cmpStatusSpared else master

/-- What DIR finds of a write to a signal's record (R54, R65, R66). -/
inductive OwnerCheck where
  | ok | directory | owner
  deriving DecidableEq, Repr

/-- DIR's check of a write by a master, running work of a class where it is a lane (R54, R65 to R67). -/
def State.ownerCheck (s : State) (sig master cls : Nat) : OwnerCheck :=
  let e := s.dirEntry sig
  if ¬ s.dirOk sig then .directory
  else if e.typ = 0 then .owner
  else if e.owner = master ∨ (master < 8 ∧ e.owner = s.asOwner master) then
    (if master < 8 ∧ e.cls ≠ cls then .owner else .ok)
  else .owner

/-- A checked write of a signal record into the back buffer by a master (R45, R51, R58, R65, R66). -/
def State.ownedWrite (s : State) (master cls sig : Nat) (value : W64) (stamp qual : Nat) : State :=
  match s.ownerCheck sig master cls with
  | .ok => (s.writeBack sig (canonical (s.dirEntry sig).typ value) stamp (writtenQual qual)).reply false 0
  | .directory => (s.report 0x1B sig).reply true 0
  | .owner => (s.ownerFault sig master cls).reply true 0

/-- Only the quality of the record in the back buffer, VALUE and STAMP kept, CHANGED under R51 (R337, R384). -/
def State.qualityWrite (s : State) (master cls sig qual : Nat) : State :=
  let e := s.dirEntry sig
  let back := s.recAt (recAddr (!s.front e.cls e.kind) sig)
  s.ownedWrite master cls sig back.value back.stamp qual

/-! ### Flips and back-fill (R59 to R62) -/

/-- The records of a quad copied from one buffer to the other with CHANGED clear; a forced record is replaced by its UNDER
record, which `under` finds (R61, R228), and a record written since the flip stays (R62). -/
def State.copyQuad (s : State) (src dst : Bool) (skip : Nat → Bool) (under : Nat → Option Rec) (q : Nat) : State :=
  (List.range 4).foldl (fun s i =>
    let sig := q * 4 + i
    if skip sig then s
    else
      let r := (under sig).getD (s.recAt (recAddr src sig))
      s.setRec (recAddr dst sig) { r with flags := r.flags - (if r.flags.testBit 2 then 4 else 0) }) s

/-- The keys of a written set. -/
def keysOf (m : NMap Bool) : List Nat := m.map (·.1)

/-- The quads of a set of signals, rising, each once. -/
def quadsOf (m : NMap Bool) : List Nat := ((keysOf m).map (· / 4)).eraseDups

end Sys2Proof.Machine
end

