-- ==== Sys2Proof/Machine/Float.lean ====
section
/-! DEFINITION. Binary64 arithmetic as R157 to R161 fix it: round to nearest, ties to even, subnormals kept, one canonical NaN, and
correctly rounded elementary functions. Operands are decoded to exact dyadic numbers, results rounded once at the end. -/

namespace Sys2Proof.Machine

/-! ### Decoding and rounding -/

def fNeg (w : W64) : Bool := w.toNat / 2 ^ 63 == 1
def fExp (w : W64) : Nat := w.toNat / 2 ^ 52 % 2048
def fFrac (w : W64) : Nat := w.toNat % 2 ^ 52
def isInf (w : W64) : Bool := fExp w == 2047 && fFrac w == 0
def isZero (w : W64) : Bool := w.toNat % 2 ^ 63 == 0

/-- A finite number's magnitude is `fMant w × 2 ^ fLsb w`. -/
def fMant (w : W64) : Nat := if fExp w = 0 then fFrac w else fFrac w + 2 ^ 52

@[inherit_doc fMant]
def fLsb (w : W64) : Int := if fExp w = 0 then -1074 else (fExp w : Int) - 1075

/-- The exact value of a finite number is `sMant w × 2 ^ fLsb w`. -/
def sMant (w : W64) : Int := if fNeg w then -(fMant w : Int) else fMant w

def fInf (neg : Bool) : W64 := if neg then 0xFFF0000000000000 else 0x7FF0000000000000
def fZero (neg : Bool) : W64 := if neg then 0x8000000000000000 else 0
def fOne : W64 := 0x3FF0000000000000

/-- Number of bits of a number. -/
def bitLen (n : Nat) : Nat := if n = 0 then 0 else n.log2 + 1

/-- Shifts right and rounds to nearest, ties to even; `sticky` says that more lies below. -/
def shrRne (m sh : Nat) (sticky : Bool) : Nat :=
  if sh = 0 then m
  else
    let q := m / 2 ^ sh
    let r := m % 2 ^ sh
    let half := 2 ^ (sh - 1)
    if r > half ∨ (r = half ∧ (sticky ∨ q % 2 = 1)) then q + 1 else q

/-- The binary64 number nearest `±(m + sticky fraction) × 2 ^ e` (R157). With `sticky`, `m` holds at least 55 bits. -/
def roundPack (neg : Bool) (m : Nat) (e : Int) (sticky : Bool) : W64 :=
  if m = 0 then fZero neg
  else
    let eL := max (e + bitLen m - 53) (-1074)
    let q := if eL ≤ e then m * 2 ^ (e - eL).toNat else shrRne m (eL - e).toNat sticky
    let (q, eL) := if q = 2 ^ 53 then (2 ^ 52, eL + 1) else (q, eL)
    let sgn := if neg then 2 ^ 63 else 0
    if q < 2 ^ 52 then BitVec.ofNat 64 (sgn + q)
    else
      let b := (eL + 1075).toNat
      if b ≥ 2047 then fInf neg else BitVec.ofNat 64 (sgn + b * 2 ^ 52 + (q - 2 ^ 52))

/-- The binary64 number nearest `m × 2 ^ e`; an exact zero takes sign `z`. -/
def roundInt (m : Int) (e : Int) (z : Bool) : W64 :=
  if m = 0 then fZero z else roundPack (m < 0) m.natAbs e false

/-! ### The arithmetic instructions (R151, R157, R158) -/

/-- `a × 2 ^ ea + b × 2 ^ eb` as one dyadic number. -/
def dyAdd (a : Int) (ea : Int) (b : Int) (eb : Int) : Int × Int :=
  let e := min ea eb
  (a * 2 ^ (ea - e).toNat + b * 2 ^ (eb - e).toNat, e)

/-- FADD. An exact zero sum is +0 unless both operands are negative zeros. -/
def opFAdd (a b : W64) : W64 :=
  if isNaN a ∨ isNaN b then canonNaN
  else if isInf a then (if isInf b ∧ fNeg a ≠ fNeg b then canonNaN else a)
  else if isInf b then b
  else
    let r := dyAdd (sMant a) (fLsb a) (sMant b) (fLsb b)
    roundInt r.1 r.2 (fNeg a && fNeg b)

/-- The number with its sign bit inverted, a NaN made canonical (R158). -/
def opFNeg (a : W64) : W64 := if isNaN a then canonNaN else a ^^^ 0x8000000000000000

/-- FABS. -/
def opFAbs (a : W64) : W64 := if isNaN a then canonNaN else a &&& 0x7FFFFFFFFFFFFFFF

/-- FSUB. -/
def opFSub (a b : W64) : W64 := opFAdd a (if isNaN b then canonNaN else opFNeg b)

/-- FMUL. -/
def opFMul (a b : W64) : W64 :=
  let neg := fNeg a != fNeg b
  if isNaN a ∨ isNaN b then canonNaN
  else if (isInf a ∧ isZero b) ∨ (isZero a ∧ isInf b) then canonNaN
  else if isInf a ∨ isInf b then fInf neg
  else roundPack neg (fMant a * fMant b) (fLsb a + fLsb b) false

/-- FDIV. -/
def opFDiv (a b : W64) : W64 :=
  let neg := fNeg a != fNeg b
  if isNaN a ∨ isNaN b then canonNaN
  else if isInf a then (if isInf b then canonNaN else fInf neg)
  else if isInf b then fZero neg
  else if isZero b then (if isZero a then canonNaN else fInf neg)
  else
    let n := fMant a * 2 ^ 120
    roundPack neg (n / fMant b) (fLsb a - fLsb b - 120) (n % fMant b != 0)

/-- One step of the integer square root, from the highest bit down. -/
def isqrtGo : Nat → Nat → Nat → Nat
  | 0, _, r => r
  | k + 1, n, r => let c := r + 2 ^ k; isqrtGo k n (if c * c ≤ n then c else r)

/-- The integer square root. -/
def isqrt (n : Nat) : Nat := isqrtGo (bitLen n / 2 + 1) n 0

/-- FSQRT. -/
def opFSqrt (a : W64) : W64 :=
  if isNaN a then canonNaN
  else if isZero a then a
  else if fNeg a then canonNaN
  else if isInf a then a
  else
    let e := fLsb a
    let odd : Nat := (e % 2).toNat
    let n := fMant a * 2 ^ (odd + 120)
    let r := isqrt n
    roundPack false r ((e - odd) / 2 - 60) (r * r != n)

/-- FMA: `a × b + c` rounded once. -/
def opFMA (a b c : W64) : W64 :=
  let neg := fNeg a != fNeg b
  if isNaN a ∨ isNaN b ∨ isNaN c then canonNaN
  else if (isInf a ∧ isZero b) ∨ (isZero a ∧ isInf b) then canonNaN
  else if isInf a ∨ isInf b then (if isInf c ∧ fNeg c ≠ neg then canonNaN else fInf neg)
  else if isInf c then c
  else
    let p := (fMant a * fMant b : Nat)
    let pz := if neg then -(p : Int) else p
    let r := dyAdd pz (fLsb a + fLsb b) (sMant c) (fLsb c)
    roundInt r.1 r.2 (neg && fNeg c)

/-! ### Order and conversion (R150, R159) -/

/-- The order of two numbers that are not NaN, as an integer key: −0 and +0 have keys −1 and 0. -/
def fKey (w : W64) : Int := if fNeg w then -(w.toNat % 2 ^ 63 : Nat) - 1 else (w.toNat % 2 ^ 63 : Nat)

def opFEq (a b : W64) : Bool := !isNaN a && !isNaN b && (a == b || (isZero a && isZero b))
def opFLt (a b : W64) : Bool :=
  !isNaN a && !isNaN b && !(isZero a && isZero b) && decide (fKey a < fKey b)
def opFLe (a b : W64) : Bool := opFLt a b || opFEq a b
def opFUn (a b : W64) : Bool := isNaN a || isNaN b

/-- FMIN and FMAX order −0 below +0; a NaN operand gives NaN. -/
def opFMin (a b : W64) : W64 := if opFUn a b then canonNaN else if fKey a ≤ fKey b then a else b
@[inherit_doc opFMin]
def opFMax (a b : W64) : W64 := if opFUn a b then canonNaN else if fKey a ≤ fKey b then b else a

/-- FCLAMP of x between lo and hi. -/
def opFClamp (x lo hi : W64) : W64 := opFMin (opFMax x lo) hi

/-- A rounding to an integral value. -/
inductive RMode where
  | nearest | zero | down | up
  deriving DecidableEq, Repr

/-- The magnitude `m × 2 ^ e` rounded to an integer. -/
def roundMag (md : RMode) (neg : Bool) (m : Nat) (e : Int) : Nat :=
  if 0 ≤ e then m * 2 ^ e.toNat
  else
    let sh := (-e).toNat
    let q := m / 2 ^ sh
    let r := m % 2 ^ sh
    match md with
    | .nearest => shrRne m sh false
    | .zero => q
    | .down => if neg ∧ r ≠ 0 then q + 1 else q
    | .up => if !neg ∧ r ≠ 0 then q + 1 else q

/-- FRINT, FTRUNC, FFLOOR, FCEIL: infinities and zeros unchanged, a NaN canonical, the sign kept. -/
def opFInt (md : RMode) (a : W64) : W64 :=
  if isNaN a then canonNaN
  else if isInf a ∨ isZero a then a
  else
    let n := roundMag md (fNeg a) (fMant a) (fLsb a)
    if n = 0 then fZero (fNeg a) else roundPack (fNeg a) n 0 false

/-- The ends of the INT64 range. -/
def i64Max : Int := 2 ^ 63 - 1
@[inherit_doc i64Max] def i64Min : Int := -(2 ^ 63)

/-- An exact integer saturated to INT64 (R156). -/
def satI64 (i : Int) : W64 := BitVec.ofInt 64 (if i > i64Max then i64Max else if i < i64Min then i64Min else i)

/-- FTOI and FTOIN (R159). -/
def opFToI (md : RMode) (a : W64) : W64 :=
  if isNaN a then 0
  else if isInf a then satI64 (if fNeg a then i64Min else i64Max)
  else
    let n := roundMag md (fNeg a) (fMant a) (fLsb a)
    satI64 (if fNeg a then -(n : Int) else n)

/-- ITOF. -/
def opIToF (a : W64) : W64 := roundInt a.toInt 0 false

/-! ### Elementary functions (R160)

Each is computed as an interval `[A − err, A + err] × 2 ^ e` at rising precision until both ends round to one number. -/

/-- The first precision at which the interval's ends round alike. -/
def ziv (f : Nat → Int × Int × Nat) : List Nat → W64
  | [] => 0
  | [p] => let (a, e, _) := f p; roundInt a e false
  | p :: ps =>
    let (a, e, err) := f p
    let lo := roundInt (a - err) e false
    let hi := roundInt (a + err) e false
    if lo = hi then lo else ziv f ps

/-- The precisions tried, in bits. -/
def zivPrecs : List Nat := [160, 320, 640, 1280, 2600, 5200]

/-- `Σ (−1)^j t × u^j / (2j + 1)` in fixed point of p bits, `t` the current power. -/
def atanGo (p : Nat) (u : Int) : Nat → Nat → Int → Int → Int
  | 0, _, _, acc => acc
  | n + 1, j, t, acc =>
    if t = 0 then acc else atanGo p u n (j + 1) (-(t * u / 2 ^ p)) (acc + t / (2 * j + 1))

/-- atan of `t / 2^p` with |t| ≤ 2^p × 0.34, in fixed point of p bits. -/
def atanFix (p : Nat) (t : Int) : Int := atanGo p (t * t / 2 ^ p) p 0 t 0

/-- `Σ t × u^j / (2j + 1)`: the series of atanh. -/
def atanhGo (p : Nat) (u : Int) : Nat → Nat → Int → Int → Int
  | 0, _, _, acc => acc
  | n + 1, j, t, acc => if t = 0 then acc else atanhGo p u n (j + 1) (t * u / 2 ^ p) (acc + t / (2 * j + 1))

/-- ln 2 in fixed point of p bits: 2 atanh(1/3). -/
def ln2Fix (p : Nat) : Int := 2 * atanhGo p (2 ^ p / 9) p 0 (2 ^ p / 3) 0

/-- π in fixed point of p bits: 16 atan(1/5) − 4 atan(1/239). -/
def piFix (p : Nat) : Int := 16 * atanFix p (2 ^ p / 5) - 4 * atanFix p (2 ^ p / 239)

/-- `Σ r^j / j!` in fixed point of p bits. -/
def expGo (p : Nat) (r : Int) : Nat → Nat → Int → Int → Int
  | 0, _, _, acc => acc
  | n + 1, j, t, acc => if t = 0 then acc else expGo p r n (j + 1) (t * r / 2 ^ p / (j + 1)) (acc + t)

/-- A finite number in fixed point of p bits, rounded down. -/
def toFix (p : Nat) (a : W64) : Int :=
  let e := fLsb a + p
  if 0 ≤ e then sMant a * 2 ^ e.toNat else sMant a / 2 ^ (-e).toNat

/-- e raised to a finite number between −746 and 710. -/
def expIv (a : W64) (p : Nat) : Int × Int × Nat :=
  let q := p + 16
  let l := ln2Fix q
  let x := toFix q a
  let k := x / l
  (expGo q (x - k * l) q 0 (2 ^ q) 0, k - q, 4096 * q)

/-- FEXP. -/
def opFExp (a : W64) : W64 :=
  if isNaN a then canonNaN
  else if isInf a then (if fNeg a then 0 else a)
  else if isZero a then fOne
  else if fKey a ≥ fKey 0x4086300000000000 then fInf false
  else if fKey a ≤ fKey 0xC087500000000000 then 0
  else ziv (expIv a) zivPrecs

/-- ln of a positive finite number: `m × 2 ^ k` with m between 2/3 and 4/3. -/
def lnIv (a : W64) (p : Nat) : Int × Int × Nat :=
  let q := p + 16
  let n := bitLen (fMant a)
  let m0 := fMant a * 2 ^ (q + 53 - n) / 2 ^ 52
  let k0 := fLsb a + n - 1
  let (m, k) : Nat × Int := if 3 * m0 > 4 * 2 ^ q then (m0 / 2, k0 + 1) else (m0, k0)
  let t := ((m : Int) - 2 ^ q) * 2 ^ q / ((m : Int) + 2 ^ q)
  (2 * atanhGo q (t * t / 2 ^ q) q 0 t 0 + k * ln2Fix q, -(q : Int), 4096 * q)

/-- FLN. -/
def opFLn (a : W64) : W64 :=
  if isNaN a then canonNaN
  else if isZero a then fInf true
  else if fNeg a then canonNaN
  else if isInf a then a
  else if a = fOne then 0
  else ziv (lnIv a) zivPrecs

/-- `Σ (−1)^j r^(2j+i) / (2j+i)!`: sine for i = 1, cosine for i = 0; `u` is r². -/
def trigGo (p : Nat) (u : Int) : Nat → Nat → Int → Int → Int
  | 0, _, _, acc => acc
  | n + 1, j, t, acc =>
    if t = 0 then acc else trigGo p u n (j + 2) (-(t * u / 2 ^ p / ((j + 1) * (j + 2)))) (acc + t)

/-- sin (i = 0) or cos (i = 1) of a finite number, its argument reduced against π to full precision. -/
def trigIv (i : Nat) (a : W64) (p : Nat) : Int × Int × Nat :=
  let q := p + 1100
  let h := piFix q / 2
  let x := toFix q a
  let k := x / h
  let r := (x - k * h) / 2 ^ 1084
  let w := p + 16
  let u := r * r / 2 ^ w
  let sn := trigGo w u w 1 r 0
  let cs := trigGo w u w 0 (2 ^ w) 0
  let v := match ((k + i) % 4).toNat with
    | 0 => sn
    | 1 => cs
    | 2 => -sn
    | _ => -cs
  (v, -(w : Int), 4096 * w)

/-- The magnitude lies below 2^−27. -/
def fTiny (a : W64) : Bool := fExp a < 1023 - 27

/-- FSIN. Below 2^−27 the sine rounds to its operand. -/
def opFSin (a : W64) : W64 :=
  if isNaN a ∨ isInf a then canonNaN
  else if isZero a ∨ fTiny a then a
  else ziv (trigIv 0 a) zivPrecs

/-- FCOS. Below 2^−27 the cosine rounds to 1. -/
def opFCos (a : W64) : W64 :=
  if isNaN a ∨ isInf a then canonNaN
  else if fTiny a then fOne
  else ziv (trigIv 1 a) zivPrecs

/-- atan of a ratio n / d between 0 and 1 in fixed point of p bits, for ratios above 2^−20. -/
def atanRatio (p n d : Nat) : Int :=
  let t : Int := (n * 2 ^ p / d : Nat)
  if 4 * t > 2 ^ p then
    -- atan(t) = atan(1/2) + atan((t − 1/2) / (1 + t/2)), and atan(1/2) = π/4 − atan(1/3)
    piFix p / 4 - atanFix p (2 ^ p / 3) + atanFix p ((t - 2 ^ p / 2) * 2 ^ p / (2 ^ p + t / 2))
  else atanFix p t

/-- atan2 of finite nonzero magnitudes `my × 2 ^ ey` over `mx × 2 ^ ex`, x of sign `xneg`: the magnitude of the angle. -/
def atan2Iv (my : Nat) (ey : Int) (mx : Nat) (ex : Int) (xneg : Bool) (p : Nat) : Int × Int × Nat :=
  let q := p + 16
  let e := min ey ex
  let n := my * 2 ^ (ey - e).toNat
  let d := mx * 2 ^ (ex - e).toNat
  if !xneg ∧ n * 2 ^ 20 < d then
    -- a small angle: t × (1 − t²/3 + …) with t = Q × 2^−k of q bits
    let k := q + bitLen d - bitLen n
    let qt : Int := (n * 2 ^ k / d : Nat)
    let t2 := qt * qt / 2 ^ (2 * k - q)
    let ser := atanGo q t2 q 0 (2 ^ q) 0
    (qt * ser, -(k : Int) - q, (4096 * q) * 2 ^ (q + 2))
  else
    let a := if n ≤ d then atanRatio q n d else piFix q / 2 - atanRatio q d n
    ((if xneg then piFix q - a else a), -(q : Int), 4096 * q)

/-- FATAN2 with y and x, zeros and infinities as IEEE 754-2019 subclause 9.2.1 recommends. -/
def opFAtan2 (y x : W64) : W64 :=
  let neg := fNeg y
  let sgn := fun (w : W64) => if neg then w ^^^ 0x8000000000000000 else w
  let frac := fun (a b : Nat) => sgn (ziv (fun p => (piFix (p + 16) * a / b, -((p + 16 : Nat) : Int), 4096 * p)) zivPrecs)
  if isNaN y ∨ isNaN x then canonNaN
  else if isInf y then (if isInf x then (if fNeg x then frac 3 4 else frac 1 4) else frac 1 2)
  else if isInf x then (if fNeg x then frac 1 1 else fZero neg)
  else if isZero y then (if fNeg x then frac 1 1 else fZero neg)
  else if isZero x then frac 1 2
  else sgn (ziv (atan2Iv (fMant y) (fLsb y) (fMant x) (fLsb x) (fNeg x)) zivPrecs)

end Sys2Proof.Machine
end

