-- ==== Sys2Proof/Machine/Flags.lean ====
section
/-! DEFINITION. What the predicate instructions compute: the Boolean that a comparison or a predicate operation writes to its
target predicate (R150, R159). -/

namespace Sys2Proof.Machine

/-- The result of a predicate instruction from X[A], X[B], P[a], P[b] (R150). -/
def aluP (op : Nat) (a b : W64) (pa pb : Bool) : Option Bool :=
  match op with
  | 0x30 => some (a == b)
  | 0x31 => some (decide (a.toInt < b.toInt))
  | 0x32 => some (decide (a.toInt ≤ b.toInt))
  | 0x33 => some (decide (a.toNat < b.toNat))
  | 0x34 => some (opFEq a b)
  | 0x35 => some (opFLt a b)
  | 0x36 => some (opFLe a b)
  | 0x37 => some (opFUn a b)
  | 0x38 => some (a != 0)
  | 0x39 => some (pa && pb)
  | 0x3A => some (pa || pb)
  | 0x3B => some (!pa)
  | _ => none

end Sys2Proof.Machine
end

