-- ==== Sys2Proof/Machine/LaneOps.lean ====
section
/-! DEFINITION. The Block Engine (R124 to R164): opcode costs and results, the two engines of a lane, the Frame Cache, the record
buffer and the store queue. -/

namespace Sys2Proof.Machine

/-- The opcodes that R147 to R154 assign, with their costs (R128). -/
def opCosts : List (Nat × Nat) :=
  [(0x00, 1), (0x01, 1), (0x02, 1), (0x03, 1), (0x04, 1), (0x05, 1),
   (0x10, 1), (0x11, 1), (0x12, 2), (0x13, 20), (0x14, 20), (0x15, 1), (0x16, 1), (0x17, 1), (0x18, 1), (0x19, 1),
   (0x1A, 1), (0x1B, 1), (0x1C, 2)] ++
  [(0x20, 1), (0x21, 1), (0x22, 1), (0x23, 1), (0x24, 1), (0x25, 1), (0x26, 1), (0x27, 1), (0x28, 1), (0x29, 1),
   (0x2A, 1), (0x2B, 1)] ++
  [(0x30, 1), (0x31, 1), (0x32, 1), (0x33, 1), (0x34, 1), (0x35, 1), (0x36, 1), (0x37, 1), (0x38, 1), (0x39, 1),
   (0x3A, 1), (0x3B, 1), (0x3C, 1)] ++
  [(0x40, 2), (0x41, 2), (0x42, 2), (0x43, 12), (0x44, 12), (0x45, 3), (0x46, 1), (0x47, 1), (0x48, 1), (0x49, 1),
   (0x4A, 1), (0x4B, 2), (0x4C, 2), (0x4D, 2), (0x4E, 2)] ++
  [(0x50, 2), (0x51, 2), (0x52, 2), (0x53, 24), (0x54, 24), (0x55, 24), (0x56, 24), (0x57, 30)] ++
  [(0x60, 1), (0x61, 1), (0x62, 1), (0x63, 1), (0x70, 1), (0x71, 1), (0x72, 1), (0x73, 1), (0x74, 1)]

/-- The cost of an opcode; an unassigned one costs 1 (R141). -/
def opCost (op : Nat) : Nat := ((opCosts.find? fun e => e.1 == op).map (·.2)).getD 1

/-- An opcode that R147 to R154 assign. -/
def opAssigned (op : Nat) : Bool := opCosts.any fun e => e.1 == op

/-! ### Integer and bit results (R148, R149, R156) -/

def opIDiv (a b : W64) : W64 :=
  if b = 0 then (if a.toInt > 0 then satI64 i64Max else if a.toInt < 0 then satI64 i64Min else 0)
  else satI64 (Int.tdiv a.toInt b.toInt)

def opIRem (a b : W64) : W64 := if b = 0 then 0 else BitVec.ofInt 64 (Int.tmod a.toInt b.toInt)

def opISat32 (a : W64) : W64 :=
  BitVec.ofInt 64 (if a.toInt > 2 ^ 31 - 1 then 2 ^ 31 - 1 else if a.toInt < -(2 ^ 31) then -(2 ^ 31) else a.toInt)

/-- Number of 1 bits among the low `n`. -/
def popc (a : W64) : Nat → Nat
  | 0 => 0
  | n + 1 => popc a n + (if a.toNat.testBit n then 1 else 0)

/-- QOF: the quality byte, 0 above 04h. -/
def opQof (a : W64) : W64 := BitVec.ofNat 64 (writtenQual (getBits a 48 8))

/-- The result of a register instruction from X[D], X[A], X[B] (R147 to R151). -/
def aluX (op : Nat) (d a b : W64) : Option W64 :=
  match op with
  | 0x02 => some a
  | 0x10 => some (satI64 (a.toInt + b.toInt))
  | 0x11 => some (satI64 (a.toInt - b.toInt))
  | 0x12 => some (satI64 (a.toInt * b.toInt))
  | 0x13 => some (opIDiv a b)
  | 0x14 => some (opIRem a b)
  | 0x15 => some (satI64 (-a.toInt))
  | 0x16 => some (satI64 (a.toInt.natAbs : Int))
  | 0x17 => some (if a.toInt ≤ b.toInt then a else b)
  | 0x18 => some (if a.toInt ≤ b.toInt then b else a)
  | 0x19 => some (opISat32 a)
  | 0x1A => some (a + b)
  | 0x1B => some (a - b)
  | 0x1C => some (a * b)
  | 0x20 => some (a &&& b)
  | 0x21 => some (a ||| b)
  | 0x22 => some (a ^^^ b)
  | 0x23 => some (~~~a)
  | 0x24 => some (a <<< (b.toNat % 64))
  | 0x25 => some (a >>> (b.toNat % 64))
  | 0x26 => some (a.sshiftRight (b.toNat % 64))
  | 0x27 => some (a.rotateLeft (b.toNat % 64))
  | 0x28 => some (BitVec.ofNat 64 (popc a 64))
  | 0x29 => some (if a = 0 then 1 else 0)
  | 0x2A => some (if a = 0 then 0 else 1)
  | 0x2B => some (opQof a)
  | 0x40 => some (opFAdd a b)
  | 0x41 => some (opFSub a b)
  | 0x42 => some (opFMul a b)
  | 0x43 => some (opFDiv a b)
  | 0x44 => some (opFSqrt a)
  | 0x45 => some (opFMA a b d)
  | 0x46 => some (opFMin a b)
  | 0x47 => some (opFMax a b)
  | 0x48 => some (opFAbs a)
  | 0x49 => some (opFNeg a)
  | 0x4A => some (opFClamp d a b)
  | 0x4B => some (opFInt .nearest a)
  | 0x4C => some (opFInt .zero a)
  | 0x4D => some (opFInt .down a)
  | 0x4E => some (opFInt .up a)
  | 0x50 => some (opIToF a)
  | 0x51 => some (opFToI .zero a)
  | 0x52 => some (opFToI .nearest a)
  | 0x53 => some (opFExp a)
  | 0x54 => some (opFLn a)
  | 0x55 => some (opFSin a)
  | 0x56 => some (opFCos a)
  | 0x57 => some (opFAtan2 a b)
  | _ => none

/-! ### The engines -/

/-- The lane. -/
def State.lane (s : State) (l : Nat) : LaneSt := mget LaneSt.init s.lanes l

/-- The state with a lane changed. -/
def State.modLane (s : State) (l : Nat) (f : LaneSt → LaneSt) : State :=
  { s with lanes := mmod LaneSt.init s.lanes l f }

/-- Xn. -/
def Engine.xr (e : Engine) (n : Nat) : W64 := mget 0 e.x n

/-- The engine with Xn set. -/
def Engine.setX (e : Engine) (n : Nat) (v : W64) : Engine := { e with x := mput 0 e.x n v }

/-- Pn; P0 reads 1 (R124). -/
def Engine.pr (e : Engine) (n : Nat) : Bool := n == 0 || e.p.getLsbD n

/-- The engine with Pn set; a write to P0 is ignored (R124). -/
def Engine.setP (e : Engine) (n : Nat) (b : Bool) : Engine :=
  if n = 0 then e
  else { e with p := if b then e.p ||| (1#8 <<< n) else e.p &&& ~~~(1#8 <<< n) }

/-- A word of the engine's Code Store. -/
def Engine.codeAt (e : Engine) (bank a : Nat) : BitVec 32 := mget 0 e.code (bank * 65536 + a % 65536)

/-- A 64-bit constant or descriptor: two words, the low half lower (R138). -/
def Engine.code64 (e : Engine) (bank a : Nat) : W64 :=
  BitVec.ofNat 64 ((e.codeAt bank a).toNat + (e.codeAt bank (a + 1)).toNat * 2 ^ 32)

/-- The cache line that holds a grain, if any. -/
def LaneSt.line (l : LaneSt) (grain : Nat) : Option Nat := (l.tags.find? fun e => mget 0 l.tags e.1 == grain + 1).map (·.1)

/-- A frame word as an engine sees it: from its Frame Cache. -/
def LaneSt.word (l : LaneSt) (e : Engine) (grain w : Nat) : Option W64 :=
  (l.line (grain + w / 8)).map fun ln => mget 0 e.fc (ln * 8 + w % 8)

/-- A word of the frame being scanned. -/
def LaneSt.frameWord (l : LaneSt) (e : Engine) (w : Nat) : Option W64 :=
  match l.scan with
  | none => none
  | some sc => if w < sc.grains * 8 then l.word e sc.frame w else none

/-- The engine with a word of the frame being scanned set. -/
def LaneSt.putWord (l : LaneSt) (e : Engine) (w : Nat) (v : W64) : Engine :=
  match l.scan with
  | none => e
  | some sc =>
    match l.line (sc.frame + w / 8) with
    | none => e
    | some ln => { e with fc := mput 0 e.fc (ln * 8 + w % 8) v }

/-- One fold of an observation word into a signature (R243). -/
def foldSig (sg o : W64) : W64 := (sg <<< 1) ^^^ (if sg.getLsbD 63 then 0x1B else 0) ^^^ o

/-- W of CMP_CTRL WINDOW (R245). -/
def State.windowLen (s : State) : Nat := 256 * 2 ^ min (s.fld R.cmpCtrlWindow) 4

/-- One observation word folded: into the open window of `w` words, or, where those are complete, into the window that follows its close
(R243, R245). -/
def Engine.fold1 (w : Nat) (e : Engine) (o : W64) : Engine :=
  if e.folds < w then { e with sig := foldSig e.sig o, folds := e.folds + 1 } else { e with extra := e.extra ++ [o] }

/-- An observation word and the zero words of the cycles that follow it, folded (R243, R244). -/
def Engine.foldN (e : Engine) (w : Nat) (o : W64) (n : Nat) : Engine := (o :: List.replicate (n - 1) 0).foldl (Engine.fold1 w) e

/-- A window closed: the signature restarts from 0 with the words folded since (R245). -/
def Engine.closed (e : Engine) (w : Nat) : Engine := e.extra.foldl (Engine.fold1 w) { e with sig := 0, folds := 0, extra := [] }

/-- The code word that an engine issues next: of its own Code Store (R240). -/
def LaneSt.wordAt (l : LaneSt) (e : Engine) : BitVec 32 :=
  match l.scan with
  | some sc => e.codeAt sc.bank sc.pc
  | none => 0

/-- What one issue of an instruction writes: a register, a predicate, a frame word, a store; whether an indexed access fell
outside (R152, R172); whether it used a value no rule states. -/
structure Effect where
  xw : Option (Nat × W64) := none
  pw : Option (Nat × Bool) := none
  fw : Option (Nat × W64) := none
  st : Option Store := none
  oof : Bool := false
  free : Bool := false
  deriving DecidableEq, Repr

/-- The value of GET (R155); a selector no rule assigns gives a free value. -/
def State.getValue (s : State) (l : LaneSt) (e : Engine) (imm : Nat) : W64 :=
  let c := (l.scan.map (·.cls)).getD 0
  let k := s.cls c
  let hd := ((l.frameWord e 0).getD 0)
  let pns := s.fld (R.bookTcCfgPeriod c) * 500000
  match imm with
  | 0 => BitVec.ofNat 64 k.flyTime
  | 1 => BitVec.ofNat 64 pns
  | 2 => roundPack false (pns * 2 ^ 200 / 10 ^ 9) (-200) (pns * 2 ^ 200 % 10 ^ 9 != 0)
  | 3 => BitVec.ofNat 64 k.cycWake
  | 4 => BitVec.ofNat 64 c
  | 5 => BitVec.ofNat 64 (getBits hd 48 1)
  | 6 => BitVec.ofNat 64 (getBits hd 0 32)
  | 7 => BitVec.ofNat 64 (getBits hd 32 13)
  | _ => Config.freeWord s.free

/-- KIND of a connection word (R136). -/
def connKind (w : W64) : Nat := getBits w 62 2

/-- OUT of a connection word (R136). -/
def connOut (w : W64) : Bool := getBits w 61 1 == 1

/-- STAMP, QUALITY and FLAGS as LDSM packs them (R154). -/
def metaWord (r : Rec) : W64 := BitVec.ofNat 64 (r.stamp % 2 ^ 48 + r.qual % 256 * 2 ^ 48 + r.flags % 256 * 2 ^ 56)

/-- What LDSV and LDSM give for connection j: the prefetched record with a quality above 04h as 00h, and for a connection of KIND
11 VALUE 0 and a GOOD record (R163). `none`: the block has no such connection. -/
def LaneSt.conn (l : LaneSt) (j : Nat) : Option Rec :=
  match l.scan with
  | none => none
  | some sc =>
    if j < sc.nconn then
      some (match mget none l.recs j with
        | some r => { r with qual := writtenQual r.qual }
        | none => ⟨0, 0, 4, 0⟩)
    else none

/-- The store of STS or STSR for connection j: dropped where OUT is 0 (R164). Book verify keeps j below NCONN. For code not so verified
the manual is silent: frame word j + 1 is taken as the connection, and with no scan nothing is stored; TSTC gives 0 with no scan and else
reads frame word j + 1 (DESIGN CHOICE, assumption 55). -/
def LaneSt.storeOf (l : LaneSt) (e : Engine) (j : Nat) (v : W64) (stamp qual : Nat) : Option Store :=
  match l.scan, l.frameWord e (j + 1) with
  | some sc, some cw =>
    if connKind cw = 0 ∧ connOut cw then some ⟨getBits cw 0 18, v, stamp % 2 ^ 48, qual % 256, sc.cls⟩ else none
  | _, _ => none

/-- The effect of an instruction word on an engine, had it taken effect (R147 to R164). Book verify keeps W of STF inside the frame and
above NCONN (R152). For code not so verified the manual is silent: a W outside the frame is dropped, one at or below NCONN is written
(DESIGN CHOICE, assumption 55). -/
def State.effect (s : State) (l : LaneSt) (e : Engine) (w : BitVec 32) : Effect :=
  let op := wordBits w 24 8
  let d := wordBits w 14 6
  let a := e.xr (wordBits w 8 6)
  let b := e.xr (wordBits w 2 6)
  let xd := e.xr d
  let t := wordBits w 14 3
  let conn := wordBits w 0 8
  match aluX op xd a b with
  | some v => { xw := some (d, v) }
  | none =>
    match aluP op a b (e.pr (wordBits w 8 3)) (e.pr (wordBits w 2 3)) with
    | some v => { pw := some (t, v) }
    | none =>
      match op with
      | 0x03 => { xw := some (d, (BitVec.ofNat 14 (wordBits w 0 14)).signExtend 64) }
      | 0x04 =>
        match l.scan with
        | some sc => { xw := some (d, e.code64 sc.bank (sc.code + 131072 - 2 * (wordBits w 0 14 + 2))) }
        | none => { xw := some (d, Config.freeWord s.free), free := true }
      | 0x05 => { xw := some (d, s.getValue l e (wordBits w 0 14)), free := decide (wordBits w 0 14 > 7) }
      | 0x3C => { xw := some (d, if e.pr (wordBits w 8 3) then 1 else 0) }
      | 0x60 =>
        match l.frameWord e (wordBits w 0 12) with
        | some v => { xw := some (d, v) }
        | none => { xw := some (d, Config.freeWord s.free), free := true }
      | 0x61 => if (l.frameWord e (wordBits w 0 12)).isSome then { fw := some (wordBits w 0 12, xd) } else {}
      | 0x62 =>
        match l.frameWord e (a + b).toNat with
        | some v => { xw := some (d, v) }
        | none => { xw := some (d, 0), oof := true }
      | 0x63 =>
        match l.scan, l.frameWord e (a + b).toNat with
        | some sc, some _ => if (a + b).toNat ≤ sc.nconn then { oof := true } else { fw := some ((a + b).toNat, xd) }
        | _, _ => { oof := true }
      | 0x70 =>
        match l.conn conn with
        | some r => { xw := some (d, r.value) }
        | none => { xw := some (d, Config.freeWord s.free), free := true }
      | 0x71 =>
        match l.conn conn with
        | some r => { xw := some (d, metaWord r) }
        | none => { xw := some (d, Config.freeWord s.free), free := true }
      | 0x72 => { st := l.storeOf e conn xd ((l.scan.map fun sc => (s.cls sc.cls).flyTime).getD 0) (getBits a 0 8) }
      | 0x73 => { st := l.storeOf e conn xd (getBits a 0 48) (getBits a 48 8) }
      | 0x74 =>
        match l.frameWord e (conn + 1) with
        | some cw => { pw := some (t, connKind cw != 3) }
        | none => { pw := some (t, false) }
      | _ => {}

/-- V of the observation word (R244): the value written, 0 when nothing is. -/
def Effect.v (f : Effect) : W64 :=
  match f.xw, f.pw, f.fw, f.st with
  | some (_, v), _, _, _ => v
  | _, some (_, b), _, _ => if b then 1 else 0
  | _, _, some (_, v), _ => v
  | _, _, _, some st => st.value
  | _, _, _, _ => 0

/-- The effect written into an engine. -/
def LaneSt.apply (l : LaneSt) (e : Engine) (f : Effect) : Engine :=
  let e := match f.xw with | some (n, v) => e.setX n v | none => e
  let e := match f.pw with | some (n, b) => e.setP n b | none => e
  match f.fw with | some (w, v) => l.putWord e w v | none => e

/-- One issue on an engine: its effect when the predicate holds (R127), the fold of its cycles (R243, R244), and its count. -/
def State.issueOn (s : State) (l : LaneSt) (e : Engine) (busy : Bool) (w : BitVec 32) : Engine × Effect :=
  let takes := e.pr (wordBits w 20 3) != (wordBits w 23 1 == 1)
  let f : Effect := if takes then s.effect l e w else {}
  let e' := l.apply e f
  let pc := (l.scan.map (·.pc)).getD 0
  let o : W64 := f.v ^^^ (BitVec.ofNat 64 w.toNat <<< 32) ^^^ BitVec.ofNat 64 (pc * 256 + (if takes then 1 else 0))
  let e' := if busy then e'.foldN s.windowLen o (opCost (wordBits w 24 8)) else e'
  ({ e' with issued := e'.issued + 1 }, f)

/-- LANEn_OOF after an indexed access outside the frame (R172, R173). -/
def State.oofLatch (s : State) (ln inst : Nat) : State :=
  if s.flag (R.laneOofValid ln) then s.incSat (R.laneOofCount ln)
  else
    let s := ((s.setFld (R.laneOofInstance ln) inst).setFlag (R.laneOofValid ln) true).setFld (R.laneOofCount ln) 1
    s.raise evFrameIndex (leBytes 1 ln ++ leBytes 4 inst)

/-- A debug replay queue entry performed by the checker (R259). -/
def DbgAct.perform (a : DbgAct) (e : Engine) : Engine :=
  match a with
  | .halt => { e with halted := true }
  | .step => e
  | .resume => { e with halted := false }
  | .setX n v => e.setX n v
  | .setP n b => e.setP n b
  | .setWord w v => { e with fc := mput 0 e.fc w v }

/-- The checker performs every queue entry whose retire point its own count has reached (R259). -/
def drainDbg : List DbgEntry → Engine → List DbgEntry × Engine
  | [], e => ([], e)
  | d :: ds, e => if d.at_ = e.issued then drainDbg ds (d.act.perform e) else (d :: ds, e)

/-- LANEn_DBGSTAT DEPTH and PENDING follow the queue (R272). -/
def State.dbgStat (s : State) (ln : Nat) : State :=
  let n := (s.lane ln).dbgQ.length
  (s.setFld (R.laneDbgstatDepth ln) n).setFlag (R.laneDbgstatPending ln) (n != 0)

/-- One instruction issued on a lane by both engines (R126, R240, R241): the main engine its word, the checker the word of its own Code
Store; the stores into their queues, LANEn_RETIRE, the next code word. -/
def State.laneIssueGo (s : State) (ln : Nat) (w : BitVec 32) : State :=
  let l := s.lane ln
  let busy := s.flag (R.laneStateBusy ln)
  let (m, f) := s.issueOn l l.main busy w
  let (q, c0) := drainDbg l.dbgQ l.chk
  let (c, fc) := if c0.halted ∧ !l.main.halted then (c0, {}) else s.issueOn l c0 busy (l.wordAt c0)
  let dirty := match f.fw, l.scan with
    | some (wd, _), some sc =>
      (match l.line (sc.frame + wd / 8) with | some lnn => mput 0 l.dirty lnn (sc.cls + 1) | none => l.dirty)
    | _, _ => l.dirty
  let s := s.modLane ln fun l =>
    { l with main := m, chk := c, dbgQ := q, dirty := dirty,
             storeQ := match f.st with | some st => l.storeQ ++ [st] | none => l.storeQ,
             chkQ := match fc.st with | some st => l.chkQ ++ [st] | none => l.chkQ,
             scan := l.scan.map fun sc => { sc with pc := (sc.pc + 1) % 65536 } }
  let s := s.incMod (R.laneRetireRetired ln)
  let s := if f.free then s.nextFree else s
  let s := if f.oof then s.oofLatch ln (getBits ((l.frameWord l.main 0).getD 0) 0 32) else s
  s.dbgStat ln

/-- The end of a scan at END (R131 step 6): FIRST cleared in the header if set, EXECUTED counted, the next entry due. -/
def State.endScanGo (s : State) (ln : Nat) : State :=
  let l := s.lane ln
  match l.scan with
  | none => s
  | some sc =>
    let clr := fun (e : Engine) =>
      match l.frameWord e 0 with
      | some hd => if getBits hd 48 1 = 1 then l.putWord e 0 (putBits hd 48 1 0) else e
      | none => e
    let dirty := match l.frameWord l.main 0, l.line sc.frame with
      | some hd, some lnn => if getBits hd 48 1 = 1 then mput 0 l.dirty lnn (sc.cls + 1) else l.dirty
      | _, _ => l.dirty
    let s := s.modLane ln fun l =>
      { l with main := clr l.main, chk := clr l.chk, dirty := dirty, scan := none,
               next := mput 0 l.next sc.cls (sc.pos + 1) }
    s.incMod (R.laneBlocksExecuted ln)

/-- A debugger write that a replayed recording has at the code word the lane is about to issue, performed by both engines (R553). -/
def State.replayWrite (s : State) (ln : Nat) (r : LogRec) : State :=
  let space := r.body.headD 0 / 2 ^ 56 % 4
  let idx := r.body.getD 1 0
  let v := BitVec.ofNat 64 (r.body.getD 2 0)
  let a : DbgAct := if space = 0 then .setX idx v else if space = 1 then .setP (idx % 8) (v.getLsbD 0) else .setWord idx v
  s.modLane ln fun l =>
    { l with main := a.perform l.main, chk := a.perform l.chk,
             dirty := match l.scan with
               | some sc => if space < 2 ∨ mget 0 l.tags (idx / 8) = 0 then l.dirty else mput 0 l.dirty (idx / 8) (sc.cls + 1)
               | none => l.dirty }

/-- The DEBUG records of a replay for the class, Wake, entry, code word and bank at hand (R545, R553). -/
def State.replayDebug (s : State) (ln : Nat) : State :=
  match s.log.replay, (s.lane ln).scan with
  | some rp, some sc =>
    let at_ := sc.pos + sc.pc * 2 ^ 32 + sc.bank * 2 ^ 48
    let wake := (s.cls sc.cls).cycWake
    (s.log.flash.filter fun r => r.typ == 8 && r.cls == sc.cls && r.wake == wake && decide (rp.start ≤ r.seq) &&
      decide (r.seq ≤ rp.stop) && r.body.headD 0 % 2 ^ 56 == at_).foldl (fun s r => s.replayWrite ln r) s
  | _, _ => s

/-- The code word that lane `l` issues next (R126). -/
def State.codeNow (s : State) (l : Nat) : BitVec 32 := (s.lane l).wordAt (s.lane l).main

/-- The lane can issue the word: it scans a block, the word is the next of the type's code (R126), and the store queue takes its store
(R142: 256 entries). A command for any other word does nothing (DESIGN CHOICE, assumption 60). -/
def State.laneDue (s : State) (l : Nat) (w : BitVec 32) : Bool :=
  (s.lane l).scan.isSome && s.codeNow l == w &&
    (decide ((s.lane l).storeQ.length < 256) || (wordBits w 24 8 != 0x72 && wordBits w 24 8 != 0x73))

/-- The word at hand issued: END that takes effect also ends the scan (R126). -/
def State.issueNow (s : State) (l : Nat) (w : BitVec 32) : State :=
  let takes := (s.lane l).main.pr (wordBits w 20 3) != (wordBits w 23 1 == 1)
  let s := s.laneIssueGo l w
  if wordBits w 24 8 = 1 ∧ takes then s.endScanGo l else s

/-- An instruction of a lane that is neither stopped nor halted (R249, R259), where it is the one due (R126). -/
def State.laneIssue (s : State) (ln : Nat) (w : BitVec 32) : State :=
  if (s.lane ln).stopped ∨ (s.lane ln).main.halted ∨ s.laneDue ln w = false then s
  else (s.replayDebug ln).issueNow ln w

/-- UNASSIGNED_OPCODE: acts as NOP with cost 1 and is reported (R141, sources 10h to 17h: engine and word address, bit 17 set). -/
def State.unassigned (s : State) (ln : Nat) (w : BitVec 32) : State :=
  let l := s.lane ln
  if l.stopped ∨ l.main.halted ∨ opAssigned (wordBits w 24 8) ∨ s.laneDue ln w = false then s
  else
    let pc := (l.scan.map (·.pc)).getD 0
    (s.laneIssueGo ln w).report (0x10 + ln) (pc + 2 ^ 17)

/-! ### The code of a standard type -/

/-- Words from an entry word to the first END of its bank, END included; 0 where the bank holds none (R126). -/
def Engine.codeSpan (e : Engine) (bank code : Nat) : Nat :=
  let a := bank * 65536 + code
  (e.code.find? fun x => decide (a ≤ x.1) && decide (x.1 < (bank + 1) * 65536) && wordBits x.2 24 8 == 1).elim 0 fun x => x.1 - a + 1

/-- An engine issues the code of the scan at hand, every word once in address order (R126): its registers, signature and counts after it.
Its frame words stay as they were. -/
def State.runCode (s : State) (l : LaneSt) (e : Engine) (busy : Bool) (sc : Scan) : Engine :=
  let r := (List.range (e.codeSpan sc.bank sc.code)).foldl (fun r i =>
    (s.issueOn { l with scan := some { sc with pc := sc.code + i } } r busy (e.codeAt sc.bank (sc.code + i))).1) e
  { r with fc := e.fc }

end Sys2Proof.Machine
end

