-- ==== Sys2Proof/Machine/Library.lean ====
section
/-! DEFINITION. The standard block library (R174 to R199): connections, parameters, state and one scan of each type. The code of
the types is not in the manual; a scan here gives the words and stores the manual states (DEDUCED, assumption 12). -/

namespace Sys2Proof.Machine

/-- An input as the scan reads it: record, connected. -/
structure Inp where
  v : W64
  q : Nat
  stamp : Nat
  flags : Nat
  on : Bool
  deriving DecidableEq, Repr

/-- What a standard type reads: inputs from connection 1, VALUE of the front record of each output, parameters, state words,
FIRST, h and P, cycle time and Wake number (R175, R176, R179). -/
structure LibIn where
  ins : List Inp
  prev : List W64
  par : List W64
  st : List W64
  first : Bool
  h : W64
  p : W64
  cyc : Nat
  wake : Nat
  deriving DecidableEq, Repr

/-- What a scan writes: outputs (VALUE, QUALITY, STAMP where the type gives one) and state words. -/
structure LibOut where
  outs : List (W64 × Nat × Option Nat)
  st : List W64
  deriving DecidableEq, Repr

/-- Kinds of input: REAL64, integer, BOOL, WORD64, any type; `opt` may be unconnected without reading as a value (R180). -/
inductive InKind where
  | real | int | bool | word | any | realOpt
  deriving DecidableEq, Repr

/-- Layout of a type: inputs, whether it ignores unconnected inputs (R182), outputs, parameters, state words, retained words. -/
structure LibLayout where
  ins : List InKind
  nary : Bool
  outs : Nat
  par : Nat
  st : Nat
  ret : Nat
  deriving DecidableEq, Repr

/-- The size 2, 4, 8 or 16 that a member of an n-input name has. -/
def narySize (i : Nat) : Nat := 2 ^ (i % 4 + 1)

/-- The layout of TYPE 0 to 183 (R174 to R176, R184 to R199). -/
def libLayout (t : Nat) : LibLayout :=
  let r (n o : Nat) : LibLayout := ⟨List.replicate n .real, false, o, 0, 0, 0⟩
  let i (n o : Nat) : LibLayout := ⟨List.replicate n .int, false, o, 0, 0, 0⟩
  let b (n o : Nat) : LibLayout := ⟨List.replicate n .bool, false, o, 0, 0, 0⟩
  let w (n o : Nat) : LibLayout := ⟨List.replicate n .word, false, o, 0, 0, 0⟩
  let pid : List InKind := [.real, .real, .bool, .realOpt, .bool, .realOpt]
  if t < 20 then ⟨List.replicate (narySize t) .real, true, 1, 0, 0, 0⟩
  else if t < 36 then
    (if t = 24 then r 3 1 else if t = 20 ∨ t = 21 ∨ t = 30 then r 2 1 else if t = 35 then { r 1 1 with par := 2 } else r 1 1)
  else if t < 56 then ⟨List.replicate (narySize t) .int, true, 1, 0, 0, 0⟩
  else if t < 66 then (if t = 61 then i 3 1 else if t = 59 ∨ t = 60 ∨ t = 65 then i 1 1 else i 2 1)
  else if t < 75 then
    (match t with
      | 66 => i 1 1 | 67 => r 1 1 | 68 => r 1 1 | 69 => i 1 1 | 70 => b 1 1 | 71 => i 1 1 | 72 => r 1 1 | 73 => w 1 1
      | _ => i 1 1)
  else if t < 81 then r 2 1
  else if t < 87 then i 2 1
  else if t < 95 then ⟨List.replicate (narySize (t - 87)) .bool, true, 1, 0, 0, 0⟩
  else if t < 109 then
    (match t with
      | 95 => b 2 1 | 96 => b 1 1 | 97 => w 2 1 | 98 => w 2 1 | 99 => w 2 1 | 100 => w 1 1 | 101 => w 2 1 | 102 => w 2 1
      | 103 => w 2 1 | 104 => w 1 1 | 105 => b 8 1 | 106 => { w 1 1 with par := 1 }
      | _ => { b 2 1 with st := 1, ret := 1 })
  else if t < 120 then
    (match t with
      | 109 => ⟨[.bool, .real, .real], false, 1, 0, 0, 0⟩
      | 110 => ⟨[.bool, .int, .int], false, 1, 0, 0, 0⟩
      | 111 => b 3 1
      | 112 => ⟨.int :: List.replicate 4 .real, false, 1, 0, 0, 0⟩
      | 113 => ⟨.int :: List.replicate 8 .real, false, 1, 0, 0, 0⟩
      | 114 => i 5 1
      | 115 => i 9 1
      | 119 => { r 4 2 with st := 1, ret := 1 }
      | _ => { r 3 2 with st := 1, ret := 1 })
  else if t < 132 then
    (match t with
      | 120 => { r 1 1 with par := 1, st := 1, ret := 1 }
      | 121 => { r 1 1 with par := 2, st := 2 }
      | 122 => { r 1 1 with par := 1, st := 129 }
      | 123 => ⟨[.real, .bool], false, 2, 1, 1, 1⟩
      | 124 => { r 1 1 with par := 2, st := 1 }
      | 125 => { r 1 1 with st := 1 }
      | 126 => ⟨[.real, .bool], false, 1, 4, 1, 1⟩
      | 127 => { r 1 1 with par := 1, st := 65 }
      | 128 => { r 1 1 with par := 1 }
      | 129 => { r 1 1 with par := 2, st := 1, ret := 1 }
      | 130 => { r 1 1 with par := 33 }
      | _ => { r 1 2 with par := 1 })
  else if t < 142 then
    (match t with
      | 132 => ⟨pid, false, 2, 10, 6, 1⟩
      | 133 => ⟨pid ++ [.realOpt], false, 2, 11, 7, 1⟩
      | 134 => ⟨pid ++ [.int], false, 2, 19, 7, 1⟩
      | 135 => ⟨pid ++ [.realOpt], false, 2, 10, 6, 1⟩
      | 136 => ⟨pid ++ [.bool, .bool], false, 3, 11, 7, 1⟩
      | 137 => { r 2 1 with par := 3, st := 1 }
      | 138 => { r 1 1 with par := 3 }
      | 139 => { r 1 1 with par := 3 }
      | 140 => ⟨[.realOpt], false, 1, 3, 1, 1⟩
      | _ => { r 1 1 with par := 1 })
  else if t < 154 then
    (match t with
      | 142 => { b 1 2 with par := 1, st := 2 }
      | 143 => { b 1 2 with par := 1, st := 3 }
      | 144 => { b 1 2 with par := 1, st := 3 }
      | 145 => { b 2 2 with par := 1, st := 1, ret := 1 }
      | 146 => { b 0 1 with par := 1, st := 1 }
      | 150 => { b 2 2 with par := 1, st := 2, ret := 1 }
      | 151 => { b 2 2 with par := 1, st := 2, ret := 1 }
      | 152 => { b 4 3 with par := 1, st := 3, ret := 1 }
      | 153 => { b 1 1 with par := 1, st := 3, ret := 1 }
      | _ => { b 1 1 with st := 1 })
  else if t < 162 then
    (match t with
      | 156 => ⟨[.real, .bool, .bool], false, 2, 7, 6, 0⟩
      | 157 => ⟨[.real, .real, .bool, .bool], false, 2, 4, 3, 0⟩
      | 158 => ⟨[.real, .bool, .bool], false, 2, 4, 4, 0⟩
      | 159 => ⟨[.bool, .bool, .bool], false, 2, 4, 3, 0⟩
      | 160 => ⟨[.any, .bool, .bool], false, 2, 3, 3, 0⟩
      | 161 => ⟨List.replicate 8 .word ++ [.bool, .bool], false, 2, 3, 3, 0⟩
      | _ => ⟨[.real, .bool, .bool], false, 2, 4, 3, 0⟩)
  else if t < 168 then
    (match t with
      | 162 => ⟨[.real, .bool, .bool], false, 2, 0, 3, 3⟩
      | 163 => ⟨[.real, .bool, .bool], false, 3, 1, 3, 3⟩
      | 164 => { b 1 1 with st := 1, ret := 1 }
      | 165 => { b 1 1 with st := 2, ret := 2 }
      | 166 => ⟨[.real, .bool], false, 2, 0, 3, 3⟩
      | _ => { r 1 1 with par := 1, st := 3, ret := 3 })
  else
    match t with
      | 168 => r 1 1 | 169 => i 1 1 | 170 => b 1 1 | 171 => w 1 1
      | 172 => { r 0 1 with par := 1 } | 173 => { r 0 1 with par := 1 } | 174 => { r 0 1 with par := 1 }
      | 175 => { r 0 1 with par := 1 }
      | 176 => ⟨[.any, .int], false, 1, 0, 0, 0⟩
      | 177 => ⟨[.any], false, 1, 0, 0, 0⟩
      | 178 => ⟨List.replicate 8 .any, true, 1, 0, 0, 0⟩
      | 179 => { r 1 1 with par := 1 }
      | 180 => ⟨[.any], false, 1, 0, 0, 0⟩
      | 181 => ⟨[.any], false, 1, 0, 0, 0⟩
      | 182 => r 0 3
      | _ => r 0 1

/-- NCONN of a standard type: EN, inputs, outputs (R175). -/
def libConns (t : Nat) : Nat := 1 + (libLayout t).ins.length + (libLayout t).outs

/-! ### Reading inputs (R180) -/

/-- A REAL64 value is finite. -/
def fFinite (w : W64) : Bool := fExp w != 2047

def Inp.okR (x : Inp) : Bool := x.on && x.q != 0 && fFinite x.v
def Inp.okI (x : Inp) : Bool := x.on && x.q != 0

/-- An unconnected BOOL input reads as false, GOOD, usable. -/
def Inp.okB (x : Inp) : Bool := !x.on || x.q != 0
def Inp.b (x : Inp) : Bool := x.on && x.v != 0
def Inp.bq (x : Inp) : Nat := if x.on then x.q else 4

def LibIn.i (c : LibIn) (n : Nat) : Inp := c.ins.getD n ⟨0, 0, 0, 0, false⟩
def LibIn.pr (c : LibIn) (n : Nat) : W64 := c.par.getD n 0
def LibIn.s (c : LibIn) (n : Nat) : W64 := c.st.getD n 0
def LibIn.old (c : LibIn) (n : Nat) : W64 := c.prev.getD n 0

def wb (b : Bool) : W64 := if b then 1 else 0

/-- Outputs with no state. -/
def LibIn.out (c : LibIn) (os : List (W64 × Nat)) : LibOut := ⟨os.map fun o => (o.1, o.2, none), c.st⟩

/-- Outputs with new state. -/
def outSt (os : List (W64 × Nat)) (st : List W64) : LibOut := ⟨os.map fun o => (o.1, o.2, none), st⟩

/-- A REAL64 result that is not finite is stored BAD (R181). -/
def realQ (v : W64) (q : Nat) : Nat := if fFinite v then q else 0

/-- A result held at a limit takes at most LIMITED (R181). -/
def limQ (lim : Bool) (q : Nat) : Nat := if lim then min q 3 else q

def lowQ (qs : List Nat) : Nat := qs.foldl min 4

def real9 : W64 := 0x41CDCD6500000000
def real100 : W64 := 0x4059000000000000
def realHalf : W64 := 0x3FE0000000000000

/-! ### Stateless families (R184 to R188) -/

/-- Left fold over the connected inputs. -/
def foldIns (f : W64 → W64 → W64) : List Inp → W64
  | [] => 0
  | x :: xs => xs.foldl (fun a y => f a y.v) x.v

/-- Integer left fold that tells whether a step saturated. -/
def foldSatIns (f : Int → Int → Int) : List Inp → W64 × Bool
  | [] => (0, false)
  | x :: xs =>
    xs.foldl (fun a y =>
      let e := f a.1.toInt y.v.toInt
      (satI64 e, a.2 || decide (e > i64Max ∨ e < i64Min))) (x.v, false)

def iMinW (a b : W64) : W64 := if a.toInt ≤ b.toInt then a else b
def iMaxW (a b : W64) : W64 := if a.toInt ≤ b.toInt then b else a

/-- An n-input type with no input connected gives 0, BAD (R182). -/
def naryR (c : LibIn) (f : List Inp → W64) : LibOut :=
  let xs := c.ins.filter (·.on)
  if xs = [] then c.out [(0, 0)] else let v := f xs; c.out [(v, realQ v (lowQ (xs.map (·.q))))]

@[inherit_doc naryR]
def naryI (c : LibIn) (f : List Inp → W64 × Bool) : LibOut :=
  let xs := c.ins.filter (·.on)
  if xs = [] then c.out [(0, 0)] else let r := f xs; c.out [(r.1, limQ r.2 (lowQ (xs.map (·.q))))]

def libReal (t : Nat) (c : LibIn) : LibOut :=
  let x := c.i 0
  let y := c.i 1
  let un (v : W64) := c.out [(v, realQ v x.q)]
  let bi (v : W64) := c.out [(v, realQ v (min x.q y.q))]
  if t < 4 then naryR c (foldIns opFAdd)
  else if t < 8 then naryR c (foldIns opFMul)
  else if t < 12 then naryR c (foldIns opFMin)
  else if t < 16 then naryR c (foldIns opFMax)
  else if t < 20 then naryR c fun xs => opFDiv (foldIns opFAdd xs) (opIToF (BitVec.ofNat 64 xs.length))
  else match t with
    | 20 => bi (opFSub x.v y.v)
    | 21 => bi (opFDiv x.v y.v)
    | 22 => un (opFAbs x.v)
    | 23 => un (opFNeg x.v)
    | 24 =>
      let v := opFClamp x.v y.v (c.i 2).v
      c.out [(v, realQ v (limQ (!opFEq v x.v) (min (min x.q y.q) (c.i 2).q)))]
    | 25 => un (opFSqrt x.v)
    | 26 => un (opFExp x.v)
    | 27 => un (opFLn x.v)
    | 28 => un (opFSin x.v)
    | 29 => un (opFCos x.v)
    | 30 => bi (opFAtan2 x.v y.v)
    | 31 => un (opFInt .nearest x.v)
    | 32 => un (opFInt .down x.v)
    | 33 => un (opFInt .up x.v)
    | 34 => un (opFInt .zero x.v)
    | _ => un (opFMA (c.pr 0) x.v (c.pr 1))

def libInt (t : Nat) (c : LibIn) : LibOut :=
  let x := c.i 0
  let y := c.i 1
  let q2 := min x.q y.q
  let sat (e : Int) (q : Nat) := c.out [(satI64 e, limQ (decide (e > i64Max ∨ e < i64Min)) q)]
  if t < 40 then naryI c (foldSatIns (· + ·))
  else if t < 44 then naryI c (foldSatIns (· * ·))
  else if t < 48 then naryI c fun xs => (foldIns iMinW xs, false)
  else if t < 52 then naryI c fun xs => (foldIns iMaxW xs, false)
  else if t < 56 then naryI c fun xs =>
    let r := foldSatIns (· + ·) xs
    (opIDiv r.1 (BitVec.ofNat 64 xs.length), r.2)
  else match t with
    | 56 => sat (x.v.toInt - y.v.toInt) q2
    | 57 =>
      if y.v = 0 then c.out [(opIDiv x.v y.v, 0)]
      else sat (Int.tdiv x.v.toInt y.v.toInt) q2
    | 58 => c.out [(opIRem x.v y.v, if y.v = 0 then 0 else q2)]
    | 59 => sat (x.v.toInt.natAbs : Int) x.q
    | 60 => sat (-x.v.toInt) x.q
    | 61 =>
      let v := iMinW (iMaxW x.v y.v) (c.i 2).v
      c.out [(v, limQ (v != x.v) (min q2 (c.i 2).q))]
    | 62 => c.out [(x.v + y.v, q2)]
    | 63 => c.out [(x.v - y.v, q2)]
    | 64 => c.out [(x.v * y.v, q2)]
    | _ => c.out [(opISat32 x.v, limQ (opISat32 x.v != x.v) x.q)]

/-- FTOI or FTOIN as a block: BAD when not finite, LIMITED when saturated (R185). -/
def r2i (c : LibIn) (md : RMode) (x : Inp) (v : W64) : LibOut :=
  let sat := isInf v || (fFinite v && decide (roundMag md (fNeg v) (fMant v) (fLsb v) >
    (if fNeg v then 2 ^ 63 else 2 ^ 63 - 1)))
  c.out [(opFToI md v, if fFinite x.v then limQ sat x.q else 0)]

def libConv (t : Nat) (c : LibIn) : LibOut :=
  let x := c.i 0
  match t with
  | 66 => c.out [(opIToF x.v, x.q)]
  | 67 => r2i c .nearest x x.v
  | 68 => r2i c .zero x x.v
  | 69 => c.out [(wb (x.v != 0), x.q)]
  | 70 => c.out [(wb x.b, x.bq)]
  | 71 => c.out [(opFDiv (opIToF x.v) real9, x.q)]
  | 72 => r2i c .nearest x (opFMul x.v real9)
  | _ => c.out [(x.v, x.q)]

def libCmp (t : Nat) (c : LibIn) : LibOut :=
  let a := (c.i 0).v
  let b := (c.i 1).v
  let q := min (c.i 0).q (c.i 1).q
  if t < 81 then
    let r := match t with
      | 75 => opFEq a b | 76 => !opFEq a b | 77 => opFLt a b | 78 => opFLe a b | 79 => opFLt b a | _ => opFLe b a
    c.out [(wb r, if opFUn a b then 0 else q)]
  else
    let r := match t with
      | 81 => a == b | 82 => a != b | 83 => decide (a.toInt < b.toInt) | 84 => decide (a.toInt ≤ b.toInt)
      | 85 => decide (b.toInt < a.toInt) | _ => decide (b.toInt ≤ a.toInt)
    c.out [(wb r, q)]

def libLogic (t : Nat) (c : LibIn) : LibOut :=
  let x := c.i 0
  let y := c.i 1
  let q2 := min x.q y.q
  let xs := c.ins.filter (·.on)
  let sh := y.v.toNat % 64
  if t < 95 then
    if xs = [] then c.out [(0, 0)]
    else c.out [(wb (if t < 91 then xs.all (·.b) else xs.any (·.b)), lowQ (xs.map (·.q)))]
  else match t with
    | 95 => c.out [(wb (x.b != y.b), min x.bq y.bq)]
    | 96 => c.out [(wb (!x.b), x.bq)]
    | 97 => c.out [(x.v &&& y.v, q2)]
    | 98 => c.out [(x.v ||| y.v, q2)]
    | 99 => c.out [(x.v ^^^ y.v, q2)]
    | 100 => c.out [(~~~x.v, x.q)]
    | 101 => c.out [(x.v <<< sh, q2)]
    | 102 => c.out [(x.v >>> sh, q2)]
    | 103 => c.out [(x.v.rotateLeft sh, q2)]
    | 104 => c.out [(BitVec.ofNat 64 (popc x.v 64), x.q)]
    | 105 =>
      c.out [(BitVec.ofNat 64 ((List.range 8).foldl (fun n k => n + if (c.i k).b then 2 ^ k else 0) 0),
        lowQ (c.ins.map (·.bq)))]
    | 106 => c.out [(BitVec.ofNat 64 (getBits x.v ((c.pr 0).toNat % 64) 1), x.q)]
    | _ =>
      let q := c.s 0 != 0
      if x.okB ∧ y.okB then
        let q' := if t = 107 then x.b || (q && !y.b) else !y.b && (x.b || q)
        outSt [(wb q', min x.bq y.bq)] [wb q']
      else outSt [(wb q, 2)] c.st

/-- The first input of a list, with its number, that a comparison keeps. -/
def pickBy (better : W64 → W64 → Bool) : List (Nat × Inp) → Option (Nat × Inp)
  | [] => none
  | x :: xs => some (xs.foldl (fun a y => if better y.2.v a.2.v then y else a) x)

/-- The selection types (R188). The quality of SELIDX the manual does not give: it takes that of OUT, BAD when no input is usable
(DESIGN CHOICE, assumption 56). -/
def libSel (t : Nat) (c : LibIn) : LibOut :=
  let number (n : Nat) : W64 := BitVec.ofNat 64 n
  let sel := (List.range c.ins.length).map fun k => (k + 1, c.i k)
  let use := sel.filter fun e => e.2.okR
  let none4 := outSt [(c.s 0, 0), (-1, 0)] c.st
  let keep (v : W64) (q : Nat) (n : Nat) := outSt [(v, q), (number n, q)] [v]
  match t with
  | 109 => let g := c.i 0; let x := if g.b then c.i 2 else c.i 1; c.out [(x.v, realQ x.v (min g.bq x.q))]
  | 110 => let g := c.i 0; let x := if g.b then c.i 2 else c.i 1; c.out [(x.v, min g.bq x.q)]
  | 111 => let g := c.i 0; let x := if g.b then c.i 2 else c.i 1; c.out [(wb x.b, min g.bq x.bq)]
  | 116 =>
    match pickBy (fun a b => opFLt b a) use with
    | some e => keep e.2.v e.2.q e.1
    | none => none4
  | 117 =>
    match pickBy (fun a b => opFLt a b) use with
    | some e => keep e.2.v e.2.q e.1
    | none => none4
  | 118 =>
    (match use with
      | [] => none4
      | [e] => keep e.2.v (min e.2.q 2) e.1
      | [a, b] =>
        let v := opFMul (opFAdd a.2.v b.2.v) realHalf
        keep v (realQ v (min (min a.2.q b.2.q) 2)) 0
      | _ =>
        match use.find? fun e =>
          let lt := (use.filter fun o => opFLt o.2.v e.2.v).length
          let le := (use.filter fun o => opFLe o.2.v e.2.v).length
          decide (lt ≤ 1 ∧ 2 ≤ le) with
        | some e => keep e.2.v (lowQ (use.map fun o => o.2.q)) e.1
        | none => none4)
  | 119 =>
    match (sel.find? fun e => e.2.on && e.2.q == 4).or use.head? with
    | some e => keep e.2.v (realQ e.2.v e.2.q) e.1
    | none => none4
  | _ =>
    let k := c.i 0
    let n := c.ins.length - 1
    let real := decide (t = 112 ∨ t = 113)
    if k.okI ∧ 0 ≤ k.v.toInt ∧ k.v.toInt < n then
      let x := c.i (k.v.toInt.toNat + 1)
      c.out [(x.v, if real then realQ x.v (min k.q x.q) else min k.q x.q)]
    else c.out [((c.i 1).v, 0)]

/-! ### Conditioning (R189) -/

/-- The value that a conditioning type holds at output k: its Y or Q where that is a state field, else the record the output has (R189). -/
def condHeld (t : Nat) (c : LibIn) (k : Nat) : W64 :=
  if k = 0 ∧ (t = 120 ∨ t = 121 ∨ t = 123 ∨ t = 124 ∨ t = 126 ∨ t = 129) then c.s 0 else c.old k

/-- Outputs held because an input was unusable: at most UNCERTAIN, a REAL64 that is not finite BAD (R181). -/
def heldQ (t k : Nat) (v : W64) : Nat :=
  if t = 129 ∨ (t = 123 ∧ k = 1) then 2 else realQ v 2

def libCond (t : Nat) (c : LibIn) : LibOut :=
  let x := c.i 0
  let h := c.h
  let hold := outSt ((List.range (libLayout t).outs).map fun k => (condHeld t c k, heldQ t k (condHeld t c k))) c.st
  let out1 (v : W64) (q : Nat) (st : List W64) := outSt [(v, realQ v q)] st
  if t = 122 then
    let n := (c.pr 0).toNat % 65
    let pos := (c.s 0).toNat % 64
    let st := if c.first then c.st.take 1 ++ List.replicate 64 x.v ++ List.replicate 64 (BitVec.ofNat 64 x.q) else c.st
    let st := (st.set (1 + pos) x.v).set (65 + pos) (BitVec.ofNat 64 x.q)
    let at_ := (pos + 64 - n) % 64
    let v := if n = 0 then x.v else if n = 64 then (if c.first then x.v else c.s (1 + pos)) else st.getD (1 + at_) 0
    let q := if n = 0 then x.q else if n = 64 then (if c.first then x.q else (c.s (65 + pos)).toNat)
      else (st.getD (65 + at_) 0).toNat
    out1 v (q % 256) (st.set 0 (BitVec.ofNat 64 ((pos + 1) % 64)))
  else if ¬ x.okR then (if t = 125 then { hold with st := [canonNaN] } else hold)
  else match t with
    | 120 =>
      let y := if c.first then x.v else
        let k := opFDiv h (opFAdd (c.pr 0) h)
        opFMA k (opFSub x.v (c.s 0)) (c.s 0)
      out1 y x.q [y]
    | 121 =>
      let y := if c.first then x.v else
        opFDiv (opFSub (opFAdd (opFMul (c.pr 1) (c.s 0)) (opFMul (opFAdd (c.pr 0) h) x.v)) (opFMul (c.pr 0) (c.s 1)))
          (opFAdd (c.pr 1) h)
      out1 y x.q [y, x.v]
    | 123 =>
      let hd := c.i 1
      let y := if c.first then x.v
        else if hd.b then c.s 0
        else
          let d := opFMul (c.pr 0) h
          opFAdd (c.s 0) (opFClamp (opFSub x.v (c.s 0)) (opFNeg d) d)
      let q := min x.q hd.bq
      outSt [(y, realQ y (limQ (!opFEq y x.v) q)), (wb (opFEq y x.v), q)] [y]
    | 124 =>
      if c.first then out1 x.v x.q [x.v]
      else
        let up := opFMul (c.pr 0) h
        let dn := opFMul (c.pr 1) h
        let d := opFSub x.v (c.s 0)
        let d1 := if opFLt 0 (c.pr 0) ∧ opFLt up d then up else d
        let d2 := if opFLt 0 (c.pr 1) ∧ opFLt d1 (opFNeg dn) then opFNeg dn else d1
        let y := if d2 = d then x.v else opFAdd (c.s 0) d2
        out1 y (limQ (d2 != d) x.q) [y]
    | 125 =>
      let y := if c.first ∨ isNaN (c.s 0) then 0 else opFDiv (opFSub x.v (c.s 0)) h
      out1 y x.q [x.v]
    | 126 =>
      let rs := c.i 1
      let u := if c.first ∨ rs.b then c.pr 3 else opFMA (opFMul (c.pr 0) h) x.v (c.s 0)
      let y := if c.first ∨ rs.b then u else opFClamp u (c.pr 1) (c.pr 2)
      let lim := !(c.first || rs.b) && (opFEq y (c.pr 1) || opFEq y (c.pr 2))
      out1 y (limQ (lim || !opFEq u y) (min x.q rs.bq)) [y]
    | 127 =>
      let n := max 1 (min 64 (c.pr 0).toNat)
      let pos := (c.s 0).toNat % 64
      let st := if c.first then c.st.take 1 ++ List.replicate 64 x.v else c.st
      let st := st.set (1 + pos) x.v
      let vs := (List.range n).map fun k => st.getD (1 + (pos + 65 + k - n) % 64) 0
      let sum := match vs with | [] => 0 | v :: vs => vs.foldl opFAdd v
      let y := opFDiv sum (opIToF (BitVec.ofNat 64 n))
      out1 y x.q (st.set 0 (BitVec.ofNat 64 ((pos + 1) % 64)))
    | 128 =>
      let db := c.pr 0
      let y := if opFLe (opFAbs x.v) db then 0 else if opFLt 0 x.v then opFSub x.v db else opFAdd x.v db
      out1 y x.q c.st
    | 129 =>
      let q := if opFLe (c.pr 1) x.v then 1 else if opFLe x.v (c.pr 0) then 0 else c.s 0
      outSt [(q, x.q)] [q]
    | 130 =>
      let n := max 2 (min 16 (c.pr 0).toNat)
      let px (i : Nat) := c.pr (1 + i)
      let py (i : Nat) := c.pr (17 + i)
      if opFLt x.v (px 0) then out1 (py 0) (min x.q 3) c.st
      else if opFLe (px (n - 1)) x.v then out1 (py (n - 1)) (limQ (!opFEq (px (n - 1)) x.v) x.q) c.st
      else
        let i := ((List.range (n - 1)).filter fun i => opFLe (px i) x.v).length - 1
        out1 (opFAdd (py i) (opFDiv (opFMul (opFSub x.v (px i)) (opFSub (py (i + 1)) (py i)))
          (opFSub (px (i + 1)) (px i)))) x.q c.st
    | _ =>
      let brk := c.pr 0
      let a := opFDiv (opFMul x.v real100) brk
      let b := opFDiv (opFMul (opFSub x.v brk) real100) (opFSub real100 brk)
      let oa := opFClamp a 0 real100
      let ob := opFClamp b 0 real100
      outSt [(oa, realQ oa (limQ (!opFEq oa a) x.q)), (ob, realQ ob (limQ (!opFEq ob b) x.q))] c.st

/-! ### Control (R190 to R193) -/

/-- What the body of R191 computes before the store. -/
structure PidRes where
  out : W64
  u : W64
  q : Nat
  status : Nat
  i : W64
  d : W64
  pvPrev : W64
  spLast : W64
  validPv : W64
  ff : W64
  set : W64
  deriving DecidableEq, Repr

/-- PID and its variants (R191 to R193). `clampOut` is false for PIDSTEP. State: OUTLAST, I, D, PVPREV, SPLAST, VALIDPV, then the
variant's own field. Parameters of PID_GS hold KP, TI and TD four times in place of once. -/
def pidScan (t : Nat) (c : LibIn) (clampOut : Bool) : PidRes :=
  let pv := c.i 0
  let sp := c.i 1
  let trk := (c.i 2).b && (c.i 2).okB && (c.i 3).okR
  let man := (c.i 4).b && (c.i 4).okB
  let mv := c.i 5
  let gs := decide (t = 134)
  let setIn := c.i 6
  let setOk := setIn.okI && decide (0 ≤ setIn.v.toInt ∧ setIn.v.toInt < 4)
  let setOld := (c.s 6).toNat % 4
  let set := if gs then (if setOk then setIn.v.toNat else setOld) else 0
  let kpOf (k : Nat) := if gs then c.pr (1 + k) else c.pr 1
  let kp := kpOf set
  let ti := if gs then c.pr (5 + set) else c.pr 2
  let td := if gs then c.pr (9 + set) else c.pr 3
  let o := if gs then 13 else 4
  let tdf := c.pr o
  let beta := c.pr (o + 1)
  let lo := c.pr (o + 2)
  let hi := c.pr (o + 3)
  let pvfail := c.pr (o + 4)
  let failval := c.pr (o + 5)
  let kff := c.pr (o + 6)
  let s : W64 := if c.pr 0 = 0 then fOne else opFNeg fOne
  let outLast := c.s 0
  let spv := if sp.okR then sp.v else c.s 4
  let spq := if sp.okR then sp.q else 2
  let auto := !trk && !man
  let modeBits := if trk then 4 else if man then 2 else 1
  let ffv := if t = 133 then (if (c.i 6).okR then opFMul kff (c.i 6).v else c.s 6) else 0
  let ffq := if t = 133 then (if (c.i 6).okR then (c.i 6).q else 2) else 4
  let st0 := modeBits + (if sp.okR then 0 else 64) + (if pv.okR then 0 else 32) + (if gs ∧ !setOk then 256 else 0)
  let cl (u : W64) := if clampOut then opFClamp u lo hi else u
  if !pv.okR ∧ auto then
    let u := if pvfail = 0 then outLast else failval
    let out := if pvfail = 0 then outLast else cl failval
    { out := out, u := out, q := realQ out 2, status := st0 + (if pvfail = 0 then 0 else 128),
      i := c.s 1, d := 0, pvPrev := c.s 3, spLast := spv, validPv := 0, ff := ffv, set := BitVec.ofNat 64 set }
  else
    let e := opFMul s (opFSub spv pv.v)
    let pOf (k : W64) := opFMul k (opFMul s (opFSub (opFMul beta spv) pv.v))
    let p := if pv.okR then pOf kp else 0
    let dpv := if c.s 5 = 1 then opFSub pv.v (c.s 3) else 0
    let d := if pv.okR then opFDiv (opFSub (opFMul tdf (c.s 2)) (opFMul (opFMul (opFMul kp td) s) dpv)) (opFAdd tdf c.h)
      else 0
    let i0 := if pv.okR ∧ c.s 5 = 0 then opFSub (opFSub outLast p) d else c.s 1
    let i1 := if gs ∧ pv.okR ∧ set ≠ setOld then opFSub (opFAdd i0 (pOf (kpOf setOld))) p else i0
    let i2 := if auto then
        (if t = 135 ∧ (c.i 6).okR then opFMA (opFDiv c.h (opFAdd ti c.h)) (opFSub (c.i 6).v i1) i1
         else if opFLt 0 ti then opFMA (opFDiv (opFMul kp c.h) ti) e i1 else i1)
      else i1
    let u := if auto then
        (if t = 133 then opFAdd (opFAdd (opFAdd p i2) d) ffv else opFAdd (opFAdd p i2) d)
      else if trk then (c.i 3).v else if mv.okR then mv.v else outLast
    let out := cl u
    let back := opFSub (opFSub out p) d
    let i3 := if !auto ∨ !opFEq out u then (if t = 133 then opFSub back ffv else back) else i2
    let q := if auto then min (min pv.q spq) ffq
      else if trk then (c.i 3).q else if mv.okR then mv.q else 2
    { out := out, u := u, q := realQ out (limQ (!opFEq out u) q),
      status := st0 + (if opFLt hi u then 8 else 0) + (if opFLt u lo then 16 else 0),
      i := i3, d := d, pvPrev := if pv.okR then pv.v else c.s 3, spLast := spv, validPv := if pv.okR then 1 else 0,
      ff := ffv, set := BitVec.ofNat 64 set }

def libControl (t : Nat) (c : LibIn) : LibOut :=
  let x := c.i 0
  let st6 (r : PidRes) := [r.out, r.i, r.d, r.pvPrev, r.spLast, r.validPv]
  let word (n : Nat) : W64 := BitVec.ofNat 64 n
  match t with
  | 132 | 135 => let r := pidScan t c true; outSt [(r.out, r.q), (word r.status, 4)] (st6 r)
  | 133 => let r := pidScan t c true; outSt [(r.out, r.q), (word r.status, 4)] (st6 r ++ [r.ff])
  | 134 => let r := pidScan t c true; outSt [(r.out, r.q), (word r.status, 4)] (st6 r ++ [r.set])
  | 136 =>
    let r := pidScan t c false
    let tt := c.pr 10
    let lsh := (c.i 6).b
    let lsl := (c.i 7).b
    let a := opFClamp (opFAdd (c.s 6) (opFMul (opFDiv (opFSub r.u (c.s 0)) real100) tt)) (opFNeg tt) tt
    let up := opFLe c.h a && !lsh
    let dn := opFLe a (opFNeg c.h) && !lsl
    let a := if up then opFSub a c.h else if dn then opFAdd a c.h else a
    let a := if (lsh ∧ opFLt 0 a) ∨ (lsl ∧ opFLt a 0) then 0 else a
    outSt [(wb up, min r.q (c.i 6).bq), (wb dn, min r.q (c.i 7).bq), (word r.status, 4)] (st6 r ++ [a])
  | 137 =>
    let sp := c.i 1
    let inv := c.pr 1 != 0
    if ¬ x.okR then outSt [(c.pr 2, 2)] [c.pr 2]
    else if ¬ sp.okR then outSt [(c.s 0, 2)] c.st
    else
      let q := if opFLt x.v (opFSub sp.v (c.pr 0)) then wb (!inv)
        else if opFLt (opFAdd sp.v (c.pr 0)) x.v then wb inv else c.s 0
      outSt [(q, min x.q sp.q)] [q]
  | 138 | 139 =>
    let u := if t = 138 then opFMul (c.pr 0) x.v else opFAdd x.v (c.pr 0)
    let v := opFClamp u (c.pr 1) (c.pr 2)
    c.out [(v, realQ v (limQ (!opFEq v u) x.q))]
  | 140 =>
    if ¬ x.okR then outSt [(c.s 0, realQ (c.s 0) 2)] c.st
    else
      let g := opFClamp x.v (c.pr 0) (c.pr 1)
      let d := opFMul (c.pr 2) c.h
      let y := if opFLt 0 (c.pr 2) then opFAdd (c.s 0) (opFClamp (opFSub g (c.s 0)) (opFNeg d) d) else g
      outSt [(y, realQ y (limQ (!opFEq y x.v) x.q))] [y]
  | _ =>
    if ¬ x.okR then
      let v := match (c.pr 0).toNat with
        | 0 => c.old 0 | 1 => 0x400CCCCCCCCCCCCD | _ => 0x4035000000000000
      c.out [(v, realQ v 2)]
    else
      let u := opFAdd 0x4010000000000000 (opFMul x.v 0x3FC47AE147AE147B)
      let v := opFClamp u 0x400E666666666666 0x4034800000000000
      c.out [(v, realQ v (limQ (!opFEq v u) x.q))]

/-! ### Timers, edges and counters (R194) -/

/-- `min (ET + P, PT)`. -/
def etAdd (c : LibIn) (et : W64) : W64 := satI64 (min (et.toInt + c.p.toInt) (c.pr 0).toInt)

/-- The outputs a timer or counter holds, as its state fields give them; an edge detector has none and holds its record (R194). -/
def timerHeld (t : Nat) (c : LibIn) : List W64 :=
  let ge (a b : W64) := wb (decide (b.toInt ≤ a.toInt))
  match t with
  | 142 => [if c.s 1 = 0 then 0 else ge (c.s 0) (c.pr 0), c.s 0]
  | 143 => [wb (!c.first && c.s 2 != 0), c.s 0]
  | 144 => [wb (c.s 2 != 0), c.s 0]
  | 145 => [ge (c.s 0) (c.pr 0), c.s 0]
  | 150 => [ge (c.s 0) (c.pr 0), c.s 0]
  | 151 => [ge 0 (c.s 0), c.s 0]
  | 152 => [ge (c.s 0) (c.pr 0), ge 0 (c.s 0), c.s 0]
  | 153 => [wb (c.s 0 != 0)]
  | _ => [c.old 0]

def libTimer (t : Nat) (c : LibIn) : LibOut :=
  let x := c.i 0
  let b := x.b
  let pt := c.pr 0
  let ge (a b : W64) := decide (b.toInt ≤ a.toInt)
  let hold := outSt ((timerHeld t c).map fun v => (v, 2)) c.st
  let q1 := x.bq
  let q2 := min x.bq (c.i 1).bq
  let edge (prev now : Bool) := !c.first && !prev && now
  if ¬ c.ins.all (·.okB) then hold
  else match t with
    | 142 =>
      let (et, run) : W64 × Bool := if b then (if c.s 1 = 0 then (0, true) else (etAdd c (c.s 0), true)) else (0, false)
      outSt [(wb (run && ge et pt), q1), (et, q1)] [et, wb run]
    | 143 =>
      let q := !c.first && c.s 2 != 0
      let (et, run, q) : W64 × Bool × Bool :=
        if b then (0, false, true)
        else if q then
          let et := if c.s 1 = 0 then 0 else etAdd c (c.s 0)
          (et, true, !ge et pt)
        else (c.s 0, c.s 1 != 0, false)
      outSt [(wb q, q1), (et, q1)] [et, wb run, wb q]
    | 144 =>
      let q0 := c.s 2 != 0
      let (et, q) : W64 × Bool :=
        if q0 then let et := etAdd c (c.s 0); (et, !ge et pt)
        else if edge (c.s 1 != 0) b then (0, true)
        else (if b then c.s 0 else 0, false)
      outSt [(wb q, q1), (et, q1)] [et, wb b, wb q]
    | 145 =>
      let et := if (c.i 1).b then 0 else if b then etAdd c (c.s 0) else c.s 0
      outSt [(wb (ge et pt), q2), (et, q2)] [et]
    | 146 =>
      let et := satI64 ((c.s 0).toInt + c.p.toInt)
      if ge et pt then outSt [(1, 4)] [et - pt] else outSt [(0, 4)] [et]
    | 147 => outSt [(wb (edge (c.s 0 != 0) b), q1)] [wb b]
    | 148 => outSt [(wb (!c.first && c.s 0 != 0 && !b), q1)] [wb b]
    | 149 => outSt [(wb (!c.first && (c.s 0 != 0) != b), q1)] [wb b]
    | 150 =>
      let cv := if (c.i 1).b then 0 else if edge (c.s 1 != 0) b then satI64 ((c.s 0).toInt + 1) else c.s 0
      outSt [(wb (ge cv pt), q2), (cv, q2)] [cv, wb b]
    | 151 =>
      let cv := if (c.i 1).b then pt else if edge (c.s 1 != 0) b then satI64 ((c.s 0).toInt - 1) else c.s 0
      outSt [(wb (ge 0 cv), q2), (cv, q2)] [cv, wb b]
    | 152 =>
      let d := (c.i 1).b
      let up := edge (c.s 1 != 0) b
      let dn := edge (c.s 2 != 0) d
      let cv := if (c.i 2).b then 0 else if (c.i 3).b then pt
        else if up && !dn then satI64 ((c.s 0).toInt + 1) else if dn && !up then satI64 ((c.s 0).toInt - 1) else c.s 0
      let q := lowQ (c.ins.map (·.bq))
      outSt [(wb (ge cv pt), q), (wb (ge 0 cv), q), (cv, q)] [cv, wb b, wb d]
    | _ =>
      let q := c.s 0 != 0
      if b = q then outSt [(wb q, q1)] [wb q, 0, 0]
      else
        let et := if c.s 2 = 0 then 0 else etAdd c (c.s 1)
        let q' := if ge et pt then b else q
        outSt [(wb q', q1)] [wb q', et, 1]

/-! ### Alarms (R195, R196)

The RUN word keeps for limit k bits 4k RUN, 4k + 1 ACT, 4k + 2 acknowledged since ACT rose, and bit 16 UNACK (DEDUCED, assumption 12). -/

/-- One limit's timing: new ET, RUN, ACT, acknowledged. -/
def almLimit (c : LibIn) (cond clear latch ackEdge : Bool) (et : W64) (run act acked : Bool) : W64 × Bool × Bool × Bool :=
  let dly := c.pr 1
  let ge (a b : W64) := decide (b.toInt ≤ a.toInt)
  let et' := if cond then (if run then satI64 (min (et.toInt + c.p.toInt) dly.toInt) else 0) else 0
  let acked := act && (acked || ackEdge)
  let act' := if act then !(clear && (!latch || acked)) else cond && ge et' dly
  (et', cond, act', act' && acked)

def libAlarm (t : Nat) (c : LibIn) : LibOut :=
  let n := c.ins.length
  let x := c.i 0
  let ack := (c.i (n - 2)).b
  let sup := (c.i (n - 1)).b
  let hys := c.pr 0
  let latch := c.pr 2 != 0
  let lim := c.pr 3
  let rw := (c.s 1).toNat
  let ackEdge := !c.first && ack && c.s 2 == 0
  let usable := match t with
    | 159 => x.okB
    | 160 => true
    | 161 => true
    | 157 => x.okR && (c.i 1).okR
    | _ => x.okR
  let hi (l : W64) := (opFLt l x.v, opFLt x.v (opFSub l hys))
  let low (l : W64) := (opFLt x.v l, opFLt (opFAdd l hys) x.v)
  let conds : List (Bool × Bool) := match t with
    | 154 => [hi lim]
    | 155 => [low lim]
    | 156 => [hi lim, hi (c.pr 4), low (c.pr 5), low (c.pr 6)]
    | 157 => let d := opFAbs (opFSub x.v (c.i 1).v); [(opFLt lim d, opFLt d (opFSub lim hys))]
    | 158 =>
      let d := if c.first ∨ isNaN (c.s 3) then 0 else opFDiv (opFAbs (opFSub x.v (c.s 3))) c.h
      [(opFLt lim d, opFLt d (opFSub lim hys))]
    | 159 => let ne := x.b != (lim != 0); [(ne, !ne)]
    | 160 => let bad := decide (x.q ≤ 1); [(bad, !bad)]
    | _ => let any := (c.ins.take 8).any fun s => s.on && s.v.getLsbD 0; [(any, !any)]
  let ets := [c.s 0, c.s 3, c.s 4, c.s 5]
  let rs := (List.range conds.length).map fun k =>
    let cd := conds.getD k (false, true)
    almLimit c cd.1 cd.2 latch ackEdge (ets.getD k 0) (rw.testBit (4 * k)) (rw.testBit (4 * k + 1)) (rw.testBit (4 * k + 2))
  let actOld := (List.range conds.length).any fun k => rw.testBit (4 * k + 1)
  let act := rs.any fun r => r.2.2.1
  let unackOld := rw.testBit 16
  let unack := if t = 161 then (c.ins.take 8).any fun s => s.on && s.v.getLsbD 1
    else (unackOld || (act && !actOld)) && !ackEdge
  let inprev := if t = 158 then [if x.okR then x.v else canonNaN] else []
  let ctl := min (c.i (n - 2)).bq (c.i (n - 1)).bq
  let q := min ctl (if t = 161 then lowQ (((c.ins.take 8).filter (·.on)).map (·.q))
    else if t = 159 then x.bq else if t = 157 then min x.q (c.i 1).q else x.q)
  let pack (act unack qalm supp : Bool) (rs : List (W64 × Bool × Bool × Bool)) (runBits : Nat) (st : List W64) : LibOut :=
    let latched := latch && act && !(rs.any fun r => r.2.1 && r.2.2.1)
    let lims := if t = 156 then (List.range rs.length).foldl (fun w k =>
      w + if (rs.getD k (0, false, false, false)).2.2.1 then 2 ^ (11 - k) else 0) 0 else 0
    let state := (if act then 1 else 0) + (if unack then 2 else 0) + (if qalm then 4 else 0) + (if supp then 8 else 0) +
      (if latched then 16 else 0) + lims
    outSt [(wb act, if supp then (c.i (n - 1)).bq else if qalm then min ctl 2 else q), (BitVec.ofNat 64 state, 4)]
      (let e := st.getD 0 0
       [e, BitVec.ofNat 64 runBits, wb ack] ++ (if t = 156 then (st.drop 1) else inprev))
  if sup then pack false false false true [] 0 [0, 0, 0, 0]
  else if usable == false then
    let held := (List.range conds.length).map fun k =>
      ((ets.getD k 0, rw.testBit (4 * k), rw.testBit (4 * k + 1), rw.testBit (4 * k + 2)) : W64 × Bool × Bool × Bool)
    pack actOld unackOld true false held rw ets
  else
    let bits := (List.range rs.length).foldl (fun w k =>
      let r := rs.getD k (0, false, false, false)
      w + (if r.2.1 then 2 ^ (4 * k) else 0) + (if r.2.2.1 then 2 ^ (4 * k + 1) else 0) +
        (if r.2.2.2 then 2 ^ (4 * k + 2) else 0)) (if unack then 2 ^ 16 else 0)
    pack act unack false false rs bits ((rs.map (·.1)) ++ (List.replicate (4 - rs.length) 0))

/-! ### Totalisers and utility (R198, R199) -/

def libTotal (t : Nat) (c : LibIn) : LibOut :=
  let x := c.i 0
  match t with
  | 162 | 163 =>
    let run := if (c.i 1).on then (c.i 1).b else true
    let rst := (c.i 2).b
    let acc := c.s 0
    let bad := c.s 2
    let q := lowQ [if x.okR then x.q else 2, (c.i 1).bq, (c.i 2).bq]
    let done (a : W64) (q : Nat) : List (W64 × Nat) := if t = 163 then [(wb (opFLe (c.pr 0) a), q)] else []
    let give (a : W64) (q : Nat) (bad : W64) := [(a, realQ a q), (bad, q)] ++ done a q
    if rst then outSt (give 0 q 0) [0, 0, 0]
    else if ¬ x.okR then
      let bad := satI64 (bad.toInt + 1)
      outSt (give acc q bad) [acc, c.s 1, bad]
    else if run then
      let y := opFSub (opFMul x.v c.h) (c.s 1)
      let tt := opFAdd acc y
      if fFinite tt then
        let k := opFSub (opFSub tt acc) y
        outSt (give tt q bad) [tt, k, bad]
      else outSt (give acc (min q 3) bad) c.st
    else outSt (give acc q bad) c.st
  | 164 =>
    if ¬ x.okB then outSt [(c.s 0, 2)] c.st
    else let v := if x.b then satI64 ((c.s 0).toInt + c.p.toInt) else c.s 0; outSt [(v, x.bq)] [v]
  | 165 =>
    if ¬ x.okB then outSt [(c.s 0, 2)] c.st
    else
      let v := if !c.first && x.b && c.s 1 == 0 then satI64 ((c.s 0).toInt + 1) else c.s 0
      outSt [(v, x.bq)] [v, wb x.b]
  | 166 =>
    let q := min x.q (c.i 1).bq
    if ¬ x.okR then outSt [(c.s 0, realQ (c.s 0) 2), (c.s 1, realQ (c.s 1) 2)] c.st
    else if (c.i 1).b ∨ c.s 2 = 0 then outSt [(x.v, q), (x.v, q)] [x.v, x.v, 1]
    else
      let a := opFMin (c.s 0) x.v
      let b := opFMax (c.s 1) x.v
      outSt [(a, q), (b, q)] [a, b, 1]
  | _ =>
    if ¬ x.okR then outSt [(c.s 0, realQ (c.s 0) 2)] c.st
    else
      let sum := opFAdd (c.s 1) x.v
      let k := c.s 2 + 1
      if k = c.pr 0 then
        let a := opFDiv sum (opIToF (c.pr 0))
        outSt [(a, realQ a x.q)] [a, 0, 0]
      else outSt [(c.s 0, realQ (c.s 0) x.q)] [c.s 0, sum, k]

def libUtil (t : Nat) (c : LibIn) : LibOut :=
  let x := c.i 0
  match t with
  | 168 | 169 | 170 | 171 => ⟨[(x.v, if x.on then x.q else 4, some x.stamp)], c.st⟩
  | 172 | 173 | 174 | 175 => c.out [(c.pr 0, 4)]
  | 176 =>
    let q := c.i 1
    c.out [(x.v, if q.okI ∧ 0 ≤ q.v.toInt ∧ q.v.toInt ≤ 4 then q.v.toNat else 0)]
  | 177 => c.out [(wb (x.q == 4), 4)]
  | 178 => let xs := c.ins.filter (·.on); c.out [(BitVec.ofNat 64 (if xs = [] then 0 else lowQ (xs.map (·.q))), 4)]
  | 179 => if x.okR then c.out [(x.v, x.q)] else c.out [(c.pr 0, realQ (c.pr 0) 2)]
  | 180 => c.out [(wb (x.flags.testBit 2), 4)]
  | 181 => c.out [((BitVec.ofNat 48 (c.cyc + 2 ^ 48 - x.stamp % 2 ^ 48)).signExtend 64, x.q)]
  | 182 => c.out [(BitVec.ofNat 64 c.cyc, 4), (c.p, 4), (BitVec.ofNat 64 c.wake, 4)]
  | _ => c.out [(wb c.first, 4)]

/-- One scan of a standard type. -/
def libScan (t : Nat) (c : LibIn) : LibOut :=
  if t < 36 then libReal t c
  else if t < 66 then libInt t c
  else if t < 75 then libConv t c
  else if t < 87 then libCmp t c
  else if t < 109 then libLogic t c
  else if t < 120 then libSel t c
  else if t < 132 then libCond t c
  else if t < 142 then libControl t c
  else if t < 154 then libTimer t c
  else if t < 162 then libAlarm t c
  else if t < 168 then libTotal t c
  else libUtil t c

end Sys2Proof.Machine
end

