-- ==== Sys2Proof/Machine/LaneMem.lean ====
section
/-! DEFINITION. The memory work of a lane (R129 to R143, R162 to R166, R265, R292): list entries, Frame Cache fills and
write-backs, record prefetch, the start of a scan, the store queue, the windows of the comparator and the end of a part. -/

namespace Sys2Proof.Machine

/-! ### Books and lists -/

/-- The Book slot. -/
def State.slot (s : State) (i : Nat) : BookSlot := mget BookSlot.init s.book.slots i

/-- The running Book. -/
def State.runBook (s : State) : Option Book := s.book.running.bind fun i => (s.slot i).img

/-- The target Book of the pending Turn. -/
def State.turnBook (s : State) : Option Book := s.book.turn.bind fun t => (s.slot t.target).img

/-- Class c follows the target Book of the pending Turn: its Turn work is done (R216). -/
def State.turned (s : State) (c : Nat) : Bool := s.turnBook.isSome && ((s.cls c).turnDone || s.bit R.bookTurnTurned c)

/-- The Book that a class follows. -/
def State.clsBook (s : State) (c : Nat) : Option Book := if s.turned c then s.turnBook else s.runBook

/-- Rows of both Books that are in force, by the class of each. -/
def State.inForce (s : State) {α : Type} (rows : Book → List α) (cls : α → Nat) : List α :=
  ((s.runBook.elim [] rows).filter fun r => !s.turned (cls r)) ++ ((s.turnBook.elim [] rows).filter fun r => s.turned (cls r))

/-- The instance of a number, of the Book that its class follows. -/
def State.instOf (s : State) (inst : Nat) : Option InstRow := (s.inForce (·.insts) (·.cls)).find? fun r => r.inst == inst

/-- The directory rows in force. -/
def State.dirRows (s : State) : List DirRow := s.inForce (·.dir) (·.e.cls)

/-- The lanes that carry the lists of a class: its lane set, a failed lane's lists on the spare (R88, R266). -/
def State.classLanes (s : State) (c : Nat) : List Nat :=
  let sparing := s.flag R.cmpStatusSparing
  let gone := s.fld R.cmpStatusSpared
  (List.range 8).filter fun l =>
    (s.bit (R.bookTcCfgLanes c) l && !(sparing && gone == l)) || (sparing && s.bit R.cmpStatusSpare l && s.bit (R.bookTcCfgLanes c) gone)

/-- Signal SRAM address of a frame grain index (R129, R134). -/
def frameAddr (g : Nat) : Nat := 0x1000000 + g * 64

/-- Class `a` has priority over class `b` (R90). -/
def State.prior (s : State) (a b : Nat) : Bool :=
  let pa := s.fld (R.bookTcCfgPeriod a)
  let pb := s.fld (R.bookTcCfgPeriod b)
  decide (pa < pb) || (pa == pb && decide (a < b))

/-- The class with priority over all others of those that `p` admits (R90). -/
def State.topClass (s : State) (p : Nat → Bool) : Option Nat :=
  (List.range 8).foldl (fun best c =>
    if p c then
      match best with
      | none => some c
      | some b => if s.prior c b then some c else some b
    else best) none

/-- LANEn_STATE: the class being served, BUSY, SUSPENDED (a list begun, not walked to its end and not being scanned, R132) and POS
(R172). -/
def State.laneStatus (s : State) (l : Nat) (cur : Option Nat) (pos : Nat) : State :=
  let ln := s.lane l
  let susp := (List.range 8).foldl (fun w c =>
    if ln.ready.testBit c ∧ cur ≠ some c ∧ mget 0 ln.next c ≠ 0 ∧ mget 0 ln.next c < s.fld (R.laneListCount l c) then w + 2 ^ c
    else w) 0
  let s := s.setFld (R.laneStateClass l) (cur.getD 0)
  let s := s.setFlag (R.laneStateBusy l) (cur.isSome || ln.ready != 0)
  let s := s.setFld (R.laneStateSuspended l) susp
  s.setFld (R.laneStatePos l) pos

/-! ### Write-back (R133, R265, R292) -/

/-- Sum of GRAINS over all lists of a lane in the running Book: the data grains of its undo area (R264). -/
def State.undoLen (s : State) (l : Nat) : Nat :=
  match s.runBook with
  | none => 0
  | some b => (b.lists.filter fun x => x.lane == l).foldl (fun n x => x.entries.foldl (fun n e => n + e.grains) n) 0

/-- Base grain of a lane's undo area, while the running Book names a spare (R264). -/
def State.undoBase (s : State) (l : Nat) : Option Nat :=
  match s.runBook with
  | none => none
  | some b => if b.sched.spare.isSome then (b.sched.undo.find? fun e => e.1 == l).map (·.2) else none

/-- Address of an index word of a lane's undo area (R264). -/
def undoIdx (base i : Nat) : Nat := frameAddr base + 4 * i

/-- Address of a data grain of a lane's undo area (R264). -/
def undoData (base u i : Nat) : Nat := frameAddr (base + ceilDiv u 16 + i)

/-- The lane under whose name the undo area of lane `l` stands: the spared lane's while `l` carries its lists (R267). -/
def State.homeLane (s : State) (l : Nat) : Nat := s.asOwner l

/-- The undo save before the first write-back of a frame grain in a class cycle (R265). -/
def State.undoSave (s : State) (l cls g : Nat) : State :=
  match s.undoBase l with
  | none => s
  | some base =>
    let u := s.undoLen l
    let word := fun i => s.readN 4 (undoIdx base i)
    let mine := fun i => word i / 2 ^ 31 == 1 && word i % 2 ^ 19 == g && word i / 2 ^ 19 % 8 == cls
    if (List.range u).any mine then s
    else
      match (List.range u).find? fun i => word i / 2 ^ 31 == 0 with
      | none => s
      | some i =>
        (s.setWords (undoData base u i) (s.grain (frameAddr g))).writeN 4 (undoIdx base i) (2 ^ 31 + cls * 2 ^ 19 + g % 2 ^ 19)

/-- VALID cleared in every index word of the lane that names the class (R265). -/
def State.undoClear (s : State) (l cls : Nat) : State :=
  match s.undoBase l with
  | none => s
  | some base =>
    (List.range (s.undoLen l)).foldl (fun s i =>
      let w := s.readN 4 (undoIdx base i)
      if w / 2 ^ 31 = 1 ∧ w / 2 ^ 19 % 8 = cls then s.writeN 4 (undoIdx base i) (w - 2 ^ 31) else s) s

/-- Grains of Wake staging in use: preserved contents and the held Input records (R292, R293). -/
def State.stagingUsed (s : State) : Nat :=
  s.classes.foldl (fun n k => n + k.2.shipOld.length) (s.pair.held.foldl (fun n h => n + h.grains.length) 0)

/-- Wake staging has a free grain for a write-back that needs one: 65,536 grains in all (R37, R292). -/
def State.stagingFree (s : State) (cls g : Nat) : Bool :=
  let k := s.cls cls
  !(mget false k.ship (frameAddr g / 64)) || (k.shipOld.any fun e => e.1 == frameAddr g / 64) ||
    decide (s.stagingUsed < 65536)

/-- Preserves the shipped content of a grain that a Commit record still has to carry (R292). -/
def State.stagingSave (s : State) (cls g : Nat) : State :=
  let a := frameAddr g / 64
  let k := s.cls cls
  if mget false k.ship a ∧ ¬ (k.shipOld.any fun e => e.1 == a) then
    s.modCls cls fun k => { k with shipOld := mput [] k.shipOld a (s.grain (frameAddr g)) }
  else s

/-- XOR of a list of words. -/
def xorAll (ws : List W64) : W64 := ws.foldl (· ^^^ ·) 0

/-- The observation words of a write-back or a drain, each engine's own, folded while the lane is BUSY by every engine that the debugger has
not halted (R243, R244, R261). -/
def State.foldBoth (s : State) (l : Nat) (m c : W64) : State :=
  let one := fun (e : Engine) (o : W64) => if e.halted then e else e.fold1 s.windowLen o
  if s.flag (R.laneStateBusy l) then s.modLane l fun ln => { ln with main := one ln.main m, chk := one ln.chk c } else s

/-- The eight words of a cache line in an engine. -/
def Engine.lineWords (e : Engine) (i : Nat) : List W64 := (List.range 8).map fun w => mget 0 e.fc (i * 8 + w)

/-- The engine with the eight words of a cache line. -/
def Engine.setLine (e : Engine) (i : Nat) (ws : List W64) : Engine :=
  { e with fc := (List.range 8).foldl (fun m w => mput 0 m (i * 8 + w) (ws.getD w 0)) e.fc }

/-- Writes a dirty line back to Signal SRAM: undo save, Wake staging, the write, the fold, the grain marked as written for
the class cycle (R133, R244, R265, R287, R292). -/
def State.lineBack (s : State) (l i : Nat) : State :=
  let ln := s.lane l
  let d := mget 0 ln.dirty i
  if d = 0 then s
  else
    let g := mget 0 ln.tags i - 1
    let c := d - 1
    let s := s.undoSave (s.homeLane l) c g
    let s := s.stagingSave c g
    let ws := ln.main.lineWords i
    let s := s.setWords (frameAddr g) ws
    let a := frameAddr g / 64
    let s := s.modCls c fun k => { k with wrFrm := mput false k.wrFrm a true }
    let s := s.modLane l fun ln => { ln with dirty := mdel ln.dirty i }
    let mo := xorAll ws ^^^ BitVec.ofNat 64 a
    let co := xorAll (ln.chk.lineWords i) ^^^ BitVec.ofNat 64 a
    s.foldBoth l mo co

/-! ### Fills (R131 step 2, R142) -/

/-- The smallest line without a grain, of 896. -/
def freeLine (m : NMap Nat) : Option Nat :=
  (List.range 896).find? fun i => mget 0 m i == 0

/-- The least recently used line of those whose grain `keep` does not hold back (R142). -/
def LaneSt.lru (ln : LaneSt) (keep : Nat → Bool) : Option Nat :=
  ((ln.tags.filter fun e => !keep (e.2 - 1)).foldl (fun (b : Option (Nat × Nat)) e =>
    let u := mget 0 ln.used e.1
    match b with
    | none => some (e.1, u)
    | some (i, v) => if u < v then some (e.1, u) else some (i, v)) none).map (·.1)

/-- Marks a line as used now. -/
def LaneSt.touch (ln : LaneSt) (i : Nat) : LaneSt :=
  { ln with used := mput 0 ln.used i (ln.useCount + 1), useCount := ln.useCount + 1 }

/-- Brings a frame grain into the Frame Cache if it is not there, in place of the least recently used grain outside `keep`, which goes back to
Signal SRAM if it is dirty (R131 step 2, R142). `none`: that write-back waits for Wake staging (R292), or no line is free. -/
def State.fillGrain (s : State) (l : Nat) (keep : Nat → Bool) (g : Nat) : Option State :=
  let ln := s.lane l
  match ln.line g with
  | some i => some (s.modLane l fun ln => ln.touch i)
  | none =>
    match (freeLine ln.tags).orElse fun _ => ln.lru keep with
    | none => none
    | some i =>
      let d := mget 0 ln.dirty i
      if d ≠ 0 ∧ !s.stagingFree (d - 1) (mget 0 ln.tags i - 1) then none
      else
        let s := s.lineBack l i
        let ws := s.grain (frameAddr g)
        some (s.modLane l fun ln =>
          LaneSt.touch { ln with tags := mput 0 ln.tags i (g + 1), main := ln.main.setLine i ws, chk := ln.chk.setLine i ws } i)

/-- A grain of the frame that starts at `frame`. -/
def inFrame (frame grains g : Nat) : Bool := decide (frame ≤ g) && decide (g < frame + grains)

/-- Brings every grain of a frame into the Frame Cache (R131 step 2). -/
def State.fillFrame (s : State) (l frame grains : Nat) : Option State :=
  (List.range grains).foldl (fun o g => o.bind fun s => s.fillGrain l (inFrame frame grains) (frame + g)) (some s)

/-- The lanes' clean copies of the grains that `p` picks are dropped, so that what BOOK wrote there is fetched anew (R143). -/
def State.dropClean (s : State) (p : Nat → Bool) : State :=
  (List.range 8).foldl (fun s l =>
    s.modLane l fun ln => { ln with tags := ln.tags.filter fun e => mget 0 ln.dirty e.1 != 0 || !p (e.2 - 1) }) s

/-- A list entry as the lists hold it (R129). -/
def entryOf (w : W64) : ListEntry :=
  { frame := getBits w 0 19, grains := getBits w 19 10, code := getBits w 29 16, cond := getBits w 45 1 == 1,
    rsv := getBits w 46 18 }

/-- The bits of a list entry (R129). -/
def entryWord (e : ListEntry) : W64 :=
  BitVec.ofNat 64 (e.frame % 2 ^ 19 + e.grains % 2 ^ 10 * 2 ^ 19 + e.code % 2 ^ 16 * 2 ^ 29 +
    (if e.cond then 2 ^ 45 else 0) + e.rsv % 2 ^ 18 * 2 ^ 46)

/-- Entry `p` of the list of a class on a lane, in Signal SRAM. -/
def State.listEntry (s : State) (l c p : Nat) : ListEntry :=
  entryOf (s.rd64 (frameAddr (s.fld (R.laneListBase l c)) + 8 * p))

/-! ### Prefetch (R162) -/

/-- A word of a frame of the lane: from the Frame Cache where the grain is there, else from Signal SRAM. -/
def State.laneWord (s : State) (l g w : Nat) : W64 :=
  match (s.lane l).word (s.lane l).main g w with
  | some v => v
  | none => s.rd64 (frameAddr g + 8 * w)

/-- The record of a connection word, `none` for KIND 11 (R162). -/
def State.fetchConn (s : State) (l : Nat) (cw : W64) : Option Rec :=
  match connKind cw with
  | 0 => some (s.readRec (getBits cw 0 18))
  | 1 => some (s.recAt (0x1000000 + getBits cw 18 21 * 16))
  | 2 =>
    let g := getBits cw 0 19
    let w := getBits cw 19 12
    let m := s.laneWord l g (w + 1)
    some ⟨s.laneWord l g w, getBits m 0 48, getBits m 48 8, getBits m 56 8⟩
  | _ => none

/-! ### The scan of a standard type -/

/-- DIR's test of the entry that a connection word leads to (R54). -/
def State.dirCheckConn (s : State) (cw : W64) : State := if connKind cw = 0 then s.dirRead (getBits cw 0 18) else s

/-- What the scan of a standard type finds on an engine: the operands of the type (R175, R176, R163). -/
def State.libIn (s : State) (l : Nat) (e : Engine) (sc : Scan) (typ : Nat) : LibIn :=
  let ln := s.lane l
  let lay := libLayout typ
  let n := lay.ins.length
  let word := fun w => (ln.word e sc.frame w).getD 0
  let inp := fun j =>
    match mget none ln.recs j with
    | some r => (⟨r.value, writtenQual r.qual, r.stamp, r.flags, true⟩ : Inp)
    | none => ⟨0, 4, 0, 0, false⟩
  let pns := s.fld (R.bookTcCfgPeriod sc.cls) * 500000
  let k := s.cls sc.cls
  { ins := (List.range n).map fun j => inp (1 + j)
    prev := (List.range lay.outs).map fun j => (inp (1 + n + j)).v
    par := (List.range lay.par).map fun j => word (sc.nconn + 1 + j)
    st := (List.range lay.st).map fun j => word (sc.nconn + 1 + lay.par + j)
    first := getBits (word 0) 48 1 == 1
    h := roundPack false (pns * 2 ^ 200 / 10 ^ 9) (-200) (pns * 2 ^ 200 % 10 ^ 9 != 0)
    p := BitVec.ofNat 64 pns
    cyc := k.flyTime
    wake := k.cycWake }

/-- What the scan of a standard type does on an engine: the frame words it writes, FIRST cleared among them, and its stores (R131, R174 to
R199). -/
def State.libRun (s : State) (l : Nat) (e : Engine) (sc : Scan) (typ : Nat) : List (Nat × W64) × List Store :=
  let ln := s.lane l
  let lay := libLayout typ
  let word := fun w => (ln.word e sc.frame w).getD 0
  let c := s.libIn l e sc typ
  let o := libScan typ c
  let stores := (List.range lay.outs).filterMap fun j =>
    let cw := word (2 + lay.ins.length + j)
    if connKind cw = 0 ∧ connOut cw then
      (o.outs[j]?).map fun x => (⟨getBits cw 0 18, x.1, (x.2.2.getD (s.cls sc.cls).flyTime) % 2 ^ 48, x.2.1, sc.cls⟩ : Store)
    else none
  let ws := (List.range lay.st).map fun j => (sc.nconn + 1 + lay.par + j, o.st.getD j 0)
  (if c.first then (0, putBits (word 0) 48 1 0) :: ws else ws, stores)

/-- An engine with words of a frame set. -/
def LaneSt.putWords (ln : LaneSt) (e : Engine) (frame : Nat) (ws : List (Nat × W64)) : Engine :=
  ws.foldl (fun e x =>
    match ln.line (frame + x.1 / 8) with
    | some i => { e with fc := mput 0 e.fc (i * 8 + x.1 % 8) x.2 }
    | none => e) e

/-- One scan of a standard type on the frame just filled: each engine runs the type on its own Frame Cache and issues the words of its own
Code Store; the stores are queued, the state words written, FIRST cleared (R126, R131, R174 to R199, R240). -/
def State.libScanGo (s : State) (l : Nat) (sc : Scan) (typ : Nat) : State :=
  let ln := s.lane l
  let busy := s.flag (R.laneStateBusy l)
  let (wm, sm) := s.libRun l ln.main sc typ
  let (wc, cs) := s.libRun l ln.chk sc typ
  let dirty := wm.foldl (fun m x =>
    match ln.line (sc.frame + x.1 / 8) with
    | some i => mput 0 m i (sc.cls + 1)
    | none => m) ln.dirty
  let m := s.runCode ln ln.main busy sc
  let s := s.modLane l fun ln =>
    { ln with main := ln.putWords m sc.frame wm, chk := ln.putWords (s.runCode ln ln.chk busy sc) sc.frame wc, dirty := dirty,
              storeQ := ln.storeQ ++ sm, chkQ := ln.chkQ ++ cs, scan := none, next := mput 0 ln.next sc.cls (sc.pos + 1) }
  let s := s.setFld (R.laneRetireRetired l) ((s.fld (R.laneRetireRetired l) + (m.issued - ln.main.issued)) % 2 ^ 64)
  s.incMod (R.laneBlocksExecuted l)

/-! ### The start of a scan (R131 steps 1 to 5) -/

/-- The class whose next list entry the lane scans: the one with priority among those that have entries left (R90, R132). -/
def State.scanClass (s : State) (l : Nat) : Option Nat :=
  let ln := s.lane l
  s.topClass fun c => ln.ready.testBit c && decide (mget 0 ln.next c < s.fld (R.laneListCount l c))

/-- The engine's registers cleared (R125). -/
def Engine.clearRegs (e : Engine) : Engine := { e with x := [], p := 1 }

/-- Steps 3 to 5 of the scan of a list entry whose frame is in the Frame Cache (R131). -/
def State.scanGo (s : State) (l c pos : Nat) (e : ListEntry) : State :=
  let bank := if s.bit (R.laneBankBank l) c then 1 else 0
  let desc := (s.lane l).main.code64 bank (e.code + 65536 - 2)
  let typ := getBits (s.laneWord l e.frame 0) 32 13
  let nconn := if typ < 184 then libConns typ else getBits desc 0 9
  let sc : Scan := ⟨e.frame, e.grains, e.code, bank, c, pos, e.code, nconn⟩
  let en := if e.cond then s.fetchConn l (s.laneWord l e.frame 1) else none
  let s := if e.cond then s.dirCheckConn (s.laneWord l e.frame 1) else s
  if en.elim false fun r => getBits r.value 0 8 != 1 then
    let s := s.modLane l fun ln => { ln with next := mput 0 ln.next c (pos + 1) }
    s.incMod (R.laneBlocksSkipped l)
  else
    let (s, recs) := (List.range nconn).foldl (fun (x : State × NMap (Option Rec)) j =>
      let cw := x.1.laneWord l e.frame (j + 1)
      (x.1.dirCheckConn cw, mput none x.2 j (x.1.fetchConn l cw))) (s, [])
    let s := s.modLane l fun ln =>
      { ln with recs := recs, scan := some sc, main := ln.main.clearRegs, chk := ln.chk.clearRegs }
    if typ < 184 then s.libScanGo l sc typ else s

/-- Steps 1 to 5 of the scan of the next list entry (R131). It waits while the store queue has no room for the stores of a standard type
(R142) or a write-back it needs waits for Wake staging (R292). -/
def State.scanStart (s : State) (l : Nat) : State :=
  let ln := s.lane l
  if ln.stopped ∨ ln.main.halted ∨ ln.scan.isSome then s
  else
    match s.scanClass l with
    | none => s
    | some c =>
      let pos := mget 0 ln.next c
      let e := s.listEntry l c pos
      let typ := getBits (s.laneWord l e.frame 0) 32 13
      if typ < 184 ∧ 256 < ln.storeQ.length + (libLayout typ).outs then s
      else
        match (s.laneStatus l (some c) pos).fillFrame l e.frame e.grains with
        | none => s
        | some s => s.scanGo l c pos e

/-! ### Lane faults (R246 to R249) -/

/-- The lane carries no class: no used class names it and it carries no spared lists (R257). -/
def State.laneIdle (s : State) (l : Nat) : Bool :=
  (List.range 8).all (fun c => s.fld (R.laneListCount l c) == 0)

/-- The step of the comparator test that an injection stands for (R252). -/
def injStep (i : Option Inj) : Nat :=
  match i with
  | none => 0
  | some j => 1 + 128 * (j.target - 1) + 64 * (if j.pol then 1 else 0) + j.bit

/-- An outcome of the comparator test recorded in CMP_TEST (R251, R253). -/
def State.testOutcome (s : State) (l step : Nat) (ok : Bool) : State :=
  let s := if ok then s
    else
      let s := s.modLane l fun ln => { ln with testBad := true }
      if s.flag R.cmpTestFailed then s
      else ((s.setFld R.cmpTestStep step).setFld R.cmpTestFlane l).setFlag R.cmpTestFailed true
  if step = 386 then (s.setBit R.cmpTestDone l true).setBit R.cmpTestPass l (!(s.lane l).testBad) else s

/-- A lane fault of a kind: latched in CMP_FAULT, reported, the lane stopped (R249, R257). -/
def State.laneFault (s : State) (l kind : Nat) : State :=
  let idle := s.laneIdle l
  let s := if s.flag R.cmpFaultValid then s.incSat R.cmpFaultCount
    else (((((s.setFld R.cmpFaultLane l).setFld R.cmpFaultKind kind).setFlag R.cmpFaultIdle idle).setFld R.cmpFaultWindows
      (s.fld (R.laneWinWindows l))).setFlag R.cmpFaultValid true).setFld R.cmpFaultCount 1
  (s.report l kind).modLane l fun ln => { ln with stopped := true }

/-- An outcome of the comparator test that its step does not expect (R253). -/
def State.testFails (s : State) (l : Nat) : State := s.testOutcome l (s.lane l).testStep false

/-- The armed injection of a lane done with, or waiting on. -/
def State.setInj (s : State) (l : Nat) (i : Option Inj) : State := s.modLane l fun ln => { ln with inj := i }

/-- What a close shows while TEST is 1 (R252, R253): `hit` tells whether the injection was applied to it, `h` and `lo` what the halves report. -/
def State.testClose (s : State) (l : Nat) (inj : Option Inj) (hit h lo : Bool) : State :=
  match inj with
  | none => s.testOutcome l (s.lane l).testStep (h && lo)
  | some j =>
    if hit then (s.testOutcome l (injStep inj) (if j.target = 3 then !h && !lo else h != lo)).setInj l none
    else
      let s := if h && lo then s else s.testFails l
      if j.waited + 1 ≥ 64 then (s.testOutcome l (injStep inj) false).setInj l none
      else s.setInj l (some { j with waited := j.waited + 1 })

/-- A window of the lane closed, forced or at W words: for a close at W the words that are missing are those of cycles that fold zero; both
signatures compared, restarted, counted (R243, R245 to R247). Answers whether the window passed. -/
def State.closeWindow (s : State) (l : Nat) (forced : Bool) : State × Bool :=
  let ln := s.lane l
  let w := s.windowLen
  let pad := fun (e : Engine) => if forced then e.sig else (List.range (w - e.folds)).foldl (fun g _ => foldSig g 0) e.sig
  let m := pad ln.main
  let k := pad ln.chk
  let inj := if s.flag R.cmpCtrlTest then ln.inj else none
  let hit : Bool := match inj with | some j => m.toNat.testBit j.bit == j.pol | none => false
  let flip := fun (t : Nat) => match inj with
    | some j => if hit ∧ (j.target = t ∨ j.target = 3) then k ^^^ BitVec.ofNat 64 (2 ^ j.bit) else k
    | none => k
  let h := m == flip 1
  let lo := m == flip 2
  let s := s.modLane l fun ln => { ln with main := ln.main.closed w, chk := ln.chk.closed w }
  let s := s.setFld (R.laneSigMainSig l) m.toNat
  let s := s.incMod (R.laneWinWindows l)
  if s.flag R.cmpCtrlTest then (s.testClose l inj hit h lo, h && lo)
  else if h && lo then (s, true)
  else (s.laneFault l (if !h && !lo then 0 else 1), false)

/-- The forced close of a part (R246), after the close at W words where that is still due. -/
def State.closeForced (s : State) (l : Nat) : State × Bool :=
  if (s.lane l).main.folds < s.windowLen then s.closeWindow l true
  else
    let (s, ok) := s.closeWindow l false
    if ok then s.closeWindow l true else (s, false)

/-! ### The meanings -/

/-- BLOCK_SCAN_START (R131). -/
def execBlockScanStart (l : Fin 8) (s : State) : Host.Outcome State Fault Refusal := .next (s.scanStart l.val)

/-- GRAIN_TRANSFER_DONE (R165): with `bad` the transfer meets an uncorrectable error and the lane stops (R428); with `parity` a
delay stage reports a parity error (R242); else a frame grain of the next list entry arrives early (R142). -/
def execGrainTransferDone (l : Fin 8) (grain : Nat) (bad parity : Bool) (s : State) : Host.Outcome State Fault Refusal :=
  let ln := s.lane l.val
  if ln.stopped then .next s
  else if bad then .next ((s.report 0x19 (frameAddr grain / 64)).modLane l.val fun ln => { ln with stopped := true })
  else if parity then
    .next (if s.flag R.cmpCtrlTest then s.testFails l.val else s.laneFault l.val 2)
  else
    match ln.scan with
    | none => .next s
    | some sc =>
      if sc.pos + 1 < s.fld (R.laneListCount l.val sc.cls) then
        let e := s.listEntry l.val sc.cls (sc.pos + 1)
        let keep := fun g => inFrame sc.frame sc.grains g || inFrame e.frame e.grains g
        .next (if inFrame e.frame e.grains grain then (s.fillGrain l.val keep grain).getD s else s)
      else .next s

/-- The observation word of a store drain: the two words of the record and the grain index of its target (R244). -/
def State.drainWord (s : State) (st : Store) : W64 :=
  st.value ^^^ BitVec.ofNat 64 (st.stamp + st.qual * 2 ^ 48) ^^^ BitVec.ofNat 64 (recAddr (!s.front st.cls 0) st.sig / 64)

/-- STORE_DRAIN (R164, R241): the main engine's oldest queued store is written under the owner check; each engine folds its own (R244). -/
def execStoreDrain (l : Fin 8) (s : State) : Host.Outcome State Fault Refusal :=
  let ln := s.lane l.val
  match ln.stopped, ln.storeQ with
  | false, st :: rest =>
    let s := s.modLane l.val fun ln => { ln with storeQ := rest, chkQ := ln.chkQ.tail }
    let s := s.foldBoth l.val (s.drainWord st) (ln.chkQ.head?.elim 0 fun st => s.drainWord st)
    .next (s.ownedWrite l.val st.cls st.sig st.value st.stamp st.qual)
  | _, _ => .next s

/-- FRAME_WRITE_BACK (R265): a dirty Frame Cache grain is written back; it waits while Wake staging is full (R292). -/
def execFrameWriteBack (l : Fin 8) (line : Fin 896) (s : State) : Host.Outcome State Fault Refusal :=
  let ln := s.lane l.val
  let d := mget 0 ln.dirty line.val
  if ln.stopped ∨ d = 0 then .next s
  else if s.stagingFree (d - 1) (mget 0 ln.tags line.val - 1) then .next (s.lineBack l.val line.val)
  else .next s

/-- The class whose part on the lane has nothing left to do: list walked, store queue empty, no dirty grain (R133). -/
def State.partClass (s : State) (l : Nat) : Option Nat :=
  let ln := s.lane l
  if ln.stopped ∨ ln.scan.isSome ∨ !ln.storeQ.isEmpty then none
  else s.topClass fun c => ln.ready.testBit c && decide (s.fld (R.laneListCount l c) ≤ mget 0 ln.next c) &&
    !(ln.dirty.any fun e => e.2 == c + 1)

/-- LANE_PART_COMPLETE (R133, R246) at TB2 `t` ns: the forced close, the undo index cleared, the class cycle complete with its last
part (R73). -/
def execLanePartComplete (l : Fin 8) (t : Nat) (s : State) : Host.Outcome State Fault Refusal :=
  match s.partClass l.val with
  | none => .next s
  | some c =>
    let s := s.to2 t
    let (s, ok) := s.closeForced l.val
    if ok = false then .next s
    else
      let s := s.undoClear (s.homeLane l.val) c
      let s := s.modLane l.val fun ln =>
        { ln with ready := if ln.ready.testBit c then ln.ready - 2 ^ c else ln.ready, next := mdel ln.next c }
      let s := s.laneStatus l.val none 0
      let s := s.modCls c fun k => { k with parts := if k.parts.testBit l.val then k.parts - 2 ^ l.val else k.parts }
      .next (if (s.cls c).inFlight ∧ (s.cls c).parts = 0 then
        s.modCls c fun k => { k with complete := true, completeAt := s.tb 2 } else s)

/-- WINDOW_CLOSE (R245): a window closes at W words, on a BUSY lane or while the self-test block runs (R252). -/
def execWindowClose (l : Fin 8) (s : State) : Host.Outcome State Fault Refusal :=
  if (s.lane l.val).stopped ∨ (s.lane l.val).main.halted ∨ ¬ (s.flag (R.laneStateBusy l.val) ∨ s.flag R.cmpCtrlTest) then .next s
  else .next (s.closeWindow l.val false).1

/-- CHECKER_LATE (R248): a lane fault of KIND 3. -/
def execCheckerLate (l : Fin 8) (s : State) : Host.Outcome State Fault Refusal :=
  if (s.lane l.val).stopped ∨ (s.lane l.val).main.halted then .next s
  else if s.flag R.cmpCtrlTest then .next (s.testFails l.val)
  else .next (s.laneFault l.val 3)

/-- LANE_STALL (R248): a BUSY lane that is not halted made no progress; a lane fault of KIND 4. -/
def execLaneStall (l : Fin 8) (s : State) : Host.Outcome State Fault Refusal :=
  if (s.lane l.val).stopped ∨ (s.lane l.val).main.halted ∨ ¬ s.flag (R.laneStateBusy l.val) then .next s
  else if s.flag R.cmpCtrlTest then .next (s.testFails l.val)
  else .next (s.laneFault l.val 4)

end Sys2Proof.Machine
end

