-- ==== Sys2Proof/Machine/Forces.lean ====
section
/-! DEFINITION. The force table (R224 to R239). -/

namespace Sys2Proof.Machine

/-- Address of a force table entry (R224). -/
def forceAddr (i : Nat) : Nat := 0x2F80000 + i * 0x40

/-- The entries with VALID set, rising. -/
def State.forceValid (s : State) : List Nat :=
  s.mem.filterMap fun e =>
    if 0x2F80000 ≤ e.1 ∧ e.1 < 0x2FC0000 ∧ e.1 % 64 = 3 ∧ 128 ≤ e.2.toNat then some ((e.1 - 0x2F80000) / 64) else none

/-- SIGNAL of an entry. -/
def State.forceSig (s : State) (i : Nat) : Nat := s.readN 3 (forceAddr i) % 2 ^ 18

/-- The valid entry that names a signal, if any (R225). -/
def State.forceOf (s : State) (sig : Nat) : Option Nat := s.forceValid.find? fun i => s.forceSig i == sig

/-- The UNDER record of an entry. -/
def State.forceUnder (s : State) (i : Nat) : Rec := s.recAt (forceAddr i + 16)

/-- An entry with its CHECK brought up to date. -/
def State.forceSeal (s : State) (i : Nat) : State :=
  s.writeN 4 (forceAddr i + 60) (crc32c (s.bytes 60 (forceAddr i)))

/-- The grain of an entry marked for the next Commit record of a class (R287). -/
def State.forceShip (s : State) (c i : Nat) : State :=
  s.modCls c fun k => { k with wrMisc := mput false k.wrMisc (forceAddr i / 64) true }

/-- FORCE_STATUS COUNT, CLASSES and ANY (R239). -/
def State.forceStatus (s : State) : State :=
  let es := s.forceValid
  let cl := es.foldl (fun w i =>
    let c := (s.dirEntry (s.forceSig i)).cls
    if w.testBit c then w else w + 2 ^ c) 0
  ((s.setFld R.forceStatusCount es.length).setFld R.forceStatusClasses cl).setFlag R.forceStatusAny (es.length != 0)

/-- The row of the Binnacle's copy for an entry (R118). -/
def State.forceRow (s : State) (i : Nat) : ForceRow :=
  let a := forceAddr i
  { idx := i, sig := s.forceSig i, typ := (s.dirEntry (s.forceSig i)).typ, qual := (s.byte (a + 4)).toNat,
    value := s.rd64 (a + 8), since := s.readN 8 (a + 32), client := s.readN 2 (a + 40), seq := s.readN 4 (a + 44) }

/-- The copy in the Binnacle state area follows the table (R118). -/
def State.forceKeep (s : State) : State := { s with book := { s.book with forceCopy := s.forceValid.map s.forceRow } }

/-- Writes the Binnacle's fields of an entry with VALID set (R224, R225). -/
def State.forcePut (s : State) (r : ForceRow) : State :=
  let a := forceAddr r.idx
  let s := s.writeN 4 a (2 ^ 31 + r.sig % 2 ^ 18)
  let s := s.setByte (a + 4) (BitVec.ofNat 8 r.qual)
  let s := s.wr64 (a + 8) r.value
  let s := s.writeN 8 (a + 32) r.since
  let s := s.writeN 2 (a + 40) r.client
  let s := s.writeN 4 (a + 44) r.seq
  s.forceSeal r.idx

/-- A force set or changed at its effect instant (R230, R231): a set on a forced signal keeps SINCE. -/
def State.forceSet (s : State) (sig qual client : Nat) (value : W64) : State :=
  let v := canonical (s.dirEntry sig).typ value
  match s.forceOf sig with
  | some i =>
    let r := s.forceRow i
    ((((s.forcePut { r with qual := qual, value := v, client := client, seq := r.seq + 1 }).forceShip
      (s.dirEntry sig).cls i)).forceStatus).forceKeep
  | none =>
    match (List.range 4096).find? fun i => !(s.forceValid.contains i) with
    | none => s
    | some i =>
      let s := s.clearRange (forceAddr i + 16) (forceAddr i + 32)
      let seq := s.readN 4 (forceAddr i + 44) + 1
      ((((s.forcePut ⟨i, sig, (s.dirEntry sig).typ, qual, v, s.tb 0 / 1000, client, seq⟩).forceShip
        (s.dirEntry sig).cls i)).forceStatus).forceKeep

/-- An entry released, with FORCE_RELEASED and its reason (R235 to R237). -/
def State.forceDrop (s : State) (i reason : Nat) : State :=
  let a := forceAddr i
  let sig := s.forceSig i
  let v := s.rd64 (a + 8)
  let seq := s.readN 4 (a + 44) + 1
  let c := (s.dirEntry sig).cls
  let s := (s.writeN 4 a (sig % 2 ^ 18)).writeN 4 (a + 44) seq
  let s := (s.forceSeal i).forceShip c i
  let s := (s.forceStatus).forceKeep
  s.raise evForceReleased (leBytes 4 sig ++ leBytes 8 v.toNat ++ leBytes 1 reason)

/-- Every entry that `p` selects released. -/
def State.forceDropAll (s : State) (p : Nat → Bool) (reason : Nat) : State :=
  (s.forceValid.filter p).foldl (fun s i => s.forceDrop i reason) s

/-- FORCE applies the entries of a class and kind at a flip just made: UNDER, the forced record, CHANGED against the new back;
an entry whose CHECK fails is not applied (R226, R233), nor one whose signal DIR refuses (R54). The forced signals are kept with their UNDER records for the
back-fill (R228). -/
def State.applyForces (s : State) (c kind : Nat) : State :=
  s.forceValid.foldl (fun s i =>
    let sig := s.forceSig i
    let e := s.dirEntry sig
    if e.cls ≠ c ∨ e.kind ≠ kind then s
    else
      let a := forceAddr i
      if s.readN 4 (a + 60) ≠ crc32c (s.bytes 60 a) then (s.incSat R.forceStatusFaults).report 0x1D i
      else if ¬ s.dirOk sig then s.report 0x1B sig
      else
        let f := s.front c kind
        let under := s.recAt (recAddr f sig)
        let back := s.recAt (recAddr (!f) sig)
        let r : Rec := ⟨s.rd64 (a + 8), (s.cls c).cycTime, (s.byte (a + 4)).toNat, 1⟩
        let r := { r with flags := 1 + changedFlag r back }
        let s := s.setRec (a + 16) under
        let s := (s.forceSeal i).forceShip c i
        let s := s.setRec (recAddr f sig) r
        s.modCls c fun k =>
          if kind = 1 then { k with underIn := k.underIn ++ [(sig, under)] }
          else { k with underOut := k.underOut ++ [(sig, under)] }) s

/-- The record a reader behind a force sees: of a record that stands forced in the front, what the latest flip put aside, also where the force
has been released since (R229, R230). -/
def State.behindForce (s : State) (sig : Nat) : Rec :=
  let r := s.frontRec sig
  if r.flags.testBit 0 then
    let e := s.dirEntry sig
    let un := if e.kind = 1 then (s.cls e.cls).underIn else (s.cls e.cls).underOut
    match un.find? (fun x => x.1 == sig), s.forceOf sig with
    | some x, _ => x.2
    | none, some i => s.forceUnder i
    | none, none => r
  else r

end Sys2Proof.Machine
end

