-- ==== Sys2Proof/Machine/Retain.lean ====
section
/-! DEFINITION. The Retain store (R76 to R82, R119, R120, R212). -/

namespace Sys2Proof.Machine

/-- Base of the Retain store (R38). -/
def retBase : Nat := 0x800000000

/-- Address of copy k of a signal slot (R77). -/
def retSigAddr (slot k : Nat) : Nat := retBase + slot * 0x20 + k * 0x10

/-- Generation of a signal copy (R77). -/
def State.retGen (s : State) (slot k : Nat) : Nat := (s.recAt (retSigAddr slot k)).flags / 64

/-- The copy chosen on restore (R79). -/
def State.retChosen (s : State) (slot : Nat) : Nat :=
  if s.retGen slot 1 = (s.retGen slot 0 + 1) % 4 then 1 else 0

/-- Whether, at the latest publication of class c, 10 ms of TB3 had passed since a slot was last written (R78). -/
def State.retReady (s : State) (c off : Nat) : Bool :=
  match (mget none s.book.retAt off).orElse fun _ => s.book.retAllAt with
  | none => true
  | some t => decide (t + 10000000 ≤ ((s.cls c).pubAt3.getD (s.tb 3)))

/-- A slot written now. -/
def State.retStamp (s : State) (off : Nat) : State :=
  { s with book := { s.book with retAt := mput none s.book.retAt off (some (s.tb 3)) } }

/-- A retained record to its slot: where VALUE or QUALITY differs from the copy last written and 10 ms had passed at the publication (R78). -/
def State.retWriteSig (s : State) (sig slot : Nat) : State :=
  let r := s.behindForce sig
  let k := s.retChosen slot
  let old := s.recAt (retSigAddr slot k)
  if (r.value ≠ old.value ∨ r.qual ≠ old.qual) ∧ s.retReady (s.dirEntry sig).cls (slot * 0x20) then
    (s.setRec (retSigAddr slot (1 - k)) { r with flags := r.flags % 64 + (s.retGen slot k + 1) % 4 * 64 }).retStamp (slot * 0x20)
  else s

/-- Both copies of a signal slot with one record and generation 0 (R79, R82, R212). -/
def State.retBoth (s : State) (slot : Nat) (r : Rec) : State :=
  ((s.setRec (retSigAddr slot 0) r).setRec (retSigAddr slot 1) r).retStamp (slot * 0x20)

/-- A signal slot blanked (R82). -/
def State.retBlankSig (s : State) (slot : Nat) : State := s.retBoth slot ⟨0, 0, 0xFF, 0⟩

/-! ### Block slots (R119, R120) -/

/-- Address of copy k of a block slot with `n` retained words. -/
def retBlkAddr (off n k : Nat) : Nat := retBase + off + k * (8 * n + 8)

/-- A copy is valid: CRC and INSTANCE match (R120). -/
def State.retBlkOk (s : State) (inst off n k : Nat) : Bool :=
  let a := retBlkAddr off n k
  s.readN 2 (a + 8 * n + 5) == crc16 (s.bytes (8 * n + 5) a) && s.readN 4 (a + 8 * n) == inst % 2 ^ 32

/-- Generation of a block copy. -/
def State.retBlkGen (s : State) (off n k : Nat) : Nat := (s.byte (retBlkAddr off n k + 8 * n + 7)).toNat % 4

/-- The copy chosen on restore, if any (R120). -/
def State.retBlkChosen (s : State) (inst off n : Nat) : Option Nat :=
  let v0 := s.retBlkOk inst off n 0
  let v1 := s.retBlkOk inst off n 1
  if v1 ∧ (v0 = false ∨ s.retBlkGen off n 1 = (s.retBlkGen off n 0 + 1) % 4) then some 1
  else if v0 then some 0 else none

/-- The bytes of a copy (R119). -/
def retBlkBytes (inst n gen : Nat) (ws : List W64) : List Byte :=
  let body := (ws.flatMap fun w => leBytes 8 w.toNat) ++ leBytes 4 inst ++ leBytes 1 n
  body ++ leBytes 2 (crc16 body) ++ leBytes 1 (gen % 4)

/-- Both copies of a block slot are zeros throughout (R82). -/
def State.retBlkBlank (s : State) (off n : Nat) : Bool := (s.bytes (16 * n + 16) (retBase + off)).all (· == 0)

/-- A block slot blanked (R82). -/
def State.retBlankBlk (s : State) (off n : Nat) : State :=
  (s.clearRange (retBase + off) (retBase + off + 16 * n + 16)).retStamp off

/-- The code image of a lane as a Book gives it: a word (R138, R201). -/
def bookCode (b : Book) (lane a : Nat) : Nat :=
  match b.code.find? fun x => x.lane == lane with
  | some x => (mget 0 x.words (a % 65536)).toNat
  | none => 0

/-- The list entry of an instance's frame in a Book. -/
def bookEntry (b : Book) (r : InstRow) : Option ListEntry :=
  (b.lists.find? fun x => x.lane == r.lane && x.cls == r.cls).bind fun x => x.entries.find? fun e => e.frame == r.frame

/-- The type descriptor below an entry word (R138). -/
def bookDesc (b : Book) (lane code : Nat) : Nat := bookCode b lane (code + 65534) + bookCode b lane (code + 65535) * 2 ^ 32

/-- First frame word of the retained fields of an instance: RET_BASE of its type's descriptor, for a standard type its first
state word, which follows header, connections and parameters (R138, R176). -/
def retWordBase (b : Book) (r : InstRow) : Nat :=
  if r.typ < 184 then libConns r.typ + 1 + (libLayout r.typ).par
  else match bookEntry b r with
    | some e => bookDesc b r.lane e.code / 2 ^ 16 % 2 ^ 12
    | none => r.firstState

/-- RET_LEN of an instance's type: its descriptor's field, for a standard type the number of its retained fields (R138, R176). -/
def retLen (b : Book) (r : InstRow) : Nat :=
  if r.typ < 184 then (libLayout r.typ).ret
  else match bookEntry b r with
    | some e => bookDesc b r.lane e.code / 2 ^ 28 % 2 ^ 8
    | none => 0

/-- The retained words of an instance in its frame. -/
def State.retWords (s : State) (b : Book) (r : InstRow) (n : Nat) : List W64 :=
  (List.range n).map fun i => s.rd64 (frameAddr r.frame + 8 * (retWordBase b r + i))

/-- An instance's retained copy under the conditions of R78 (R120). -/
def State.retWriteBlk (s : State) (b : Book) (r : InstRow) (off n : Nat) : State :=
  let ws := s.retWords b r n
  match s.retBlkChosen r.inst off n with
  | none =>
    if s.retReady r.cls off then (s.setBytes (retBlkAddr off n 0) (retBlkBytes r.inst n 0 ws)).retStamp off else s
  | some k =>
    let old := (List.range n).map fun i => s.rd64 (retBlkAddr off n k + 8 * i)
    if old ≠ ws ∧ s.retReady r.cls off then
      (s.setBytes (retBlkAddr off n (1 - k)) (retBlkBytes r.inst n (s.retBlkGen off n k + 1) ws)).retStamp off
    else s

/-- Every slot of class c written as R78 and R120 ask after a publication. -/
def State.retClass (s : State) (c : Nat) : State :=
  match s.clsBook c with
  | none => s
  | some b =>
    let s := b.retSigs.foldl (fun s r => if (s.dirEntry r.sig).cls = c then s.retWriteSig r.sig r.slot else s) s
    b.retInsts.foldl (fun s r =>
      match b.insts.find? fun i => i.inst == r.inst with
      | some i => if i.cls = c then s.retWriteBlk b i r.off r.len8 else s
      | none => s) s

/-- RETAIN_SLOT_WRITE (R78): the Binnacle writes the changed slots of a class. -/
def execRetainSlotWrite (c : Fin 8) (s : State) : Host.Outcome State Fault Refusal :=
  .next (if s.isActive then s.retClass c.val else s)

/-- The slots that Book x assigns and Book y does not assign to the same signal or instance at the same length, blanked
(R79, R81). -/
def State.retBlankNew (s : State) (x y : Book) : State :=
  let s := x.retSigs.foldl (fun s r => if y.retSigs.any (· == r) then s else s.retBlankSig r.slot) s
  x.retInsts.foldl (fun s r => if y.retInsts.any (· == r) then s else s.retBlankBlk r.off r.len8) s

/-- Initial copies of the slots that x assigns and y does not assign to the same item (R79, R212). -/
def State.retInitNew (s : State) (x y : Book) : State :=
  let s := x.retSigs.foldl (fun s r =>
    if y.retSigs.any (· == r) then s
    else match x.dir.find? fun d => d.sig == r.sig with
      | some d => s.retBoth r.slot ⟨d.e.init, 0, 2, 0⟩
      | none => s) s
  x.retInsts.foldl (fun s r =>
    if y.retInsts.any (· == r) then s
    else match x.insts.find? fun i => i.inst == r.inst with
      | some i =>
        let ws := (List.range r.len8).map fun k =>
          let w := retWordBase x i + k
          match x.frames.find? fun f => f.grain == i.frame + w / 8 with
          | some f => f.words.getD (w % 8) 0
          | none => 0
        (s.setBytes (retBase + r.off) (retBlkBytes i.inst r.len8 0 ws ++ retBlkBytes i.inst r.len8 0 ws)).retStamp r.off
      | none => s) s

/-- Place of the Retain map record in the Binnacle state area (R38, R80; DESIGN CHOICE, assumption 51). -/
def mapBase : Nat := 0x800700000

/-- The Retain map record of a Book: RMAP_ID, identity of the map Book, CRC-32C over both (R80). -/
def mapBytes (x : Book) : List Byte :=
  leBytes 8 x.rmapId ++ beBytes 48 x.identity

/-- The record written, its CRC last; the Book store keeps the image of the map Book (R80). -/
def State.setMap (s : State) (x : Book) : State :=
  let s := (s.setBytes mapBase (mapBytes x)).writeN 4 (mapBase + 56) (crc32c (mapBytes x))
  { s with book := { s.book with mapImg := some x } }

/-- The Retain map identity of the store: the record's bytes before its CRC, where that matches (R80). -/
def State.mapRec (s : State) : Option (List Byte) :=
  let bs := s.bytes 56 mapBase
  if s.readN 4 (mapBase + 56) = crc32c bs then some bs else none

/-- The record names Book x. -/
def State.mapIs (s : State) (x : Book) : Bool := s.mapRec == some (mapBytes x)

/-- The record carries the RMAP_ID of Book x. -/
def State.mapLine (s : State) (x : Book) : Bool := (s.mapRec.map fun bs => bs.take 8) == some (leBytes 8 x.rmapId)

/-- The Retain store brought into line with Book x before a restart, and the map record (R81). -/
def State.retPrepare (s : State) (x : Book) : State :=
  let whole := { s.clearRange retBase (retBase + 0x200000) with book := { s.book with retAt := [], retAllAt := some (s.tb 3) } }
  let s :=
    if ¬ s.mapLine x then whole
    else if s.mapIs x then s
    else match s.book.mapImg with
      | none => whole
      | some m => s.retBlankNew x m
  s.setMap x

/-- The Retain store does not carry the Book's Retain map identity, or R81 blanks it whole for another reason (R117). -/
def State.retForeign (s : State) (x : Book) : Bool := !s.mapLine x || (!s.mapIs x && s.book.mapImg.isNone)

end Sys2Proof.Machine
end

