-- ==== Sys2Proof/Machine/Restart.lean ====
section
/-! DEFINITION. Loading a Book into the running machine and restarting the program (R74, R75, R116 to R118, R123, R238). -/

namespace Sys2Proof.Machine

/-- BOOK_SLOTS STATE of a slot (R238): 0 EMPTY, 1 LOADING, 2 VERIFYING, 3 READY, 4 RUNNING, 5 TURNING, 6 REFUSED. -/
def State.slotState (s : State) (i : Nat) : Nat := if i = 0 then s.fld R.bookSlotsStateA else s.fld R.bookSlotsStateB

/-- A field of BOOK_SLOTS set; a change is a cause of vector 260 (R507). -/
def State.setSlots (s : State) (f : Fld) (v : Nat) : State := if s.fld f = v then s else (s.setFld f v).vecPost 260

/-- BOOK_SLOTS ONLINE of a slot. -/
def State.slotOnline (s : State) (i : Nat) : Bool := if i = 0 then s.flag R.bookSlotsOnlineA else s.flag R.bookSlotsOnlineB

/-- Sets BOOK_SLOTS ONLINE of a slot. -/
def State.setSlotOnline (s : State) (i : Nat) (b : Bool) : State :=
  s.setSlots (if i = 0 then R.bookSlotsOnlineA else R.bookSlotsOnlineB) b.toNat

/-- Sets BOOK_SLOTS STATE of a slot, and ONLINE with it: 1 only while the slot is READY and its latest check found it ONLINE (R238). -/
def State.setSlotState (s : State) (i v : Nat) : State :=
  (s.setSlots (if i = 0 then R.bookSlotsStateA else R.bookSlotsStateB) v).setSlotOnline i (v == 3 && (s.slot i).img.isSome && (s.slot i).result == 0)

/-- The state with a slot changed. -/
def State.modSlot (s : State) (i : Nat) (f : BookSlot → BookSlot) : State :=
  { s with book := { s.book with slots := mmod BookSlot.init s.book.slots i f } }

/-- The lane that BARRED, FAILED or the Book's SPARE names free to carry lists, when sparing is available (R263): the spare,
neither barred nor FAILED nor carrying a failed lane's lists. -/
def State.spareLane (s : State) : Option Nat :=
  if s.flag R.cmpStatusSparing then none
  else (List.range 8).find? fun l => s.bit R.cmpStatusSpare l && !s.bit R.cmpStatusBarred l && !s.bit R.cmpStatusFailed l

/-- The spare that the running Book names. -/
def State.namedSpare (s : State) : Option Nat := (List.range 8).find? fun l => s.bit R.cmpStatusSpare l

/-- The lane that carries the lists of a lane: the spare while it carries that lane's (R266, R267). -/
def State.carrier (s : State) (l : Nat) : Nat :=
  if s.flag R.cmpStatusSparing ∧ s.fld R.cmpStatusSpared = l then s.namedSpare.getD l else l

/-- The per-class configuration of a class (R121). -/
def State.loadClass (s : State) (c : Nat) (k : SchedClass) : State :=
  let s := s.setFld (R.bookTcCfgPeriod c) k.period
  let s := s.setFld (R.bookTcCfgOffset c) k.offset
  let s := s.setFld (R.bookTcCfgMargin c) k.margin
  let s := s.setFld (R.bookTcCfgLanes c) k.lanes
  s.setFld (R.bookTcCfgSkipLimit c) k.skip

/-- The Hold Limit in force, and the hold times of the analogue and pulse outputs that the Binnacle loads from it (R113, R601). R114
gives the Hold Limit the range 0 to 5 s and no refusal: a Book that names more than 500 units of 10 ms is accepted, and BOOK_MODE takes
what it names in its 9 bits (DESIGN CHOICE, assumption 53). -/
def State.loadHold (s : State) (h : Nat) : State :=
  let s := (s.setFld R.bookModeHoldLimit h).setFld R.rstcHoldLimit (min 500 h)
  { s with field := { s.field with hold := h * 10000000 } }

/-- FLD configures the loop power stages as the Book's FIELD section says (R563, R600). -/
def State.loadLoops (s : State) (b : Book) : State :=
  let on := (List.range 8).filter fun k => (b.field.ai[k]?).elim false (·.loop)
  let s := (List.range 8).foldl (fun (s : State) k => s.setFlag (R.fldAiLoop k) (on.contains k)) s
  { s with field := { s.field with loops := on.foldl (fun n k => n + 2 ^ k) 0 } }

/-- The schedule of a Book in the class registers (R121), its spare in CMP_STATUS (R270). -/
def State.loadSched (s : State) (b : Book) : State :=
  let s := (List.range 8).foldl (fun s c => s.loadClass c (b.sched.classes.getD c ⟨0, 0, 0, 0, 0⟩)) s
  let s := s.loadHold b.sched.holdLimit
  let s := s.setFld R.cmpStatusSpare (match b.sched.spare with | some l => 2 ^ l | none => 0)
  s.setFld R.bookSlotsRevision b.revision

/-- The code of a Book into a bank of a lane's engines (R140). -/
def State.loadCode (s : State) (l bank : Nat) (ws : NMap (BitVec 32)) : State :=
  let put := fun (e : Engine) =>
    let keep := e.code.filter fun x => x.1 / 65536 != bank
    { e with code := ws.foldl (fun m x => mput 0 m (bank * 65536 + x.1 % 65536) x.2) keep }
  s.modLane l fun ln => { ln with main := put ln.main, chk := put ln.chk }

/-- The code of a lane in a Book. -/
def laneCode (b : Book) (l : Nat) : NMap (BitVec 32) := (b.code.find? fun x => x.lane == l).elim [] (·.words)

/-- Lists and code of a Book on the lanes that carry them, every class on bank 0; a barred lane gets none (R255). -/
def State.loadLanes (s : State) (b : Book) : State :=
  let s := (List.range 8).foldl (fun s l =>
    let s := s.setFld (R.laneBankBank l) 0
    (List.range 8).foldl (fun s c => (s.setFld (R.laneListBase l c) 0).setFld (R.laneListCount l c) 0) s) s
  let s := b.lists.foldl (fun s x =>
    let l := s.carrier x.lane
    if s.bit R.cmpStatusBarred l then s
    else (s.setFld (R.laneListBase l x.cls) x.base).setFld (R.laneListCount l x.cls) x.entries.length) s
  b.code.foldl (fun s x =>
    let l := s.carrier x.lane
    if s.bit R.cmpStatusBarred l then s else s.loadCode l 0 x.words) s

/-- The lanes made idle, their Frame Caches empty (R143). -/
def State.idleLanes (s : State) : State :=
  (List.range 8).foldl (fun s l =>
    (s.modLane l fun ln =>
      { ln with tags := [], dirty := [], used := [], useCount := 0, recs := [], storeQ := [], chkQ := [], scan := none, next := [],
                ready := 0 }).laneStatus l none 0) s

/-- A grain's words in Signal SRAM. -/
def State.putGrain (s : State) (g : Nat) (ws : List W64) : State := s.setWords (frameAddr g) (ws.take 8)

/-- A block list of a Book in its grains (R129). -/
def State.putList (s : State) (x : BlockList) : State := s.setWords (frameAddr x.base) (x.entries.map entryWord)

/-- FIRST of a frame (R134). -/
def State.setFirst (s : State) (frame : Nat) (b : Bool) : State :=
  s.wr64 (frameAddr frame) (putBits (s.rd64 (frameAddr frame)) 48 1 (if b then 1 else 0))

/-- The initial record of a signal (R74). -/
def initRec (e : DirEntry) : Rec := ⟨e.init, 0, if e.kind = 1 ∧ e.bind ≠ 4 then 0 else 2, 0⟩

/-- A record in both buffers. -/
def State.setBoth (s : State) (sig : Nat) (r : Rec) : State := (s.setRec (recAddr false sig) r).setRec (recAddr true sig) r

/-- The record of a retained signal restored from its slot, with RETAINED set and CHANGED clear; FORCED follows the force table (R75, R82). -/
def State.restoreSig (s : State) (r : RetSig) : State :=
  let c := s.recAt (retSigAddr r.slot (s.retChosen r.slot))
  if 4 < c.qual ∨ (s.dirEntry r.sig).retain = false then s
  else s.setBoth r.sig ⟨c.value, c.stamp, c.qual, 2⟩

/-- The directory and both images of a Book: R74, and R75 for a WARM restart. -/
def State.initSignals (s : State) (b : Book) (warm : Bool) : State :=
  let s := s.clearRange 0 0x1000000
  let s := s.setReg R.dirPage.addr 0
  let s := b.dir.foldl (fun s d => (s.setDir d.sig d.e).setBoth d.sig (initRec d.e)) s
  if warm then b.retSigs.foldl (fun s r => s.restoreSig r) s else s

/-- The block frame region of a Book: lists, frames with FIRST set, crossing areas cleared; at a WARM restart the retained
fields restored and FIRST clear for instances with retained state (R118, R120). -/
def State.initFrames (s : State) (b : Book) (warm : Bool) : State :=
  let s := s.clearRange 0x1000000 0x2800000
  let s := b.lists.foldl (fun s x => s.putList x) s
  let s := b.frames.foldl (fun s f => s.putGrain f.grain f.words) s
  let s := b.insts.foldl (fun s i => s.setFirst i.frame true) s
  if warm then
    b.retInsts.foldl (fun s r =>
      match b.insts.find? fun i => i.inst == r.inst with
      | none => s
      | some i =>
        match s.retBlkChosen i.inst r.off r.len8 with
        | some k =>
          let ws := (List.range r.len8).map fun j => s.rd64 (retBlkAddr r.off r.len8 k + 8 * j)
          (s.setWords (frameAddr i.frame + 8 * retWordBase b i) ws).setFirst i.frame false
        | none => if s.retBlkBlank r.off r.len8 then s else s.raise evRetainInvalid (leBytes 4 i.inst)) s
  else s

/-- A Turn pending ends without effect: its target is READY again (R215, R221). -/
def State.turnDrop (s : State) : State :=
  match s.book.turn with
  | none => s
  | some t =>
    let s := (s.setSlotState t.target 3).setReg R.bookTurn.addr 0
    let s := { s with book := { s.book with turn := none } }
    (List.range 8).foldl (fun s c => s.modCls c fun k => { k with turnDone := false }) s

/-- A Turn pending is abandoned (R215, R221). -/
def State.abandonTurn (s : State) : State := if s.book.turn.isSome then s.turnDrop.raise evBookTurnAbandoned [] else s

/-- The running Book becomes the one in a slot: slot states, REVISION (R238). -/
def State.runSlot (s : State) (i : Nat) : State :=
  let j := 1 - i
  let s := if s.slotState j = 4 ∨ s.slotState j = 5 then s.setSlotState j 3 else s
  let s := s.setSlotState i 4
  { s with book := { s.book with running := some i } }

/-- FORCED of every restored record follows the force table just restored (R75), and the UNDER of its entry is the record itself (R229). -/
def State.forcedRetained (s : State) (b : Book) : State :=
  b.retSigs.foldl (fun s r =>
    let x := s.frontRec r.sig
    match s.forceOf r.sig with
    | some i =>
      if x.flags.testBit 1 then ((s.setRec (forceAddr i + 16) x).forceSeal i).setBoth r.sig { x with flags := x.flags + (if x.flags.testBit 0 then 0 else 1) }
      else s
    | none => s) s

/-- The force table at a restart (R75, R118, R236): a COLD one releases every force, of the copy too. -/
def State.restartForces (s : State) (b : Book) (warm : Bool) : State :=
  let copy := s.book.forceCopy
  if warm then
    let s := s.clearRange 0x2F80000 0x2FC0000
    let s := copy.foldl (fun s r => s.forcePut r) s
    let bad := copy.filter fun r => !((s.dirEntry r.sig).typ == r.typ && r.typ != 0)
    let s := bad.foldl (fun s r => s.forceDrop r.idx 4) s
    ((s.forcedRetained b).forceStatus).forceKeep
  else
    let gone := copy.filter fun r => !s.forceValid.contains r.idx
    let s := s.forceDropAll (fun _ => true) 3
    let s := gone.foldl (fun s r => s.raise evForceReleased (leBytes 4 r.sig ++ leBytes 8 r.value.toNat ++ leBytes 1 3)) s
    s.forceStatus.forceKeep

/-- A transceiver that the module enables (R619). -/
def sfpOk (x : Sfp) : Bool := (x.sr || x.lr || x.x) && decide (x.mw ≤ 1500)

/-- The transceiver of port p is enabled (R619). -/
def State.portOn (s : State) (p : Nat) : Bool := (mget none s.stn.sfp p).all sfpOk

/-- The transceiver of a ring's port cannot run at the ring's rate (R326). -/
def State.rateBad (s : State) (r : Nat) (b : Book) : Bool :=
  match mget none s.stn.sfp r, b.rings[r]? with
  | some x, some g => sfpOk x && !(if g.rate10 then x.sr || x.lr else x.x)
  | _, _ => false

/-- RATE_BAD of both rings as a Book configures them; a port newly unusable is reported (R326). -/
def State.rateJudge (s : State) (b : Book) : State :=
  [0, 1].foldl (fun s r =>
    let bad := s.rateBad r b
    let new := bad && !s.flag (R.stnRingRateBad r)
    let s := s.setFlag (R.stnRingRateBad r) bad
    if new then (s.raise evRingRate []).report (0x2F + r) ((mget none s.stn.sfp r).elim 0 fun x => x.status.toNat) else s) s

/-- STN uses the port of ring r (R326, R619). -/
def State.ringOn (s : State) (r : Nat) : Bool := !s.flag (R.stnRingRateBad r) && s.portOn r

/-- The stations of a Book in STN: ABSENT where the Book configures a station that was UNUSED, UNUSED where it omits one, the
Rejoin policy (R345, R354). -/
def State.loadStations (s : State) (b : Book) : State :=
  let s := { s.rateJudge b with stn := { (s.rateJudge b).stn with cfg := some b } }
  (List.range 256).foldl (fun s n =>
    match b.stations.find? fun x => x.num == n with
    | some x =>
      let s := if s.fld (R.stnStState n) = 0 then s.setFld (R.stnStState n) 1 else s
      s.setFlag (R.stnStRelease n) x.release
    | none =>
      if s.fld (R.stnStState n) = 0 then s
      else s.setReg (R.stnSt n).addr (putBits (s.reg (R.stnSt n).addr) 0 32 0)) s

/-- A restart of the program from the Book in a slot: `warm` the kind asked for, `stopped` the boot mode Hold at start (R81, R109,
R116 to R118, R123, R221). -/
def State.restart (s : State) (warm : Bool) (i : Nat) (stopped : Bool) : State :=
  match (s.slot i).img with
  | none => s
  | some b =>
    let s := (List.range 8).foldl (fun s c => if (s.cls c).pubAt3.isSome then s.retClass c else s) s
    let foreign := s.retForeign b
    let kind := warm && !foreign
    let s := if warm ∧ foreign then s.raise evRetainInvalid [] else s
    let s := s.retPrepare b
    let s := s.abandonTurn
    let s := s.idleLanes
    let s := { s with classes := [] }
    let s := s.runSlot i
    let s := (s.loadSched b).loadLoops b
    let s := s.loadLanes b
    let s := s.initSignals b kind
    let s := s.initFrames b kind
    let s := s.restartForces b kind
    let s := s.loadStations b
    let s := (List.range 8).foldl (fun s c =>
      let s := s.setReg (R.bookTcLast c).addr 0
      let s := s.setReg (R.bookTcMax c).addr (0xFFFFFFFF00000000#64)
      let s := s.setReg (R.bookTcCount c).addr 0
      let s := s.setReg (R.bookTcWake c).addr 0
      s.modCls c fun k => { k with mode := if stopped then 0 else 1 }) s
    let s := s.setFld R.bookModeMode (if stopped then 0 else 1)
    let s := s.setFld R.bookModeHeld 0
    let s := s.setFlag R.bookModePending false
    let s := s.setFld R.bookModeRestart (if kind then 2 else 1)
    let s := { s with book := { s.book with pendMode := none } }
    let s := s.raise evProgramRestarted (leBytes 1 (if kind then 2 else 1))
    let s := s.logRec 6 (if kind then 2 else 1) 0 0 (idWords b.identity)
    { s with log := { s.log with ckptDue := true, ckpt := none },
             fab := { s.fab with epoch := (s.fab.epoch + 1) % 2 ^ 16, subs := [] }, pair := { s.pair with relayed := [] } }

/-- No program runs any more and the module has no execution mode (R6, R609). A Turn pending is abandoned, and CMP_STATUS SPARE, which names the
spare of the running Book (R270), names none. The lanes stay as they are. -/
def State.endProgram (s : State) : State :=
  let s := s.abandonTurn
  let s := match s.book.running with
    | some i => s.setSlotState i 3
    | none => s
  let s := s.setReg R.bookMode.addr (putBits (s.reg R.bookMode.addr) 0 17 0)
  let s := (s.setFld R.bookSlotsRevision 0).setFld R.cmpStatusSpare 0
  { s with book := { s.book with running := none, pendMode := none }, classes := [] }

/-- The module left the active role or never had one: no program runs, the lanes are idle (R609). -/
def State.noProgram (s : State) : State := s.idleLanes.endProgram

end Sys2Proof.Machine
end

