-- ==== Sys2Proof/Machine/Turn.lean ====
section
/-! DEFINITION. Compatibility of Books, instance matching and the Book Turn (R209 to R223, R234, R235). -/

namespace Sys2Proof.Machine

/-! ### Looking into a Book -/

/-- The directory row of a signal in a Book. -/
def bookSig (b : Book) (sig : Nat) : Option DirEntry := (b.dir.find? fun d => d.sig == sig).map (·.e)

/-- A word of the FRAMES section. -/
def bookWord (b : Book) (frame w : Nat) : W64 :=
  match b.frames.find? fun f => f.grain == frame + w / 8 with
  | some f => f.words.getD (w % 8) 0
  | none => 0

/-- The length of a type's code up to and including its first END, within `fuel` words. -/
def codeLen (b : Book) (lane a : Nat) : Nat → Nat
  | 0 => 0
  | n + 1 => if bookCode b lane a / 2 ^ 24 = 1 then 1 else 1 + codeLen b lane (a + 1) n

/-- The words of a type: constants, descriptor and code (R138). -/
def typeWords (b : Book) (lane code : Nat) : List Nat :=
  let nc := bookDesc b lane code / 2 ^ 36 % 2 ^ 12
  let lo := code + 65536 - 2 * (nc + 1)
  (List.range (2 * (nc + 1) + codeLen b lane code (65536 - code))).map fun i => bookCode b lane (lo + i)

/-- The words of an instance's type in a Book. -/
def instType (b : Book) (r : InstRow) : List Nat :=
  match bookEntry b r with
  | some e => typeWords b r.lane e.code
  | none => []

/-- How an instance of the new Book stands to the running Book (R211). -/
inductive InstKind where
  | untouched | touched | new
  deriving DecidableEq, Repr

/-- The kind of an instance of Book n against the running Book b (R211). -/
def instKind (b n : Book) (r : InstRow) : InstKind :=
  match b.insts.find? fun x => x.inst == r.inst with
  | none => .new
  | some o =>
    if o.typ ≠ r.typ ∨ instType b o ≠ instType n r then .new
    else if o.frame = r.frame ∧ o.grains = r.grains ∧
        (List.range r.firstState).all (fun w => w == 0 || bookWord b o.frame w == bookWord n r.frame w) then .untouched
    else .touched

/-- Instances of the running Book that the new one lacks (R211). -/
def removedInsts (b n : Book) : List InstRow := b.insts.filter fun o => !(n.insts.any fun r => r.inst == o.inst)

/-- The counts of BOOK_REPORT: untouched, touched, new, removed (R211). -/
def instCounts (b n : Book) : List Nat :=
  let c := fun k => (n.insts.filter fun r => instKind b n r == k).length
  [c .untouched, c .touched, c .new, (removedInsts b n).length]

/-- The grains a Book uses for frames, lists and crossing areas, as ranges of first grain and length. Areas are taken as whole
grains: two crossing areas that share a grain and no record overlap (DESIGN CHOICE, assumption 53). -/
def usedRanges (b : Book) : List (Nat × Nat) :=
  (b.insts.map fun i => (i.frame, i.grains)) ++ (b.lists.map fun l => (l.base, ceilDiv l.entries.length 8)) ++
    (b.cross.map fun x => (x.area / 4, ceilDiv (x.area % 4 + x.entries.length) 4))

/-- Two ranges of grains share one. -/
def rangesMeet (x y : Nat × Nat) : Bool := decide (x.1 < y.1 + y.2) && decide (y.1 < x.1 + x.2) && x.2 != 0 && y.2 != 0

/-- Quads of class c's KIND 0 signals in a Book. -/
def outQuads (b : Book) (c : Nat) : List Nat :=
  ((b.dir.filter fun d => d.e.cls == c && d.e.kind == 0 && d.e.typ != 0).map fun d => d.sig / 4).eraseDups

/-- The lists of the new Book that differ (R214). -/
def newLists (b n : Book) : List BlockList := n.lists.filter fun x => !(b.lists.any (· == x))

/-- Signals of class c whose directory entry differs, over both Books. -/
def changedSigs (b n : Book) (c : Nat) : List Nat :=
  let ss := ((n.dir.filter fun d => d.e.cls == c) ++ (b.dir.filter fun d => d.e.cls == c)).map (·.sig)
  ss.eraseDups.filter fun s => bookSig b s != bookSig n s

/-- The bound of the Turn work of a class in I8 clocks: 2 × (G + E) + 64 (R217). -/
def turnBound (b n : Book) (c : Nat) : Nat :=
  let ts := n.insts.filter fun r => r.cls == c && instKind b n r == .touched
  let g := ts.foldl (fun k r => k + (r.grains - r.firstState / 8)) 0
  let ss := changedSigs b n c
  let init := ss.filter fun s => (bookSig b s).map (·.typ) != (bookSig n s).map (·.typ)
  2 * (g + ss.length + (init.map (· / 4)).eraseDups.length) + 64

/-- What of the STATIONS, SOUNDINGS and FIELD sections differs so that a Book is RESTART only (R343, R378, R563): KIND and IDENT of
R207. -/
def sectionDiff (b n : Book) : Option (Nat × Nat) :=
  let stn := fun (x : StationCfg) => { x with stale := 0, release := false }
  let sub := fun (u : SubSounding) => { u with stale := 0 }
  let nums := ((b.stations ++ n.stations).map (·.num)).eraseDups
  let find := fun (x : Book) k => (x.stations.find? fun y => y.num == k).map stn
  let pubs := ((b.pubs ++ n.pubs).map (·.idx)).eraseDups
  let subs := ((b.subs ++ n.subs).map (·.idx)).eraseDups
  let pub := fun (x : Book) k => x.pubs.find? fun p => p.idx == k
  let subOf := fun (x : Book) k => (x.subs.find? fun p => p.idx == k).map sub
  let chan := fun (x : Book) k => (x.field.ai[k]?).map fun a => (a.loop, a.namur)
  ((nums.find? fun k => find b k != find n k).map fun k => (4, k)).orElse fun _ =>
  (((List.range 2).find? fun r => b.rings[r]? != n.rings[r]?).map fun r =>
    match (b.stations ++ n.stations).find? fun x => x.num / 128 == r with
    | some x => (4, x.num)
    | none => (5, r)).orElse fun _ =>
  ((pubs.find? fun k => pub b k != pub n k).map fun k => (6, k)).orElse fun _ =>
  ((subs.find? fun k => subOf b k != subOf n k).map fun k => (6, 256 + k)).orElse fun _ =>
  (((List.range 8).find? fun k => chan b k != chan n k).map fun k => (7, k))

/-- The first reason of R209 that makes a Book RESTART only, with KIND and IDENT of the detail word (R207); `none`: ONLINE. -/
def turnReason (run : Option Book) (n : Book) : Option (Nat × Nat × Nat) :=
  match run with
  | none => some (9, 0, 0)
  | some b =>
    let cl := fun (x : Book) c => x.sched.classes.getD c ⟨0, 0, 0, 0, 0⟩
    let r3 := (List.range 8).find? fun c =>
      (cl b c).period != (cl n c).period || (cl b c).offset != (cl n c).offset || (cl b c).lanes != (cl n c).lanes
    let strip := fun (e : DirEntry) => { e with init := 0, stop := 0 }
    let sigs := ((b.dir ++ n.dir).map (·.sig)).eraseDups
    let r4 := sigs.find? fun s =>
      ((bookSig b s).elim false (·.crossing) || (bookSig n s).elim false (·.crossing)) &&
        (bookSig b s).map strip != (bookSig n s).map strip
    let r4c := (List.range 8).find? fun c => (b.cross.filter fun x => x.cls == c) != (n.cross.filter fun x => x.cls == c)
    let r5 := sigs.find? fun s =>
      match bookSig b s, bookSig n s with
      | some x, some y => x.cls != y.cls
      | _, _ => false
    let moved := n.insts.filter fun r => instKind b n r != .untouched
    let used := usedRanges b
    let r7 := moved.find? fun r => used.any fun u => rangesMeet u (r.frame, r.grains)
    let r7l := (newLists b n).find? fun l => used.any fun u => rangesMeet u (l.base, ceilDiv l.entries.length 8)
    let r8 := (List.range 8).find? fun c =>
      (cl n c).period != 0 &&
        decide ((cl n c).margin * 100000 < (turnBound b n c + (outQuads n c).length + 64) * 125)
    if b.programId ≠ n.programId then some (1, 0, 0)
    else if b.rmapId ≠ n.rmapId then some (2, 0, 0)
    else match r3, b.sched.spare == n.sched.spare, sectionDiff b n, r4, r4c, r5 with
      | some c, _, _, _, _, _ => some (3, 3, c)
      | none, false, _, _, _, _ => some (3, 8, (n.sched.spare.orElse fun _ => b.sched.spare).getD 0)
      | none, true, some (k, i), _, _, _ => some (3, k, i)
      | none, true, none, some s, _, _ => some (4, 1, s)
      | none, true, none, none, some c, _ => some (4, 3, c)
      | none, true, none, none, none, some s => some (5, 1, s)
      | none, true, none, none, none, none =>
        if 8 * 2 ^ 20 < (moved.foldl (fun k r => k + r.grains) 0) * 64 then some (6, 0, 0)
        else match r7, r7l, r8 with
          | some r, _, _ => some (7, 2, r.inst)
          | none, some l, _ => some (7, 3, l.cls)
          | none, none, some c => some (8, 3, c)
          | none, none, none => none

/-! ### The Turn -/

/-- The classes that the schedule uses (R85). -/
def State.used (s : State) (c : Nat) : Bool := s.fld (R.bookTcCfgPeriod c) != 0


/-- The bank of a lane that no class it serves selects (R140, R214). -/
def State.freeBank (s : State) (l : Nat) : Nat :=
  if (List.range 8).any fun c => s.used c && (s.classLanes c).contains l && s.bit (R.laneBankBank l) c then 0 else 1

/-- Arming on this module (R212, R214): code into the free bank, new and touched frames, lists that differ, initial copies of
the Retain slots of what the Turn initialises. -/
def State.armTurn (s : State) : State :=
  match s.turnBook, s.runBook with
  | some n, some b =>
    let s := n.code.foldl (fun s x =>
      let l := s.carrier x.lane
      if s.bit R.cmpStatusBarred l then s else s.loadCode l (s.freeBank l) x.words) s
    let moved := n.insts.filter fun r => instKind b n r != .untouched
    let s := moved.foldl (fun s r =>
      let s := (List.range r.grains).foldl (fun s g =>
        s.putGrain (r.frame + g) ((List.range 8).map fun w => bookWord n r.frame (8 * g + w))) s
      s.setFirst r.frame true) s
    let s := (newLists b n).foldl (fun s x => s.putList x) s
    let s := n.retSigs.foldl (fun s r =>
      if (bookSig b r.sig).map (·.typ) = (bookSig n r.sig).map (·.typ) then s
      else match bookSig n r.sig with
        | some e => s.retBoth r.slot ⟨e.init, 0, 2, 0⟩
        | none => s) s
    n.retInsts.foldl (fun s r =>
      match n.insts.find? fun i => i.inst == r.inst with
      | some i =>
        if instKind b n i = .new then
          let ws := (List.range r.len8).map fun k => bookWord n i.frame (retWordBase n i + k)
          s.setBytes (retBase + r.off) (retBlkBytes i.inst r.len8 0 ws ++ retBlkBytes i.inst r.len8 0 ws)
        else s
      | none => s) s
  | _, _ => s

/-- Marks a grain written by Turn work for the Commit record of its class (R219, R287). -/
def State.turnShip (s : State) (c a : Nat) : State :=
  s.modCls c fun k => { k with wrMisc := mput false k.wrMisc (a / 64) true }

/-- A grain of a frame of class c in either Book of the Turn. -/
def turnGrain (b n : Book) (c g : Nat) : Bool := (b.insts ++ n.insts).any fun r => r.cls == c && inFrame r.frame r.grains g

/-- Lists and banks of class c after its Turn work (R216): on each lane of c, but for a barred one (R255). -/
def State.turnLanes (s : State) (n : Book) (c : Nat) : State :=
  (s.classLanes c).foldl (fun s l =>
    if s.bit R.cmpStatusBarred l then s
    else
      let x := n.lists.find? fun x => x.cls == c && s.carrier x.lane == l
      let s := (s.setFld (R.laneListBase l c) (x.elim 0 (·.base))).setFld (R.laneListCount l c) (x.elim 0 (·.entries.length))
      s.setBit (R.laneBankBank l) c (!s.bit (R.laneBankBank l) c)) s

/-- The Turn work of class c for Turn number `w` (R216, R235): forces released, state words carried over, directory entries and
records, lists and banks. BOOK_TCc_TURN takes the Turn number when the Turn is complete (R238). -/
def State.turnWork (s : State) (c w : Nat) : State :=
  match s.turnBook, s.runBook with
  | some n, some b =>
    let s := s.forceDropAll (fun i =>
      let sig := s.forceSig i
      (s.dirEntry sig).cls == c && (bookSig b sig).map (·.typ) != (bookSig n sig).map (·.typ)) 2
    let s := n.insts.foldl (fun s r =>
      if r.cls = c ∧ instKind b n r = .touched then
        match b.insts.find? fun o => o.inst == r.inst with
        | some o =>
          let k := min (r.grains * 8 - r.firstState) (o.grains * 8 - o.firstState)
          let ws := (List.range k).map fun j => s.rd64 (frameAddr o.frame + 8 * (o.firstState + j))
          let first := getBits (s.rd64 (frameAddr o.frame)) 48 1 == 1
          let s := (s.setWords (frameAddr r.frame + 8 * r.firstState) ws).setFirst r.frame first
          (List.range r.grains).foldl (fun s g => s.turnShip c (frameAddr (r.frame + g))) s
        | none => s
      else if r.cls = c ∧ instKind b n r = .new then
        (List.range r.grains).foldl (fun s g => s.turnShip c (frameAddr (r.frame + g))) s
      else s) s
    let s := (changedSigs b n c).foldl (fun s sig =>
      let old := (bookSig b sig).map (·.typ)
      let s := match bookSig n sig with
        | some e => if old = some e.typ then s.setDir sig e else (s.setDir sig e).setBoth sig (initRec e)
        | none => (s.setDir sig dirUnused).setBoth sig recZero
      (s.turnShip c (dirAddr sig)).turnShip c (recAddr false sig)) s
    let s := (n.lists.filter fun x => x.cls == c).foldl (fun s x =>
      (List.range (ceilDiv x.entries.length 8)).foldl (fun s g => s.turnShip c (frameAddr (x.base + g))) s) s
    let s := (s.turnLanes n c).dropClean (turnGrain b n c)
    s.modCls c fun k => { k with turnDone := true, turnWake := w }
  | _, _ => s

/-- What takes effect at the turning start of class c: output margin and Skip Limit (R218), the Rejoin policy of its stations (R343). -/
def State.turnSched (s : State) (c : Nat) : State :=
  match s.turnBook with
  | some n =>
    let k := n.sched.classes.getD c ⟨0, 0, 0, 0, 0⟩
    let s := n.stations.foldl (fun s x =>
      if (n.dir.any fun d => d.e.bind == 1 && d.e.unit == x.num && d.e.cls == c) then s.setFlag (R.stnStRelease x.num) x.release else s) s
    (s.setFld (R.bookTcCfgMargin c) k.margin).setFld (R.bookTcCfgSkipLimit c) k.skip
  | none => s

/-- The Turn is complete once every used class has turned (R81, R218). -/
def State.turnComplete (s : State) : State :=
  match s.book.turn, s.turnBook, s.runBook with
  | some t, some n, some b =>
    if (List.range 8).all fun c => !s.used c || s.bit R.bookTurnTurned c then
      let ws := (List.range 8).map fun c => if s.used c then (s.cls c).turnWake else 0
      let s := (List.range 8).foldl (fun s c =>
        if s.used c then (s.setFld (R.bookTcTurnWake c) (s.cls c).turnWake).setFlag (R.bookTcTurnValid c) true else s) s
      let s := s.runSlot t.target
      let s := s.setFld R.bookSlotsRevision n.revision
      let s := s.setReg R.bookTurn.addr (putBits (s.reg R.bookTurn.addr) 56 2 0)
      let s := s.retBlankNew b n
      let s := s.loadStations n
      let s := { s.setMap n with book := { (s.setMap n).book with turn := none } }
      let s := (List.range 8).foldl (fun s c => s.modCls c fun k => { k with turnDone := false }) s
      let s := s.logRec 5 0 0 0 (idWords b.identity ++ idWords n.identity ++ [s.fld R.bookTurnInstant * 500000] ++
        ws)
      s.raise evBookTurned (ws.flatMap fun w => leBytes 6 w)
    else s
  | _, _, _ => s

/-- The instant T is fixed once arming is acknowledged: the first base tick at least 100 µs later and at or after the not-before time
(R215). -/
def State.fixTurn (s : State) : State :=
  match s.book.turn with
  | some t =>
    if t.armedOwn ∧ (t.armedPartner ∨ ¬ s.mirrored) ∧ ¬ s.flag R.bookTurnArmed then
      let from_ := if s.mirrored then s.tb 2 + 100000 else max (s.tb 2) (t.armedAt + 100000)
      let T := tickAtOrAfter (max from_ (t.notBefore.getD 0))
      (s.setFlag R.bookTurnArmed true).setFld R.bookTurnInstant (T / 500000)
    else s
  | none => s

/-- TURN_INSTANT (R215, R218): T is reached; the Hold Limit takes effect. -/
def execTurnInstant (s : State) : Host.Outcome State Fault Refusal :=
  if s.flag R.bookTurnPending ∧ s.flag R.bookTurnArmed then
    let s := s.to2 (s.fld R.bookTurnInstant * 500000)
    match s.turnBook with
    | some n => .next (s.loadHold n.sched.holdLimit)
    | none => .next s
  else .next s

/-- TURN_WORK (R216, R217): the Turn work of class c before its turning start, at T or after, with no cycle in flight. -/
def execTurnWork (c : Fin 8) (s : State) : Host.Outcome State Fault Refusal :=
  let k := s.cls c.val
  if s.flag R.bookTurnArmed ∧ s.used c.val ∧ !s.bit R.bookTurnTurned c.val ∧ !k.turnDone ∧ !k.inFlight ∧ k.backOut.isEmpty then
    let s := s.to2 (s.fld R.bookTurnInstant * 500000)
    .next (s.turnWork c.val ((s.fld (R.bookTcWakeWake c.val) + (if k.begun then 1 else 0)) % 2 ^ 48))
  else .next s

end Sys2Proof.Machine
end

