-- ==== Sys2Proof/Machine/LogOps.lean ====
section
/-! DEFINITION. The Logbook: publication hashes, checkpoints, gaps, freeze windows (R542 to R550). -/

namespace Sys2Proof.Machine

/-- The boot mode of the strap code (R604): 0 Normal, 1 Hold at start, 2 Recovery image, 3 Bench replay. -/
def State.bootMode (s : State) : Nat := s.fld R.rstcStrapCode / 2 % 4

/-- The signals of a class and kind, over the running Book and the target of a pending Turn. -/
def State.classSigs (s : State) (c kind : Nat) : List Nat :=
  let rows := (s.runBook.elim [] (·.dir)) ++ (s.turnBook.elim [] (·.dir))
  ((rows.filter fun d =>
    let e := s.dirEntry d.sig
    e.typ != 0 && e.cls == c && e.kind == kind).map (·.sig)).eraseDups

/-- A number put in its place in an ascending list. -/
def insertNat (n : Nat) : List Nat → List Nat
  | [] => [n]
  | m :: l => if n ≤ m then n :: m :: l else m :: insertNat n l

/-- A list in ascending order. -/
def sortNat (l : List Nat) : List Nat := l.foldr insertNat []

/-- The KIND 0 signals of class c that lane k owns, in ascending ID. -/
def State.hashSigs (s : State) (c k : Nat) : List Nat := sortNat ((s.classSigs c 0).filter fun g => (s.dirEntry g).owner == k)

/-- HASH of lane k for a publication of class c (R546). -/
def State.laneHash (s : State) (c k : Nat) : Nat :=
  let sigs := s.hashSigs c k
  if sigs.isEmpty then 0 else crc64 (sigs.flatMap fun g => recBytes (s.frontRec g))

/-- LANES of a PUBLISH record (R546). -/
def State.hashLanes (s : State) (c : Nat) : Nat :=
  (List.range 8).foldl (fun n k => if (s.hashSigs c k).isEmpty then n else n + 2 ^ k) 0

/-- The PUBLISH record of a publication at TB2 `t` ns (R545, R546); the first publication of the class after a checkpoint's read is W_cp(c)
(R547). -/
def State.logPublish (s : State) (flags c wake t : Nat) : State :=
  let s := s.logPut 2 flags c wake (t :: s.hashLanes c :: (List.range 8).map fun k => s.laneHash c k) [] [] 0
  match s.log.ckpt with
  | some k =>
    if k.readDone ∧ mget none k.wcp c = none then
      { s with log := { s.log with ckpt := some { k with wcp := mput none k.wcp c (some wake) } } }
    else s
  | none => s

/-- The entries of an Input or Commit record that belong to the checkpoint in progress (R547). -/
def State.logEntries (s : State) (c wake : Nat) (es : List GrainEntry) : State :=
  match s.log.ckpt with
  | some k =>
    match mget none k.wcp c with
    | none => if es.isEmpty then s else s.logPut 7 0 c wake [es.length] es [] 0
    | some w => if w < wake ∨ es.isEmpty then s else s.logPut 7 0 c wake [es.length] es [] 0
  | none => s

/-- The CHECKPOINT END record once every used class has its W_cp and the Commit record of it is recorded (R545, R547). -/
def State.logCkptEnd (s : State) : State :=
  match s.log.ckpt with
  | some k =>
    let done := (List.range 8).all fun c => !s.used c || ((mget none k.wcp c).isSome && !(s.cls c).commitDue)
    if k.readDone ∧ done then
      let pages := s.fld R.dirPagePageOut * 256 + s.fld R.dirPagePageIn
      let ws := ((List.range 8).map fun c => (mget none k.wcp c).getD 0) ++
        [pages + (s.fld R.bookModeMode + s.fld R.bookModeHeld * 256) * 2 ^ 16] ++
        idWords ((s.runBook.map (·.identity)).getD 0)
      let seq := s.log.seq
      let s := s.logPut 7 2 0 0 ws [] [] 0
      let s := if s.log.seq = seq then s else s.setFld R.logbCkptLast seq
      { s with log := { s.log with ckpt := none } }
    else s
  | none => s

/-- A checkpoint begins at TB2 `k` ns (R547). -/
def State.logCkptBegin (s : State) (k : Nat) : State :=
  let s := s.logPut 7 1 0 0 [k] [] [] 0
  { s with log := { s.log with ckpt := some ⟨k, false, []⟩, ckptDue := false } }

/-- The mirrored state of R41 as memory cells. -/
def State.mirrorCells (s : State) : List Host.Cell :=
  s.mem.filter fun e => decide (e.1 < 0x2800000) || (decide (0x2F80000 ≤ e.1) && decide (e.1 < 0x2FC0000))

/-- A GAP record, LOG_GAP, a checkpoint due (R545, R548). `last`: SEQ of the last record kept. -/
def State.logGap (s : State) (last reason : Nat) : State :=
  let s := s.logRec 9 0 0 0 [last, reason]
  let s := (s.incSat R.logbStatusGaps).raise evLogGap []
  { s with log := { s.log with ckptDue := true, ckpt := none } }

/-- Whether the Logbook records, with a checkpoint due when it begins, and the GAP record of a loss at a reset (R543, R545, R547). -/
def State.logMode (s : State) (old new : Nat) : State :=
  if new = psActive ∨ new = psSolo ∨ new = psStandby then
    let s := if s.fld R.logbStatusState = 0 then s.setFld R.logbStatusState 1 else s
    let s := if s.log.gapDue then ({ s with log := { s.log with gapDue := false } }).logGap (s.log.seq - 1) 2 else s
    if old = new then s else { s with log := { s.log with ckptDue := true } }
  else
    let s := if s.fld R.logbStatusState = 1 then s.setFld R.logbStatusState 0 else s
    { s with log := { s.log with ckpt := none, ckptDue := false } }

/-- Every record kept, oldest first. -/
def State.logAll (s : State) : List LogRec := s.log.flash ++ s.log.staged

/-- TB3 of the first record at or after a SEQ; the present where there is none. -/
def State.logTime (s : State) (seq : Nat) : Nat := ((s.logAll.find? fun r => decide (seq ≤ r.seq)).map (·.at3)).getD (s.tb 3)

/-- Bytes of the records in a window. -/
def State.winBytes (s : State) (w : LogWin) : Nat :=
  (s.logAll.filter fun r => decide (w.first ≤ r.seq) && decide (r.at3 ≤ w.until3)).foldl (fun n r => n + r.len) 0

/-- A window is frozen around TB3 `t` ns (R549, R550). -/
def State.logFreeze (s : State) (t : Nat) : State :=
  if s.bootMode = 3 then s
  else
    let w := s.fld R.logbCfgFreeze * 60000000000
    let cks := s.logAll.filter fun r => r.typ == 7 && r.flags == 1
    let before := cks.filter fun r => decide (r.at3 + w ≤ t)
    let first := match before.getLast?, cks.head?, s.logAll.head? with
      | some r, _, _ => r.seq
      | none, some r, _ => r.seq
      | none, none, some r => r.seq
      | none, none, none => s.log.seq
    let start := s.logTime first
    let hits := s.log.wins.filter fun x => decide (start ≤ x.until3) && decide (s.logTime x.first ≤ t + w)
    let rest := s.log.wins.filter fun x => !(hits.any (· == x))
    let num := match hits with
      | x :: _ => hits.foldl (fun n y => min n y.num) x.num
      | [] => ((List.range 8).find? fun n => !(s.log.wins.any fun x => x.num == n)).getD 8
    let win : LogWin := hits.foldl (fun a x => ⟨num, min a.first x.first, max a.until3 x.until3⟩) ⟨num, first, t + w⟩
    let wins := rest ++ [win]
    if 8 < wins.length ∨ 475 * 2 ^ 30 < wins.foldl (fun n x => n + s.winBytes x) 0 then s.raise evLogFreezeRefused []
    else
      let s := { s with log := { s.log with wins := wins } }
      (s.setFld R.logbStatusFrozen wins.length).raise evLogFrozen (leBytes 1 num)

end Sys2Proof.Machine
end

