-- ==== Sys2Proof/Machine/FieldOps.lean ====
section
/-! DEFINITION. Operations of the field island and the cabinet bus that other chapters share: commands of the analogue outputs, output
switches, CAN modes (R560, R561, R569, R575, R581). -/

namespace Sys2Proof.Machine

/-- Analogue output k. -/
def State.ao (s : State) (k : Nat) : AoSt := mget AoSt.init s.field.ao k

/-- The state with analogue output k changed. -/
def State.modAo (s : State) (k : Nat) (f : AoSt → AoSt) : State := { s with field := { s.field with ao := mmod AoSt.init s.field.ao k f } }

/-- CAN channel n. -/
def State.canOf (s : State) (n : Nat) : CanSt := mget CanSt.init s.can n

/-- The state with CAN channel n changed. -/
def State.modCan (s : State) (n : Nat) (f : CanSt → CanSt) : State := { s with can := mmod CanSt.init s.can n f }

/-! ### Analogue outputs -/

/-- The FIELD section in force for a class: the new Book's once the class has turned (R563). -/
def State.fieldCfg (s : State) (c : Nat) : Option FieldCfg :=
  (s.clsBook c).map (·.field)

/-- The signal bound to a field unit and position, of a kind (R562). -/
def State.fieldSig (s : State) (unit pos kind : Nat) : Option Nat :=
  (s.dirRows.find? fun d => d.e.bind == 3 && d.e.unit == unit && d.e.pos == pos && d.e.kind == kind).map (·.sig)

/-- A REAL64 current in mA as nA, limited to 0 to 24 mA (R569). A value between two nA counts reads as one of them; no rule states
which (DESIGN CHOICE, assumption 5). -/
def nanoAmps (free : Nat) (w : W64) : Nat :=
  if fNeg w then 0
  else
    let num := fMant w * 1000000
    let e := fLsb w
    let (n, exact) := if 0 ≤ e then (num * 2 ^ e.toNat, true) else (num / 2 ^ (-e).toNat, num % 2 ^ (-e).toNat == 0)
    if 24000000 ≤ n then 24000000
    else if exact then n else n + (Config.freeWord free).toNat % 2

/-- The command of AOk formed from its front record (R569). -/
def State.formCmd (s : State) (k : Nat) : State :=
  match s.fieldSig (8 + k) 0 0 with
  | none => s
  | some sig =>
    let r := s.frontRec sig
    let fail := (s.fieldCfg (s.dirEntry sig).cls).elim 1 fun f => f.ao.getD k 1
    if r.qual = 0 ∨ 4 < r.qual ∨ fExp r.value = 2047 then
      let cmd := match fail with | 0 => (s.ao k).last | 2 => 21000000 | 3 => 0 | _ => 3600000
      s.modAo k fun a => { a with cmd := cmd, due := true }
    else
      let n := nanoAmps s.free r.value
      s.nextFree.modAo k fun a => { a with cmd := n, last := n, due := true }

/-- FLD at a publication of class c: the commands of the outputs it owns (R569). -/
def State.fldPublish (s : State) (c : Nat) : State :=
  [0, 1, 2, 3].foldl (fun s k =>
    match s.fieldSig (8 + k) 0 0 with
    | some sig => if (s.dirEntry sig).cls = c then s.formCmd k else s
    | none => s) s

/-- The command in force of AOk becomes the one formed last, at full drive. -/
def State.aoDrive (s : State) (k : Nat) : State :=
  let cmd := (s.ao k).cmd
  (s.modAo k fun a => { a with due := false, part := 20 }).setFld (R.fldAoCmd k) cmd

/-- The field output switches opened, a crossfade ended (R279, R281, R560). -/
def State.openOutputs (s : State) : State :=
  let s := { s with field := { s.field with xfade := none, holdUntil := none, heldSw := 0 } }
  let s := [0, 1, 2, 3].foldl (fun s k => s.modAo k fun a => { a with part := 20 }) s
  (s.setFld R.fldStatusClosed 0).setFlag R.fldStatusXfade false

/-- The open line asserted (R560). -/
def State.openLine (s : State) : State := s.openOutputs.setFlag R.fldStatusOpenline true

/-- FLD may close switches: link up, island READY, open line not asserted (R561, R578). -/
def State.mayClose (s : State) : Bool :=
  s.flag R.fldStatusLink && s.flag R.fldStatusReady && !s.flag R.fldStatusOpenline

/-- The switch of AOk closed by command (R561); judgement begins 2 ms after it closes (R573). -/
def State.closeSwitch (s : State) (k : Nat) : State :=
  if ¬ s.mayClose ∨ s.bit R.fldStatusClosed k then s
  else
    let t := s.tb 2
    (s.setBit R.fldStatusClosed k true).modAo k fun a => { a with judgeFrom := t + 2000000, since := [], miss := [] }

/-- The field output switches closed (R298, R309). -/
def State.closeOutputs (s : State) : State := [0, 1, 2, 3].foldl (fun s k => s.closeSwitch k) s

/-- A takeover's step 3 (R298): switches closed, outputs driven from the last published values. -/
def State.takeOutputs (s : State) : State := ([0, 1, 2, 3].foldl (fun s k => s.aoDrive k) s).closeOutputs

/-! ### CAN modes -/

/-- A channel that knows its rate put to listen-only; a pending transmission ends (R581). -/
def State.canListen (s : State) (n : Nat) : State :=
  let s := s.modCan n fun x => { x with pend := [] }
  if 2 ≤ s.fld (R.canStatusMode n) then s.setFld (R.canStatusMode n) 2 else s

/-- The mode of R581 that a channel takes when its rate is known. -/
def State.canWanted (s : State) (n : Nat) : Nat :=
  if s.isActive ∧ ¬ s.flag (R.canStatusYielded n) ∧ ¬ (s.canOf n).wait ∧ ¬ s.flag R.pairFenceValid ∧ ¬ s.flag R.fcolStatusSafe then 3
  else 2

/-- A channel that knows its rate put to the mode of R581; a WATCH frame is due on entering normal mode (R585). -/
def State.canFollow (s : State) (n : Nat) : State :=
  if s.fld (R.canStatusMode n) < 2 then s
  else
    let w := s.canWanted n
    let t := s.tb 3
    let s := if w = 3 ∧ s.fld (R.canStatusMode n) ≠ 3 then s.modCan n fun x => { x with watchAt := t } else s
    s.setFld (R.canStatusMode n) w

/-- Both channels listen-only. -/
def State.canQuiet (s : State) : State := (s.canListen 0).canListen 1

/-- Both channels in the mode of R581 after the module took the active role, YIELDED clear (R585). -/
def State.canNormal (s : State) : State :=
  [0, 1].foldl (fun s n =>
    let s := s.setFlag (R.canStatusYielded n) false
    (s.modCan n fun x => { x with wait := false }).canFollow n) s

end Sys2Proof.Machine
end

