-- ==== Sys2Proof/Machine/PairOps.lean ====
section
/-! DEFINITION. Operations of the pair that several chapters share: pair state, Watch numbers, PAIR_TAKE, fence reactions
(R274, R278, R279, R281, R320). -/

namespace Sys2Proof.Machine

/-- A Notice record to the partner (R285). -/
def State.notice (s : State) (code wake : Nat) : State := s.linkSend (.notice code wake)

/-- Station transmission stopped or resumed (R279, R281). -/
def State.stopStn (s : State) (b : Bool) : State := s.setFlag R.stnSafeStopped b

/-- The module's own pair state (R274). Entering STANDBY ends FENCED and the stop of station transmission (R281); relaying
and forwarding follow the state (R338, R340), and so does the Logbook (R543). -/
def State.enter (s : State) (p : Nat) : State :=
  let s := s.logMode s.pstate p
  let s := if s.pstate = p then s else (s.setFld R.pairStateState p).vecPost 257
  let s := if p = psStandby then (s.setFlag R.pairFenceFenced false).stopStn false else s
  s.setFlag R.stnSafeRelay (p == psStandby || p == psSyncing)

/-- A module that leaves its role for SYNCING or DETACHED runs no program and is not fit until it has resynchronised (R313); what waited on
the role ends with it, the Reclaim count too (R316). -/
def State.dropRole (s : State) (p : Nat) : State :=
  let s := (s.noProgram).enter p
  let s := s.setFlag R.pairStateFit false
  { s with pair := { s.pair with held := [], prevInput := [], inputParts := [], commitParts := [], undo := [], waitOut := [],
                                 handover := none, catchUp := 0, sweepBegun := false, sweepEnded := false, sweepCommits := 0, cfgCopied := false,
                                 relayed := [], reclaimFrom := none, oldActive := false, newActive := false } }

/-- PAIR_TAKE latched at a change of active module, ROLE_CHANGED raised, the Logbook's ROLE record and window (R320, R532, R549). -/
def State.latchTake (s : State) (watch cause : Nat) (took : Bool) : State :=
  let s := ((s.setFld R.pairTakeWatch watch).setFld R.pairTakeCause cause).setFlag R.pairTakeRole took
  let s := s.setFlag R.pairTakeValid true
  let w := (s.reg R.pairTake.addr).toNat % 2 ^ 37
  let s := s.raise evRoleChanged (leBytes 8 w)
  (s.logRec 0xA 0 0 0 [w]).logFreeze (s.tb 3)

/-- The next Watch number (R278): one more than the highest of the own and the partner's stored values and any seen; `none` when
the range is exhausted. -/
def State.nextWatch (s : State) : Option Nat :=
  let m := max (max s.pair.storedWatch s.pair.pStoredWatch) (max (s.fld R.pairWatchSeen) (s.fld R.pairWatchWatch))
  if m ≥ 0xFFFFFFFF then none else some (m + 1)

/-- The Watch number taken and stored (R278). -/
def State.takeWatch (s : State) (w : Nat) : State :=
  let s := (s.setFld R.pairWatchWatch w).setFld R.pairWatchSeen (max w (s.fld R.pairWatchSeen))
  { s with pair := { s.pair with storedWatch := w, heldWatch := w } }

/-- A Watch number of the pair seen from any source (R278, R279): an active module that sees one above its own stops station
transmission, opens its field outputs and leaves the active role. -/
def State.seeWatch (s : State) (w : Nat) : State :=
  let s := s.setFld R.pairWatchSeen (max w (s.fld R.pairWatchSeen))
  if s.isActive ∧ s.fld R.pairWatchWatch < w then
    let s := ((s.stopStn true).openOutputs).canQuiet
    let s := s.raise evWatchYield []
    let s := s.latchTake w 1 false
    s.dropRole psSyncing
  else s

/-- A record of the pair link received: its WATCH is a Watch number of the pair (R278, R279, R284). -/
def State.linkRx (s : State) (l : LinkIn) : State := s.seeWatch l.watch.toNat

/-- The module's pair number and fabric address (R359). -/
def State.pairNum (s : State) : Nat := s.fld R.fabAddrAddr / 16

/-- The module sits in slot B. -/
def State.slotB (s : State) : Bool := s.flag R.pairStateSlot

end Sys2Proof.Machine
end

