-- ==== Sys2Proof/Machine/FabOps.lean ====
section
/-! DEFINITION. Operations of the plant fabric that other chapters share: taking part, LSRs, announcements, soundings (R358 to R370, R376
to R385). -/

namespace Sys2Proof.Machine

/-- A key slot. -/
def State.keySlot (s : State) (k : Nat) : KeySlot := mget KeySlot.init s.acc.keys k

/-- A key slot that can be used (R472). -/
def State.keyOk (s : State) (k : Nat) : Bool := (s.keySlot k).present && !(s.keySlot k).fault

/-- The module's own fabric address (R359). -/
def State.fabOwn (s : State) : Nat := s.fld R.fabAddrAddr

/-- JOINED follows the conditions of R358, R361, R552 and R605. -/
def State.setJoined (s : State) : State :=
  s.setFlag R.fabCtrlJoined (s.pair.testsDone.isSome && s.flag R.fabAddrValid && !s.acc.opened && !s.flag R.fabAddrConflict &&
    s.flag R.rstcStrapValid && s.bootMode != 3)

/-- WATCH of the module's frames: SEEN while it holds no Watch number (R362). -/
def State.fabWatch (s : State) : Nat := if s.fld R.pairWatchWatch = 0 then s.fld R.pairWatchSeen else s.fld R.pairWatchWatch

/-- A fabric frame sent at a port: HOPS, DST, SRC, WATCH, payload (R362). -/
def State.fabSend (s : State) (typ p hops dst src watch : Nat) (payload : List Nat) : State :=
  s.emit (.fabric typ p ([hops, dst, src, watch] ++ payload))

/-- The fabric ports whose adjacency is UP. -/
def State.fabUp (s : State) : List Nat := [2, 3].filter fun p => s.fld (R.fabPortAdj p) == 3

/-- The payload of an LSR (R368). -/
def lsrWords (l : Lsr) : List Nat :=
  [l.seq, l.age, l.serial, l.state, l.adj.length, l.subs.length] ++
    (l.adj.flatMap fun a => [a.addr, a.lport, a.nport, a.cost]) ++ l.subs.map fun x => x.1 * 64 + x.2

/-- The content of the module's LSR: adjacencies in UP, subscriptions of the running Book (R368, R381). -/
def State.ownLsr (s : State) (seq : Nat) : Lsr :=
  { seq := seq, age := 0, serial := s.pair.serial, state := s.pstate, watch := s.fabWatch,
    adj := s.fabUp.map fun p => ⟨s.fld (R.fabPortNaddr p), p, s.fld (R.fabPortNport p), s.fld (R.fabPortCost p)⟩,
    subs := s.runBook.elim [] fun b => b.subs.map fun u => (u.pair, u.sidx) }

/-- NODES follows the database. -/
def State.fabNodes (s : State) : State := s.setFld R.fabDbNodes s.fab.db.length

/-- A change of the database: the computation of R375 is due. -/
def State.fabDirty (s : State) : State :=
  ({ s with fab := { s.fab with dirty := some (s.fab.dirty.getD (s.tb 3)) } }).fabNodes

/-- The module originates its LSR with SEQ one more than `seq` (R369, R370). -/
def State.originate (s : State) (seq : Nat) : State :=
  if ¬ s.flag R.fabCtrlJoined then s
  else
    let l := s.ownLsr (seq + 1)
    let s := { s with fab := { s.fab with seq := seq + 1, lastOrig := s.tb 3,
                                          db := mput none s.fab.db s.fabOwn (some ⟨l, s.tb 3⟩) } }
    s.fabUp.foldl (fun s p => s.fabSend 2 p 32 0xFFFF s.fabOwn l.watch (lsrWords l)) s.fabDirty

/-- The highest WATCH seen for a pair (R385). -/
def State.fabHi (s : State) (pair : Nat) : Nat := (List.range 3).foldl (fun m r => max m (mget 0 s.fab.hi (pair * 16 + r))) 0

/-- WATCH of a received frame: recorded for its source, and R279 for the own pair (R385). -/
def State.fabSee (s : State) (src watch : Nat) : State :=
  let s := if src % 16 ≤ 2 ∧ mget 0 s.fab.hi src < watch then { s with fab := { s.fab with hi := mput 0 s.fab.hi src watch } } else s
  if src / 16 = s.pairNum ∧ src % 16 ≤ 2 ∧ s.flag R.fabAddrValid then s.seeWatch watch else s

/-- A Watch announcement on P2 and P3 (R298, R385). -/
def State.fabAnnounce (s : State) : State :=
  if ¬ s.flag R.fabCtrlJoined then s
  else s.fabUp.foldl (fun s p => s.fabSend 6 p 32 0xFFFF s.fabOwn s.fabWatch []) s

/-! ### Soundings -/

/-- LAYOUT of a published sounding (R376). -/
def State.pubLayout (s : State) (ms : List Nat) : Nat := crc32c (ms.map fun g => BitVec.ofNat 8 (s.dirEntry g).typ)

/-- A record as a sounding carries it (R380). -/
def recWords (r : Rec) : List Nat := [r.value.toNat, r.stamp, r.qual]

/-- The signal at a position of a subscription (R377). -/
def State.subSig (s : State) (u pos : Nat) : Option Nat :=
  (s.dirRows.find? fun d => d.e.bind == 2 && d.e.unit == u && d.e.pos == pos && d.e.kind == 1).map (·.sig)

/-- The class of a subscription: that of its signals (R377). -/
def State.subClass (s : State) (u : Nat) : Option Nat :=
  (s.dirRows.find? fun d => d.e.bind == 2 && d.e.unit == u && d.e.kind == 1).map (·.e.cls)

/-- Subscription u. -/
def State.sub (s : State) (u : Nat) : SubSt := mget SubSt.init s.fab.subs u

/-- The state with subscription u changed. -/
def State.modSub (s : State) (u : Nat) (f : SubSt → SubSt) : State :=
  { s with fab := { s.fab with subs := mmod SubSt.init s.fab.subs u f } }

/-- An accepted set written into the back buffer (R383). -/
def State.writeSet (s : State) (u : Nat) : State :=
  let x := s.sub u
  let s := x.recs.foldl (fun s e =>
    match e.2, s.subSig u e.1 with
    | some r, some sig => s.ownedWrite 11 0 sig r.value r.stamp r.qual
    | _, _ => s) s
  let q := x.recs.map fun e => (e.1, (e.2.map (·.qual)).getD 0)
  let now := s.tb 2
  s.modSub u fun y => { y with quals := q.foldl (fun m e => mput 0 m e.1 (writtenQual e.2)) [], interval := y.newInterval, at2 := some now,
                               level := 0, waits := false, cur := none, got := 0, recs := [] }

/-- A complete set is accepted (R382): WATCH not below the highest seen for the pair, and another WATCH or EPOCH than the last accepted
set's or a higher WAKE (DEDUCED, assumption 17). -/
def subAccepts (hi : Nat) (last : Option (Nat × Nat × Nat)) (x : Nat × Nat × Nat) : Bool :=
  decide (hi ≤ x.1) && (match last with
    | none => true
    | some (w, e, k) => if w = x.1 ∧ e = x.2.1 then decide (k < x.2.2) else true)

/-- A segment for subscription u (R382, R383). -/
def State.subSeg (s : State) (u : SubSounding) (f : SoundSeg) (late : Bool) : State :=
  if f.layout ≠ u.layout then
    let due := match (s.sub u.idx).missAt with | none => true | some t => decide (t + 3600000000000 ≤ s.tb 3)
    let now := s.tb 3
    if due then (s.modSub u.idx fun x => { x with missAt := some now }).raise evSoundingMismatch [] else s
  else
    let id := (f.watch, f.epoch, f.wake)
    let s := if (s.sub u.idx).cur = some id then s
      else s.modSub u.idx fun x => { x with cur := some id, got := 0, recs := [], waits := false }
    let s := s.modSub u.idx fun x =>
      { x with got := if x.got.testBit f.seg then x.got else x.got + 2 ^ f.seg, newInterval := f.interval,
               recs := (f.recs.zipIdx).foldl (fun m r => mput none m (f.first + r.2) (some r.1)) x.recs }
    let x := s.sub u.idx
    if x.got = 2 ^ f.nseg - 1 then
      if subAccepts (s.fabHi (f.src / 16)) x.last id then
        let s := s.modSub u.idx fun x => { x with last := some id, waits := late }
        if late then s else s.writeSet u.idx
      else s.modSub u.idx fun x => { x with cur := none, got := 0, recs := [] }
    else s

/-- Segment i of an own sounding as a subscription of this module takes it (R380, R381). -/
def State.ownSeg (s : State) (p : PubSounding) (i nseg wake interval : Nat) : SoundSeg :=
  { hops := 32, src := s.fabOwn, watch := s.fabWatch, index := p.idx, seg := i, nseg := nseg, first := 88 * i + 1, epoch := s.fab.epoch,
    wake := wake, interval := interval, layout := s.pubLayout p.members,
    recs := ((p.members.drop (88 * i)).take 88).map fun g => s.frontRec g }

/-- The soundings of class c at the publication of Wake number `wake` (R379, R380): one frame per segment at each
egress port of the tree, and local delivery where this module subscribes (R381).
The burst of a local set ends before the 64 clocks ahead of a flip (DESIGN CHOICE, assumption 6). -/
def State.pubSoundings (s : State) (c wake : Nat) : State :=
  if ¬ (s.isActive ∧ s.flag R.fabCtrlJoined) then s
  else
    let pubs := s.runBook.elim [] fun b => b.pubs.filter fun p => p.cls == c && p.k != 0 && wake % p.k == 0
    pubs.foldl (fun s p =>
      let n := p.members.length
      let nseg := ceilDiv n 88
      let ent := mget none s.fab.trees (s.pairNum * 64 + p.idx)
      let ports := (ent.map (·.out)).getD []
      let interval := p.k * s.fld (R.bookTcCfgPeriod c) * 500
      let frames := (List.range nseg).map fun i =>
        let ms := (p.members.drop (88 * i)).take 88
        [p.idx, i, nseg, 88 * i + 1, ms.length, s.fab.epoch, wake, interval, s.pubLayout p.members] ++
          ms.flatMap fun g => recWords (s.frontRec g)
      let s := ports.foldl (fun s port =>
        frames.foldl (fun s f => s.fabSend 3 port 32 0xFFFF s.fabOwn s.fabWatch f) s) s
      let s := { s with fab := { s.fab with pubWake := mput none s.fab.pubWake p.idx (some wake) } }
      if ¬ (ent.any (·.loc)) then s
      else
        let us := s.runBook.elim [] fun b => b.subs.filter fun u => u.pair == s.pairNum && u.sidx == p.idx
        let segs := (List.range nseg).map fun i => s.ownSeg p i nseg wake interval
        us.foldl (fun s u => segs.foldl (fun s f => s.subSeg u f false) s) s) s

/-- Sets that waited for the PAGE_IN flip of class c are written after it (R383). -/
def State.fabWaiting (s : State) (c : Nat) : State :=
  (s.fab.subs.map (·.1)).foldl (fun s u => if (s.sub u).waits ∧ s.subClass u = some c then s.writeSet u else s) s

end Sys2Proof.Machine
end

