-- ==== Sys2Proof/Machine/StnOut.lean ====
section
/-! DEFINITION. Output frames of the station rings (R103 to R106, R289, R290, R327 to R330, R339, R341). -/

namespace Sys2Proof.Machine

/-- The ring of a station (R323). -/
def ringOf (st : Nat) : Nat := st / 128

/-- The directory rows that STN uses: those in force, without a program those of the Book it was configured for last (R311, R338). -/
def State.stnRows (s : State) : List DirRow := if s.book.running.isSome then s.dirRows else s.stn.cfg.elim [] (·.dir)

/-- The signal bound to a position of a station, of a kind (R325). -/
def State.stnSig (s : State) (st pos kind : Nat) : Option Nat :=
  (s.stnRows.find? fun d => d.e.bind == 1 && d.e.unit == st && d.e.pos == pos && d.e.kind == kind).map (·.sig)

/-- The Book that configures a station: the one its class follows (R343), without a program the one STN was configured for last (R311, R338). -/
def State.stnBook (s : State) (st : Nat) : Option Book :=
  if s.book.running.isSome then (s.stnSig st 0 1).elim s.runBook fun sig => s.clsBook (s.dirEntry sig).cls else s.stn.cfg

/-- The Book that configures the rings and names their stations. -/
def State.ringBook (s : State) : Option Book := if s.book.running.isSome then s.runBook else s.stn.cfg

/-- A station's configuration. -/
def State.stnCfg (s : State) (st : Nat) : Option StationCfg := (s.stnBook st).bind fun b => b.stations.find? fun x => x.num == st

/-- The class of a station (R103): that of its status word. -/
def State.stnClass (s : State) (st : Nat) : Nat :=
  match s.stnSig st 0 1 with
  | some sig => (s.dirEntry sig).cls
  | none => 0

/-- The period of a class in ns. -/
def State.periodNs (s : State) (c : Nat) : Nat := s.fld (R.bookTcCfgPeriod c) * 500000

/-- The offset of a class in ns. -/
def State.offsetNs (s : State) (c : Nat) : Nat := s.fld (R.bookTcCfgOffset c) * 500000

/-- A TB2 instant is a nominal start of class c (R86). -/
def State.isStart (s : State) (c t : Nat) : Bool :=
  s.used c && decide (s.offsetNs c ≤ t) && (t - s.offsetNs c) % s.periodNs c == 0

/-- The station cycle of a station in ns (R104). -/
def State.stnCycle (s : State) (st : Nat) : Nat := ((s.stnCfg st).elim 0 (·.m)) * s.periodNs (s.stnClass st)

/-- A nominal start begins a station cycle of the station (R104). -/
def State.stnBegins (s : State) (st t : Nat) : Bool :=
  decide (0 < s.stnCycle st) && decide (s.offsetNs (s.stnClass st) ≤ t) &&
    (t - s.offsetNs (s.stnClass st)) % s.stnCycle st == 0

/-- SAMPLE_OFFSET of a ring in ns (R324). -/
def State.sampleOff (s : State) (r : Nat) : Nat := (s.ringBook.elim 0 fun b => ((b.rings[r]?).elim 0 (·.sampleOffset))) * 1000

/-- The station's next sampling instant after TB2 `t` (R332). -/
def State.nextSample (s : State) (st t : Nat) : Nat :=
  let c := s.stnClass st
  let cy := max (s.stnCycle st) 1
  let off := s.sampleOff (ringOf st)
  s.offsetNs c + ((t + off + cy - s.offsetNs c) / cy) * cy - off

/-- The destination and source addresses of a frame from the module (R327). -/
def stnAddr (n : Nat) : List Byte := leBytes 4 2 ++ beBytes 2 n

/-- The bytes of a ring frame from DA to CHECK (R327). -/
def State.frameBytes (s : State) (f : StnFrame) : List Byte :=
  let me := if s.slotB then 0x10B else 0x10A
  let body := leBytes 1 f.ver ++ leBytes 1 f.typ ++ leBytes 1 f.station ++
    leBytes 1 ((if f.towardB then 1 else 0) + (if f.relayed then 2 else 0) + (if f.all then 4 else 0)) ++ beBytes 2 f.pair ++
    leBytes 1 f.seg ++ leBytes 1 f.nseg ++ beBytes 2 f.first ++ beBytes 2 f.count ++ beBytes 2 0 ++ beBytes 4 f.watch ++
    beBytes 6 f.wake ++ beBytes 2 0 ++ beBytes 8 f.time ++ beBytes 8 f.aux ++
    (f.values.flatMap fun v => beBytes 8 v.toNat) ++
    ((f.quals.map fun q => BitVec.ofNat 8 q) ++ List.replicate ((8 - f.quals.length % 8) % 8) 0)
  let fromStn := f.typ == 2 || f.typ == 6 || f.typ == 7
  let head := (if fromStn then stnAddr me ++ stnAddr f.station
    else stnAddr (if f.all then 0x100 else f.station) ++ stnAddr me) ++ beBytes 2 (s.fld R.stnCtrlEtype)
  head ++ body ++ beBytes 4 (crc32c body)

/-- A frame of the module to a station, before its type's fields. -/
def State.frameTo (s : State) (typ st : Nat) : StnFrame :=
  { etypeOk := true, vlan := false, checkOk := true, ver := 1, typ := typ, station := st, towardB := !s.slotB, relayed := false,
    all := false, pair := s.pairNum, seg := 0, nseg := 1, first := 0, count := 0, watch := s.fld R.pairWatchWatch, wake := 0,
    time := 0, aux := 0, values := [], quals := [] }

/-- The OUTPUT segments of a station for a published cycle (R327, R328, R339). -/
def State.outFrames (s : State) (x : StationCfg) (wake t : Nat) : List StnFrame :=
  let st := x.num
  let n := max 1 (ceilDiv x.no 160)
  let keep := s.fld (R.stnStState st) != 3
  let aux := (if keep then 1 else 0) + (if s.fld R.bookModeMode = 0 then 2 else 0)
  (List.range n).map fun i =>
    let cnt := min 160 (x.no - 160 * i)
    let rs := (List.range cnt).map fun j =>
      match s.stnSig st (160 * i + 1 + j) 0 with
      | some sig => s.frontRec sig
      | none => recZero
    let f := { s.frameTo 1 st with seg := i, nseg := n, first := 160 * i + 1, count := cnt, wake := wake, aux := aux }
    { f with time := s.nextSample st t, values := rs.map (·.value), quals := rs.map fun r => writtenQual r.qual }

/-- A frame from the module's ring end, if STN uses the port (R326, R619). -/
def State.ringSend (s : State) (r : Nat) (f : StnFrame) : State := if s.ringOn r then s.emit (.station r f) else s

/-- Frames transmitted from the module's ring end, and placed in Relay records for a partner in STANDBY or SYNCING (R339). -/
def State.sendFrames (s : State) (fs : List StnFrame) : State :=
  if s.flag R.stnSafeStopped then s
  else
    fs.foldl (fun s f =>
      let r := ringOf f.station
      let s := s.ringSend r f
      if s.mirrored then s.linkSend (.relay r { f with relayed := true, towardB := !f.towardB }) else s) s

/-- An output cycle of a station counted UNDELIVERED (R341). -/
def State.undelivered (s : State) (st : Nat) : State :=
  let s := s.incSat (R.stnStUndelivered st)
  { s with stn := { s.stn with st := mmod StationSt.init s.stn.st st fun x => { x with awaiting := none, undelLast := true } } }

/-- The stations named by a list of frames, each once. -/
def frameStations (fs : List StnFrame) : List Nat := (fs.map (·.station)).eraseDups

/-- A withheld publication gives up: its frames are not sent, its cycles are UNDELIVERED (R289). -/
def State.withhold (s : State) (fs : List StnFrame) : State := (frameStations fs).foldl (fun s st => s.undelivered st) s

/-- Frames sent, their stations waiting for an ACK of the cycle (R341). -/
def State.sendCycle (s : State) (wake : Nat) (fs : List StnFrame) : State :=
  let s := s.sendFrames fs
  (frameStations fs).foldl (fun s st =>
    { s with stn := { s.stn with st := mmod StationSt.init s.stn.st st fun x => { x with awaiting := some wake } } }) s

/-- STN at a nominal publication instant of class c, TB2 `t` (R96, R106, R289, R290, R339, R341): the output frames of the stations whose
station cycle the latest nominal start of the class began, with the image as it stands published under Wake number `wake`, sent, held for the
commit, or withheld. `new`: the image was published at this instant. -/
def State.pubStations (s : State) (c t wake : Nat) (new : Bool) : State :=
  match s.runBook with
  | none => s
  | some b =>
    let xs := b.stations.filter fun x => s.stnClass x.num == c && s.stnBegins x.num (s.cls c).start
    if xs.isEmpty then s
    else
      let s := xs.foldl (fun s x =>
        if (mget StationSt.init s.stn.st x.num).awaiting.isSome then s.undelivered x.num else s) s
      let fs := xs.flatMap fun x => s.outFrames x wake t
      if s.flipStop ∨ ¬ (s.isActive ∨ s.pair.oldActive) then s
      else if s.partner ≠ psStandby then s.sendCycle wake fs
      else if s.bit R.pairCfgStrict c ∧ (new ∨ s.fld (R.pairClassPending c) ≠ 0) then
        { s with pair := { s.pair with waitOut := s.pair.waitOut ++ [⟨c, wake, (s.cls c).inputWake, t, !(s.cls c).inputDue, false, fs⟩] } }
      else if (s.cls c).inputDue then s.withhold fs
      else s.sendCycle wake fs

/-- The CONFIG block's words (R329). -/
def State.configWords (s : State) (x : StationCfg) : List W64 :=
  let c := s.stnClass x.num
  let cy := max (s.stnCycle x.num) 1
  let phase := (s.offsetNs c + cy * (ceilDiv (s.sampleOff (ringOf x.num)) cy) - s.sampleOff (ringOf x.num)) % cy
  [BitVec.ofNat 64 (s.stnCycle x.num), BitVec.ofNat 64 phase,
   BitVec.ofNat 64 (x.ni * 2 ^ 48 + x.no * 2 ^ 32 + x.timeout * 2 ^ 24 + x.cfgGen * 2 ^ 16 + x.model.length)] ++
  (packWords x.model.length x.model).map fun w => BitVec.ofNat 64 (ofLe (beBytes 8 w.toNat))

/-- The Binnacle passes a station's CONFIG frame to STN, which sends it (R328, R339, R345, R352). -/
def State.sendConfig (s : State) (st : Nat) : State :=
  match s.stnCfg st with
  | none => s
  | some x =>
    if ¬ s.isActive then s
    else
      let ws := s.configWords x
      let f : StnFrame := { s.frameTo 5 st with count := ws.length, values := ws }
      let s := (toEntries (s.frameBytes f)).foldl (fun s e => s.qPass (192 + ringOf st) e) s
      s.sendFrames [f]

end Sys2Proof.Machine
end

