-- ==== Sys2Proof/Machine/Stations.lean ====
section
/-! DEFINITION. Receiving on the station rings: samples, cutoffs, station states, ACK, JOIN, SAFE frames (R330 to R338, R344 to R352,
R516). -/

namespace Sys2Proof.Machine

/-- The state with a station changed. -/
def State.modStn (s : State) (st : Nat) (f : StationSt → StationSt) : State :=
  { s with stn := { s.stn with st := mmod StationSt.init s.stn.st st f } }

/-- A station. -/
def State.stnOf (s : State) (st : Nat) : StationSt := mget StationSt.init s.stn.st st

/-- A station's transition, with its entry in Q198 (R352). -/
def State.stnGo (s : State) (st new : Nat) : State :=
  let old := s.fld (R.stnStState st)
  if old = new then s
  else (s.setFld (R.stnStState st) new).qPass 198 [BitVec.ofNat 64 (st + old * 2 ^ 8 + new * 2 ^ 16)]

/-- A discarded frame copied to Q196 or Q197 while capture is on (R352). -/
def State.captureFrame (s : State) (r : Nat) (f : StnFrame) : State :=
  let n := mget 0 s.stn.capture r
  if n = 0 then s
  else
    let es := toEntries (s.frameBytes f)
    let q := 196 + r
    if s.qFree q < es.length then { s with stn := { s.stn with capture := mdel s.stn.capture r } }
    else
      let s := es.foldl (fun s e => s.qPut q e) s
      { s with stn := { s.stn with capture := mput 0 s.stn.capture r (n - 1) } }

/-- Q(r): image quads that hold KIND 1 signals of stations on a ring (R333). -/
def State.ringQuads (s : State) (r : Nat) : Nat :=
  match s.ringBook with
  | none => 0
  | some b => ((b.dir.filter fun d => d.e.bind == 1 && d.e.kind == 1 && ringOf d.e.unit == r).map fun d => d.sig / 4).eraseDups.length

/-- G(r) in ns, a whole number of µs (R333). -/
def State.cutoffLead (s : State) (r : Nat) : Nat := ceilDiv (5000 + ceilDiv ((s.ringQuads r + 64) * 5) 4) 1000 * 1000

/-- The latched sampling instant within ±2 µs of a TIME that is one of the station's (R332, R335). -/
def State.matchLatch (s : State) (st time : Nat) : Option (Nat × Nat) :=
  (mget [] s.stn.latch (ringOf st)).find? fun l =>
    decide (time ≤ l.1 + 2000) && decide (l.1 ≤ time + 2000) && s.stnBegins st (l.1 + s.sampleOff (ringOf st))

/-- The JOIN or mismatched INPUT of a station: CONFIG, and its frame (R345, R352). -/
def State.stnJoin (s : State) (r : Nat) (f : StnFrame) : State :=
  let st := f.station
  let s := (toEntries (s.frameBytes f)).foldl (fun s e => s.qPass (194 + r) e) s
  let s := s.setFld (R.stnStCfgGen st) (f.aux / 2 ^ 8 % 256)
  if s.fld (R.stnStState st) = 0 then s else (s.stnGo st 2).sendConfig st

/-- A segment of an accepted sample; the sample's records written when it is whole (R334, R335). -/
def State.stnSegment (s : State) (x : StationCfg) (viaA : Bool) (f : StnFrame) (inst stamp : Nat) : State :=
  let st := x.num
  let late := decide (f.time > inst + 1000) || decide (inst > f.time + 1000)
  let smp := match (s.stnOf st).sample with
    | some p => if p.time = inst then p else ⟨inst, f.nseg, 0, [], [], false⟩
    | none => ⟨inst, f.nseg, 0, [], [], false⟩
  let fresh := match (s.stnOf st).sample with | some p => p.time != inst | none => true
  let s := if fresh then s.modStn st fun y => { y with whole := false, viaA := false, viaB := false } else s
  let s := s.modStn st fun y => { y with viaA := y.viaA || viaA, viaB := y.viaB || !viaA }
  if smp.segs.testBit f.seg then s
  else
    let smp := { smp with segs := smp.segs + 2 ^ f.seg, safeHeld := f.aux % 2 == 1,
                          vals := (List.range f.count).foldl (fun m j => mput 0 m (f.first + j) (f.values.getD j 0)) smp.vals,
                          quals := (List.range f.count).foldl (fun m j => mput 0 m (f.first + j) (f.quals.getD j 0)) smp.quals }
    let s := s.modStn st fun y => { y with sample := some smp }
    let s := s.setFld (R.stnStCfgGen st) (f.aux / 2 ^ 8 % 256)
    if smp.segs = 2 ^ smp.nseg - 1 then
      let s := s.modStn st fun y => { y with whole := true, genOk := true }
      let s := s.setFlag (R.stnStSafeheld st) smp.safeHeld
      let s := if late then s.incSat (R.stnRingCntSkew (ringOf st)) else s
      (List.range x.ni).foldl (fun s j =>
        match s.stnSig st (j + 1) 1 with
        | some sig =>
          let q := writtenQual (mget 0 smp.quals (j + 1))
          s.ownedWrite 10 0 sig (mget 0 smp.vals (j + 1)) stamp (if late then min q 2 else q)
        | none => s) s
    else s

/-- A station frame received at a ring end, at the module's own port or in a Forward record, at TB2 `t` (R330, R334 to R336, R338,
R341, R345). -/
def State.stnRx (s : State) (r : Nat) (own : Bool) (f : StnFrame) (t : Nat) : State :=
  let s := s.to2 t
  if own ∧ ¬ s.ringOn r then s else
  let s := if own ∧ s.isFollower ∧ s.flag R.pairLinkUp then s.linkSend (.forward r f) else s
  let st := f.station
  if ¬ f.etypeOk ∨ f.vlan then (s.incSat (R.stnRingCntForeign r)).captureFrame r f
  else if ¬ f.checkOk then (s.incSat (R.stnRingCntCrcerr r)).captureFrame r f
  else
    match s.stnCfg st with
    | none => (s.incSat (R.stnRingCntForeign r)).captureFrame r f
    | some x =>
      if f.ver ≠ 1 ∨ (f.typ ≠ 2 ∧ f.typ ≠ 6 ∧ f.typ ≠ 7) ∨ f.pair ≠ s.pairNum ∨ ringOf st ≠ r then
        (s.incSat (R.stnRingCntForeign r)).captureFrame r f
      else
        let s := s.seeWatch f.watch
        let viaA := own == !s.slotB
        if f.typ = 6 then
          if (s.stnOf st).awaiting = some f.wake then s.modStn st fun y => { y with awaiting := none, undelLast := false } else s
        else if f.aux / 2 ^ 8 % 256 ≠ x.cfgGen then s.stnJoin r f
        else if f.typ = 7 then s
        else
          match s.matchLatch st f.time with
          | none =>
            if (s.stnOf st).skewAt = some f.time then s
            else (s.modStn st fun y => { y with skewAt := some f.time }).incSat (R.stnRingCntSkew r)
          | some (inst, stamp) =>
            if inst + s.sampleOff r ≤ s.tb 2 + s.cutoffLead r then (s.incSat (R.stnRingCntLate r)).captureFrame r f
            else s.stnSegment x viaA f inst stamp

/-- STATION_SAMPLING_INSTANT (R332): TIME latches TB0 at the sampling instant of ring r for nominal start `start`. -/
def execStationSamplingInstant (r : Fin 2) (start : Nat) (s : State) : Host.Outcome State Fault Refusal :=
  let off := s.sampleOff r.val
  match s.ringBook with
  | none => .next s
  | some b =>
    if b.stations.any fun x => ringOf x.num == r.val && s.stnBegins x.num start then
      let s := s.to2 (start - off)
      let ls := ((start - off, s.stampNow) :: mget [] s.stn.latch r.val).take 64
      .next { s with stn := { s.stn with latch := mput [] s.stn.latch r.val ls } }
    else .next s

/-- STATION_INPUT_FRAME_RX (R334) at the module's own port. -/
def execStationInputFrameRx (r : Fin 2) (f : StnFrame) (t : Nat) (s : State) : Host.Outcome State Fault Refusal :=
  .next (s.stnRx r.val true f t)

/-- STATION_ACK_RX (R341). -/
def execStationAckRx (r : Fin 2) (f : StnFrame) (t : Nat) (s : State) : Host.Outcome State Fault Refusal :=
  .next (s.stnRx r.val true f t)

/-- STATION_JOIN_RX (R345). -/
def execStationJoinRx (r : Fin 2) (f : StnFrame) (t : Nat) (s : State) : Host.Outcome State Fault Refusal :=
  .next (s.stnRx r.val true f t)

/-- FORWARD_RECORD_RX (R334): a partner in STANDBY or SYNCING forwards a copy; a DETACHED module takes none (R311). -/
def execForwardRecordRx (l : LinkIn) (r : Fin 2) (f : StnFrame) (t : Nat) (s : State) : Host.Outcome State Fault Refusal :=
  let s := s.linkRx l
  if s.flag R.pairLinkUp ∧ (s.fld R.pairStatePstate = psStandby ∨ s.fld R.pairStatePstate = psSyncing) ∧ s.pstate ≠ psDetached then
    .next (s.stnRx r.val false f t)
  else .next s

/-! ### The cutoff (R336, R337, R344 to R346) -/

/-- The status word of a station (R344). -/
def State.statusWord (s : State) (st : Nat) : W64 :=
  BitVec.ofNat 64 (s.fld (R.stnStState st) + (if s.flag (R.stnStViaA st) then 8 else 0) + (if s.flag (R.stnStViaB st) then 16 else 0) +
    (if s.flag (R.stnStSafeheld st) then 32 else 0) + s.fld (R.stnStMissed st) * 2 ^ 7 +
    (if (s.stnOf st).undelLast then 2 ^ 15 else 0))

/-- The event of a station transition: raised by the module in the active role (R346, R348). -/
def State.stnEvent (s : State) (code st wake : Nat) : State :=
  if s.isActive then s.raise code (leBytes 1 st ++ leBytes 6 wake) else s

/-- A station judged at its cutoff (R345). -/
def State.stnJudge (s : State) (x : StationCfg) (heard : Bool) (wake : Nat) : State :=
  let st := x.num
  let old := s.fld (R.stnStState st)
  if old = 0 then s
  else if heard then
    let s := s.setFld (R.stnStMissed st) 0
    if old = 3 ∨ old = 6 then s
    else if ¬ s.flag (R.stnStSafeheld st) then
      (s.stnGo st 3).stnEvent (if old = 1 ∨ old = 2 then evStationJoined else evStationReturned) st wake
    else (s.stnGo st (if s.flag (R.stnStRelease st) then 6 else 3)).stnEvent evStationRejoined st wake
  else
    let s := s.incSat (R.stnStMissed st)
    let stale := decide (x.stale < s.fld (R.stnStMissed st))
    if old = 3 ∨ old = 6 then
      ((s.stnGo st (if stale then 5 else 4)).incSat (R.stnSt1Losses st)).stnEvent evStationLost st wake
    else if old = 4 ∧ stale then s.stnGo st 5
    else s

/-- The qualities of a station missed at its cutoff (R337). -/
def State.stnWrite (s : State) (x : StationCfg) (heard : Bool) : State :=
  let st := x.num
  let p := s.fld (R.stnStState st)
  if heard ∨ p = 0 ∨ p = 1 ∨ p = 2 then s
  else
    let q := if s.fld (R.stnStMissed st) ≤ x.stale then 1 else 0
    (List.range x.ni).foldl (fun s j =>
      match s.stnSig st (j + 1) 1 with
      | some sig => s.qualityWrite 10 0 sig q
      | none => s) s

/-- The status word of a station written at a cutoff of its ring, and kept (R337, R344). -/
def State.stnStatus (s : State) (st stamp : Nat) : State :=
  let w := s.statusWord st
  let s := s.modStn st fun y => { y with statusWord := w, statusStamp := stamp }
  match s.stnSig st 0 1 with
  | some sig => s.ownedWrite 10 0 sig w stamp 4
  | none => s

/-- STN_RINGr after a cutoff, RING_BROKEN and RING_CLOSED (R346, R354). -/
def State.ringStatus (s : State) (r : Nat) (b : Book) (xs : List StationCfg) : State :=
  let all := b.stations.filter fun x => ringOf x.num == r
  let cnt := fun (p : Nat → Bool) => (all.filter fun x => p (s.fld (R.stnStState x.num))).length
  let la := all.foldl (fun m x => if s.flag (R.stnStViaA x.num) then (if m = 0xFF then x.order else max m x.order) else m) 0xFF
  let fb := all.foldl (fun m x => if s.flag (R.stnStViaB x.num) then min m x.order else m) 0xFF
  let s := (s.setFld (R.stnRingLastA r) la).setFld (R.stnRingFirstB r) fb
  let s := s.setFld (R.stnRingPresent r) (cnt (· == 3))
  let s := s.setFld (R.stnRingLost r) (cnt fun p => p == 4 || p == 5)
  let s := s.setFld (R.stnRingHeld r) (cnt (· == 6))
  let heard := xs.filter fun x => s.flag (R.stnStViaA x.num) || s.flag (R.stnStViaB x.num)
  let one := heard.any fun x => s.flag (R.stnStViaA x.num) != s.flag (R.stnStViaB x.num)
  if one ∧ ¬ s.flag (R.stnRingBroken r) then
    (s.setFlag (R.stnRingBroken r) true).raise evRingBroken (leBytes 1 la ++ leBytes 1 fb)
  else if ¬ one ∧ ¬ heard.isEmpty ∧ s.flag (R.stnRingBroken r) then
    (s.setFlag (R.stnRingBroken r) false).raise evRingClosed []
  else s

/-- STATION_CUTOFF (R333, R336, R337): the input cutoff of ring r for nominal start `start`; the status word of every station of the ring. -/
def execStationCutoff (r : Fin 2) (start : Nat) (s : State) : Host.Outcome State Fault Refusal :=
  match s.ringBook with
  | none => .next s
  | some b =>
    let xs := b.stations.filter fun x => ringOf x.num == r.val && s.stnBegins x.num start
    if xs.isEmpty then .next s
    else
      let s := s.to2 (start - s.cutoffLead r.val)
      let inst := start - s.sampleOff r.val
      let stamp := ((mget [] s.stn.latch r.val).find? fun l => l.1 == inst).elim s.stampNow (·.2)
      let s := xs.foldl (fun s x =>
        let y := s.stnOf x.num
        let now := match y.sample with | some p => p.time == inst | none => false
        let heard := y.whole && y.genOk && now
        let s := (s.setFlag (R.stnStViaA x.num) (y.viaA && heard)).setFlag (R.stnStViaB x.num) (y.viaB && heard)
        let c := s.stnClass x.num
        let s := s.stnJudge x heard ((s.fld (R.bookTcWakeWake c) + (if (s.cls c).begun then 1 else 0)) % 2 ^ 48)
        let s := s.stnWrite x heard
        s.modStn x.num fun y => { y with sample := none, whole := false, viaA := false, viaB := false }) s
      let s := (b.stations.filter fun x => ringOf x.num == r.val).foldl (fun s x => s.stnStatus x.num stamp) s
      .next (s.ringStatus r.val b xs)

/-! ### CONFIG and SAFE frames -/

/-- CONFIG_REPEAT (R345): the Binnacle repeats CONFIG to a station in CONFIG. -/
def execConfigRepeat (st : Fin 256) (s : State) : Host.Outcome State Fault Refusal :=
  .next (if s.fld (R.stnStState st.val) = 2 then s.sendConfig st.val else s)

/-- SAFE_FRAME_REPEAT (R351): the set of SAFE frames on the module's own ring ends after a class D fault. -/
def execSafeFrameRepeat (s : State) : Host.Outcome State Fault Refusal :=
  if s.flag R.stnSafeSafeTx ∧ ¬ s.flag R.stnSafeStopped then
    .next (s.stn.safeSet.foldl (fun s f => s.ringSend (ringOf f.station) f) s)
  else .next s

/-- The SAFE frames of the configured stations for the present Watch number (R350). -/
def State.safeFrames (s : State) : State :=
  let fs := (s.ringBook.elim [] fun b => b.stations).map fun x => s.frameTo 3 x.num
  let s := { s with stn := { s.stn with safeSet := fs } }
  s.setFld R.stnSafeSafeWatch (s.fld R.pairWatchWatch)

/-- SAFE_SET_REBUILD (R350). -/
def execSafeSetRebuild (s : State) : Host.Outcome State Fault Refusal := .next s.safeFrames

/-! ### Releases (R347) -/

/-- STATION_RELEASE at its effect instant (R345, R347). -/
def State.releaseStation (s : State) (st : Nat) : State :=
  if s.fld (R.stnStState st) = 6 then (s.stnGo st 3).raise evStationReleased (leBytes 1 st ++ leBytes 1 0)
  else s.raise evStationReleased (leBytes 1 st ++ leBytes 1 1)

/-- STATION_RELEASE_ALL at its effect instant: every station HELD on the ring, or both rings (R353). -/
def State.releaseAll (s : State) (ring : Option Nat) : State :=
  (List.range 256).foldl (fun s st =>
    if s.fld (R.stnStState st) = 6 ∧ (ring = none ∨ ring = some (ringOf st)) then s.releaseStation st else s) s

end Sys2Proof.Machine
end

