-- ==== Sys2Proof/Machine/Pending.lean ====
section
/-! DEFINITION. Commands that a class applies: parameter words, host inputs, forces and the APPLY records of the Logbook (R68, R178, R230,
R545). -/

namespace Sys2Proof.Machine

/-- A parameter word of an instance written, and its grain marked for the Commit record (R178, R287). -/
def State.tuneWord (s : State) (inst word : Nat) (v : W64) : State :=
  match s.instOf inst with
  | none => s
  | some r =>
    let a := frameAddr r.frame + 8 * word
    ((s.wr64 a v).dropClean (inFrame r.frame r.grains)).turnShip r.cls a

/-- The class that applies a command: of the instance, or of the signal (R68, R178, R230). -/
def State.bodyClass (s : State) (m : MirBody) : Nat :=
  match m with
  | .tune inst _ _ => ((s.instOf inst).map (·.cls)).getD 0
  | .signalWrite sig _ _ => (s.dirEntry sig).cls
  | .forceSet sig _ _ => (s.dirEntry sig).cls
  | .forceRelease sig => (s.dirEntry sig).cls
  | _ => 0

/-- A force command in the table (R224, R230, R231, R237), of class `c` where one is given. -/
def State.forceDo (s : State) (client : Nat) (c : Option Nat) (m : MirBody) : State :=
  match m with
  | .forceSet sig qual v => s.forceSet sig qual client v
  | .forceRelease sig => s.forceDropAll (fun i => s.forceSig i == sig) 1
  | .forceReleaseAll set =>
    s.forceDropAll (fun i =>
      let k := (s.dirEntry (s.forceSig i)).cls
      (set.isNone || set == some k) && (c.isNone || c == some k)) 1
  | _ => s

/-- What a class does with a command at its nominal start (R68, R178). -/
def State.startBody (s : State) (client : Nat) (m : MirBody) : State :=
  match m with
  | .tune inst word v => s.tuneWord inst word v
  | .signalWrite sig qual v =>
    s.ownedWrite 8 0 sig v s.stampNow qual
  | _ => s.forceDo client none m

/-- Whether the command's force applies at flips of a kind: of the kind of its signal; the release of all at any (R230). -/
def State.bodyKind (s : State) (m : MirBody) (kind : Nat) : Bool :=
  match m with
  | .forceSet sig _ _ => (s.dirEntry sig).kind == kind
  | .forceRelease sig => (s.dirEntry sig).kind == kind
  | .forceReleaseAll _ => true
  | _ => false

/-- The waiting commands that `p` picks leave the list, each with its APPLY record at a Wake number (R545). -/
def State.applied (s : State) (c wake : Nat) (p : PendApply → Bool) : State :=
  let mine := s.book.pend.filter p
  let s := { s with book := { s.book with pend := s.book.pend.filter fun x => !p x } }
  mine.foldl (fun s x => s.logRec 4 0 c wake [x.seq]) s

/-- The commands that class c applies at a start at TB2 `t` ns take effect (R68, R178). -/
def State.startPend (s : State) (c t wake : Nat) : State :=
  let due := fun (x : PendApply) => x.cls == c && !x.done && decide (x.effect ≤ t)
  let s := (s.book.pend.filter due).foldl (fun s x => s.startBody x.client x.body) s
  s.applied c wake due

/-- The APPLY records of the forces that take effect at a flip of a class and kind (R230). -/
def State.flipPend (s : State) (c kind wake : Nat) : State :=
  s.applied c wake fun x => x.cls == c && x.done && s.bodyKind x.body kind

end Sys2Proof.Machine
end

