-- ==== Sys2Proof/Machine/Cycle.lean ====
section
/-! DEFINITION. The control cycle: flips, back-fill, nominal starts, crossing copies, publications, the Wake records the active
sends, holds and stops (R57 to R64, R69 to R73, R85 to R98, R107, R111 to R115, R121, R286 to R293). -/

namespace Sys2Proof.Machine

/-! ### Flips and back-fill -/

/-- Finishes the back-fill of the latest flip of a class and kind (R61, R62, R228). -/
def State.finishBack (s : State) (c kind : Nat) : State :=
  let k := s.cls c
  let f := s.front c kind
  let qs := if kind = 1 then k.backIn else k.backOut
  let un := if kind = 1 then k.underIn else k.underOut
  let wr := if kind = 1 then k.wrIn else k.wrOut
  let s := qs.foldl (fun s q =>
    s.copyQuad f (!f) (fun sig => mget false wr sig) (fun sig => (un.find? fun e => e.1 == sig).map (·.2)) q) s
  s.modCls c fun k => if kind = 1 then { k with backIn := [] } else { k with backOut := [] }

/-- The page bit of a class and kind inverted (R57, R59). -/
def State.togglePage (s : State) (c kind : Nat) : State :=
  if kind = 1 then s.setBit R.dirPagePageIn c (!s.bit R.dirPagePageIn c)
  else s.setBit R.dirPagePageOut c (!s.bit R.dirPagePageOut c)

/-- A flip of the active: the page bit, the forces of the class and kind, the quads that its back-fill is to copy (R59 to R61,
R226, R228). -/
def State.flip (s : State) (c kind : Nat) : State :=
  let s := s.finishBack c kind
  let s := s.togglePage c kind
  let k := s.cls c
  let qs := quadsOf (if kind = 1 then k.wrIn else k.wrOut)
  let s := s.modCls c fun k =>
    if kind = 1 then { k with wrIn := [], underIn := [] } else { k with wrOut := [], underOut := [] }
  let s := s.applyForces c kind
  let k := s.cls c
  let fq := ((if kind = 1 then k.underIn else k.underOut).map fun e => e.1 / 4)
  s.modCls c fun k =>
    if kind = 1 then { k with backIn := (qs ++ fq).eraseDups } else { k with backOut := (qs ++ fq).eraseDups }

/-- A flip of a follower: at a PAGE_IN flip its own writes since the last one are first replaced in the new front (R293). -/
def State.followFlip (s : State) (c kind : Nat) : State :=
  let s := s.togglePage c kind
  if kind = 1 then
    let f := s.front c 1
    let s := (quadsOf (s.cls c).wrIn).foldl (fun s q =>
      (List.range 4).foldl (fun s i =>
        s.setRec (recAddr f (q * 4 + i)) (s.recAt (recAddr (!f) (q * 4 + i)))) s) s
    s.modCls c fun k => { k with wrIn := [] }
  else s

/-! ### Wake records of the active (R284 to R287, R291) -/

/-- Address that stands for a quad in the records of the pair link: its grain in buffer 0. -/
def quadAddr (q : Nat) : Nat := recAddr false (q * 4)

/-- The crossing list of a class. -/
def State.crossOf (s : State) (c : Nat) : List (Nat × Nat) :=
  (s.clsBook c).elim [] fun b => (b.cross.filter fun x => x.cls == c).flatMap (·.entries)

/-- The grains an Input record may carry: KIND 1 quads from the front, and the crossing area for an executed start. -/
def State.inputGrains (s : State) (c : Nat) (exec : Bool) : List GrainEntry :=
  let f := s.front c 1
  let qs := ((s.classSigs c 1).map (· / 4)).eraseDups.map fun q =>
    (⟨quadAddr q, true, s.grain (recAddr f (q * 4))⟩ : GrainEntry)
  let xs := if exec then (((s.crossOf c).map fun e => e.2 / 4).eraseDups.map fun g =>
    (⟨frameAddr g, false, s.grain (frameAddr g)⟩ : GrainEntry)) else []
  qs ++ xs

/-- A grain entry as numbers for the Logbook. -/
def entryNats (e : GrainEntry) : List Nat := (e.addr + if e.both then 2 ^ 48 else 0) :: e.words.map (·.toNat)

/-- PAIR forms the Input record of a start: the grains that differ from the previous Input record; sent to a partner that mirrors
(R286), in the parts it takes; the Logbook's CYCLE record (R543). `how`: 0 executed, 2 held, 3 stopped, 4 stepped. -/
def State.sendInput (s : State) (c how : Nat) : State :=
  let k := s.cls c
  let noexec := how == 2 || how == 3
  let wake := if noexec then s.fld (R.bookTcWakeWake c) else k.cycWake
  let start := if noexec then k.start else k.cycStart
  let ctime := if noexec then k.cycTime else k.flyTime
  let all := s.inputGrains c (!noexec)
  let prev := mget [] s.pair.prevInput c
  let es := all.filter fun e => !(prev.any (· == e))
  let kept := prev.filter fun p => !(all.any fun e => e.addr == p.addr)
  let s := { s with pair := { s.pair with prevInput := mput [] s.pair.prevInput c (kept ++ all) } }
  let s := s.logPut 1 how c wake [start, ctime, es.length] es [] 0
  let s := s.logEntries c wake es
  let sent := s.mirrored
  let s := if noexec then s else s.setFlag (R.pairClassInputOk c) false
  let s := s.modCls c fun k => { k with inputDue := sent, inputWake := wake, execWake := if noexec then k.execWake else some wake }
  if sent then s.linkSends es fun last es => .input c wake noexec last es else s

/-- KIND of the signals of a quad: of the first one in use, 0 where none is. -/
def State.quadKind (s : State) (q : Nat) : Nat :=
  (((List.range 4).map fun i => s.dirEntry (q * 4 + i)).find? fun e => e.typ != 0).elim 0 (·.kind)

/-- PAIR forms the Commit record of a publication: every grain of mirrored state written for it (R287), in the parts it takes, with the contents
that Wake staging preserved (R292). -/
def State.sendCommit (s : State) (c : Nat) : State :=
  let k := s.cls c
  let es := (keysOf k.ship).map fun a =>
    let addr := a * 64
    if 0x800000 ≤ addr ∧ addr < 0x1000000 then
      (⟨addr, true, s.grain (recAddr (s.front c (s.quadKind ((addr - 0x800000) / 64))) ((addr - 0x800000) / 16))⟩ : GrainEntry)
    else ⟨addr, false, ((k.shipOld.find? fun e => e.1 == a).map (·.2)).getD (s.grain addr)⟩
  let s := s.modCls c fun k =>
    { k with ship := [], shipOld := [], shipTurn := false, shipLate := false, shipSkipped := false, commitDue := false }
  let s := (s.logEntries c k.shipWake es).logCkptEnd
  if s.mirrored then
    let s := s.addSat (R.pairClassPending c) 1
    s.linkSends es fun last es => .commit c k.shipWake k.shipTurn k.shipLate k.shipSkipped last es
  else s

/-- The active declares the standby lagging (R291). -/
def State.lagCheck (s : State) (c : Nat) : State :=
  if s.isActive ∧ s.partner = psStandby ∧ s.fld (R.pairClassPending c) ≠ 0 then
    let s := s.raise evWakeLag []
    let s := s.notice 5 0
    { s with pair := { s.pair with lagging := true, reclaimFrom := none, deferred := s.pair.deferred.filter fun d => d.1 != 7 } }
  else s

/-! ### Nominal starts (R85 to R98) -/

/-- CLASS_OVERRUN at the first skipped start and at most once per second of TB3 after it (R97). R532 takes a DATA value's width from
the field that holds it, and no field holds the count of skipped starts: it is given 4 bytes (DESIGN CHOICE, assumption 54). -/
def State.overrunEvent (s : State) (c : Nat) : State :=
  let k := s.cls c
  let n := k.ovrSkips + 1
  let due := match k.ovrAt with | none => true | some t => decide (t + 1000000000 ≤ s.tb 3)
  if due then
    (s.modCls c fun k => { k with ovrAt := some (s.tb 3), ovrSkips := 0 }).raise evClassOverrun (leBytes 1 c ++ leBytes 4 n)
  else s.modCls c fun k => { k with ovrSkips := n }

/-- BOOK_TCn_LAST, MAX and COUNT latched at a nominal start (R121). -/
def State.latchStats (s : State) (c : Nat) (skip held stopped : Bool) : State :=
  let k := s.cls c
  let s := s.setFld (R.bookTcLastRunTime c) (if k.winPub then k.winRun else 0)
  let s := s.setFlag (R.bookTcLastPublished c) k.winPub
  let s := s.setFlag (R.bookTcLastOverrun c) k.winOver
  let s := s.setFlag (R.bookTcLastSkip c) skip
  let s := s.setFlag (R.bookTcLastHeld c) held
  let s := s.setFlag (R.bookTcLastStopped c) stopped
  let s := if k.winPub then s.setFld (R.bookTcMaxMaxRun c) (max k.winRun (s.fld (R.bookTcMaxMaxRun c))) else s
  let slack := if k.winOver then 0 else if k.winPub then min k.winSlack 0xFFFFFFFF else 0xFFFFFFFF
  let s := s.setFld (R.bookTcMaxMinSlack c) (min slack (s.fld (R.bookTcMaxMinSlack c)))
  let s := if k.winOver then s.incSat (R.bookTcCountOverruns c) else s
  let s := if skip then s.incSat (R.bookTcCountSkips c) else s
  s.modCls c fun k => { k with winPub := false, winOver := false, winRun := 0, winSlack := 0 }

/-- The Wake number of a new nominal start (R92). -/
def State.takeWake (s : State) (c t : Nat) : State :=
  let s := if (s.cls c).begun then s.incMod (R.bookTcWakeWake c) else s.setFld (R.bookTcWakeWake c) 0
  s.modCls c fun k => { k with begun := true, start := t, stepped := false, pubDone := false }

/-- A class applies its pending mode at an unskipped start (R107, R109, R115). -/
def State.applyMode (s : State) (c : Nat) : State :=
  let k := s.cls c
  match k.modeTo with
  | some m =>
    let s := s.modCls c fun k => { k with mode := m, modeTo := none, stopped := if m = 0 then k.stopped else false,
                                          holdFrom := if m = 1 then none else k.holdFrom,
                                          holdFired := if m = 1 then false else k.holdFired,
                                          stopDue := if m = 1 then false else k.stopDue }
    let s := s.setBit R.bookModeHeld c (m == 2)
    let s := s.logRec 4 0 c (s.fld (R.bookTcWakeWake c)) [s.log.modeSeq]
    s.raise evModeApplied (leBytes 1 c ++ leBytes 1 (if m = 3 then 2 else m) ++ leBytes 6 (s.fld (R.bookTcWakeWake c)))
  | none =>
    if k.mode = 3 then (s.modCls c fun k => { k with mode := 2 }).setBit R.bookModeHeld c true else s

/-- Class c turns at this start (R216, R218): the Turn work if it is not done, TURNED, margin and Skip Limit. -/
def State.turnAt (s : State) (c t : Nat) : State :=
  if s.flag R.bookTurnArmed ∧ s.fld R.bookTurnInstant * 500000 ≤ t ∧ !s.bit R.bookTurnTurned c then
    let s := if (s.cls c).turnDone then s else s.turnWork c (s.fld (R.bookTcWakeWake c))
    let s := s.turnSched c
    let s := s.setBit R.bookTurnTurned c true
    (s.modCls c fun k => { k with shipTurn := true }).turnComplete
  else s

/-- The crossing copy of class c takes the front records as they are at its nominal start (R69, R70). DIR refuses an entry whose CHECK fails
(R54): its copy is not made. -/
def State.crossTake (s : State) (c : Nat) : State :=
  let xs := s.crossOf c
  let s := xs.foldl (fun s e => s.dirRead e.1) s
  s.modCls c fun k => { k with crossSnap := (xs.filter fun e => s.dirOk e.1).map fun e => (e.2, s.frontRec e.1) }

/-- The PAGE_IN flip of class z at TB2 `t` comes before the crossing copies of the classes that started at the same instant (R72): what they
copy of z's input signals is taken anew. -/
def State.crossAfter (s : State) (z t : Nat) : State :=
  (List.range 8).foldl (fun s c =>
    let k := s.cls c
    if c ≠ z ∧ k.inFlight ∧ ¬ k.crossDone ∧ k.cycStart = t ∧ (s.crossOf c).any (fun e => (s.dirEntry e.1).cls == z && (s.dirEntry e.1).kind == 1) then
      s.crossTake c
    else s) s

/-- A nominal start of class c at TB2 `t` ns on the module that runs the program. -/
def State.startClass (s : State) (c t : Nat) : State :=
  let s := s.takeWake c t
  let s := s.modCls c fun k => { k with cycTime := s.stampNow }
  if (s.cls c).inFlight then
    let s := s.modCls c fun k => { k with cycSkips := k.cycSkips + 1 }
    let s := s.latchStats c true false false
    let s := s.overrunEvent c
    s.logRec 1 1 c (s.fld (R.bookTcWakeWake c)) [t, s.stampNow, 0]
  else
    let s := s.turnAt c t
    let s := s.applyMode c
    let m := (s.cls c).mode
    let s := s.latchStats c false (m == 2) (m == 0)
    let s := s.startPend c t (s.fld (R.bookTcWakeWake c))
    let s := (s.flip c 1).flipPend c 1 (s.fld (R.bookTcWakeWake c))
    if m = 1 ∨ m = 3 then
      (s.modCls c fun k => { k with inFlight := true, cycStart := t, cycWake := s.fld (R.bookTcWakeWake c), flyTime := k.cycTime,
                                    crossDone := false, parts := 0, complete := false, cycSkips := 0 }).crossTake c
    else
      let k := s.cls c
      let s := if m = 0 ∧ ¬ k.stopped then
        s.modCls c fun k => { k with stopped := true, stopDue := true, stopTime := k.cycTime } else s
      s.sendInput c (if m = 0 then 3 else 2)

/-! ### Publications (R59, R95, R96, R98, R111 to R115) -/

/-- The margin of a class in ns. -/
def State.marginNs (s : State) (c : Nat) : Nat := s.fld (R.bookTcCfgMargin c) * 1000

/-- The nominal publication instant that follows the latest start (R59, R87). -/
def State.pubInstant (s : State) (c : Nat) : Nat := (s.cls c).start + s.periodNs c - s.marginNs c

/-- PAGE_OUT flips and what follows it at a publication: the grains the Commit record will carry, FLD's commands, STN's output
frames, the Logbook's PUBLISH record (R59, R287, R339, R569). -/
def State.publish (s : State) (c t wake flags : Nat) (skips : Bool) : State :=
  let s := (s.flip c 0).flipPend c 0 wake
  let k := s.cls c
  let ship := (k.backOut.map fun q => quadAddr q / 64).foldl (fun m a => mput false m a true) k.ship
  let ship := (keysOf k.wrFrm ++ keysOf k.wrMisc).foldl (fun m a => mput false m a true) ship
  let s := s.modCls c fun k =>
    { k with ship := ship, wrFrm := [], wrMisc := [], shipWake := wake, shipLate := flags % 2 == 1, shipSkipped := skips,
             commitDue := true }
  let s := s.modCls c fun k => { k with pubWake := wake, pubAt3 := some (s.tb 3) }
  let s := (s.fldPublish c).pubStations c t wake true
  s.logPublish flags c wake t

/-- Stop records of every KIND 0 signal of a class into the back buffer, unchecked by DIR (R111). -/
def State.stopRecords (s : State) (c : Nat) : State :=
  (s.classSigs c 0).foldl (fun s sig =>
    let e := s.dirEntry sig
    s.writeBack sig (canonical e.typ e.stop) (s.cls c).stopTime 4) s

/-- A nominal publication instant of class c at TB2 `t` ns on the module that runs the program. A cycle that the catch-up recomputes is none to
publish (R299). -/
def State.pubClass (s : State) (c t : Nat) : State :=
  let s := s.lagCheck c
  let s := s.modCls c fun k => { k with pubDone := true }
  let k := s.cls c
  if s.flipStop then s
  else if k.inFlight then
    if k.complete ∧ ¬ s.pair.catchUp.testBit c then
      let own := k.cycStart + s.periodNs c - s.marginNs c
      let late := decide (own < t)
      let s := s.modCls c fun k =>
        { k with inFlight := false, winPub := true, winRun := min ((k.completeAt - k.cycStart) / 10) 0xFFFFFFFF,
                 winSlack := (own - k.completeAt) / 10,
                 holdFrom := if k.mode = 3 then some t else k.holdFrom, holdFired := if k.mode = 3 then false else k.holdFired }
      let s := if k.stopDue then (s.stopRecords c).modCls c fun k => { k with stopDue := false } else s
      s.publish c t k.cycWake ((if late then 1 else 0) + (if k.stopDue then 2 else 0) + (if k.mode = 3 then 4 else 0)) (k.cycSkips != 0)
    else
      let s := s.modCls c fun k => { k with winOver := true }
      let s := s.pubStations c t k.pubWake false
      if k.cycSkips = s.fld (R.bookTcCfgSkipLimit c) then (s.report 0x1E c).raise evClassStalled (leBytes 1 c) else s
  else
    let wake := s.fld (R.bookTcWakeWake c)
    if k.stopDue then
      let s := s.stopRecords c
      let s := s.modCls c fun k => { k with stopDue := false }
      s.publish c t wake 2 false
    else if k.mode = 0 then s.publish c t wake 0 false
    else if k.mode = 2 then (s.modCls c fun k => { k with holdFrom := some (k.holdFrom.getD t) }).pubStations c t k.pubWake false
    else s

/-- The module runs the program and its flips are not stopped by the class D reaction. -/
def State.runs (s : State) : Bool := s.book.running.isSome && s.isActive

/-- The publication of class c due at TB2 `t` ns, if one is, as active or as follower. -/
def State.pubDue (s : State) (c t : Nat) : State :=
  if s.used c ∧ (s.cls c).begun ∧ ¬ (s.cls c).pubDone ∧ s.pubInstant c = t then
    if s.runs ∨ (s.pair.oldActive ∧ (s.cls c).inFlight) then s.pubClass c t
    else if s.isFollower ∧ s.book.running.isSome then
      ((s.followFlip c 0).fldPublish c).modCls c fun k => { k with pubDone := true }
    else s
  else s

/-- The lanes that have a list of class c begin its cycle (R72, R90). -/
def State.beginLanes (s : State) (c : Nat) : State :=
  let ls := (List.range 8).filter fun l => s.fld (R.laneListCount l c) != 0 && !s.bit R.cmpStatusFailed l
  let s := ls.foldl (fun s l =>
    let s := s.modLane l fun ln =>
      { ln with ready := if ln.ready.testBit c then ln.ready else ln.ready + 2 ^ c, next := mdel ln.next c }
    s.setFlag (R.laneStateBusy l) true) s
  s.modCls c fun k =>
    { k with crossDone := true, parts := ls.foldl (fun w l => w + 2 ^ l) 0, complete := ls.isEmpty, completeAt := s.tb 2 }

/-! ### The meanings -/

/-- CLASS_NOMINAL_START (R72, R86, R91 to R94): first the publications of other classes due at the same instant. After a step of TB2 the next
start is the first instant at or after the stepped time. -/
def execClassNominalStart (c : Fin 8) (t : Nat) (s : State) : Host.Outcome State Fault Refusal :=
  let k := s.cls c.val
  if ¬ s.isStart c.val t ∨ (if k.stepped then t < s.tb 2 else k.begun ∧ t ≤ k.start) ∨ s.book.running.isNone then .next s
  else
    let s := s.to2 t
    let s := (List.range 8).foldl (fun s d => if d = c.val then s else s.pubDue d t) s
    if s.runs then .next (((s.startClass c.val t).crossAfter c.val t).fabWaiting c.val)
    else if s.isFollower then
      let s := s.takeWake c.val t
      let s := s.modCls c.val fun k => { k with cycTime := s.stampNow }
      .next ((s.followFlip c.val 1).fabWaiting c.val)
    else .next s

/-- The crossing copy of class c: its area takes the records of the nominal start; the lanes that have a list of the class begin; PAIR begins
the Input record (R70, R286). -/
def State.crossCopy (s : State) (c : Nat) : State :=
  let k := s.cls c
  let s := k.crossSnap.foldl (fun s e => s.setRec (0x1000000 + e.1 * 16) e.2) s
  (s.beginLanes c).sendInput c (if k.mode = 3 then 4 else 0)

/-- A crossing copy of class c is due. The new active of a handover waits for the old one's last commit (R308). -/
def State.crossDue (s : State) (c : Nat) : Bool :=
  s.runs && (s.cls c).inFlight && !(s.cls c).crossDone && !(s.pair.held.any fun h => h.cls == c && !h.noexec)

/-- CROSSING_COPY_DONE (R70, R286): the copies of classes that started at the same instant come in class order (R72). -/
def execCrossingCopyDone (c : Fin 8) (s : State) : Host.Outcome State Fault Refusal :=
  if s.crossDue c.val then
    let first := (List.range c.val).filter fun d => s.crossDue d && (s.cls d).cycStart == (s.cls c.val).cycStart
    .next ((first ++ [c.val]).foldl (fun s d => s.crossCopy d) s)
  else .next s

/-- NOMINAL_PUBLICATION (R59, R95). -/
def execNominalPublication (c : Fin 8) (t : Nat) (s : State) : Host.Outcome State Fault Refusal :=
  if s.used c.val ∧ (s.cls c.val).begun ∧ ¬ (s.cls c.val).pubDone ∧ s.pubInstant c.val = t then
    .next ((s.to2 t).pubDue c.val t)
  else .next s

/-- The old active of a handover has published and shipped its last cycles (R308). -/
def State.oldDone (s : State) : State :=
  if s.pair.oldActive && (List.range 8).all (fun c => !(s.cls c).inFlight && !(s.cls c).commitDue) then
    { s with pair := { s.pair with oldActive := false } }
  else s

/-- BACKFILL_DONE (R61, R287): the back-fill of PAGE_OUT (`out`) or PAGE_IN completes; after PAGE_OUT
FAB sends the soundings and the Commit record begins (R379). -/
def execBackfillDone (c : Fin 8) (out : Bool) (s : State) : Host.Outcome State Fault Refusal :=
  let s := s.finishBack c.val (if out then 0 else 1)
  if out ∧ (s.cls c.val).commitDue then .next ((s.pubSoundings c.val (s.cls c.val).shipWake).sendCommit c.val).oldDone else .next s

/-- HOLD_LIMIT_EXPIRY (R114) at TB2 `t` ns: stop records are due at the next publication instant; HOLD_EXPIRED. R111 gives STAMP of stop records
as the cycle time of the stopped start; a held class has none, and the model takes that of its latest start (DESIGN CHOICE, assumption
50). -/
def execHoldLimitExpiry (c : Fin 8) (t : Nat) (s : State) : Host.Outcome State Fault Refusal :=
  let k := s.cls c.val
  match k.holdFrom with
  | some f =>
    if (k.mode = 2 ∨ k.mode = 3) ∧ ¬ k.holdFired ∧ f + s.fld R.bookModeHoldLimit * 10000000 ≤ t ∧ s.runs then
      let s := s.to2 t
      let s := s.modCls c.val fun k => { k with holdFired := true, stopDue := true, stopTime := k.cycTime }
      .next (s.raise evHoldExpired (leBytes 1 c.val))
    else .next s
  | none => .next s

end Sys2Proof.Machine
end

