-- ==== Sys2Proof/Machine/Access.lean ====
section
/-! DEFINITION. Target gates, violations, register accesses, the ACFG commands (R16 to R20, R29, R34, R35, R451 to R469, R481). -/

namespace Sys2Proof.Machine

/-! ### Colours (R451 to R454) -/

/-- The layout colour of a Signal SRAM grain; 3 for an image quad without KIND 1 signals (R37, R56). -/
def layoutColour (g : Nat) : Nat :=
  let a := g * 64
  if a < 0x800000 then 1 else if a < 0x1000000 then 3 else if a < 0x2800000 then 4 else if a < 0x2C00000 then 6
  else if a < 0x2F80000 then 7 else if a < 0x2FC0000 then 5 else 8

/-- The colour of a Signal SRAM grain (R452): its tag; an image quad of KIND 1 signals carries 2 in both buffers (R56). -/
def State.sramColour (s : State) (g : Nat) : Nat :=
  match mget none s.acc.tags g with
  | some c => c
  | none =>
    if 0x800000 ≤ g * 64 ∧ g * 64 < 0x1000000 then
      let q := (g - 0x20000) % 0x10000
      if (List.range 4).any fun i => (s.dirEntry (4 * q + i)).typ != 0 && (s.dirEntry (4 * q + i)).kind == 1 then 2 else 3
    else layoutColour g

/-- The colour of an MRAM address (R453). -/
def mramColour (a : Nat) : Nat :=
  if a < 0x8002F0000 then 0 else if a < 0x800300000 then 15 else if a < 0x800700000 then 8 else 0

/-- A window in force covers a DRAM grain: base, limit, colour (R454, R462). -/
def State.windowOf (s : State) (g : Nat) : List Nat :=
  (List.range 64).filterMap fun w =>
    let x := mget 0 s.acc.force (R.acfgWin w).addr
    if getBits x 63 1 = 1 ∧ getBits x 0 27 ≤ g ∧ g ≤ getBits x 32 27 then some (getBits x 59 4) else none

/-! ### Checks (R456) -/

/-- Target of an address: 0 Signal SRAM, 1 MRAM, 2 DRAM, 3 peripheral slot (R33). -/
def targetOf (a : Nat) : Option Nat :=
  if a < 0x3000000 then some 0
  else if 0x800000000 ≤ a ∧ a < 0x800800000 then some 1
  else if 0x1000000000 ≤ a ∧ a < 0x1001000000 then some 3
  else if 0x8000000000 ≤ a ∧ a < 0x8200000000 then some 2
  else none

/-- Slots that R25 assigns. -/
def slotAssigned (n : Nat) : Bool := decide (n < 0x14) || (decide (0x20 ≤ n) && decide (n ≤ 0x28)) || (decide (0x30 ≤ n) && decide (n ≤ 0x32))

/-- Island of a slot (R25). -/
def slotIsland (n : Nat) : Nat :=
  if 0x20 ≤ n ∧ n < 0x28 then n - 0x20
  else match n with
    | 0x00 | 0x01 => 20
    | 0x04 => 10
    | 0x07 => 11 | 0x08 => 12 | 0x09 => 13 | 0x0A => 14
    | 0x0C => 15
    | 0x03 => 16
    | 0x10 => 18
    | 0x0D | 0x0E | 0x0F | 0x13 => 19
    | 0x11 | 0x12 => 9
    | _ => 8

/-- The island is held in reset (R29). -/
def State.inReset (s : State) (i : Nat) : Bool := s.bit R.rstcIslstatInreset i

/-- The colour of the grain at an address of a target, if it has one. -/
def State.colourAt (s : State) (t a : Nat) : Option Nat :=
  match t with
  | 0 => some (s.sramColour (a / 64))
  | 1 => some (mramColour a)
  | _ => (s.windowOf ((a - 0x8000000000) / 64)).head?

/-- The report of R463 stands: OVERLAP, and source 21h not seen healthy since. -/
def State.overlapStands (s : State) : Bool :=
  s.flag R.acfgCtrlOverlap && (s.bit (R.fcolNowFault 0) 0x21 || s.reports.any fun r => r.src == 0x21)

/-- The check of one part of a memory or slot access (R456, R461): the reason it is refused, coded as ACFG_VIOL REASON. -/
def State.gate (s : State) (m a ctx : Nat) (write : Bool) : Option Nat :=
  match targetOf a with
  | none => some 0
  | some 3 =>
    let n := (a - 0x1000000000) / 0x10000
    let off := a % 0x10000
    if ¬ slotAssigned n then some 1
    else if ¬ s.flag R.acfgCtrlLoaded then (if m = 8 then none else some 5)
    else
      let w := mget 0 s.acc.force (R.acfgSlot n).addr
      let b := (if off < 0x400 then 0 else 32) + (if write then 16 else 0) + m
      if w.toNat.testBit b then none else some 4
  | some t =>
    if ¬ s.flag R.acfgCtrlLoaded then (if m = 8 then none else some 5)
    else
      let ws := s.windowOf ((a - 0x8000000000) / 64)
      if t = 2 ∧ (ws.isEmpty ∨ (s.overlapStands ∧ 1 < ws.length)) then some 2
      else
        match s.colourAt t a with
        | none => some 2
        | some c =>
          if c ≠ ctx then some 3
          else
            let w := mget 0 s.acc.force (R.acfgMt m t).addr
            if c < 15 ∧ w.toNat.testBit (c + if write then 16 else 0) then none else some 4

/-- The detail word of a refused part (R467). -/
def State.violDetail (s : State) (m a ctx reason : Nat) (write : Bool) : Nat :=
  let t := (targetOf a).getD 0
  let tag := if t = 3 ∨ (targetOf a).isNone then 0 else (s.colourAt t a).getD 0
  m + reason * 2 ^ 4 + (if write then 2 ^ 7 else 0) + t * 2 ^ 8 + ctx * 2 ^ 10 + tag * 2 ^ 14 +
    (if t = 3 then (a - 0x1000000000) / 0x10000 * 2 ^ 18 else 0)

/-- A refused part latched and counted (R467). -/
def State.violLatch (s : State) (m a ctx reason : Nat) (write : Bool) : State :=
  if s.flag R.acfgViolValid then s.incSat R.acfgViolInfoCount
  else
    let t := (targetOf a).getD 0
    let slot := t == 3
    let s := (((s.setFld R.acfgViolAddr a).setFld R.acfgViolMaster m).setFlag R.acfgViolWrite write).setFld R.acfgViolReason reason
    let s := (s.setFlag R.acfgViolValid true).setFld R.acfgViolInfoCtx ctx
    let s := s.setFld R.acfgViolInfoTag (if slot ∨ (targetOf a).isNone then 0 else (s.colourAt t a).getD 0)
    let s := s.setFld R.acfgViolInfoSlot (if slot then (a - 0x1000000000) / 0x10000 else 0)
    let s := s.setFlag R.acfgViolInfoIsslot slot
    s.setFld R.acfgViolInfoCount 1

/-- The reaction to the first refused part of an access (R468). -/
def State.violReact (s : State) (m a ctx reason : Nat) (write : Bool) : State :=
  if reason = 5 then s
  else if m < 8 then
    (s.report 0x1F (s.violDetail m a ctx reason write)).modLane m fun ln => { ln with stopped := true }
  else if m = 12 ∨ m = 15 then s.report 0x20 (s.violDetail m a ctx reason write)
  else
    let due := match mget none s.acc.violAt m with | none => true | some t => decide (t + 1000000000 ≤ s.tb 3)
    if due then
      ({ s with acc := { s.acc with violAt := mput none s.acc.violAt m (some (s.tb 3)) } }).raise evAccessViolation []
    else s

/-- The parts of a memory access at grain boundaries: address and length (R466). -/
def partsOf : Nat → Nat → Nat → List (Nat × Nat)
  | 0, _, _ => []
  | _, _, 0 => []
  | k + 1, a, n => let h := min n (64 - a % 64); (a, h) :: partsOf k (a + h) (n - h)

/-- The refused parts of a memory access latched in order, the first of them reacted to; whether any was refused. -/
def State.checkParts (s : State) (m ctx : Nat) (write : Bool) (ps : List (Nat × Nat)) : State × Bool :=
  let bad := ps.filter fun p => (s.gate m p.1 ctx write).isSome
  match bad with
  | [] => (s, false)
  | p :: _ =>
    let r := (s.gate m p.1 ctx write).getD 0
    let s' := bad.foldl (fun (x : State) q => x.violLatch m q.1 ctx ((s.gate m q.1 ctx write).getD 0) write) s
    (s'.violReact m p.1 ctx r write, true)

/-- Island of the memory behind a target (R24, R25): Signal SRAM I8, MRAM I19, DRAM I17. -/
def targetIsland (t : Nat) : Nat := if t = 0 then 8 else if t = 1 then 19 else 17

/-- The memory at an address cannot be reached: its island is held in reset (R29). -/
def State.memHeld (s : State) (a : Nat) : Bool := (targetOf a).any fun t => s.inReset (targetIsland t)

/-- A read of `n` bytes of memory through the gates: refused parts, and parts of a memory whose island is held in reset, give zeros
(R29, R466). -/
def State.memRead (s : State) (m ctx a n : Nat) : State × List Byte × Bool :=
  let ps := partsOf (n + 1) a n
  let shut := fun (x : Nat) => (s.gate m x ctx false).isSome || s.memHeld x
  let data := ps.flatMap fun p => if shut p.1 then List.replicate p.2 0 else s.bytes p.2 p.1
  let (s', bad) := s.checkParts m ctx false ps
  (s', data, bad || ps.any fun p => shut p.1)

/-- The pieces of a range at record boundaries: address and length. -/
def recPieces : Nat → Nat → Nat → List (Nat × Nat)
  | 0, _, _ => []
  | _, _, 0 => []
  | k + 1, a, n => let h := min n (16 - a % 16); (a, h) :: recPieces k (a + h) (n - h)

/-- Bytes written into the images by address: DIR checks each record they touch and drops what it refuses, with an error (R54, R65,
R66). -/
def State.imageWrite (s : State) (m a : Nat) (data : List Byte) : State × Bool :=
  (recPieces (data.length + 1) a data.length).foldl (fun (x : State × Bool) p =>
    let sig := (p.1 - 0x800000) / 16 % 0x40000
    match x.1.ownerCheck sig m 0 with
    | .ok => (x.1.setBytes p.1 ((data.drop (p.1 - a)).take p.2), x.2)
    | .directory => (x.1.report 0x1B sig, true)
    | .owner => (x.1.ownerFault sig m 0, true)) (s, false)

/-- A write of memory through the gates: refused parts are dropped; a write to an image record goes through DIR's owner check
(R29, R65, R66, R466). -/
def State.memWrite (s : State) (m ctx a : Nat) (data : List Byte) : State × Bool :=
  let ps := partsOf (data.length + 1) a data.length
  let (s', bad) := s.checkParts m ctx true ps
  ps.foldl (fun (x : State × Bool) p =>
    let d := (data.drop (p.1 - a)).take p.2
    if (s.gate m p.1 ctx true).isSome then x
    else if s.memHeld p.1 then (x.1, true)
    else if 0x800000 ≤ p.1 ∧ p.1 < 0x1000000 then
      let r := x.1.imageWrite m p.1 d
      (r.1, x.2 || r.2)
    else (x.1.setBytes p.1 d, x.2)) (s', bad)

/-! ### Registers (R16 to R20) -/

/-- The addresses of a register table. -/
def rowAddrs (r : RegRow) : List Nat :=
  (List.range r.slots).flatMap fun i => indexAddrs r.dims ((r.slot + i) * 0x10000 + r.off)

/-- The register table of an address of the slot region. -/
def regOf (a : Nat) : Option RegRow :=
  regTable.find? fun r =>
    decide (r.slot ≤ a / 0x10000) && decide (a / 0x10000 < r.slot + r.slots) && (rowAddrs r).contains a

/-- The configuration lock of a slot's block is closed. -/
def State.lockClosed (s : State) (slot : Nat) : Bool :=
  match slot with
  | 0x28 => s.flag R.cmpCtrlLocked
  | 0x05 => s.flag R.stnCtrlLocked
  | 0x06 => s.flag R.fabCtrlLocked
  | 0x01 => s.flag R.fcolCtrlLocked
  | 0x02 => s.flag R.acfgCtrlLocked
  | 0x0C => s.flag R.hostCtrlLocked
  | _ => false

/-- RW and RWL fields whose write does more than set the field: a plain write leaves them to the action of their register. -/
def ownRow (a lo : Nat) : Bool :=
  (a == R.dbgGate.addr && lo == 0) || (a == R.fcolTest.addr) || (a == R.rstcHold.addr) || (a == R.rstcIslrst.addr) ||
    (decide (0x30100 ≤ a) && decide (a < 0x30200)) || (decide (0x30200 ≤ a) && decide (a < 0x30280) && a % 0x20 == 0x10) || a == (R.canCtrl 0).addr || a == (R.canCtrl 1).addr

/-- Data lengths that a DLC encodes (R588). -/
def dlcOk (n : Nat) : Bool := decide (n ≤ 8) || [12, 16, 20, 24, 32, 48, 64].contains n

/-- A value of a CAN object field that R588 does not list; `w` is the word as it would stand. -/
def canUnlisted (a lo new : Nat) (w : W64) : Bool :=
  let r := a % 0x10000 - 0x1000
  if ¬ (0xD0000 ≤ a ∧ a < 0xF0000 ∧ 0x1000 ≤ a % 0x10000) then false
  else
    let fdf := w.toNat.testBit 30
    (r % 0x50 == 0 && lo == 31 && new == 1 && !fdf) || (r % 0x50 == 0 && lo == 32 && !(dlcOk new && (fdf || decide (new ≤ 8)))) ||
      (r % 0x50 == 8 && lo == 0 && new != 0 && !(decide (10 ≤ new) && decide (new ≤ 60000)))

/-- What a write makes of one field: new value, and whether it returns an error (R16, R19, R20, R270, R477, R522, R588); `w` is the word as it
would stand. -/
def State.fieldWrite (s : State) (m a : Nat) (f : FieldRow) (old new : Nat) (w : W64) : Nat × Bool :=
  match f.acc with
  | .ro => (old, false)
  | .rsv => (old, false)
  | .wo => (old, false)
  | .bin => (if m = 8 then new else old, false)
  | .rw =>
    if a = R.dbgGate.addr ∧ f.lo = 0 ∧ new = 1 ∧ old = 0 then
      if s.flag R.keysStatusOpened ∧ s.flag R.keysStatusZeroed then (1, false) else (0, true)
    else if ownRow a f.lo then (old, false)
    else if 0x30200 ≤ a ∧ a < 0x30280 ∧ s.flag (R.timeTpoCfgEn ((a - 0x30200) / 0x20)) then (old, new != old)
    else if (decide (0x70000 ≤ a) && decide (a < 0xB0000) && a % 0x10000 == 0x400 && new == 3) = true then (old, true)
    else if canUnlisted a f.lo new w then (old, true)
    else (new, false)
  | .w1c => (if f.len = 1 ∧ new = 1 then 0 else old, false)
  | .rwl =>
    if s.lockClosed (a / 0x10000) then (old, new != old)
    else if ownRow a f.lo then (old, false)
    else if a = R.fcolCfg.addr ∧ f.lo = 8 ∧ new = 0 then (old, true)
    else if 0xC0100 ≤ a ∧ a < 0xC0180 ∧ a % 16 = 0 ∧ f.lo = 0 ∧ new % 64 ≠ 0 then (old, true)
    else if a = R.cmpCtrl.addr ∧ f.lo = 0 ∧ 4 < new then (old, true)
    else (new, false)

/-- A write of a whole register word under the access types of its fields, with the error of R19. -/
def State.wordWrite (s : State) (m a : Nat) (w mask : W64) : State × Bool :=
  match regOf a with
  | none => (s, false)
  | some r =>
    let full := (w &&& mask) ||| (s.reg a &&& ~~~mask)
    r.fields.foldl (fun (x : State × Bool) f =>
      if getBits mask f.lo f.len = 0 then x
      else
        let old := getBits (x.1.reg a) f.lo f.len
        let mk := getBits mask f.lo f.len
        let new := (getBits w f.lo f.len &&& mk) ||| (old &&& (2 ^ f.len - 1 - mk))
        let (v, e) := s.fieldWrite m a f old new full
        (x.1.setReg a (putBits (x.1.reg a) f.lo f.len v), x.2 || e)) (s, false)

/-- The value a read of a register word returns: WO fields and reserved fields read 0 (R16, R20). -/
def State.wordRead (s : State) (a : Nat) : W64 :=
  match regOf a with
  | none => 0
  | some r =>
    r.fields.foldl (fun w f =>
      match f.acc with
      | .wo | .rsv => w
      | _ => putBits w f.lo f.len (getBits (s.reg a) f.lo f.len)) 0

/-- Width and alignment that R35 allows. -/
def slotForm (a n : Nat) : Bool := (n == 4 && a % 4 == 0) || (n == 8 && a % 8 == 0)

/-- A read of a slot address by a master (R16, R29, R35, R456). -/
def State.slotRead (s : State) (m a n : Nat) : State :=
  let addr := 0x1000000000 + a
  if slotAssigned (a / 0x10000) ∧ ¬ slotForm a n then s.reply true 0
  else
    match s.gate m addr 0 false with
    | some r => ((s.violLatch m addr 0 r false).violReact m addr 0 r false).reply true 0
    | none =>
      if s.inReset (slotIsland (a / 0x10000)) then s.reply true 0
      else
        let w := s.wordRead (a / 8 * 8)
        s.reply false (if n = 8 then w else BitVec.ofNat 64 (getBits w (a % 8 * 8) 32))

/-- A write of a slot address by a master (R16, R19, R29, R35, R456); the debug gate opened by it raises DEBUG_OPENED (R477). After the fields, `act`
does what the register's WO fields and the like describe: register, bits written, the word they make with what stood there. -/
def State.slotWriteBy (act : Nat → W64 → W64 → State → State × Bool) (s : State) (m a n : Nat) (v : W64) : State :=
  let addr := 0x1000000000 + a
  if slotAssigned (a / 0x10000) ∧ ¬ slotForm a n then s.reply true 0
  else
    match s.gate m addr 0 true with
    | some r => ((s.violLatch m addr 0 r true).violReact m addr 0 r true).reply true 0
    | none =>
      if s.inReset (slotIsland (a / 0x10000)) then s.reply true 0
      else
        let lo := a % 8 * 8
        let mask : W64 := if n = 8 then 0xFFFFFFFFFFFFFFFF else BitVec.ofNat 64 ((2 ^ 32 - 1) * 2 ^ lo)
        let w : W64 := if n = 8 then v else BitVec.ofNat 64 (v.toNat % 2 ^ 32 * 2 ^ lo)
        let was := s.flag R.dbgGateOpen
        let full := (w &&& mask) ||| (s.reg (a / 8 * 8) &&& ~~~mask)
        let (s, e) := s.wordWrite m (a / 8 * 8) w mask
        let s := if s.flag R.dbgGateOpen && !was then s.raise evDebugOpened [] else s
        let (s, e') := if (regOf (a / 8 * 8)).isSome then act (a / 8 * 8) (w &&& mask) full (s.reply false 0) else (s.reply false 0, false)
        s.reply (e || e' || s.bus.err) 0

/-- The access of a command that writes one field with an action reaches its register: gate and island (R29, R456). Otherwise the access
ends with an error and the action is not performed. -/
def State.reach (s : State) (m : Nat) (f : Fld) (act : State → State) : State :=
  let addr := 0x1000000000 + f.addr
  match s.gate m addr 0 true with
  | some r => ((s.violLatch m addr 0 r true).violReact m addr 0 r true).reply true 0
  | none => if s.inReset (slotIsland (f.addr / 0x10000)) then s.reply true 0 else (act s).reply false 0

/-! ### ACFG -/

/-- ACFG_LOCK (R481). -/
def execAcfgLock (m : Fin 16) (s : State) : Host.Outcome State Fault Refusal :=
  .next (s.reach m.val R.acfgCtrlLock fun s => s.setFlag R.acfgCtrlLocked true)

/-- The first window, or pair, that a load refuses (R462). -/
def State.loadFault (s : State) : Option (Nat × Nat) :=
  let en := (List.range 64).filter fun w => s.flag (R.acfgWinEn w)
  let single := en.find? fun w => decide (s.fld (R.acfgWinLimit w) < s.fld (R.acfgWinBase w)) || s.fld (R.acfgWinColour w) == 15
  let pair := (en.flatMap fun v => (en.filter fun w => decide (v < w)).map fun w => (v, w)).find? fun p =>
    decide (s.fld (R.acfgWinBase p.1) ≤ s.fld (R.acfgWinLimit p.2)) && decide (s.fld (R.acfgWinBase p.2) ≤ s.fld (R.acfgWinLimit p.1))
  match single, pair with
  | some w, some p => some (if w ≤ p.1 then (w, w) else p)
  | some w, none => some (w, w)
  | none, some p => some p
  | none, none => none

/-- A load of ACFG (R462, R481). -/
def State.acfgLoad (s : State) : State :=
  match s.loadFault with
  | some (a, b) =>
    ((((s.setFlag R.acfgCtrlLoaderr true).setFld R.acfgCtrlErrA a).setFld R.acfgCtrlErrB b).setFlag R.acfgCtrlLoaded false)
  | none =>
    let s := (s.setFlag R.acfgCtrlLoaded true).setFlag R.acfgCtrlLoaderr false
    { s with acc := { s.acc with force := s.regs.filter fun e => decide (0x20100 ≤ e.1) && decide (e.1 < 0x21800) } }

/-- ACFG_LOAD (R462, R481). -/
def execAcfgLoad (m : Fin 16) (s : State) : Host.Outcome State Fault Refusal :=
  if s.flag R.acfgCtrlLocked then .next ((s.reach m.val R.acfgCtrlLoad id).reply true 0)
  else
    .next (s.reach m.val R.acfgCtrlLoad fun s => s.acfgLoad)

/-- A W1C latch cleared by a write, the occurrence of the same clock latched after it (R18). -/
def State.clearThen (s : State) (fs : List Fld) (occ : Option (State → State)) : State :=
  let s := fs.foldl (fun s f => s.setFld f 0) s
  match occ with
  | some f => f s
  | none => s

/-- ACFG_VIOL_CLEAR (R469): `occ` is a violation of the same clock: master, address, context colour, reason, write. -/
def execAcfgViolClear (m : Fin 16) (occ : Option (Fin 16 × Nat × Nat × Nat × Bool)) (s : State) : Host.Outcome State Fault Refusal :=
  .next (s.reach m.val R.acfgViolValid fun s =>
    s.clearThen [R.acfgViolValid, R.acfgViolInfoCount] (occ.map fun o s =>
      (s.violLatch o.1.val o.2.1 o.2.2.1 o.2.2.2.1 o.2.2.2.2).violReact o.1.val o.2.1 o.2.2.1 o.2.2.2.1 o.2.2.2.2))

/-- GO of ACFG_TAGW: COLOUR to GRAIN, or an error (R452, R481). -/
def State.tagGo (s : State) : State × Bool :=
  let g := s.fld R.acfgTagwGrain
  let c := s.fld R.acfgTagwColour
  if c = 15 ∨ 0xBFFFF < g then (s, true) else ({ s with acc := { s.acc with tags := mput none s.acc.tags g (some c) } }, false)

/-- ACFG_TAG_WRITE (R452, R481): master 8 alone is granted the slot's writes. -/
def execAcfgTagWrite (m : Fin 16) (grain : BitVec 20) (colour : BitVec 4) (s : State) : Host.Outcome State Fault Refusal :=
  let go := s.reach m.val R.acfgTagwGo fun s =>
    ((s.setFld R.acfgTagwGrain grain.toNat).setFld R.acfgTagwColour colour.toNat).tagGo.1
  .next (if (colour = 15 ∨ 0xBFFFF < grain.toNat) ∧ go.bus.err = false then go.reply true 0 else go)

/-- ACFG_WINDOW_CHECK (R463): the pair checked now overlaps in the windows in force, or a table word fails its parity. -/
def execAcfgWindowCheck (v w : Fin 64) (parity : Option Nat) (s : State) : Host.Outcome State Fault Refusal :=
  let x := mget 0 s.acc.force (R.acfgWin v.val).addr
  let y := mget 0 s.acc.force (R.acfgWin w.val).addr
  let laps := v.val < w.val ∧ getBits x 63 1 = 1 ∧ getBits y 63 1 = 1 ∧ getBits x 0 27 ≤ getBits y 32 27 ∧ getBits y 0 27 ≤ getBits x 32 27
  match parity with
  | some i => .next ((s.setFlag R.acfgCtrlOverlap true).report 0x21 i)
  | none => if laps then .next ((s.setFlag R.acfgCtrlOverlap true).report 0x21 v.val) else .next s

end Sys2Proof.Machine
end

