-- ==== Sys2Proof/Machine/Cmp.lean ====
section
/-! DEFINITION. The comparator registers, debug inspection of a lane, lane sparing (R251 to R273). -/

namespace Sys2Proof.Machine

/-! ### CMP -/

/-- CMP_LOCK (R270). -/
def execCmpLock (m : Fin 16) (s : State) : Host.Outcome State Fault Refusal :=
  .next (s.reach m.val R.cmpCtrlLock fun s => s.setFlag R.cmpCtrlLocked true)

/-- The step of the comparator test in progress on a lane (R252). -/
def State.setStep (s : State) (l n : Nat) : State := s.modLane l fun ln => { ln with testStep := n }

/-- While TEST is 1, CMP_INJ as written arms one injection for each lane selected (R252). -/
def State.injArm (s : State) : State :=
  if ¬ s.flag R.cmpCtrlTest then s
  else
    (List.range 8).foldl (fun s l =>
      if s.bit R.cmpInjLanes l then
        if s.flag R.cmpInjDelay then (s.setStep l (385 + s.fld R.cmpInjStage)).testOutcome l (385 + s.fld R.cmpInjStage) true
        else if s.fld R.cmpInjTarget = 0 then s
        else
          let i : Inj := ⟨s.fld R.cmpInjTarget, s.flag R.cmpInjPol, s.fld R.cmpInjBit, 0⟩
          (s.setStep l (injStep (some i))).setInj l (some i)
      else s) s

/-- CMP_INJ_ARM (R252, R270): a write of CMP_INJ; while TEST is 1 it arms one injection for each lane selected. -/
def execCmpInjArm (m : Fin 16) (w : W64) (s : State) : Host.Outcome State Fault Refusal :=
  .next (s.slotWriteBy (fun _ _ _ s => (s.injArm, false)) m.val R.cmpInj.addr 8 w)

/-- CMP_FAULT_CLEAR (R271): `occ` is a lane fault of the same clock: lane and KIND. -/
def execCmpFaultClear (m : Fin 16) (occ : Option (Fin 8 × Fin 5)) (s : State) : Host.Outcome State Fault Refusal :=
  .next (s.reach m.val R.cmpFaultValid fun s =>
    s.clearThen [R.cmpFaultValid, R.cmpFaultCount] (occ.map fun o s => s.laneFault o.1.val o.2.val))

/-- LANE_OOF_CLEAR (R173): `occ` is an access outside the frame in the same clock, by the instance named. -/
def execLaneOofClear (m : Fin 16) (l : Fin 8) (occ : Option (BitVec 32)) (s : State) : Host.Outcome State Fault Refusal :=
  .next (s.reach m.val (R.laneOofValid l.val) fun s =>
    s.clearThen [R.laneOofValid l.val, R.laneOofCount l.val] (occ.map fun i s => s.oofLatch l.val i.toNat))

/-! ### Debug inspection (R258 to R262, R272, R273, R474) -/

/-- An access of master 14 to a lane's debug registers takes effect: the gate is open with LANES in its SCOPE, and the target gate
grants it (R272, R474). -/
def State.laneDebug (s : State) (l : Nat) (act : State → State) : State :=
  if s.flag R.dbgGateOpen ∧ s.bit R.dbgGateScope 0 then
    let s' := s.reach 14 (R.laneDbgctl l) id
    if s'.bus.err then s' else act s'
  else s

/-- A debugger action on the main engine, queued for the checker; refused with an error where the queue holds 64 entries (R259,
R260). -/
def State.dbgDo (s : State) (l : Nat) (a : DbgAct) : State :=
  if 64 ≤ (s.lane l).dbgQ.length then s.reply true 0
  else
    let s := s.modLane l fun ln => { ln with main := a.perform ln.main, dbgQ := ln.dbgQ ++ [⟨a, ln.main.issued⟩] }
    let s := s.setFlag (R.laneDbgstatHalted l) (s.lane l).main.halted
    s.dbgStat l

/-- HALT (R259). -/
def State.dbgHalt (s : State) (l : Nat) : State := if (s.lane l).main.halted then s else s.dbgDo l .halt

/-- STEP (R249, R259, R273): the instruction at the boundary is issued, unless a fault has stopped the lane or it waits for the store queue. -/
def State.dbgStep (s : State) (l : Nat) (w : BitVec 32) : State :=
  if ¬ (s.lane l).main.halted ∨ 64 ≤ (s.lane l).dbgQ.length then s.reply true 0
  else if (s.lane l).stopped ∨ s.laneDue l w = false then s
  else (s.dbgDo l .step).issueNow l w

/-- RESUME (R259, R273). -/
def State.dbgResume (s : State) (l : Nat) : State := if ¬ (s.lane l).main.halted then s.reply true 0 else s.dbgDo l .resume

/-- LANE_DEBUG_HALT (R259). -/
def execLaneDebugHalt (l : Fin 8) (s : State) : Host.Outcome State Fault Refusal := .next (s.laneDebug l.val fun s => s.dbgHalt l.val)

/-- LANE_DEBUG_STEP (R259, R273). -/
def execLaneDebugStep (l : Fin 8) (w : BitVec 32) (s : State) : Host.Outcome State Fault Refusal :=
  .next (s.laneDebug l.val fun s => s.dbgStep l.val w)

/-- LANE_DEBUG_RESUME (R259, R273). -/
def execLaneDebugResume (l : Fin 8) (s : State) : Host.Outcome State Fault Refusal := .next (s.laneDebug l.val fun s => s.dbgResume l.val)

/-- The DEBUG record of a debugger write (R262). -/
def State.dbgLog (s : State) (l space idx : Nat) (v : W64) : State :=
  let sc := (s.lane l).scan
  let c := (sc.map (·.cls)).getD 0
  let w := (sc.map (·.pos)).getD 0 + (sc.map (·.pc)).getD 0 * 2 ^ 32 + (sc.map (·.bank)).getD 0 * 2 ^ 48 + space * 2 ^ 56
  s.logRec 8 0 c (s.cls c).cycWake [w, idx, v.toNat]

/-- LANEn_DBGACC set for an access. -/
def State.dbgAcc (s : State) (l index space word : Nat) : State :=
  ((s.setFld (R.laneDbgaccIndex l) index).setFld (R.laneDbgaccSpace l) space).setFld (R.laneDbgaccWord l) word

/-- WRITE (R259, R272, R273): LANEn_DBGDATA into the location that LANEn_DBGACC selects. -/
def State.dbgWrite (s : State) (l : Nat) : State :=
  let index := s.fld (R.laneDbgaccIndex l)
  let space := s.fld (R.laneDbgaccSpace l)
  let word := s.fld (R.laneDbgaccWord l)
  let v := s.reg (R.laneDbgdata l).addr
  if ¬ (s.lane l).main.halted ∨ space = 3 ∨ (space = 2 ∧ 7168 ≤ word) ∨ 64 ≤ (s.lane l).dbgQ.length then s.reply true 0
  else
    let s := s.dbgLog l space (if space = 2 then word else index) v
    match space with
    | 0 => s.dbgDo l (.setX index v)
    | 1 => s.dbgDo l (.setP (index % 8) (v.getLsbD 0))
    | _ =>
      let s := s.modLane l fun ln =>
        match ln.scan with
        | some sc =>
          if mget 0 ln.tags (word / 8) = 0 then ln else { ln with dirty := mput 0 ln.dirty (word / 8) (sc.cls + 1) }
        | none => ln
      s.dbgDo l (.setWord word v)

/-- READ (R260, R272, R273). -/
def State.dbgRead (s : State) (l : Nat) : State :=
  let index := s.fld (R.laneDbgaccIndex l)
  let space := s.fld (R.laneDbgaccSpace l)
  let word := s.fld (R.laneDbgaccWord l)
  let e := (s.lane l).main
  if ¬ e.halted ∨ space = 3 ∨ (space = 2 ∧ 7168 ≤ word) then s.reply true 0
  else
    let v : W64 := match space with
      | 0 => e.xr index
      | 1 => if e.pr (index % 8) then 1 else 0
      | _ => mget 0 e.fc word
    s.setReg (R.laneDbgdata l).addr v

/-- LANE_DEBUG_WRITE (R259, R272, R273). -/
def execLaneDebugWrite (l : Fin 8) (index : BitVec 6) (space : BitVec 2) (word : BitVec 13) (s : State) :
    Host.Outcome State Fault Refusal :=
  .next (s.laneDebug l.val fun s => (s.dbgAcc l.val index.toNat space.toNat word.toNat).dbgWrite l.val)

/-- LANE_DEBUG_READ (R260, R272, R273). -/
def execLaneDebugRead (l : Fin 8) (index : BitVec 6) (space : BitVec 2) (word : BitVec 13) (s : State) :
    Host.Outcome State Fault Refusal :=
  .next (s.laneDebug l.val fun s => (s.dbgAcc l.val index.toNat space.toNat word.toNat).dbgRead l.val)

/-- BREAKPOINT_HIT (R259, R272): the next instruction is the one at the breakpoint. -/
def execBreakpointHit (l : Fin 8) (s : State) : Host.Outcome State Fault Refusal :=
  match (s.lane l.val).scan with
  | some sc =>
    if s.flag (R.laneDbgctlBreakEn l.val) ∧ sc.pc = s.fld (R.laneDbgctlBreakAddr l.val) ∧
        sc.bank = s.fld (R.laneDbgctlBreakBank l.val) ∧ (s.lane l.val).main.halted = false ∧ (s.lane l.val).dbgQ.length < 64 then
      .next (s.dbgDo l.val .halt)
    else .next s
  | none => .next s

/-- The entries of a lane's debug replay queue whose retire point the checker has reached are performed. -/
def State.dbgDrain (s : State) (l : Nat) : State :=
  let ln := s.lane l
  let (q, c) := drainDbg ln.dbgQ ln.chk
  (s.modLane l fun ln => { ln with dbgQ := q, chk := c }).dbgStat l

/-- The debug gate closes once it is to close and every replay queue is empty (R478). -/
def State.gateShut (s : State) : State :=
  if s.acc.closing ∧ (List.range 8).all (fun l => (s.lane l).dbgQ.isEmpty) then
    let s := (s.setFlag R.dbgGateOpen false).setFld R.dbgGateScope 0
    { s with acc := { s.acc with closing := false } }
  else s

/-- The debug gate told to close: every halted lane resumed (R478). -/
def State.gateClose (s : State) : State :=
  if ¬ s.flag R.dbgGateOpen then s
  else
    let s := (List.range 8).foldl (fun s l =>
      let s := s.dbgDrain l
      let s := if (s.lane l).main.halted then s.dbgDo l .resume else s
      s.dbgDrain l) s
    ({ s with acc := { s.acc with closing := true } }).gateShut

/-- DEBUG_QUEUE_PERFORM (R259, R478): the checker performs the entries whose retire point it has reached. -/
def execDebugQueuePerform (l : Fin 8) (s : State) : Host.Outcome State Fault Refusal := .next (s.dbgDrain l.val).gateShut

/-! ### Sparing (R263 to R268) -/

/-- The classes with a cycle in flight on a lane: started, part not complete. -/
def State.flightOn (s : State) (k : Nat) : List Nat :=
  (List.range 8).filter fun c => (s.cls c).inFlight && (s.cls c).parts.testBit k

/-- The code that the spare takes over, from the Book images: every bank of lane k that a class selects, and the armed bank of a pending Turn
(R266 step 5). -/
def State.spareCode (s : State) (k sp : Nat) : State :=
  let armed := s.freeBank k
  let turn := if s.book.turn.any (·.armedOwn) then s.turnBook else none
  let s := (List.range 8).foldl (fun s c =>
    if s.used c ∧ (s.classLanes c).contains k then
      (s.clsBook c).elim s fun b => s.loadCode sp (s.bit (R.laneBankBank k) c).toNat (laneCode b k)
    else s) s
  turn.elim s fun b => if (List.range 8).any fun c => s.used c && !s.turned c then s.loadCode sp armed (laneCode b k) else s

/-- Lane sparing for a failed lane k (R266 to R268). -/
def State.spareFor (s : State) (k sp : Nat) : State :=
  let cs := s.flightOn k
  let s := s.setBit R.cmpStatusFailed k true
  let s := s.modLane k fun ln =>
    { ln with tags := [], dirty := [], used := [], recs := [], storeQ := [], chkQ := [], scan := none, next := [], ready := 0 }
  let s := s.laneStatus k none 0
  let s := match s.undoBase k with
    | none => s
    | some base =>
      (List.range (s.undoLen k)).foldl (fun s i =>
        let w := s.readN 4 (undoIdx base i)
        if w / 2 ^ 31 = 1 ∧ cs.contains (w / 2 ^ 19 % 8) then
          (s.setWords (frameAddr (w % 2 ^ 19)) (s.grain (undoData base (s.undoLen k) i))).writeN 4 (undoIdx base i) (w - 2 ^ 31)
        else s) s
  let s := cs.foldl (fun s c =>
    (s.classSigs c 0).foldl (fun s sig =>
      if (s.dirEntry sig).owner = k then
        let f := s.front c 0
        let r := s.behindForce sig
        s.setRec (recAddr (!f) sig) { r with flags := r.flags - (if r.flags.testBit 2 then 4 else 0) }
      else s) s) s
  let s := s.spareCode k sp
  let s := (List.range 8).foldl (fun s c =>
    (s.setFld (R.laneListBase sp c) (s.fld (R.laneListBase k c))).setFld (R.laneListCount sp c) (s.fld (R.laneListCount k c))) s
  let s := s.setFld (R.laneBankBank sp) (s.fld (R.laneBankBank k))
  let s := cs.foldl (fun s c =>
    let s := s.modCls c fun q => { q with parts := q.parts - 2 ^ k + 2 ^ sp }
    if (s.cls c).crossDone then s.modLane sp fun ln => { ln with ready := ln.ready + 2 ^ c, next := mdel ln.next c } else s) s
  let s := s.laneStatus sp none 0
  let s := ((s.setFld R.cmpStatusSpared k).setFlag R.cmpStatusSparing true).setFlag R.cmpStatusDegraded true
  s.raise evLaneFailed (leBytes 1 k ++ leBytes 1 sp ++ leBytes 1 (cs.foldl (fun w c => w + 2 ^ c) 0))

/-- SPARE_SELF_TEST (R257): a run of the self-test block on the idle spare; a fault of a KIND removes it from use. -/
def execSpareSelfTest (kind : Option (Fin 5)) (s : State) : Host.Outcome State Fault Refusal :=
  match s.spareLane, kind with
  | some l, some k =>
    let s := s.laneFault l k.val
    let s := (s.setBit R.cmpStatusFailed l true).setFlag R.cmpStatusDegraded true
    .next (s.raise evLaneFailed (leBytes 1 l ++ leBytes 1 l ++ leBytes 1 0))
  | _, _ => .next s

end Sys2Proof.Machine
end

