-- ==== Sys2Proof/Machine/Clears.lean ====
section
/-! DEFINITION. Clears and locks of DIR, BOOK, PAIR, STN and FAB: the write of one field with an action, and the occurrence of the same clock
that the manual says is counted after it (R18, R84, R122, R320, R321, R354, R355, R392, R393). -/

namespace Sys2Proof.Machine

/-- DIR_OWNFLT_CLEAR (R84): `occ` is an owner fault of the same clock: signal, master, class. -/
def execDirOwnfltClear (m : Fin 16) (occ : Option (BitVec 18 × Fin 16 × Fin 8)) (s : State) : Host.Outcome State Fault Refusal :=
  .next (s.reach m.val R.dirOwnfltValid fun s =>
    s.clearThen [R.dirOwnfltValid, R.dirOwnfltCount] (occ.map fun o s => s.ownerFault o.1.toNat o.2.1.val o.2.2.val))

/-- BOOK_STATS_CLEAR (R122): `occ` is a latch of the class in the same clock: its skip, held and stopped flags. -/
def execBookStatsClear (m : Fin 16) (c : Fin 8) (occ : Option (Bool × Bool × Bool)) (s : State) : Host.Outcome State Fault Refusal :=
  .next (s.reach m.val (R.bookTcCountClear c.val) fun s =>
    let s := s.setFld (R.bookTcMaxMinSlack c.val) 0xFFFFFFFF
    s.clearThen [R.bookTcCountOverruns c.val, R.bookTcCountSkips c.val, R.bookTcMaxMaxRun c.val]
      (occ.map fun o s => s.latchStats c.val o.1 o.2.1 o.2.2))

/-- PAIR_FENCE_MISMATCH_CLEAR (R321). -/
def execPairFenceMismatchClear (m : Fin 16) (occ : SameClock) (s : State) : Host.Outcome State Fault Refusal :=
  .next (s.reach m.val R.pairFenceMismatch fun s => s.setFlag R.pairFenceMismatch occ)

/-- PAIR_LINK_CNT_CLEAR (R320). -/
def execPairLinkCntClear (m : Fin 16) (s : State) : Host.Outcome State Fault Refusal :=
  .next (s.reach m.val R.pairLinkClear fun s => s.clearThen [R.pairLinkRetry, R.pairLinkLosses] none)

/-- PAIR_TAKE_CLEAR (R320, R321): `occ` is a change of active module in the same clock: Watch number, CAUSE, ROLE. -/
def execPairTakeClear (m : Fin 16) (occ : Option (BitVec 32 × BitVec 4 × Bool)) (s : State) : Host.Outcome State Fault Refusal :=
  .next (s.reach m.val R.pairTakeValid fun s =>
    s.clearThen [R.pairTakeValid] (occ.map fun o s => s.latchTake o.1.toNat o.2.1.toNat o.2.2))

/-- STN_LOCK (R354). -/
def execStnLock (m : Fin 16) (s : State) : Host.Outcome State Fault Refusal :=
  .next (s.reach m.val R.stnCtrlLock fun s => s.setFlag R.stnCtrlLocked true)

/-- A counter of STN_RINGr_CNT by number: CRCERR, LATE, FOREIGN, SKEW. -/
def ringCounter (r k : Nat) : Fld :=
  match k with
  | 0 => R.stnRingCntCrcerr r
  | 1 => R.stnRingCntLate r
  | 2 => R.stnRingCntForeign r
  | _ => R.stnRingCntSkew r

/-- STN_RING_CNT_CLEAR (R355): `occ` is the counter that counts in the same clock. -/
def execStnRingCntClear (m : Fin 16) (r : Fin 2) (occ : Option (Fin 4)) (s : State) : Host.Outcome State Fault Refusal :=
  .next (s.reach m.val (R.stnRingCntClear r.val) fun s =>
    s.clearThen ((List.range 4).map (ringCounter r.val)) (occ.map fun k s => s.incSat (ringCounter r.val k.val)))

/-- STN_STATION_CNT_CLEAR (R355): `occ` counts UNDELIVERED (true) or LOSSES in the same clock. -/
def execStnStationCntClear (m : Fin 16) (st : Fin 256) (occ : Option Bool) (s : State) : Host.Outcome State Fault Refusal :=
  .next (s.reach m.val (R.stnSt1Clear st.val) fun s =>
    s.clearThen [R.stnStUndelivered st.val, R.stnSt1Losses st.val]
      (occ.map fun b s => s.incSat (if b then R.stnStUndelivered st.val else R.stnSt1Losses st.val)))

/-- FAB_LOCK (R392). -/
def execFabLock (m : Fin 16) (s : State) : Host.Outcome State Fault Refusal :=
  .next (s.reach m.val R.fabCtrlLock fun s => s.setFlag R.fabCtrlLocked true)

/-- A counter of FAB_PORTp_CNT by number: CRCERR, HOPS, DROPPED, UNREACH. -/
def portCounter (p k : Nat) : Fld :=
  match k with
  | 0 => R.fabPortCntCrcerr p
  | 1 => R.fabPortCntHops p
  | 2 => R.fabPortCntDropped p
  | _ => R.fabPortCntUnreach p

/-- FAB_PORT_CNT_CLEAR (R393): port P2 or P3; `occ` is the counter that counts in the same clock. -/
def execFabPortCntClear (m : Fin 16) (p : Fin 2) (occ : Option (Fin 4)) (s : State) : Host.Outcome State Fault Refusal :=
  .next (s.reach m.val (R.fabPortCntClear (p.val + 2)) fun s =>
    s.clearThen ((List.range 4).map (portCounter (p.val + 2))) (occ.map fun k s => s.incSat (portCounter (p.val + 2) k.val)))

end Sys2Proof.Machine
end

