-- ==== Sys2Proof/Machine/Verify.lean ====
section
/-! DEFINITION. Verification of a Book (R200 to R209) with the verify rules of the other chapters, and the execution bounds of R166 to
R168, R294 and R342. Where the manual gives no order among the rules of one result, they are tried in the order of this file
(DEDUCED, assumption 14). -/

namespace Sys2Proof.Machine

/-- What a verification ends with (R207): result code, REASON, KIND, IDENT. -/
structure Verdict where
  code : Nat
  reason : Nat
  kind : Nat
  ident : Nat
  deriving DecidableEq, Repr

/-- The detail word (R207). -/
def Verdict.detail (v : Verdict) : W64 :=
  BitVec.ofNat 64 (v.ident % 2 ^ 32 + v.kind % 256 * 2 ^ 32 + v.reason % 256 * 2 ^ 40)

/-- STRUCTURE naming an item (R207). -/
def badStructure (kind ident : Nat) : Verdict := ⟨0x16, 0, kind, ident⟩

/-- CAPACITY naming a row of R40. -/
def badCapacity (row : Nat) : Verdict := ⟨0x17, 0, 11, row⟩

/-- TIMING naming an item. -/
def badTiming (kind ident : Nat) : Verdict := ⟨0x18, 0, kind, ident⟩

/-- The first refusal found. -/
def firstBad (l : List (Option Verdict)) : Option Verdict := l.findSome? id

/-- A refusal naming the first element that a test marks. -/
def badAt {α : Type} (l : List α) (bad : α → Bool) (v : α → Verdict) : Option Verdict := (l.find? bad).map v

/-! ### Code (R144 to R155) -/

/-- The bits of the low 20 that an instruction uses: D, A, B, target and predicate fields (R144, R147 to R154); `none`: not
assigned. Of the A and B fields of PAND, POR, PNOT and PMOV only bits [2:0] name a predicate (R146). Bits [5:3] there the manual
calls neither reserved nor unused: they count as unused, so that a nonzero one is refused (DESIGN CHOICE, assumption 53). -/
def opUses (op : Nat) : Option Nat :=
  let d := 0xFC000; let a := 0x3F00; let b := 0xFC; let t := 0x1C000
  if op = 0x00 ∨ op = 0x01 then some 0
  else if op = 0x02 then some (d + a)
  else if 0x03 ≤ op ∧ op ≤ 0x05 then some (d + 0x3FFF)
  else if 0x10 ≤ op ∧ op ≤ 0x1C then some (if op = 0x15 ∨ op = 0x16 ∨ op = 0x19 then d + a else d + a + b)
  else if 0x20 ≤ op ∧ op ≤ 0x2B then some (if op = 0x23 ∨ 0x28 ≤ op then d + a else d + a + b)
  else if 0x30 ≤ op ∧ op ≤ 0x37 then some (t + a + b)
  else if op = 0x38 then some (t + a)
  else if op = 0x39 ∨ op = 0x3A then some (t + 0x700 + 0x1C)
  else if op = 0x3B then some (t + 0x700)
  else if op = 0x3C then some (d + 0x700)
  else if 0x40 ≤ op ∧ op ≤ 0x4E then
    some (if op = 0x44 ∨ op = 0x48 ∨ op = 0x49 ∨ 0x4B ≤ op then d + a else d + a + b)
  else if 0x50 ≤ op ∧ op ≤ 0x57 then some (if op = 0x57 then d + a + b else d + a)
  else if op = 0x60 ∨ op = 0x61 then some (d + 0xFFF)
  else if op = 0x62 ∨ op = 0x63 then some (d + a + b)
  else if op = 0x70 ∨ op = 0x71 then some (d + 0xFF)
  else if op = 0x72 ∨ op = 0x73 then some (d + a + 0xFF)
  else if op = 0x74 then some (t + 0xFF)
  else none

/-- An instruction word keeps R146: assigned opcode, nothing in reserved or unused fields, END unconditional. -/
def wordOk (w : Nat) : Bool :=
  match opUses (w / 2 ^ 24) with
  | none => false
  | some m => (w % 2 ^ 20) &&& m == w % 2 ^ 20 && (w / 2 ^ 24 != 1 || w / 2 ^ 20 % 16 == 0)

/-- The instruction words of the type at an entry word, END included (R126). -/
def codeWords (b : Book) (lane code : Nat) : List Nat :=
  (List.range (codeLen b lane code (65536 - code))).map fun i => bookCode b lane (code + i)

/-- NCONN of an instance (R138, R175). -/
def instConns (b : Book) (r : InstRow) (e : ListEntry) : Nat :=
  if r.typ < 184 then libConns r.typ else bookDesc b r.lane e.code % 2 ^ 9

/-- Connection word j of an instance (R134). -/
def instConn (b : Book) (r : InstRow) (j : Nat) : W64 := bookWord b r.frame (1 + j)

/-- The connections that a type declares as outputs: for a standard type the last of its layout, for a custom type those its code
stores to (R137; DESIGN CHOICE, assumption 15). -/
def typeOuts (b : Book) (r : InstRow) (e : ListEntry) : List Nat :=
  if r.typ < 184 then
    let l := libLayout r.typ
    (List.range l.outs).map fun j => 1 + l.ins.length + j
  else ((codeWords b r.lane e.code).filterMap fun w =>
    if w / 2 ^ 24 = 0x72 ∨ w / 2 ^ 24 = 0x73 then some (w % 256) else none).eraseDups

/-- The list entries of an instance's frame: one scan each (R130). -/
def bookEntries (b : Book) (r : InstRow) : List ListEntry :=
  (b.lists.filter fun x => x.lane == r.lane && x.cls == r.cls).flatMap fun x => x.entries.filter fun e => e.frame == r.frame

/-- The code of an instance's type keeps R146, R147, R153 to R155 on its frame: the refusal, if any. -/
def checkCode (b : Book) (r : InstRow) (e : ListEntry) : Option Verdict :=
  let ws := codeWords b r.lane e.code
  let nconn := instConns b r e
  let nconst := bookDesc b r.lane e.code / 2 ^ 36 % 2 ^ 12
  let desc := bookDesc b r.lane e.code
  let op := fun (w : Nat) => w / 2 ^ 24
  if ws.getLast?.map op ≠ some 1 ∨ !ws.all wordOk ∨ desc / 2 ^ 9 % 2 ^ 7 ≠ 0 ∨ desc / 2 ^ 48 ≠ 0 ∨ 256 < desc % 2 ^ 9 ∨
      e.code < 2 * (nconst + 1) then
    some (badStructure 15 r.typ)
  else if ws.any fun w => (op w == 0x04 && decide (nconst ≤ w % 2 ^ 14)) || (op w == 0x05 && decide (7 < w % 2 ^ 14)) ||
      (decide (0x70 ≤ op w) && decide (op w ≤ 0x74) && decide (nconn ≤ w % 256)) then
    some (badStructure 15 r.typ)
  else if ws.any fun w => ((op w == 0x60 || op w == 0x61) && decide (r.grains * 8 ≤ w % 2 ^ 12)) ||
      (op w == 0x61 && decide (w % 2 ^ 12 ≤ nconn)) then
    some (badStructure 2 r.inst)
  else none

/-! ### Parameter ranges (R177, R178, R187 to R199) -/

/-- REAL64 comparisons used by the ranges. -/
def realGe0 (w : W64) : Bool := opFLe 0 w

/-- A REAL64 lies between two others, ends included. -/
def realIn (lo hi w : W64) : Bool := opFLe lo w && opFLe w hi

/-- Whether parameter k of a standard type lies in its range, given all parameters. R195 gives DLY no range: a negative DLY of an
alarm is refused as no time (DESIGN CHOICE, assumption 53). -/
def paramOk (typ : Nat) (ps : List W64) (k : Nat) : Bool :=
  let p := fun i => ps.getD i 0
  let v := p k
  let intIn := fun (lo hi : Int) => decide (lo ≤ v.toInt) && decide (v.toInt ≤ hi)
  let bit := intIn 0 1
  let time := intIn 0 (2 ^ 63 - 1)
  let e4 : W64 := 0x40C3880000000000
  let e5 : W64 := 0x40F86A0000000000
  let em3 : W64 := 0x3F50624DD2F1A9FC
  let e12 : W64 := 0x426D1A94A2000000
  let kp := realIn 0 e4 v
  let ti := v == 0 || v == 0x8000000000000000 || realIn em3 e5 v
  let pidTail := fun (o : Nat) =>
    if k = o then realIn 0 e4 v
    else if k = o + 1 then realIn 0 fOne v
    else if k = o + 2 ∨ k = o + 3 then
      opFLt (p (o + 2)) (p (o + 3)) && realIn (opFNeg e12) e12 v
    else if k = o + 4 then bit
    else if k = o + 5 then realIn (p (o + 2)) (p (o + 3)) v
    else if k = o + 6 ∧ typ = 136 then realIn fOne e4 v
    else true
  match typ with
  | 106 => intIn 0 63
  | 120 => realGe0 v
  | 121 => realGe0 v
  | 122 => intIn 0 64
  | 123 => opFLt 0 v
  | 124 => realGe0 v
  | 126 => if k = 1 ∨ k = 2 then opFLt (p 1) (p 2) else true
  | 127 => intIn 1 64
  | 128 => realGe0 v
  | 129 => opFLt (p 0) (p 1)
  | 130 =>
    let n := (p 0).toNat
    if k = 0 then intIn 2 16
    else if k ≤ 16 then (List.range 15).all fun i => decide (n ≤ i + 1) || opFLt (p (1 + i)) (p (2 + i))
    else true
  | 131 => opFLt 0 v && opFLt v real100
  | 132 | 133 | 135 | 136 =>
    if k = 0 then bit else if k = 1 then kp else if k = 2 then ti else if k = 3 then realIn 0 e4 v else pidTail 4
  | 134 =>
    if k = 0 then bit else if k ≤ 4 then kp else if k ≤ 8 then ti else if k ≤ 12 then realIn 0 e4 v else pidTail 13
  | 137 => if k = 0 then realGe0 v else bit
  | 141 => intIn 0 2
  | 142 | 143 | 144 | 145 | 153 => time
  | 146 => decide (0 < v.toInt)
  | 154 | 155 | 156 | 157 | 158 | 159 | 160 | 161 =>
    if k = 0 then realGe0 v else if k = 1 then time else if k = 2 then bit else if typ = 159 then bit else true
  | 167 => intIn 1 (2 ^ 31)
  | 174 => bit
  | _ => true

/-- Type of an output of a standard type: the signal types that it accepts (R177, R184 to R199). -/
def outKind (typ j : Nat) : InKind :=
  if typ < 36 then .real
  else if typ < 66 then .int
  else if typ < 75 then
    (if typ = 66 ∨ typ = 71 then .real else if typ = 69 then .bool else if typ = 74 then .word else .int)
  else if typ < 97 then .bool
  else if typ < 106 then (if typ = 104 then .any else .word)
  else if typ < 109 then .bool
  else if typ < 116 then (if typ = 110 ∨ typ = 114 ∨ typ = 115 then .int else if typ = 111 then .bool else .real)
  else if typ < 120 then (if j = 0 then .real else .int)
  else if typ < 132 then (if typ = 129 ∨ (typ = 123 ∧ j = 1) then .bool else .real)
  else if typ < 136 then (if j = 0 then .real else .word)
  else if typ < 142 then (if typ = 136 then (if j = 2 then .word else .bool) else if typ = 137 then .bool else .real)
  else if typ < 154 then
    (if j = 0 ∨ (typ = 152 ∧ j = 1) then .bool else .int)
  else if typ < 162 then (if j = 0 then .bool else .word)
  else if typ < 168 then
    (if typ = 164 ∨ typ = 165 then .int else if j = 0 then .real else if j = 2 then .bool
     else if typ = 166 then .real else .int)
  else match typ with
    | 168 | 172 | 179 => .real
    | 169 | 173 | 178 | 181 | 182 => .int
    | 170 | 174 | 177 | 180 | 183 => .bool
    | 171 | 175 => .word
    | _ => .any

/-- A kind of connection accepts a signal type (R44, R177). -/
def kindAccepts (k : InKind) (typ : Nat) : Bool :=
  match k with
  | .real | .realOpt => typ == 4
  | .int => typ == 2 || typ == 3 || typ == 5
  | .bool => typ == 1
  | .word => typ == 6
  | .any => true

/-! ### Connections (R136, R137, R177, R180) -/

/-- Bits of a connection word that its KIND does not use are 0 (R136). -/
def connClean (w : W64) : Bool :=
  let n := w.toNat
  match connKind w with
  | 0 => n / 2 ^ 18 % 2 ^ 43 == 0
  | 1 => n / 2 ^ 39 % 2 ^ 23 == 0
  | 2 => n / 2 ^ 31 % 2 ^ 31 == 0
  | _ => n % 2 ^ 62 == 0

/-- The connections of an instance: the refusal, if any. Three points the manual leaves open (DESIGN CHOICE, assumption 53): a link
is accepted on an input of any type, R177 naming links for BOOL inputs only; a list entry with COND 1 is accepted on a type of
NCONN 0; its scan then takes frame word 1 as connection 0. -/
def checkConns (b : Book) (r : InstRow) (e : ListEntry) : Option Verdict :=
  let n := instConns b r e
  let outs := typeOuts b r e
  let lay := libLayout r.typ
  let bad := (List.range n).any fun j =>
    let w := instConn b r j
    let sig := getBits w 0 18
    let out := outs.contains j
    let std : Bool := decide (r.typ < 184)
    let want : InKind :=
      if ¬ std then .any
      else if j = 0 then .bool
      else if j ≤ lay.ins.length then lay.ins.getD (j - 1) .any
      else outKind r.typ (j - 1 - lay.ins.length)
    !connClean w || connOut w != out || (out && connKind w != 0) ||
    (match connKind w with
      | 0 =>
        match bookSig b sig with
        | none => true
        | some d =>
          d.cls != r.cls || (out && (d.owner != r.lane || d.kind != 0)) || !kindAccepts want d.typ
      | 1 =>
        match bookSig b sig with
        | none => true
        | some d =>
          out || d.cls == r.cls || !kindAccepts want d.typ ||
            !(b.cross.any fun x => x.cls == r.cls && x.entries.any fun y => y.1 == sig && y.2 == getBits w 18 21)
      | 2 =>
        match b.insts.find? fun o => o.frame == getBits w 0 19 && o.lane == r.lane && o.cls == r.cls with
        | none => true
        | some o =>
          let nc := match bookEntry b o with | some oe => instConns b o oe | none => 0
          out || decide (o.grains * 8 ≤ getBits w 19 12 + 1) || decide (getBits w 19 12 + 1 ≤ nc)
      | _ =>
        std && decide (0 < j) && decide (j ≤ lay.ins.length) && !lay.nary && !(r.typ == 161 && decide (j ≤ 8)) &&
          (want == .real || want == .int || want == .word || want == .any))
  let en := instConn b r 0
  let cond := e.cond && n != 0 &&
    (match connKind en with
      | 0 | 1 => connOut en || ((bookSig b (getBits en 0 18)).elim true fun d => d.typ != 1)
      | _ => false)
  if bad ∨ cond then some (badStructure 2 r.inst) else none

/-- The parameter defaults of an instance of a standard type (R177). -/
def checkParams (b : Book) (r : InstRow) : Option Verdict :=
  if 184 ≤ r.typ then none
  else
    let lay := libLayout r.typ
    let ps := (List.range lay.par).map fun k => bookWord b r.frame (libConns r.typ + 1 + k)
    if (List.range lay.par).all fun k => paramOk r.typ ps k then none else some (badStructure 2 r.inst)

/-! ### Execution bounds (R166 to R168, R294, R301) -/

/-- B of an instance (R166). -/
def blockBound (b : Book) (r : InstRow) (e : ListEntry) : Nat :=
  let n := instConns b r e
  let nrec := ((List.range n).filter fun j => connKind (instConn b r j) != 3).length
  let k := (codeWords b r.lane e.code).foldl (fun s w => s + opCost (w / 2 ^ 24)) 0
  6 + 24 * (2 * r.grains + nrec + (typeOuts b r e).length) + k

/-- The entries of the list of a class on a lane: one scan each, a frame that it names twice twice (R130). -/
def listOf (b : Book) (c l : Nat) : List ListEntry :=
  (b.lists.filter fun x => x.cls == c && x.lane == l).flatMap (·.entries)

/-- B of each entry of the list of a class on a lane. -/
def boundsOf (b : Book) (c l : Nat) : List Nat :=
  (listOf b c l).map fun e =>
    match b.insts.find? fun r => r.frame == e.frame && r.cls == c && r.lane == l with
    | some r => blockBound b r e
    | none => 0

/-- L(c, k) (R167). -/
def listBound (b : Book) (c l : Nat) : Nat :=
  let bs := boundsOf b c l
  let g := (listOf b c l).foldl (fun s e => s + e.grains) 0
  bs.foldl (· + ·) 0 + 24 * ceilDiv bs.length 8 + 24 * min 896 g

/-- The schedule of a class in a Book. -/
def bookCls (b : Book) (c : Nat) : SchedClass := b.sched.classes.getD c ⟨0, 0, 0, 0, 0⟩

/-- P of a class in ns. -/
def bookPeriod (b : Book) (c : Nat) : Nat := (bookCls b c).period * 500000

/-- The used classes of a Book. -/
def bookUsed (b : Book) : List Nat := (List.range 8).filter fun c => (bookCls b c).period != 0

/-- Class h has priority over class c (R90). -/
def bookOver (b : Book) (h c : Nat) : Bool :=
  h != c && (decide (bookPeriod b h < bookPeriod b c) || (bookPeriod b h == bookPeriod b c && decide (h < c)))

/-- The classes that have blocks on a lane. -/
def laneClasses (b : Book) (l : Nat) : List Nat := (bookUsed b).filter fun c => !(listOf b c l).isEmpty

/-- Blo(c, k) (R168). -/
def lowBound (b : Book) (c l : Nat) : Nat :=
  ((laneClasses b l).filter fun h => bookOver b c h).foldl (fun m h => (boundsOf b h l).foldl max m) 0

/-- Entries of the crossing list of a class. -/
def crossLen (b : Book) (c : Nat) : Nat := (b.cross.filter fun x => x.cls == c).foldl (fun s x => s + x.entries.length) 0

/-- Some nominal starts of two classes coincide (R86). -/
def startsMeet (b : Book) (j c : Nat) : Bool :=
  let g := Nat.gcd (bookCls b j).period (bookCls b c).period
  g != 0 && (bookCls b j).offset % g == (bookCls b c).offset % g

/-- X(c) in quarter nanoseconds (R168). -/
def crossBound (b : Book) (c : Nat) : Nat :=
  ((bookUsed b).filter fun j => decide (j ≤ c) && startsMeet b j c).foldl (fun s j => s + 5 * (crossLen b j + 64)) 0

/-- The least fixed point of a rising response, from `w`, in quarter nanoseconds; `none` past the limit. -/
def response (f : Nat → Nat) (limit : Nat) : Nat → Nat → Option Nat
  | 0, _ => none
  | n + 1, w => if limit < w then none else if f w = w then some w else response f limit n (f w)

/-- w(c, k) of R168 in quarter nanoseconds, or `none` when it exceeds the budget. -/
def wcetLane (b : Book) (c l : Nat) : Option Nat :=
  let limit := (bookPeriod b c - (bookCls b c).margin * 1000) * 4
  let base := crossBound b c + 8 * (lowBound b c l + listBound b c l)
  let hs := (laneClasses b l).filter fun h => bookOver b h c
  let f := fun w => base + hs.foldl (fun s h => s + 8 * (ceilDiv w (4 * bookPeriod b h) * listBound b h l)) 0
  response f limit 200000 base

/-- The lanes of a class: the set bits of LANES (R88). -/
def bookLanes (b : Book) (c : Nat) : List Nat := (List.range 8).filter fun l => Nat.testBit (bookCls b c).lanes l

/-- The worst-case execution time of a class, over each of its lanes, stays within its budget (R88, R168). -/
def wcetOk (b : Book) (c : Nat) : Bool :=
  let limit := (bookPeriod b c - (bookCls b c).margin * 1000) * 4
  (bookLanes b c).all fun l => (wcetLane b c l).elim false fun w => decide (w * 1001 ≤ limit * 1000)

/-- Gin(c) (R294): KIND 1 quads and grains of the crossing area. -/
def gIn (b : Book) (c : Nat) : Nat :=
  ((b.dir.filter fun d => d.e.cls == c && d.e.kind == 1 && d.e.typ != 0).map fun d => d.sig / 4).eraseDups.length +
    ((b.cross.filter fun x => x.cls == c).flatMap fun x => x.entries.map fun y => y.2 / 4).eraseDups.length

/-- Gout(c) (R294): frame grains and KIND 0 quads. -/
def gOut (b : Book) (c : Nat) : Nat :=
  (b.insts.filter fun r => r.cls == c).foldl (fun s r => s + r.grains) 0 + (outQuads b c).length

/-- The first check of R294 in units of 0.01 ns: budget less what Gin takes. -/
def linkIn (b : Book) (c : Nat) : Int :=
  ((bookPeriod b c - (bookCls b c).margin * 1000 : Nat) : Int) * 100 - ((gIn b c * 1152 + 3000000 : Nat) : Int)

/-- The second check of R294 in units of 0.01 ns: half the period less what the class takes. -/
def linkAll (b : Book) (c : Nat) : Int := (bookPeriod b c * 50 : Nat) - ((gIn b c + gOut b c) * 1152 : Nat)

/-- A sum of fractions, numerator and denominator. -/
def sumFrac (l : List (Nat × Nat)) : Nat × Nat :=
  l.foldl (fun s x => (s.1 * x.2 + x.1 * s.2, s.2 * x.2)) (0, 1)

/-- R294: the refusal, if any. -/
def checkLink (b : Book) : Option Verdict :=
  let us := bookUsed b
  let one := us.find? fun c => decide (linkIn b c < 0) || decide (linkAll b c < 0)
  let f := sumFrac (us.map fun c => ((gIn b c + gOut b c) * 72, bookPeriod b c))
  match one with
  | some c => some (badTiming 3 c)
  | none =>
    if 3125 * f.2 < 1000 * f.1 then
      let top := us.foldl (fun m c => match m with
        | none => some c
        | some d => if (gIn b d + gOut b d) * bookPeriod b c < (gIn b c + gOut b c) * bookPeriod b d then some c else some d) none
      some (badTiming 3 (top.getD 0))
    else none

/-- TT(c) of R301 in units of 100 ns rounded up, FFFF_FFFFh when unbounded. -/
def takeTime (b : Book) (strict : Nat) (c : Nat) : Nat :=
  let m := fun h => if Nat.testBit strict h then 1 else 2
  let one := fun l =>
    let hs := (laneClasses b l).filter fun h => bookOver b h c
    let own := lowBound b c l + m c * listBound b c l
    let f := fun w => 2 * (own + hs.foldl (fun s h => s + (m h + ceilDiv w (bookPeriod b h)) * listBound b h l) 0)
    let w0 := 2 * (own + hs.foldl (fun s h => s + m h * listBound b h l) 0)
    response f 60000000000 2000000 w0
  let ls := bookLanes b c
  if ls.any fun l => (one l).isNone then 0xFFFFFFFF
  else
    let w := ls.foldl (fun m l => max m ((one l).getD 0)) 0
    ceilDiv (150000 * 1000 + 1001 * w) 100000

/-! ### Station rings (R342) -/

/-- W(n) bytes of a frame of n positions (R327). -/
def frameLine (n : Nat) : Nat := 84 + 8 * n + 8 * ceilDiv n 8

/-- Line bytes of the segments of n positions (R327, R342). -/
def segLine : Nat → Nat → Nat
  | 0, _ => 0
  | k + 1, n => frameLine (min n 160) + (if n ≤ 160 then 0 else segLine k (n - 160))

/-- The stations of a ring in a Book. -/
def bookRing (b : Book) (r : Nat) : List StationCfg := b.stations.filter fun x => ringOf x.num == r

/-- The class of a station in a Book (R103). -/
def bookStnClass (b : Book) (st : Nat) : Option Nat :=
  (b.dir.find? fun d => d.e.bind == 1 && d.e.unit == st).map (·.e.cls)

/-- The station cycle in ns (R104). -/
def bookStnCycle (b : Book) (x : StationCfg) : Nat := x.m * bookPeriod b ((bookStnClass b x.num).getD 0)

/-- G(r) in ns (R333). -/
def bookLead (b : Book) (r : Nat) : Nat :=
  let q := ((b.dir.filter fun d => d.e.bind == 1 && d.e.kind == 1 && ringOf d.e.unit == r).map fun d => d.sig / 4).eraseDups.length
  ceilDiv (5000 + ceilDiv ((q + 64) * 5) 4) 1000 * 1000

/-- R342: ring r fits its line. -/
def ringOk (b : Book) (r : Nat) : Bool :=
  let xs := bookRing b r
  match b.rings[r]? with
  | none => xs.isEmpty
  | some g =>
    let tenth := if g.rate10 then 8 else 80
    let win := xs.foldl (fun s x => s + segLine 8 x.ni) 0
    let wout := xs.foldl (fun s x => s + segLine 8 x.no) 0
    let tconv := xs.foldl (fun m x => max m x.tconv) 0
    let load := sumFrac (xs.map fun x => ((segLine 8 x.ni + segLine 8 x.no + 84) * tenth, max 1 (bookStnCycle b x)))
    let dout := 300000 + xs.length * 10000 + wout * tenth
    xs.isEmpty ||
      (decide (tconv * 10000 + xs.length * 10000 + win * tenth + 200000 + bookLead b r * 10 ≤ g.sampleOffset * 10000) &&
       decide (load.1 ≤ 5 * load.2) && xs.all fun x => decide (dout + 200000 ≤ bookStnCycle b x * 10))

/-! ### The rules, result by result -/

/-- Directory rules: types, R53, R56, R76, R562, the crossing mark of R52. -/
def checkDir (b : Book) : Option Verdict :=
  let combo := fun (d : DirRow) =>
    let e := d.e
    let lane := decide (e.owner < 8)
    match e.bind, e.kind with
    | 0, 0 => lane
    | 1, 1 => e.owner == 10
    | 1, 0 => lane
    | 2, 1 => e.owner == 11
    | 3, 1 => e.owner == 8 && (
        (decide (e.unit < 8) && ((e.pos == 0 && e.typ == 4) || (e.pos == 1 && e.typ == 6))) ||
        (decide (e.unit < 4) && ((e.pos == 2 && e.typ == 4) || (e.pos == 3 && e.typ == 6))))
    | 3, 0 => lane && decide (8 ≤ e.unit) && decide (e.unit < 12) && e.pos == 0 && e.typ == 4
    | 4, 1 => e.owner == 8
    | _, _ => false
  let crossed := fun (s : Nat) => b.cross.any fun x => x.entries.any fun y => y.1 == s
  firstBad [
    badAt b.dir (fun d => decide (d.e.typ = 0) || decide (6 < d.e.typ) || !combo d) fun d => badStructure 1 d.sig,
    badAt b.dir (fun d => (b.dir.any fun o => o.sig / 4 == d.sig / 4 && (o.e.kind != d.e.kind || o.e.cls != d.e.cls)))
      fun d => badStructure 1 d.sig,
    badAt b.dir (fun d => d.e.retain && !(decide (d.e.owner < 8) || d.e.bind == 4)) fun d => badStructure 1 d.sig,
    badAt b.dir (fun d => d.e.crossing != crossed d.sig) fun d => badStructure 1 d.sig,
    if 16384 < (b.dir.filter fun d => d.e.retain).length then some (badStructure 0 0) else none]

/-- Schedule rules (R63, R85 to R89). R98 gives the Skip Limit the range 1 to 255 and states no refusal: a Book whose Skip Limit is
0 is accepted and loaded (DESIGN CHOICE, assumption 53). -/
def checkSched (b : Book) : Option Verdict :=
  firstBad [
    badAt (List.range 8) (fun c =>
      let k := bookCls b c
      k.period != 0 && (decide (20000 < k.period) || decide (k.period ≤ k.offset) || decide (k.margin < 10) ||
        decide (65535 < k.margin) || decide (k.period * 500 < k.margin + 50) ||
        decide (k.margin * 4000 < ((outQuads b c).length + 64) * 5) || k.lanes == 0)) fun c => badStructure 3 c,
    badAt (b.lists) (fun x => !(Nat.testBit (bookCls b x.cls).lanes x.lane) || b.sched.spare == some x.lane) fun x =>
      badStructure 3 x.cls,
    badAt (List.range 8) (fun c => b.sched.spare.any fun l => Nat.testBit (bookCls b c).lanes l) fun c => badStructure 3 c,
    badAt b.cross (fun x => decide (16384 < x.entries.length)) fun x => badStructure 3 x.cls]

/-- Undo areas: base and grains of each (R264). -/
def undoRanges (b : Book) : List (Nat × Nat) :=
  if b.sched.spare.isNone then []
  else (List.range 8).filterMap fun l =>
    let u := ((b.lists.filter fun x => x.lane == l).flatMap (·.entries)).foldl (fun s e => s + e.grains) 0
    if u = 0 then none else some (mget 0 b.sched.undo l, ceilDiv u 16 + u)

/-- Two ranges of a list overlap. -/
def overlapAny : List (Nat × Nat) → Bool
  | [] => false
  | r :: rs => rs.any (rangesMeet r) || overlapAny rs

/-- The block frame region in grains: 24 MiB. -/
def regionGrains : Nat := 0x60000

/-- Lists, frames, crossing and undo areas (R129, R130, R264): capacity. -/
def checkRegion (b : Book) : Option Verdict :=
  let rs := usedRanges b ++ undoRanges b
  if (rs.any fun r => decide (regionGrains < r.1 + r.2)) ∨ regionGrains < rs.foldl (fun s r => s + r.2) 0 then
    some (badCapacity 13) else none

/-- Lists, frames, crossing and undo areas: overlaps and reserved bits. -/
def checkLists (b : Book) : Option Verdict :=
  let rs := usedRanges b
  firstBad [
    badAt b.lists (fun x => x.entries.any fun e => e.rsv != 0 || e.grains == 0 || decide (512 < e.grains) ||
      !(b.insts.any fun r => r.frame == e.frame && r.grains == e.grains && r.lane == x.lane && r.cls == x.cls))
      fun x => badStructure 3 x.cls,
    badAt b.insts (fun r =>
      let h := bookWord b r.frame 0
      (bookEntry b r).isNone || getBits h 0 32 != r.inst || getBits h 32 13 != r.typ || getBits h 45 3 != 0 ||
        getBits h 49 15 != 0 || !(decide (r.typ < 184) || (decide (4096 ≤ r.typ) && decide (r.typ ≤ 8191))) ||
        (b.insts.filter fun o => o.inst == r.inst).length != 1) fun r => badStructure 2 r.inst,
    if overlapAny rs ∨ overlapAny (rs ++ undoRanges b) then some (badStructure 0 0) else none]

/-- Instances: code, connections, parameters, one writer per signal (R137, R146, R153 to R155, R177, R180). -/
def checkInsts (b : Book) : Option Verdict :=
  let outs := b.insts.flatMap fun r => (bookEntries b r).flatMap fun e => (typeOuts b r e).filterMap fun j =>
    if connKind (instConn b r j) = 0 then some (getBits (instConn b r j) 0 18, r.inst, j) else none
  firstBad [
    b.insts.findSome? fun r => (bookEntries b r).findSome? fun e => checkCode b r e,
    b.insts.findSome? fun r => (bookEntries b r).findSome? fun e => checkConns b r e,
    badAt outs (fun o => outs.any fun p => p.1 == o.1 && p.2 != o.2) fun o => badStructure 1 o.1,
    b.insts.findSome? fun r => checkParams b r]

/-- Code that one lane needs fits a bank (R139). -/
def checkBanks (b : Book) : Option Verdict :=
  badAt b.code (fun x => x.words.any fun w => decide (65536 ≤ w.1)) fun x => badStructure 8 x.lane

/-- Station rules (R103, R324, R325, R343). -/
def checkStations (b : Book) (run : Option Book) : Option Verdict :=
  let ids := fun (x : StationCfg) => b.dir.filter fun d => d.e.bind == 1 && d.e.unit == x.num
  let configured := fun (n : Nat) => b.stations.any fun x => x.num == n
  firstBad [
    badAt b.stations (fun x =>
      decide (x.m = 0) || decide (64 < x.m) || decide (1024 < x.ni) || decide (1024 < x.no) || x.tconv == 0 ||
        decide (1000 < x.tconv) || decide (x.timeout < 2) || decide (255 < x.timeout) || decide (255 < x.stale) ||
        x.cfgGen == 0 || decide (255 < x.cfgGen) || decide (1376 < x.model.length) || decide (255 < x.num) ||
        (b.stations.filter fun y => y.num == x.num).length != 1 ||
        (b.stations.filter fun y => ringOf y.num == ringOf x.num && y.order == x.order).length != 1) fun x => badStructure 4 x.num,
    badAt b.stations (fun x =>
      ((ids x).filter fun d => d.e.pos == 0).length != 1 ||
        !((ids x).any fun d => d.e.pos == 0 && d.e.kind == 1 && d.e.typ == 6 && d.e.owner == 10) ||
        (ids x).any (fun d => (d.e.kind == 1 && decide (x.ni < d.e.pos)) || (d.e.kind == 0 && decide (x.no < d.e.pos))) ||
        (ids x).any fun d => (ids x).any fun o => o.e.cls != d.e.cls) fun x => badStructure 4 x.num,
    badAt b.dir (fun d => d.e.bind == 1 && !configured d.e.unit) fun d => badStructure 4 d.e.unit,
    badAt (List.range 2) (fun r => (b.rings[r]?).elim (!(bookRing b r).isEmpty) fun g =>
      decide (g.sampleOffset < 10) || decide (10000 < g.sampleOffset) ||
        (bookRing b r).any fun x => decide (bookPeriod b ((bookStnClass b x.num).getD 0) ≤ g.sampleOffset * 1000)) fun r =>
      badStructure 5 r,
    match run with
    | none => none
    | some o => badAt b.stations (fun x => (o.stations.find? fun y => y.num == x.num).elim false fun y =>
        y.cfgGen == x.cfgGen && ((y.ni, y.no, y.timeout, y.model) != (x.ni, x.no, x.timeout, x.model) ||
          bookStnCycle o y != bookStnCycle b x ||
          (o.rings[ringOf y.num]?).map (·.sampleOffset) != (b.rings[ringOf x.num]?).map (·.sampleOffset) ||
          (bookCls o ((bookStnClass o y.num).getD 0)).offset != (bookCls b ((bookStnClass b x.num).getD 0)).offset))
        fun x => badStructure 4 x.num]

/-- Sounding rules (R376, R377). -/
def checkSoundings (b : Book) : Option Verdict :=
  let sigs := fun (u : SubSounding) => b.dir.filter fun d => d.e.bind == 2 && d.e.unit == u.idx
  firstBad [
    badAt b.pubs (fun p => decide (63 < p.idx) || p.k == 0 || decide (255 < p.k) || p.members.isEmpty ||
      decide (1024 < p.members.length) ||
      p.members.any fun s => (bookSig b s).elim true fun e => e.kind != 0 || e.cls != p.cls) fun p => badStructure 6 p.idx,
    badAt b.subs (fun u => decide (255 < u.idx) || decide (63 < u.sidx) || decide (255 < u.stale) ||
      (sigs u).any fun d => d.e.pos == 0 || decide (1024 < d.e.pos) || (sigs u).any fun o => o.e.cls != d.e.cls)
      fun u => badStructure 6 (256 + u.idx)]

/-- Field island rules (R563). -/
def checkField (b : Book) : Option Verdict :=
  firstBad [
    badAt (List.range 8) (fun k => (b.field.ai[k]?).elim false fun a => a.filter == 0 || decide (64 < a.filter))
      fun k => badStructure 7 k,
    badAt (List.range 4) (fun k => (b.field.ao[k]?).elim false fun f => decide (3 < f)) fun k => badStructure 7 (8 + k)]

/-- Retain slots: marks and slots agree, the block slots fit the area, and the length of an instance's slot is RET_LEN of its type
(R77, R119, R138); R138 states that equality and no result: a Book that breaks it is refused as STRUCTURE (DESIGN CHOICE,
assumption 53). -/
def checkRetain (b : Book) : Option Verdict :=
  firstBad [
    badAt b.dir (fun d => d.e.retain && !(b.retSigs.any fun r => r.sig == d.sig && r.slot == d.e.retslot)) fun d =>
      badStructure 1 d.sig,
    badAt b.retSigs (fun r => decide (16384 ≤ r.slot) || (b.retSigs.any fun o => o.slot == r.slot && o.sig != r.sig)) fun r =>
      badStructure 14 r.slot,
    badAt b.retInsts (fun r => decide (r.off < 0x80000) || decide (0x200000 < r.off + 16 * r.len8 + 16) || r.off % 8 != 0 ||
      r.len8 == 0 || decide (255 < r.len8) || (b.insts.any fun i => i.inst == r.inst && retLen b i != r.len8) ||
      b.retInsts.any fun o => o.inst != r.inst && rangesMeet (r.off, 16 * r.len8 + 16) (o.off, 16 * o.len8 + 16))
      fun r => badStructure 2 r.inst]

/-- Capacities of R40 that Book verify refuses. -/
def checkCapacity (b : Book) : Option Verdict :=
  let n := fun (k : Nat) => (b.dir.filter fun d => d.e.bind == k).length
  let ring := fun (r : Nat) => (bookRing b r).length
  firstBad [
    if b.dir.any fun d => decide (2 ^ 18 ≤ d.sig) then some (badCapacity 1) else none,
    if 131072 < n 1 then some (badCapacity 2) else none,
    if 16384 < n 2 then some (badCapacity 3) else none,
    if 196608 < b.insts.length then some (badCapacity 4) else none,
    if 4096 < ((b.insts.filter fun r => decide (4096 ≤ r.typ)).map (·.typ)).eraseDups.length then some (badCapacity 5) else none,
    if 128 < ring 0 ∨ 128 < ring 1 then some (badCapacity 8) else none,
    if 64 < b.pubs.length ∨ 256 < b.subs.length then some (badCapacity 9) else none]

/-- Budgets and lines (R88, R294, R342). -/
def checkTiming (b : Book) : Option Verdict :=
  firstBad [badAt (bookUsed b) (fun c => !wcetOk b c) fun c => badTiming 3 c, checkLink b,
    badAt (List.range 2) (fun r => !ringOk b r) fun r => badTiming 5 r]

/-- RETAIN (R208). -/
def checkReuse (b : Book) (run : Option Book) : Option Verdict :=
  match run with
  | none => none
  | some o =>
    if o.rmapId ≠ b.rmapId then none
    else firstBad [
      badAt b.retSigs (fun r => o.retSigs.any fun p => p.slot == r.slot && p.sig != r.sig) fun r => ⟨0x19, 0, 14, r.slot⟩,
      badAt b.retInsts (fun r => o.retInsts.any fun p =>
        (p.off == r.off && (p.inst != r.inst || p.len8 != r.len8)) ||
          (p.off != r.off && rangesMeet (r.off, 16 * r.len8 + 16) (p.off, 16 * p.len8 + 16))) fun r => ⟨0x19, 0, 14, r.off / 8⟩]

/-- The verification of a Book against the running one (R207): `keys` are the key slots; one that is empty or faulty is unusable (R470, R472). -/
def verdictOf (run : Option Book) (keys : Nat → KeySlot) (b : Book) : Verdict :=
  let keyBad := fun (n : Nat) => !(keys n).present || (keys n).fault
  match b.formatBad with
  | some o => ⟨0x10, 0, 10, o⟩
  | none =>
    if 3 < b.keyIndex ∨ keyBad (4 + b.keyIndex) then ⟨0x12, 0, 13, b.keyIndex⟩
    else if ¬ signedBy (pubBytes (keys (4 + b.keyIndex)).pub) b.image then ⟨0x11, 0, 0, 0⟩
    else
      match (if b.encrypted then (if keyBad 3 then some 1 else b.decryptBad) else none), b.sectionFails with
      | some t, _ => ⟨0x13, 0, 9, t⟩
      | none, some t => ⟨0x15, 0, 9, t⟩
      | none, none =>
        if ¬ b.libOk then ⟨0x14, 0, 12, b.libRevision⟩
        else
          match firstBad [checkDir b, checkSched b, checkRegion b, checkLists b, checkBanks b, checkInsts b, checkStations b run, checkSoundings b,
              checkField b, checkRetain b, checkCapacity b, checkTiming b, checkReuse b run] with
          | some v => v
          | none =>
            match turnReason run b with
            | none => ⟨0x00, 0, 0, 0⟩
            | some (r, k, i) => ⟨0x01, r, k, i⟩

/-- The verification of a Book by this module as it stands. -/
def State.verdict (s : State) (b : Book) : Verdict := verdictOf s.runBook (fun n => mget KeySlot.init s.acc.keys n) b

end Sys2Proof.Machine
end

