-- ==== Sys2Proof/Machine/Time.lean ====
section
/-! DEFINITION. Time bases, PTP, the time master, pulses and captures (R395 to R423). -/

namespace Sys2Proof.Machine

/-- A register command whose action may be refused with an error. -/
def State.reachTry (s : State) (m : Nat) (f : Fld) (act : State → State × Bool) : State :=
  let r := act s
  if r.2 then
    let t := s.reach m f id
    if t.bus.err then t else r.1.reply true 0
  else s.reach m f fun s => (act s).1

/-! ### Steps and pulses (R397, R415 to R417) -/

/-- The pin of a pulse output driven to a level. -/
def State.pulsePin (s : State) (k : Nat) (active : Bool) : State :=
  let s := s.setFlag (R.timeTpoCfgActive k) active
  s.emit (.pulse k (active != s.flag (R.timeTpoCfgPol k)))

/-- A leading edge produced now; the trailing edge WIDTH ns later; NEXT moves on `n` periods. A one-shot has no next leading edge, and
no rule states what NEXT then reads (DESIGN CHOICE, assumption 5). -/
def State.pulseEdge (s : State) (k n : Nat) : State :=
  let p := s.fld (R.timeTpoPeriodPeriod k)
  let at_ := s.tb (s.fld (R.timeTpoCfgBase k)) + s.fld (R.timeTpoCfgWidth k)
  let s := s.pulsePin k true
  let s := { s with time := { s.time with trail := mput none s.time.trail k (some at_) } }
  if p = 0 then (s.setFld (R.timeTpoNextNext k) (Config.freeWord s.free).toNat).nextFree
  else s.setFld (R.timeTpoNextNext k) (s.fld (R.timeTpoNextNext k) + n * p)

/-- Leading edges of one output that a forward step has passed (R417). -/
def State.pulsePassed (s : State) (k b : Nat) : State :=
  let next := s.fld (R.timeTpoNextNext k)
  let p := s.fld (R.timeTpoPeriodPeriod k)
  let now := s.tb b
  if s.flag (R.timeTpoCfgEn k) ∧ s.fld (R.timeTpoCfgBase k) = b ∧ next ≤ now ∧ ¬ (p = 0 ∧ s.flag (R.timeTpoCfgActive k)) then
    let n := if p = 0 then 1 else (now - next) / p + 1
    (s.addSat (R.timeTpoCfgMissed k) (n - 1)).pulseEdge k n
  else s

/-- A base stepped by a signed count of ns (R397, R417); after a step of TB2 the classes' next starts follow the stepped time (R91). -/
def State.stepBase (s : State) (b : Nat) (d : Int) : State :=
  let s := s.setTbFix b (((s.tbFix b : Int) + d * 2 ^ 32) % 2 ^ 96).toNat
  let s := if b = 2 ∧ d ≠ 0 then { s with classes := s.classes.map fun e => (e.1, { e.2 with stepped := true, pubDone := true }) } else s
  if 0 < d then (List.range 4).foldl (fun s k => s.pulsePassed k b) s else s

/-- A base stepped to a count. -/
def State.stepTo (s : State) (b t : Nat) : State := s.stepBase b ((t : Int) - s.tb b)

/-- The step of TB2 before a restart of the program (R403). -/
def State.restartStep (s : State) : State :=
  if s.flag R.timeCtrlTb2Follow ∧ s.flag R.timeStatusTb0Valid then s.stepTo 2 (s.tb 0) else s

/-! ### Increments (R396) -/

/-- Nominal increment. -/
def incNominal : Nat := 4 * 2 ^ 32

/-- Width of the range of a base's increment, in ppm. -/
def incPpm (n : Nat) : Nat := if n = 2 then 500 else if n = 3 then 100 else 1000

/-- An increment lies in the range of a base. -/
def incOk (n v : Nat) : Bool :=
  decide (incNominal * (1000000 - incPpm n) ≤ v * 1000000) && decide (v * 1000000 ≤ incNominal * (1000000 + incPpm n))

/-- An increment limited to the range of a base. -/
def incClamp (n : Nat) (v : Int) : Nat :=
  let lo : Int := ceilDiv (incNominal * (1000000 - incPpm n)) 1000000
  let hi : Int := incNominal * (1000000 + incPpm n) / 1000000
  (max lo (min hi v)).toNat

/-- The increment of a base set. -/
def State.setInc (s : State) (n v : Nat) : State := s.setFld (R.timeTbIncInc n) v

/-- A correction of a base's increment whose size no rule states: any increment of the range (R406; DESIGN CHOICE, assumption 5). -/
def State.freeInc (s : State) (n : Nat) : State :=
  let lo := ceilDiv (incNominal * (1000000 - incPpm n)) 1000000
  let hi := incNominal * (1000000 + incPpm n) / 1000000
  (s.setInc n (lo + (Config.freeWord s.free).toNat % (hi - lo + 1))).nextFree

/-! ### The states of TB0 and TB1 (R399, R406) -/

/-- State of the base of domain d: 0 FREE, 1 ACQUIRING, 2 LOCKED, 3 HOLDOVER. -/
def State.domState (s : State) (d : Nat) : Nat := if d = 0 then s.fld R.timeStatusTb0State else s.fld R.timeStatusTb1State

/-- Whether the base of domain d is valid. -/
def State.domValid (s : State) (d : Nat) : Bool := if d = 0 then s.flag R.timeStatusTb0Valid else s.flag R.timeStatusTb1Valid

/-- The base of domain d marked valid. -/
def State.domSetValid (s : State) (d : Nat) : State :=
  if d = 0 then s.setFlag R.timeStatusTb0Valid true else s.setFlag R.timeStatusTb1Valid true

/-- A change of state of domain d, with its event; a change of TB0's is a cause of vector 258 (R507). -/
def State.domGo (s : State) (d p : Nat) : State :=
  let old := s.domState d
  let s := if d = 0 then s.setFld R.timeStatusTb0State p else s.setFld R.timeStatusTb1State p
  if old = p then s
  else
    let s := if d = 0 then ({ s with time := { s.time with holdAt := if p = 3 then some (s.tb 3) else none } }).vecPost 258 else s
    if p = 2 then s.raise evTimeLocked (leBytes 1 d)
    else if p = 3 then s.raise evTimeHoldover (leBytes 1 d)
    else s

/-- A port's state in a domain. -/
def State.ptp (s : State) (p d : Nat) : PtpPort := mget PtpPort.init s.time.ports (2 * p + d)

/-- The state with a port changed. -/
def State.modPtp (s : State) (p d : Nat) (f : PtpPort → PtpPort) : State :=
  { s with time := { s.time with ports := mmod PtpPort.init s.time.ports (2 * p + d) f } }

/-- The profile setting of a port (R404, R405): bit 0 the delay mechanism of domain A, 0 E2E and 1 P2P; the rest 0 where domain B is off, 1 where it
runs E2E, 2 where it runs P2P (DESIGN CHOICE, assumption 58). -/
def State.ptpProfile (s : State) (p : Nat) : Nat := (s.time.cfg.ports[p]?.map (·.profile)).getD 0

/-- Port p runs domain d (R405): 0 A, 1 B, 2 the ring domain. -/
def State.ptpOn (s : State) (p d : Nat) : Bool :=
  if p < 2 then d == 2 else d == 0 || (d == 1 && decide (2 ≤ s.ptpProfile p))

/-- The peer-to-peer mechanism on port p in domain d (R404, R405). -/
def State.ptpP2p (s : State) (p d : Nat) : Bool :=
  if p < 2 then true else if d = 0 then s.ptpProfile p % 2 == 1 else s.ptpProfile p / 2 == 2

/-- The consecutive intervals within 1 µs of a domain. -/
def State.setLocked (s : State) (d n : Nat) : State :=
  { s with time := { s.time with locked := mput 0 s.time.locked d n } }

/-- A data set precedes another in the comparison of the best master clock algorithm. -/
def dataLess : List Nat → List Nat → Bool
  | [], [] => false
  | [], _ :: _ => true
  | _ :: _, [] => false
  | a :: as, b :: bs => if a < b then true else if b < a then false else dataLess as bs

/-- The module's own data set (R405): priority1, clockClass 248, accuracy FEh, variance, priority2, identity. -/
def State.ownData (s : State) : List Nat := [s.time.cfg.prio1, 248, 0xFE, 0xFFFF, s.time.cfg.prio2, s.pair.serial]

/-- The state decision on P2 and P3 in a domain (R405): the port with the best data set better than the own is the slave. -/
def State.decidePorts (s : State) (d : Nat) : State :=
  let better := fun (a b : Option (List Nat)) =>
    match a, b with
    | some x, some y => dataLess x y
    | some _, none => true
    | _, _ => false
  let own := s.ownData
  let x := if s.ptpOn 2 d then (s.ptp 2 d).best else none
  let y := if s.ptpOn 3 d then (s.ptp 3 d).best else none
  let bx := better x (some own) && !better y x
  let by_ := better y (some own) && better y x
  let set := fun (s : State) p b => s.modPtp p d fun q => { q with slave := b, fresh := if b ∧ ¬ q.slave then true else q.fresh }
  set (set s 2 bx) 3 by_

/-- No port of domain d is a slave any more, or no Sync arrives (R406). -/
def State.loseSync (s : State) (d : Nat) : State :=
  if (s.ptp 2 d).slave ∨ (s.ptp 3 d).slave then s
  else (s.setLocked d 0).domGo d (if s.domValid d then 3 else 0)

/-- An offset of a slave port: the base minus the master's time, in ns (R406, R413). -/
def State.syncOffset (s : State) (p d : Nat) (off : Int) : State :=
  let q := s.ptp p d
  if p < 2 ∨ ¬ s.ptpOn p d ∨ ¬ q.slave then s
  else
    let s := s.modPtp p d fun q => { q with off := off, fresh := false }
    if ¬ s.flag R.pairStateTimemaster then s
    else
      let s := if q.fresh ∨ s.domState d = 3 ∨ s.domState d = 0 then (s.setLocked d 0).domGo d 1 else s
      if 100000 < off.natAbs then ((s.stepBase d (-off)).setLocked d 0).raise evTimeStepped (leBytes 1 d)
      else
        let s := s.freeInc d
        if off.natAbs ≤ 1000 then
          let n := min 16 (mget 0 s.time.locked d + 1)
          let s := s.setLocked d n
          if n = 16 ∧ s.domState d = 1 then (s.domGo d 2).domSetValid d else s
        else s.setLocked d 0

/-! ### The time-master role (R412) -/

/-- The role taken or given up, with TIME_MASTER_CHANGED; a module that takes it goes on in HOLDOVER until its own slave port gives
time. -/
def State.setMaster (s : State) (b : Bool) : State :=
  if s.flag R.pairStateTimemaster == b then s
  else
    let s := (s.setFlag R.pairStateTimemaster b).raise evTimeMasterChanged (leBytes 1 (if b then 1 else 0))
    if b then
      let s := s.setFlag R.timeStatusPairsync false
      let s := if s.domValid 0 then s.domGo 0 3 else s
      if s.domValid 1 then s.domGo 1 3 else s
    else s

/-- Which of two modules takes the role when both may (R412): the Preferred module, or slot A where neither is Preferred. -/
def State.masterByRule (s : State) : Bool :=
  s.flag R.pairStatePreferred || (!s.flag R.pairStatePpreferred && !s.slotB)

/-! ### Effects of the commands of block 0700h -/

/-- TIME_CONFIG at its effect instant (R423). -/
def State.timeConfig (s : State) (c : TimeCfg) : State :=
  let s := { s with time := { s.time with cfg := c } }
  let s := s.setFlag R.timeCtrlTb2Follow c.follow
  let s := (List.range 4).foldl (fun s p =>
    match c.ports[p]? with
    | none => s
    | some x =>
      let s := s.setFld (R.portPtpStamp p) (if x.twoStep then 2 else 1)
      let s := s.setFld (R.portPtpEncap p) x.encap
      let s := (s.setFld (R.portPtpLatIng p) x.latIn).setFld (R.portPtpLatEgr p) x.latEg
      s.setFld (R.portPtpAsymAsym p) x.asym) s
  let was := (s.ptp 2 1).slave || (s.ptp 3 1).slave
  let s := (s.decidePorts 0).decidePorts 1
  if was then s.loseSync 1 else s

/-- TIME_SET at its effect instant (R399, R423). -/
def State.timeSet (s : State) (tai : Nat) (utc : Int) : State :=
  let s := ((s.stepTo 0 tai).domSetValid 0).domGo 0 3
  (s.setFld R.timeStatusUtcOffset (utc % 2 ^ 16).toNat).setFlag R.timeStatusUtcValid true

/-- TB2_STEP at its effect instant (R91, R397, R401); a step in RUN or HOLD is refused. -/
def State.tb2Step (s : State) (target : Option Nat) : State :=
  let s := if s.fld R.bookModeMode = 0 then s.stepTo 2 (target.getD (s.tb 0)) else s
  let d := (s.tb 0 : Int) - s.tb 2
  if d.natAbs ≤ s.time.cfg.window * 1000000000 then s.setFlag R.timeCtrlBlocked false else s

/-! ### The register commands -/

/-- TIME_SNAP (R398). -/
def execTimeSnap (m : Fin 16) (s : State) : Host.Outcome State Fault Refusal :=
  .next (s.reach m.val R.timeCtrlSnap fun s => (List.range 4).foldl (fun s n => s.setFld (R.timeTbSnapNs n) (s.tb n)) s)

/-- TIME_INC_WRITE (R396). -/
def execTimeIncWrite (m : Fin 16) (n : Fin 4) (v : W64) (s : State) : Host.Outcome State Fault Refusal :=
  let w := v.toNat % 2 ^ 36
  .next (s.reachTry m.val (R.timeTbIncInc n.val) fun s => if incOk n.val w then (s.setInc n.val w, false) else (s, true))

/-- TIME_STEP_WRITE (R397). -/
def execTimeStepWrite (m : Fin 16) (n : Fin 4) (v : W64) (s : State) : Host.Outcome State Fault Refusal :=
  .next (s.reachTry m.val (R.timeTbStepStep n.val) fun s =>
    if n.val = 3 ∨ (n.val = 2 ∧ s.fld R.bookModeMode ≠ 0) then (s, true) else (s.stepBase n.val v.toInt, false))

/-- The first programmed edge of an output at least 1 µs ahead, if it can be armed (R416). -/
def State.pulseFirst (s : State) (k : Nat) : Option Nat :=
  let now := s.tb (s.fld (R.timeTpoCfgBase k))
  let st := s.fld (R.timeTpoStartStart k)
  let p := s.fld (R.timeTpoPeriodPeriod k)
  let w := s.fld (R.timeTpoCfgWidth k)
  if w < 8 ∨ (p ≠ 0 ∧ (p < 1000 ∨ p ≤ w + 8)) then none
  else if now + 1000 ≤ st then some st
  else if p = 0 then none
  else some (st + ceilDiv (now + 1000 - st) p * p)

/-- An output armed, or refused (R416). -/
def State.pulseArm (s : State) (k : Nat) : State × Bool :=
  match s.pulseFirst k with
  | none => (s, true)
  | some t =>
    let s := (s.setFlag (R.timeTpoCfgEn k) true).setFld (R.timeTpoNextNext k) t
    let s := s.setFld (R.timeTpoCfgMissed k) 0
    ({ s with time := { s.time with driven := mput false s.time.driven k true } }, false)

/-- An output disarmed. -/
def State.pulseOff (s : State) (k : Nat) : State :=
  (s.setFlag (R.timeTpoCfgEn k) false).setFld (R.timeTpoNextNext k) 0

/-- A write of TIME_TPOk_CFG (R416, R601). -/
def State.pulseCfg (s : State) (k : Nat) (v : W64) : State × Bool :=
  let s := { s with time := { s.time with held := mput none s.time.held k none } }
  let en := getBits v 2 1 == 1
  if s.flag (R.timeTpoCfgEn k) then
    let same := getBits v 0 2 == s.fld (R.timeTpoCfgBase k) && getBits v 3 1 == s.fld (R.timeTpoCfgPol k) &&
      getBits v 8 32 == s.fld (R.timeTpoCfgWidth k)
    (if en then s else s.pulseOff k, !same)
  else
    let s := (s.setFld (R.timeTpoCfgBase k) (getBits v 0 2)).setFld (R.timeTpoCfgPol k) (getBits v 3 1)
    let s := s.setFld (R.timeTpoCfgWidth k) (getBits v 8 32)
    if en then s.pulseArm k else (s, false)

/-- TPO_CFG_WRITE (R416). -/
def execTpoCfgWrite (m : Fin 16) (k : Fin 4) (v : W64) (s : State) : Host.Outcome State Fault Refusal :=
  .next (s.reachTry m.val (R.timeTpoCfg k.val) fun s => s.pulseCfg k.val v)

/-- TPI_CNT_CLEAR (R422): `occ` counts COUNT (true) or MISSED in the same clock. -/
def execTpiCntClear (m : Fin 16) (i : Fin 2) (occ : Option Bool) (s : State) : Host.Outcome State Fault Refusal :=
  .next (s.reach m.val (R.timeTpiCtlClear i.val) fun s =>
    s.clearThen [R.timeTpiCtlCount i.val, R.timeTpiCtlMissed i.val]
      (occ.map fun b s => if b then s.incMod (R.timeTpiCtlCount i.val) else s.incSat (R.timeTpiCtlMissed i.val)))

/-- PTP_LOST_CLEAR (R422). -/
def execPtpLostClear (m : Fin 16) (p : Fin 4) (occ : SameClock) (s : State) : Host.Outcome State Fault Refusal :=
  .next (s.reach m.val (R.portPtpClear p.val) fun s =>
    s.clearThen [R.portPtpLost p.val] (if occ then some fun s => s.incSat (R.portPtpLost p.val) else none))

/-! ### PTP -/

/-- PTP_SYNC_RX (R406): `off` is the offset the Sync yields. -/
def execPtpSyncRx (p : Fin 4) (domB : Bool) (off : Int) (s : State) : Host.Outcome State Fault Refusal :=
  .next (s.syncOffset p.val (if domB then 1 else 0) off)

/-- PTP_ANNOUNCE_TIMEOUT (R406): a slave port has had no Sync for three Announce intervals. -/
def execPtpAnnounceTimeout (p : Fin 4) (domB : Bool) (s : State) : Host.Outcome State Fault Refusal :=
  let d := if domB then 1 else 0
  if (s.ptp p.val d).slave then
    .next (((s.modPtp p.val d fun q => { q with best := none }).decidePorts d).loseSync d)
  else .next s

/-- The domain number of a domain (R405). -/
def State.domNumber (s : State) (d : Nat) : Nat :=
  if d = 0 then s.time.cfg.domA else if d = 1 then s.time.cfg.domB else s.time.cfg.domR

/-- The follow-up of an event message sent two-step (R408): Follow_Up of a Sync, Pdelay_Resp_Follow_Up of a Pdelay_Resp. -/
def followUpOf (typ : Nat) : Option Nat := if typ = 0 then some 8 else if typ = 3 then some 10 else none

/-- PTP_EGRESS_STAMP (R408): an event message has left port p at `t` ns of its base. -/
def execPtpEgressStamp (p : Fin 4) (dom : Fin 3) (typ : BitVec 4) (seq : BitVec 16) (t : Nat) (s : State) :
    Host.Outcome State Fault Refusal :=
  if s.fld (R.portPtpStamp p.val) ≠ 2 then .next s
  else
    let stamp := t + s.fld (R.portPtpLatEgr p.val) / 2 ^ 16
    if s.qFree 244 = 0 then .next ((s.incSat (R.portPtpLost p.val)).qPut 244 [])
    else
      let w0 := p.val + s.domNumber dom.val * 2 ^ 8 + typ.toNat * 2 ^ 16 + seq.toNat * 2 ^ 32
      let s := s.qPass 244 [BitVec.ofNat 64 w0, BitVec.ofNat 64 stamp]
      match followUpOf typ.toNat with
      | some k => .next (s.emit (.ptp p.val k [seq.toNat, stamp]))
      | none => .next s

/-- A module sends ring-domain messages unless it is in SAFE or fenced (R410). -/
def State.ringTalks (s : State) : Bool := s.pstate != psSafe && !s.flag R.pairFenceFenced

/-- PTP_MESSAGE_RX (R404, R405, R413): management messages are discarded; a port answers in the domains it runs by the delay mechanism of each. -/
def execPtpMessageRx (p : Fin 4) (msg : PtpMsg) (s : State) : Host.Outcome State Fault Refusal :=
  let port := decide (2 ≤ p.val)
  match msg with
  | .management => .next s
  | .announce dom data utc =>
    if port ∧ s.ptpOn p.val dom.val then
      let s := s.modPtp p.val dom.val fun q => { q with best := some data }
      let s := (s.decidePorts dom.val).loseSync dom.val
      match utc with
      | some u =>
        if (s.ptp p.val dom.val).slave ∧ dom.val = 0 then
          .next ((s.setFld R.timeStatusUtcOffset u.toNat).setFlag R.timeStatusUtcValid true)
        else .next s
      | none => .next s
    else .next s
  | .followUp dom off => .next (if dom.val < 2 then s.syncOffset p.val dom.val off else s)
  | .delayReq dom =>
    .next (if port ∧ s.ptpOn p.val dom.val ∧ ¬ s.ptpP2p p.val dom.val ∧ ¬ (s.ptp p.val dom.val).slave then
      s.emit (.ptp p.val 9 [s.domNumber dom.val]) else s)
  | .pdelayReq dom =>
    .next (if s.ptpOn p.val dom.val ∧ s.ptpP2p p.val dom.val ∧ (port ∨ s.ringTalks) then s.emit (.ptp p.val 3 [s.domNumber dom.val]) else s)
  | .pdelayResp _ => .next s

/-- What a master port on P2 or P3 announces in domain d (R405): the data set of the boundary clock's own master where the other port is a slave, else
its own, with timeSource A0h as grandmaster. -/
def State.announceData (s : State) (p d : Nat) : List Nat :=
  let q := s.ptp (if p = 2 then 3 else 2) d
  match q.slave, q.best with
  | true, some b => b ++ [s.fld R.timeStatusUtcOffset]
  | _, _ => s.ownData ++ [0xA0, s.fld R.timeStatusUtcOffset]

/-- PTP_MASTER_SEND_INTERVAL (R405, R410): a master port sends a Sync or an Announce; the announced data set of a ring port is priority1
0 with priority2 1 from the time master and 2 from the other. -/
def execPtpMasterSendInterval (p : Fin 4) (dom : Fin 3) (announce : Bool) (s : State) : Host.Outcome State Fault Refusal :=
  if p.val < 2 then
    if dom.val = 2 ∧ s.ringTalks then
      .next (s.emit (if announce then .ptp p.val 11 [s.time.cfg.domR, 0, if s.flag R.pairStateTimemaster then 1 else 2]
        else .ptp p.val 0 [s.time.cfg.domR, s.tb 2]))
    else .next s
  else if s.ptpOn p.val dom.val ∧ ¬ (s.ptp p.val dom.val).slave then
    .next (s.emit (if announce then .ptp p.val 11 ([s.domNumber dom.val] ++ s.announceData p.val dom.val)
      else .ptp p.val 0 [s.domNumber dom.val, s.tb dom.val]))
  else .next s

/-! ### Following -/

/-- TB2_FOLLOW_UPDATE (R400 to R402). The correction within 1 µs is any of at most 10 ppm (DESIGN CHOICE, assumption 5). -/
def execTb2FollowUpdate (s : State) : Host.Outcome State Fault Refusal :=
  if s.flag R.timeCtrlTb2Follow ∧ s.flag R.timeStatusTb0Valid ∧ s.flag R.pairStateTimemaster then
    let d := (s.tb 0 : Int) - s.tb 2
    if s.time.cfg.window * 1000000000 < d.natAbs then
      let s := s.setFlag R.timeCtrlSlewing false
      if s.flag R.timeCtrlBlocked then .next s
      else .next ((s.setFlag R.timeCtrlBlocked true).raise evTb2Blocked [])
    else
      let s := s.setFlag R.timeCtrlBlocked false
      let i0 : Int := s.tbInc 0
      if 1000 < d.natAbs then
        let k : Int := incNominal * 400 / 1000000
        .next ((s.setInc 2 (incClamp 2 (if 0 < d then i0 + k else i0 - k))).setFlag R.timeCtrlSlewing true)
      else
        let k := incNominal * 10 / 1000000
        let c : Int := (Config.freeWord s.free).toNat % (2 * k + 1)
        .next (((s.setInc 2 (incClamp 2 (i0 + c - k))).setFlag R.timeCtrlSlewing false).nextFree)
  else .next ((s.setFlag R.timeCtrlSlewing false).setFlag R.timeCtrlBlocked false)

/-- A base brought to within ±20 ns of the master's, whatever offset remains (R414; DESIGN CHOICE, assumption 5). -/
def State.nearMaster (s : State) (k t : Nat) : State :=
  let o := (Config.freeWord s.free).toNat % 41
  (s.stepTo k (t + o - 20)).nextFree

/-- PAIR_TIME_SYNC (R414): the time master's counts at this instant and its TB3 increment. TB2 follows by its increment alone in RUN or
HOLD. -/
def execPairTimeSync (tb0 tb1 tb2 : Nat) (inc3 : Nat) (s : State) : Host.Outcome State Fault Refusal :=
  if ¬ s.flag R.pairLinkUp ∨ s.flag R.pairStateTimemaster then .next s
  else
    let s := (s.nearMaster 0 tb0).nearMaster 1 tb1
    let s := if s.fld R.bookModeMode ≠ 0 then s.freeInc 2 else s.nearMaster 2 tb2
    let s := s.setInc 3 (incClamp 3 inc3)
    .next (s.setFlag R.timeStatusPairsync true)

/-- TIME_MASTER_HOLDOVER_EXPIRY (R412). -/
def execTimeMasterHoldoverExpiry (partnerLocked : Bool) (s : State) : Host.Outcome State Fault Refusal :=
  match s.time.holdAt with
  | some t =>
    if s.flag R.pairStateTimemaster ∧ s.domState 0 = 3 ∧ partnerLocked then
      .next ((s.to3 (t + 10000000000)).setMaster false)
    else .next s
  | none => .next s

/-! ### Pulses and captures -/

/-- Time runs until a base reaches `t` ns (DESIGN CHOICE, assumption 6). -/
def State.toBase (s : State) (b t : Nat) : State := s.ticks (s.clocksTo b t)

/-- TPO_LEADING_EDGE (R415). -/
def execTpoLeadingEdge (k : Fin 4) (s : State) : Host.Outcome State Fault Refusal :=
  if s.flag (R.timeTpoCfgEn k.val) ∧ ¬ s.flag (R.timeTpoCfgActive k.val) then
    .next ((s.toBase (s.fld (R.timeTpoCfgBase k.val)) (s.fld (R.timeTpoNextNext k.val))).pulseEdge k.val 1)
  else .next s

/-- TPO_TRAILING_EDGE (R415, R417). -/
def execTpoTrailingEdge (k : Fin 4) (s : State) : Host.Outcome State Fault Refusal :=
  match mget none s.time.trail k.val with
  | none => .next s
  | some t =>
    let s := (s.toBase (s.fld (R.timeTpoCfgBase k.val)) t).pulsePin k.val false
    let s := { s with time := { s.time with trail := mput none s.time.trail k.val none } }
    .next (if s.fld (R.timeTpoPeriodPeriod k.val) = 0 then s.pulseOff k.val else s)

/-- An input is wired: TPI1 is not on a generation 1 carrier (R607). -/
def State.tpiWired (s : State) (i : Nat) : Bool := i == 0 || s.fld R.rstcStrapCode / 8 % 2 == 1

/-- TPI_EDGE (R418, R419). -/
def execTpiEdge (i : Fin 2) (rising : Bool) (s : State) : Host.Outcome State Fault Refusal :=
  let e := s.fld (R.timeTpiCtlEdge i.val)
  if ¬ s.tpiWired i.val ∨ ¬ (if rising then e % 2 = 1 else 2 ≤ e) then .next s
  else
    let soon := (mget none s.time.tpiLast i.val).any fun t => decide (s.tb 3 < t + 1000)
    if soon then .next (s.incSat (R.timeTpiCtlMissed i.val))
    else
      let s := { s with time := { s.time with tpiLast := mput none s.time.tpiLast i.val (some (s.tb 3)) } }
      let s := (List.range 4).foldl (fun (s : State) n => s.setFld (R.timeTpiTbNs i.val n) (s.tb n)) s
      let s := (s.setFlag (R.timeTpiCtlLast i.val) rising).incMod (R.timeTpiCtlCount i.val)
      let ws := [BitVec.ofNat 64 (i.val + if rising then 256 else 0)] ++ ((List.range 4).map fun n => BitVec.ofNat 64 (s.tb n)) ++
        [BitVec.ofNat 64 (s.fld (R.timeTpiCtlCount i.val))]
      let s : State := if s.qFree 245 = 0 then s.incSat (R.timeTpiCtlMissed i.val) else s
      .next (s.qPut 245 ws)

end Sys2Proof.Machine
end

