-- ==== Sys2Proof/Machine/Fcol.lean ====
section
/-! DEFINITION. FCOL: report paths, classes, records, the class C and D reactions, the collector's own integrity, scrubbing (R424 to
R449). -/

namespace Sys2Proof.Machine

/-! ### Sources (R427, R633) -/

/-- The sources that report occurrences (R633). -/
def occursOnly (src : Nat) : Bool :=
  (decide (0x08 ≤ src) && decide (src ≤ 0x20)) || (decide (0x22 ≤ src) && decide (src ≤ 0x26)) || src == 0x29 || src == 0x33 ||
    src == 0x3D || src == 0x3E || src == 0x41

/-- The class of a source, coded as in a history entry: 1 A, 2 B, 3 C, 4 D (R427). -/
def State.srcClass (s : State) (src : Nat) : Nat :=
  if src < 8 then (if s.laneIdle src then 2 else 3)
  else if src < 0x10 then 1
  else if src < 0x18 then 3
  else match src with
    | 0x18 | 0x22 | 0x29 | 0x3D => 1
    | 0x1A | 0x20 | 0x23 | 0x25 | 0x2A | 0x2B | 0x2C | 0x2D | 0x2E | 0x2F | 0x30 | 0x31 | 0x32 | 0x36 | 0x38 | 0x3B | 0x40 | 0x41 | 0x42 => 2
    | 0x35 => if s.isActive then 3 else 2
    | 0x28 | 0x3A | 0x3C | 0x43 | 0x44 => 4
    | _ => 3

/-- A source reports fault, or its path is broken. -/
def State.srcNow (s : State) (src : Nat) : Bool := s.bit (R.fcolNowFault (src / 64)) (src % 64)

/-- The path of a source is broken. -/
def State.srcBroken (s : State) (src : Nat) : Bool := s.bit (R.fcolBrokenBroken (src / 64)) (src % 64)

/-- OPEN follows the sources (R449). -/
def State.setOpen (s : State) : State :=
  s.setFld R.fcolStatusOpen (min 255 (((List.range 0x45).filter fun i => s.srcNow i || s.srcBroken i).length))

/-- The module is fit (R313): standing conditions of every state. -/
def State.fitNow (s : State) : Bool :=
  s.fld R.cmpStatusBarred == 0 && !s.acc.opened && !s.pair.unfit &&
    [0x2A, 0x2C, 0x2F, 0x30, 0x35].all fun i => !s.srcNow i && !s.srcBroken i

/-- FIT of a STANDBY module follows its conditions (R313). -/
def State.refit (s : State) : State :=
  if s.pstate = psStandby then s.setFlag R.pairStateFit (s.fitNow && s.pair.booksEqual) else s

/-! ### Records (R436 to R439) -/

/-- STAMP as FCOL counts it (R438). -/
def State.fcolStamp (s : State) : Nat := s.fcol.copy + (s.tb 3 - s.fcol.copy) / 40 * 40

/-- Word 0 of an entry (R436). -/
def State.entryWord0 (s : State) (r : Report) : Nat :=
  r.src + 2 ^ 7 + s.srcClass r.src * 2 ^ 8 + (if r.broken then 2 ^ 11 else 0) + (if s.fcol.local_ then 2 ^ 12 else 0) +
    s.pstate * 2 ^ 13 + s.fcol.seq % 2 ^ 16 * 2 ^ 16 + r.detail % 2 ^ 32 * 2 ^ 32

/-- An entry written at HEAD (R437). -/
def State.histPut (s : State) (w0 stamp : Nat) : State :=
  let h := s.fld R.fcolHeadHead
  let s := (s.setFld (R.fcolHist0 h) w0).setFld (R.fcolHist1 h) stamp
  (s.incMod R.fcolHeadHead).incMod R.fcolHeadTotal

/-- FAULT_REPORTED for an entry of class B or higher (R437, R532). -/
def State.faultEvent (s : State) (w0 stamp : Nat) : State := s.raise evFaultReported (leBytes 8 w0 ++ leBytes 8 stamp)

/-- A report recorded: the state of its source, its count, entry and event; the Status FAULT flag and the Reclaim count (R285, R316,
R426, R430). -/
def State.recordReport (s : State) (r : Report) : State :=
  let s := { s with fcol := { s.fcol with seq := s.fcol.seq + 1 } }
  let s := if r.broken then s.setBit (R.fcolBrokenBroken (r.src / 64)) (r.src % 64) true
    else if occursOnly r.src then s else s.setBit (R.fcolNowFault (r.src / 64)) (r.src % 64) true
  let s := s.setOpen
  let w0 := s.entryWord0 r
  let stamp := s.fcolStamp
  if s.srcClass r.src = 1 then
    let s := s.incSat R.fcolStatusAcount
    let due := match mget none s.fcol.aAt r.src with | none => true | some t => decide (t + 1000000000 ≤ s.tb 3)
    if due then
      { s with fcol := { s.fcol with aAt := mput none s.fcol.aAt r.src (some (s.tb 3)) } }.histPut w0 stamp
    else s
  else
    let s := (s.histPut w0 stamp).faultEvent w0 stamp
    { s with pair := { s.pair with faultUntil := s.tb 3 + 1000000000, reclaimFrom := s.pair.reclaimFrom.map fun _ => s.tb 3 } }

/-- FIRST and WORST for the reports of one clock (R439). `w0`, `stamp` and `cls` belong to the highest class, lower source first. -/
def State.firstLatch (s : State) (w0 stamp cls : Nat) : State :=
  let s := if s.flag R.fcolFirst0Valid then s else (s.setFld R.fcolFirst0 w0).setFld R.fcolFirst1Stamp stamp
  s.setFld R.fcolStatusWorst (max cls (s.fld R.fcolStatusWorst))

/-! ### Reactions (R429 to R435) -/

/-- The step of the class D reaction that a receiving block performs (R351, R432, R442): ALIVE_OUT static, SAFE in the Status records with Wake,
relay and forward stopped, lanes and flips stopped, field outputs open, SAFE frames in place of OUTPUT traffic, a channel listen-only. -/
def State.lineStep (s : State) (b : LineBlock) : State :=
  match b with
  | .rstc => { s with pair := { s.pair with aliveStop := true } }
  | .pair => { s with pair := { s.pair with lineSafe := true } }
  | .lanes => (List.range 8).foldl (fun (s : State) l => s.modLane l fun ln => { ln with stopped := true }) { s with flipStop := true }
  | .fld => s.openLine
  | .stn =>
    let s := s.setFlag R.stnSafeSafeTx true
    if s.flag R.stnSafeStopped then s else s.stn.safeSet.foldl (fun s f => s.ringSend (ringOf f.station) f) s
  | .can n => s.canListen n.val

/-- The receivers of the class D reaction lines (R442). -/
def lineBlocks : List LineBlock := [.rstc, .pair, .lanes, .fld, .stn, .can 0, .can 1]

/-- The class D reaction (R432): every block performs its step in hardware; the module is SAFE, where it has no execution mode (R6); the
escalation count begins (R433). -/
def State.classD (s : State) : State :=
  if s.flag R.fcolStatusSafe then s
  else
    let s := s.setFlag R.fcolStatusSafe true
    let s := { s with pair := { s.pair with handover := none, waitOut := [] }, fcol := { s.fcol with cAt := none, dAt := some (s.tb 3) } }
    let s := lineBlocks.foldl (fun s b => s.lineStep b) s
    s.endProgram.enter psSafe

/-- The partner is STANDBY with FIT 1 and the pair link up (R431). -/
def State.fitPartner (s : State) : Bool := s.flag R.pairLinkUp && s.partner == psStandby && s.flag R.pairStatePfit

/-- The class C reaction to one source (R431, R435). -/
def State.classC (s : State) (src : Nat) : State :=
  let p := s.pstate
  if s.flag R.fcolStatusSafe ∨ s.flag R.fcolStatusCPending ∨ p = psSafe then s
  else if p = psActive ∧ s.fitPartner then
    let s := { s with flipStop := true, fcol := { s.fcol with cAt := some (s.tb 3, src) } }
    let s := (s.setFlag R.fcolStatusInhibit true).setFlag R.fcolStatusCPending true
    s.notice 1 0
  else if s.isActive then
    match s.spareLane with
    | some sp => if src < 8 then s.spareFor src sp else s.classD
    | none => s.classD
  else if p = psStandby ∨ p = psSyncing ∨ p = psDetached then
    let s := s.setFlag R.pairStateFit false
    { s with pair := { s.pair with unfit := true } }
  else s.classD

/-- Reports in order of source ID. -/
def insertReport (r : Report) : List Report → List Report
  | [] => [r]
  | x :: l => if r.src ≤ x.src then r :: x :: l else x :: insertReport r l

/-- An occurrence of a source belongs to its report of less than 6 I20 clocks ago: 4 of code 10 and 2 of 01 (R633). -/
def State.inPulse (s : State) (src : Nat) : Bool :=
  occursOnly src && (mget none s.fcol.pulseAt src).any fun t => decide (s.tb 3 < t + 240)

/-- The pulses of the occurrences among reports taken begin (R633). -/
def State.pulses (s : State) (rs : List Report) : State :=
  let now := (rs.filter fun r => occursOnly r.src).map (·.src)
  { s with fcol := { s.fcol with pulseAt := now.foldl (fun m src => mput none m src (some (s.tb 3))) s.fcol.pulseAt } }

/-- Reports that FCOL takes in one I20 clock (R429, R437, R444): the source under test is skipped, and so is a source that already holds
its report (R426), or whose pulse the occurrence belongs to (R633). -/
def State.takeReports (s : State) (rs : List Report) : State :=
  if s.fcol.clkOut then s
  else
    let test := s.flag R.fcolCtrlTest && s.fld R.fcolTestPattern != 0
    let rs := (rs.foldr insertReport []).filter fun r =>
      decide (r.src < 0x45) && !(test && s.fld R.fcolTestSource == r.src) && !s.srcBroken r.src &&
        (r.broken || (!s.srcNow r.src && !s.inPulse r.src))
    let rs := rs.foldl (fun l (r : Report) => if l.any (fun x => x.src == r.src) then l else l ++ [r]) ([] : List Report)
    let top := rs.foldl (fun m r => max m (s.srcClass r.src)) 0
    let cs := (rs.filter fun r => s.srcClass r.src == 3).map (·.src)
    let s := s.pulses rs
    let s := rs.foldl (fun (x : State × Bool) r =>
      let t := x.1.recordReport r
      let first := !x.2 && decide (2 ≤ top) && s.srcClass r.src == top
      (if first then t.firstLatch (t.entryWord0 r) t.fcolStamp top else t, x.2 || first)) (s, false) |>.1
    let s := if top = 4 then s.classD else if top = 3 then cs.foldl (fun s src => s.classC src) s else s
    let s := if 3 ≤ top then s.logFreeze (s.tb 3) else s
    s.refit

/-- The sources whose path failed the test, reported as broken once TEST is clear (R445); their detail words no rule states (DESIGN CHOICE,
assumption 5). -/
def State.testReports (s : State) : List Report :=
  if s.flag R.fcolCtrlTest then [] else s.fcol.testFail.zipIdx.map fun x => ⟨x.1, (Config.freeWord32 (s.free + x.2)).toNat, true⟩

/-- FAULT_REPORT_TAKEN (R424, R430): in one I20 clock FCOL takes the `n` oldest reports the blocks have queued and the reports of
`found`, faults that a block's own detection finds now (source, detail word). -/
def execFaultReportTaken (n : Nat) (found : List (Fin 69 × BitVec 32)) (s : State) : Host.Outcome State Fault Refusal :=
  let rs := s.reports.take n ++ s.testReports ++ found.map fun f => ⟨f.1.val, f.2.toNat, false⟩
  if s.fcol.clkOut then .next s
  else
    let t := { s with reports := s.reports.drop n }
    let t := if s.flag R.fcolCtrlTest then t else { t with free := t.free + t.fcol.testFail.length, fcol := { t.fcol with testFail := [] } }
    .next (t.takeReports rs)

/-- BROKEN_REPORT_PATH (R425, R442): a broken report path is taken in its source's class; a block that sees the class D lines broken performs its
step. No rule states the detail word a broken path gives (DESIGN CHOICE, assumption 5). -/
def execBrokenReportPath (p : BrokenPath) (s : State) : Host.Outcome State Fault Refusal :=
  match p with
  | .source src => .next (s.nextFree.takeReports [⟨src.val, (Config.freeWord32 s.free).toNat, true⟩])
  | .line b => .next (s.lineStep b)

/-- FAULT_CONDITION_CLEARED (R425, R426): the source shows 01 again. -/
def execFaultConditionCleared (src : Fin 69) (s : State) : Host.Outcome State Fault Refusal :=
  let s := s.setBit (R.fcolNowFault (src.val / 64)) (src.val % 64) false
  let s := s.setBit (R.fcolBrokenBroken (src.val / 64)) (src.val % 64) false
  .next s.setOpen.refit

/-- CLASS_C_RESET_TIMEOUT (R431): 10 ms of TB3 after the HANDOVER notice without a reset. -/
def execClassCResetTimeout (s : State) : Host.Outcome State Fault Refusal :=
  match s.fcol.cAt with
  | some (t, src) =>
    let s := s.to3 (t + 10000000)
    .next ({ s with fcol := { s.fcol with cAt := none } }.takeReports [⟨0x44, src, false⟩])
  | none => .next s

/-! ### The collector's own integrity (R438, R441, R443) -/

/-- COLLECTOR_COPY_MISMATCH (R441): the copies disagree at a register offset. -/
def execCollectorCopyMismatch (off : BitVec 16) (s : State) : Host.Outcome State Fault Refusal :=
  .next (((s.setFlag R.fcolStatusCopyFault true).takeReports [⟨0x43, off.toNat, false⟩]).classD)

/-- ALWAYS_ON_CLOCK_FAULT (R443): the monitor drives the class D lines; FCOL has no clock. -/
def execAlwaysOnClockFault (s : State) : Host.Outcome State Fault Refusal :=
  let s := s.classD
  .next { s with fcol := { s.fcol with clkOut := true } }

/-- ALWAYS_ON_CLOCK_RETURN (R443). -/
def execAlwaysOnClockReturn (s : State) : Host.Outcome State Fault Refusal :=
  if s.fcol.clkOut then .next ({ s with fcol := { s.fcol with clkOut := false } }.takeReports [⟨0x28, 0, false⟩]) else .next s

/-- TB3_COPY_RX (R438). -/
def execTb3CopyRx (s : State) : Host.Outcome State Fault Refusal :=
  .next { s with fcol := { s.fcol with copy := s.tb 3, local_ := false } }

/-- TB3_COPY_TIMEOUT (R438): 10 µs without a copy. -/
def execTb3CopyTimeout (s : State) : Host.Outcome State Fault Refusal :=
  let s := s.to3 (s.fcol.copy + 10000)
  .next { s with fcol := { s.fcol with local_ := true } }

/-! ### Handshakes and scrubbing (R30, R446) -/

/-- HANDSHAKE_TIMEOUT (R30): the access ends with an error, reads return zeros. Detail word of source 26h: requesting island in bits 7
to 0, target in bits 15 to 8 (DESIGN CHOICE, assumption 16). -/
def execHandshakeTimeout (req tgt : Fin 22) (s : State) : Host.Outcome State Fault Refusal :=
  if s.inReset tgt.val then .next s else .next ((s.reply true 0).report 0x26 (req.val + tgt.val * 256))

/-- SRAM_SCRUB_PASS (R446): `err` is a grain whose error the scrubber finds, and whether it was corrected. -/
def execSramScrubPass (err : Option (Fin 786432 × Bool)) (s : State) : Host.Outcome State Fault Refusal :=
  match err with
  | some (g, ok) =>
    if ¬ s.flag R.fcolCfgScrubSram then .next s
    else
      let a := g.val * 64
      let buf := (decide (0x2C00000 ≤ a) && decide (a < 0x2F80000)) || decide (0x2FC0000 ≤ a)
      .next (s.report (if ok then 0x18 else if buf then 0x1A else 0x19) g.val)
  | none => .next s

/-- DRAM_SCRUB_PASS (R446): `err` is a DRAM address whose error the controller finds, and whether it was corrected. -/
def execDramScrubPass (err : Option (Fin 0x200000000 × Bool)) (s : State) : Host.Outcome State Fault Refusal :=
  match err with
  | some (a, ok) =>
    if ¬ s.flag R.fcolCfgScrubDram then .next s
    else
      let own := decide (0x10000000 ≤ a.val) && decide (a.val < 0x80000000)
      .next (s.report (if ok then 0x22 else if own then 0x24 else 0x23) (a.val / 128))
  | none => .next s

/-! ### Register rows (R439, R440, R444, R449) -/

/-- FCOL_LOCK (R449). -/
def execFcolLock (m : Fin 16) (s : State) : Host.Outcome State Fault Refusal :=
  .next (s.reach m.val R.fcolCtrlLock fun s => s.setFlag R.fcolCtrlLocked true)

/-- FCOL_ACLEAR (R440): `occ` is a class A report taken in the same clock. -/
def execFcolAclear (m : Fin 16) (occ : Option (Fin 69 × BitVec 32)) (s : State) : Host.Outcome State Fault Refusal :=
  .next (s.reach m.val R.fcolCtrlAclear fun s =>
    s.clearThen [R.fcolStatusAcount] (occ.map fun o s => s.takeReports [⟨o.1.val, o.2.toNat, false⟩]))

/-- FCOL_FIRST_CLEAR (R439, R440): the episode ends; `occ` are reports taken in the same clock. -/
def execFcolFirstClear (m : Fin 16) (occ : List (Fin 69 × BitVec 32)) (s : State) : Host.Outcome State Fault Refusal :=
  .next (s.reach m.val R.fcolFirst0Valid fun s =>
    let s := (s.setFlag R.fcolFirst0Valid false).setFld R.fcolStatusWorst 0
    if occ.isEmpty then s else s.takeReports (occ.map fun f => ⟨f.1.val, f.2.toNat, false⟩))

/-- A step of the report path test (R444): source, pattern, and what FCOL sees on the path. The detail word of a driven report no rule states (DESIGN
CHOICE, assumption 5). -/
def State.testStep (s : State) (src pattern seen : Nat) : State :=
  let s := (s.setFld R.fcolTestSource src).setFld R.fcolTestPattern pattern
  if pattern = 0 then (s.setFlag R.fcolTestDone false).setFld R.fcolTestSeen 0
  else
    let v := if 0x45 ≤ src then 0 else seen
    let s := (s.setFlag R.fcolTestDone true).setFld R.fcolTestSeen v
    if s.flag R.fcolCtrlTest then
      if v = (if pattern = 1 then 1 else 2) ∨ 0x45 ≤ src ∨ s.fcol.testFail.contains src then s
      else { s with fcol := { s.fcol with testFail := s.fcol.testFail ++ [src] } }
    else if v = 0 then s
    else s.nextFree.takeReports [⟨src, (Config.freeWord32 s.free).toNat, v == 2⟩]

/-- FCOL_TEST_STEP (R444): a source and pattern; `seen` is what FCOL sees on the path: 0 healthy, 1 fault, 2 broken. Outside TEST the
driven pattern is a report like any other. -/
def execFcolTestStep (m : Fin 16) (src : BitVec 7) (pattern : BitVec 2) (seen : Fin 3) (s : State) : Host.Outcome State Fault Refusal :=
  let same := s.fld R.fcolTestSource == src.toNat && s.fld R.fcolTestPattern == pattern.toNat
  if s.flag R.fcolCtrlLocked then .next (s.reachTry m.val R.fcolTestSource fun s => (s, !same))
  else .next (s.reach m.val R.fcolTestSource fun s => s.testStep src.toNat pattern.toNat seen.val)

end Sys2Proof.Machine
end

