-- ==== Sys2Proof/Machine/Field.lean ====
section
/-! DEFINITION. The field island: link, switches, analogue inputs and outputs, read-back, trim, crossfade, hold (R558 to R579, R601). -/

namespace Sys2Proof.Machine

/-! ### Link, switches, hold (R558 to R561, R578, R601) -/

/-- The drive of AOk through its trim (R571, R576). -/
def State.trimmed (s : State) (k : Nat) : Int × Nat :=
  let parts : Nat := if s.field.xfade.isSome then (s.ao k).part * (s.ao k).latched else 20 * s.fld (R.fldAoCmd k)
  let m4 := s.fld (R.fldAoTrimM4 k)
  let span := s.fld (R.fldAoTrimM20 k) - m4
  (4000000 * (20 * span : Nat) + ((parts : Int) - 20 * m4) * 16000000, 20 * span)

/-- The current that the stage of AOk is set to, exactly, as a count of nA over a divisor: the command in force, or its share in a crossfade, through the
two-point trim; under a trim drive the untrimmed stage at its point (R571, R572, R576). -/
def State.stageDrive (s : State) (k : Nat) : Int × Nat :=
  match s.field.trim with
  | some (c, nA, _) => if c = k then (nA, 1) else s.trimmed k
  | none => s.trimmed k

/-- FIELD_LINK_FRAME_RX (R558, R559, R561): the exchange of link frames at TB2 `t` ns; `ok`: a valid frame from the island, which reports its store
voltage. FLD's frame to the island carries switches and drives. -/
def execFieldLinkFrameRx (ok : Bool) (storeMv : BitVec 16) (t : Nat) (s : State) : Host.Outcome State Fault Refusal :=
  let s := s.to2 t
  let ks := [0, 1, 2, 3]
  let s := s.emit (.field ([t, s.fld R.fldStatusClosed] ++ ks.map (fun k => (s.ao k).latched) ++ ks.map (fun k => (s.ao k).part) ++
    ks.map fun k => s.fld (R.fldAoCmd k)) (ks.map s.stageDrive))
  if ¬ ok then .next { s with field := { s.field with good := 0 } }
  else
    let s := { s with field := { s.field with good := min (s.field.good + 1) 16, lastRx := t } }
    let s := s.setFld R.fldStatusStoreMv storeMv.toNat
    if s.field.good = 16 ∧ ¬ s.flag R.fldStatusLink then
      let s := s.setFlag R.fldStatusLink true
      .next (if s.field.firstDue then s else { s with field := { s.field with holdUntil := none } })
    else .next s

/-- FIELD_LINK_LOSS (R559): no valid frame for 300 µs; from the last valid one the island holds each output for the island hold time. Earlier conversions
are no longer available to a start (R567; DEDUCED, assumption 59). -/
def execFieldLinkLoss (s : State) : Host.Outcome State Fault Refusal :=
  if ¬ s.flag R.fldStatusLink then .next s
  else
    let s := s.to2 (s.field.lastRx + 300000)
    let s := (s.setFlag R.fldStatusLink false).incSat R.fldStatusLinkloss
    let s := { s with field := { s.field with good := 0, conv := [], holdUntil := some (s.tb 3 - (s.tb 2 - s.field.lastRx) + s.field.hold) } }
    .next (s.report 0x34 0)

/-- ISLAND_HOLD_EXPIRY (R559, R601): the held AO outputs open, or the hold latch of TPOk releases its pin. -/
def execIslandHoldExpiry (tpo : Option (Fin 4)) (s : State) : Host.Outcome State Fault Refusal :=
  match tpo with
  | none =>
    match s.field.holdUntil with
    | some u => .next (s.to3 u).openOutputs
    | none => .next s
  | some k =>
    if (mget none s.time.held k.val).isNone then .next s
    else
      let s := s.to3 s.time.holdUntil
      .next { s with time := { s.time with held := mput none s.time.held k.val none, driven := mput false s.time.driven k.val false } }

/-- Causes of the open line in being: the class D reaction, a valid fence, I21 held in reset (R560, R613). -/
def State.openCause (s : State) : Bool := s.flag R.fcolStatusSafe || s.flag R.pairFenceValid || s.inReset 21

/-- OPEN_LINE_ASSERT (R560). -/
def execOpenLineAssert (s : State) : Host.Outcome State Fault Refusal := .next (if s.openCause then s.openLine else s)

/-- FLD_FIRST_SWITCH_COMMAND (R601): switches open after the release of I19. -/
def execFldFirstSwitchCommand (s : State) : Host.Outcome State Fault Refusal :=
  if s.field.firstDue then
    let s := s.openOutputs
    .next { s with field := { s.field with firstDue := false } }
  else .next s

/-- FIELD_STORE_READY (R578). -/
def execFieldStoreReady (s : State) : Host.Outcome State Fault Refusal := .next (s.setFlag R.fldStatusReady true)

/-! ### Analogue inputs (R564 to R568) -/

/-- The channel's loop power stage is on (R564, R579, R600). -/
def State.loopOn (s : State) (k : Nat) : Bool := s.field.loops.testBit k

/-- A condition of R573 on read-back `rb` of AOk: 0 OPEN, 1 COMPLIANCE, 2 STAGE. -/
def State.aoCond (s : State) (k i : Nat) : Bool :=
  let rb := s.fld (R.fldAoReadback k)
  let cmd := s.fld (R.fldAoCmd k)
  let off := if rb ≤ cmd then cmd - rb else rb - cmd
  let lim := (s.ao k).limit
  match i with
  | 0 => decide (rb < 500000) && decide (4000000 < cmd)
  | 1 => decide (200000 < off) && lim
  | _ => decide (500000 < off) && !lim

/-- The read-back of AOk is judged at TB2 `t`: switch closed, no crossfade, 2 ms past either (R573). -/
def State.aoJudged (s : State) (k t : Nat) : Bool :=
  s.bit R.fldStatusClosed k && s.field.xfade.isNone && decide ((s.ao k).judgeFrom ≤ t)

/-- A read-back window: since when each condition holds, read-backs without it. -/
def State.aoWindow (s : State) (k t : Nat) : State :=
  [0, 1, 2].foldl (fun s i =>
    let on := s.aoJudged k t && s.aoCond k i
    s.modAo k fun a =>
      if on then { a with since := mput none a.since i (some ((mget none a.since i).getD t)), miss := mput 0 a.miss i 0 }
      else { a with since := mput none a.since i none, miss := mput 0 a.miss i (min 2 (mget 0 a.miss i + 1)) }) s

/-- AI_CONVERSION_END (R565, R573, R590): the windows that end at TB2 `t` ns, an integer multiple of 1 ms: each input's current in nA and loop
stage at its limit, each output's read-back and stage at the end of its range; one entry of Q228, whose layout no rule gives (DESIGN CHOICE, assumption 5). -/
def execAiConversionEnd (t : Nat) (ai : List (BitVec 28 × Bool)) (ao : List (BitVec 28 × Bool)) (s : State) : Host.Outcome State Fault Refusal :=
  if t % 1000000 ≠ 0 ∨ ¬ s.flag R.fldStatusLink ∨ ¬ s.flag R.fldStatusReady then .next s
  else
    let s := s.to2 t
    let stamp := s.stampNow
    let s := (List.range 8).foldl (fun s k =>
      match ai[k]? with
      | some (i, sh) =>
        let s := ((s.setFld (R.fldAiCurrent k) i.toNat).setFlag (R.fldAiOpen k) (decide (i.toNat < 500000))).setFlag (R.fldAiShort k) sh
        let s := (s.setFlag (R.fldAiOver k) (decide (24000000 ≤ i.toNat))).setFlag (R.fldAiLoop k) (s.loopOn k)
        let l := (⟨t, stamp, i.toNat, sh⟩ :: mget [] s.field.conv k).take 64
        { s with field := { s.field with conv := mput [] s.field.conv k l } }
      | none => s) s
    let s := [0, 1, 2, 3].foldl (fun s k =>
      match ao[k]? with
      | some (rb, lim) => ((s.setFld (R.fldAoReadback k) rb.toNat).modAo k fun a => { a with limit := lim }).aoWindow k t
      | none => s) s
    .next ({ s with free := s.free + 8 }.qPass 228 ((List.range 8).map fun i => Config.freeWord (s.free + i)))

/-- nA as REAL64 mA over a count, rounded to nearest (R566). -/
def meanAmps (sum n : Nat) : W64 := opFDiv (opIToF (BitVec.ofNat 64 sum)) (opIToF (BitVec.ofNat 64 (n * 1000000)))

/-- The quality and status bits of an AI value from the conversions used (R567): mean `sum` over `n`, NAMUR. -/
def aiJudge (us : List AiConv) (namur : Bool) : Nat × Nat :=
  let n := us.length
  let sum := us.foldl (fun a u => a + u.cur) 0
  let opn := if sum < 500000 * n then 1 else 0
  if n = 0 then (0, 32)
  else if us.any (·.short) then (0, 2 + opn)
  else if us.any fun u => decide (24000000 ≤ u.cur) then (0, 4 + opn)
  else if namur ∧ sum ≤ 3600000 * n then (0, 8 + opn)
  else if namur ∧ 21000000 * n ≤ sum then (0, 16 + opn)
  else if namur ∧ (sum < 3800000 * n ∨ 20500000 * n < sum) then (2, opn)
  else (4, opn)

/-- Positions 0 and 1 of AIk before nominal start `start` of its class (R566 to R568). -/
def State.aiWrite (s : State) (c k start : Nat) : State :=
  match s.fieldSig k 0 1 with
  | none => s
  | some sig =>
    if (s.dirEntry sig).cls ≠ c then s
    else
      let cfg := ((s.fieldCfg c).bind fun f => f.ai[k]?).getD ⟨false, true, 1⟩
      let up := s.flag R.fldStatusLink && s.flag R.fldStatusReady
      let us := if up then ((mget [] s.field.conv k).filter fun u => decide (u.at2 + 500000 ≤ start)).take (max 1 cfg.filter) else []
      let (q, bits) := aiJudge us cfg.namur
      let old := s.recAt (recAddr (!s.front (s.dirEntry sig).cls 1) sig)
      let stamp := us.head?.elim old.stamp (·.stamp)
      let value := if us.isEmpty then old.value else meanAmps (us.foldl (fun a u => a + u.cur) 0) us.length
      let status := bits + (if s.loopOn k then 64 else 0)
      let s := s.ownedWrite 8 0 sig value stamp q
      let s := match s.fieldSig k 1 1 with
        | some g => s.ownedWrite 8 0 g (BitVec.ofNat 64 status) stamp 4
        | none => s
      let bad := mget false s.field.aiBad k
      let now := status % 32 != 0
      let s := { s with field := { s.field with aiBad := mput false s.field.aiBad k now } }
      if now ∧ ¬ bad then s.raise 0x0A00 (leBytes 1 k ++ leBytes 8 status)
      else if ¬ now ∧ bad then s.raise 0x0A01 (leBytes 1 k) else s

/-- The AO status word (R574). -/
def State.aoStatus (s : State) (k : Nat) : Nat :=
  s.fld (R.fldAoFlags k) % 8 + (if s.bit R.fldStatusClosed k then 8 else 0) + (if s.flag R.fldStatusXfade then 16 else 0) +
    (if s.flag R.fldStatusLink then 0 else 32)

/-- Positions 2 and 3 of AOk before a start of the class that owns them (R573, R574). -/
def State.aoWrite (s : State) (c k : Nat) : State :=
  let kept := fun (sig : Nat) => (s.recAt (recAddr (!s.front (s.dirEntry sig).cls 1) sig)).stamp
  let stamp := fun (sig : Nat) => ((List.range 8).findSome? fun i => (mget [] s.field.conv i).head?).elim (kept sig) (·.stamp)
  let q := if s.flag (R.fldAoFlagsOpen k) then 0
    else if s.flag (R.fldAoFlagsCompliance k) then 3
    else if s.flag (R.fldAoFlagsStage k) then 0
    else if s.bit R.fldStatusClosed k ∧ s.field.xfade.isNone then 4 else 2
  let s := match s.fieldSig k 2 1 with
    | some sig => if (s.dirEntry sig).cls = c then s.ownedWrite 8 0 sig (meanAmps (s.fld (R.fldAoReadback k)) 1) (stamp sig) q else s
    | none => s
  match s.fieldSig k 3 1 with
  | some sig => if (s.dirEntry sig).cls = c then s.ownedWrite 8 0 sig (BitVec.ofNat 64 (s.aoStatus k)) (stamp sig) 4 else s
  | none => s

/-- AI_VALUE_WRITE (R566, R573): the Binnacle writes the field values that class c's start at TB2 `start` ns freezes. -/
def execAiValueWrite (c : Fin 8) (start : Nat) (s : State) : Host.Outcome State Fault Refusal :=
  if s.book.running.isNone ∨ ¬ (s.isActive ∨ s.isFollower) then .next s
  else
    let s := (List.range 8).foldl (fun s k => s.aiWrite c.val k start) s
    .next ([0, 1, 2, 3].foldl (fun s k => s.aoWrite c.val k) s)

/-! ### Analogue outputs (R569 to R573) -/

/-- AO_APPLY (R570, R576, R601): the island applies the command formed at the latest publication; the switch of a module in the active role
closes with the program's first publication. A crossfade or trim drive keeps the output. -/
def execAoApply (k : Fin 4) (s : State) : Host.Outcome State Fault Refusal :=
  let trim := s.field.trim.elim false fun t => t.1 == k.val
  if ¬ (s.ao k.val).due ∨ s.field.xfade.isSome ∨ trim then .next s
  else
    let s := s.aoDrive k.val
    .next (if s.isActive then s.closeSwitch k.val else s)

/-- AO_READBACK_JUDGE (R573): flags set by conditions that have persisted for 2 ms, cleared after two read-backs without them. -/
def execAoReadbackJudge (k : Fin 4) (s : State) : Host.Outcome State Fault Refusal :=
  let k := k.val
  let t := s.tb 2
  let flag := fun i => if i = 0 then R.fldAoFlagsOpen k else if i = 1 then R.fldAoFlagsCompliance k else R.fldAoFlagsStage k
  let latch := fun i => if i = 0 then R.fldAoFlagsOpenL k else if i = 1 then R.fldAoFlagsComplL k else R.fldAoFlagsStageL k
  let cmd := s.fld (R.fldAoCmd k)
  let rb := s.fld (R.fldAoReadback k)
  let was := s.fld (R.fldAoFlags k) % 8 != 0
  let s := [0, 1, 2].foldl (fun (s : State) i =>
    if s.flag (flag i) then
      (if 2 ≤ mget 0 (s.ao k).miss i then s.setFlag (flag i) false else s)
    else
      match mget none (s.ao k).since i with
      | some u =>
        if u + 2000000 ≤ t then
          let s := (s.setFlag (flag i) true).setFlag (latch i) true
          if i = 0 then (s.report 0x36 k).raise 0x0A03 (leBytes 1 k ++ leBytes 4 cmd)
          else if i = 1 then (s.report 0x36 (k + 256)).raise 0x0A02 (leBytes 1 k ++ leBytes 4 cmd ++ leBytes 4 rb)
          else s.report 0x35 k
        else s
      | none => s) s
  .next (if was ∧ s.fld (R.fldAoFlags k) % 8 = 0 then s.raise 0x0A04 (leBytes 1 k) else s)

/-! ### Trim (R571, R572) -/

/-- A trim drive ends: the output returns to its command. -/
def State.trimEnd (s : State) : State := { s with field := { s.field with trim := none } }

/-- A trim may act on a channel (R572): active role, command signal unused or its class stopped. -/
def State.trimOk (s : State) (k : Nat) : Bool :=
  s.isActive && (match s.fieldSig (8 + k) 0 0 with
    | none => true
    | some sig => (s.cls (s.dirEntry sig).cls).mode == 0)

/-- A step of FIELD_TRIM: 0 DRIVE4, 1 SET4, 2 DRIVE20, 3 SET20, 4 COMMIT; whether it is accepted (R572). -/
def State.trimStep (s : State) (k step amps : Nat) : State × Bool :=
  let s := if s.field.trim.elim false fun t => t.1 != k then s.trimEnd else s
  match step with
  | 0 => ({ s with field := { s.field with trim := some (k, 4000000, s.tb 3) } }, true)
  | 1 => (s.modAo k fun a => { a with m4 := some amps }, true)
  | 2 => ({ s with field := { s.field with trim := some (k, 20000000, s.tb 3) } }, true)
  | 3 => (s.modAo k fun a => { a with m20 := some amps }, true)
  | _ =>
    match (s.ao k).m4, (s.ao k).m20 with
    | some a, some b =>
      if 3900000 ≤ a ∧ a ≤ 4100000 ∧ 19900000 ≤ b ∧ b ≤ 20100000 then
        let s := ((s.setFld (R.fldAoTrimM4 k) a).setFld (R.fldAoTrimM20 k) b).trimEnd
        let s := { s with field := { s.field with trims := mput trimNominal s.field.trims k (a, b) } }
        let s := s.modAo k fun x => { x with m4 := none, m20 := none }
        (s.raise 0x0A05 (leBytes 1 k ++ leBytes 4 a ++ leBytes 4 b), true)
      else (s, false)
    | _, _ => (s, false)

/-- FIELD_TRIM_TIMEOUT (R572): a trim drive lapses 10 min of TB3 after its start. -/
def execFieldTrimTimeout (s : State) : Host.Outcome State Fault Refusal :=
  match s.field.trim with
  | some (_, _, u) => .next (s.to3 (u + 600000000000)).trimEnd
  | none => .next s

/-! ### Crossfade (R309, R576) -/

/-- The crossfade begins at TB2 `h` ns: commands in force latched (R576). -/
def State.xfadeBegin (s : State) (h : Nat) (new : Bool) : State :=
  let s := [0, 1, 2, 3].foldl (fun (s : State) k =>
    let cmd := s.fld (R.fldAoCmd k)
    s.modAo k fun a => { a with latched := cmd, part := if new then 0 else 20 }) s
  let s := if new then s.closeOutputs else s
  { s with field := { s.field with xfade := some (h, new) } }.setFlag R.fldStatusXfade true

/-- The crossfade ends: the new active applies the latest command, the old one opens its switches (R309, R576). -/
def State.xfadeEnd (s : State) (new : Bool) : State :=
  let s := { s with field := { s.field with xfade := none } }.setFlag R.fldStatusXfade false
  if new then
    let t := s.tb 2
    [0, 1, 2, 3].foldl (fun s k => (s.aoDrive k).modAo k fun a => { a with judgeFrom := t + 2000000 }) s
  else s.openOutputs

/-- Step j of the crossfade (R576). -/
def State.xfadeStep (s : State) (j : Nat) : State :=
  match s.field.xfade with
  | none => s
  | some (h, new) =>
    let s := s.to2 (h + j * 100000)
    let s := [0, 1, 2, 3].foldl (fun (s : State) k => s.modAo k fun a => { a with part := if new then j else 20 - j }) s
    if 20 ≤ j then s.xfadeEnd new else s

/-! ### Register rows (R589) -/

/-- FLD_LINKLOSS_CLEAR: `occ` is a link loss of the same clock. -/
def execFldLinklossClear (m : Fin 16) (occ : SameClock) (s : State) : Host.Outcome State Fault Refusal :=
  .next (s.reach m.val R.fldStatusClear fun s =>
    s.clearThen [R.fldStatusLinkloss] (if occ then some fun s => s.incSat R.fldStatusLinkloss else none))

/-- FLD_AO_FLAGS_CLEAR: the latched bits of `mask` (0 OPEN, 1 COMPLIANCE, 2 STAGE); `occ` is a latch that sets in the same clock. -/
def execFldAoFlagsClear (m : Fin 16) (k : Fin 4) (mask : BitVec 3) (occ : Option (Fin 3)) (s : State) : Host.Outcome State Fault Refusal :=
  let f := fun (i : Nat) => if i = 0 then R.fldAoFlagsOpenL k.val else if i = 1 then R.fldAoFlagsComplL k.val else R.fldAoFlagsStageL k.val
  .next (s.reach m.val (R.fldAoFlagsOpenL k.val) fun s =>
    s.clearThen (([0, 1, 2].filter fun i => mask.toNat.testBit i).map f) (occ.map fun i s => s.setFlag (f i.val) true))

end Sys2Proof.Machine
end

