-- ==== Sys2Proof/Machine/Can.lean ====
section
/-! DEFINITION. The cabinet bus: rates, message objects, filters and FIFOs, WATCH frames, fault confinement (R580 to R590). -/

namespace Sys2Proof.Machine

/-! ### Configuration (R586, R588) -/

/-- A write of CANn_CTRL (R588): a value not listed leaves its field; a change of NOMINAL or DATA waits for bus idle. -/
def State.canCtrl (s : State) (n : Nat) (v : W64) : State × Bool :=
  let nom := getBits v 0 3
  let dat := getBits v 3 3
  let badN := decide (4 < nom)
  let badD := decide (4 < dat)
  let chN := !badN && nom != s.fld (R.canCtrlNominal n)
  let chD := !badD && dat != s.fld (R.canCtrlData n)
  let s := if badN then s else s.setFld (R.canCtrlNominal n) nom
  let s := if badD then s else s.setFld (R.canCtrlData n) dat
  let s := (s.setFld (R.canCtrlAutoRec n) (getBits v 6 1)).setFld (R.canCtrlWatchEn n) (getBits v 7 1)
  let s := s.setFld (R.canCtrlWatchId n) (getBits v 8 11)
  (s.modCan n fun x => { x with nomDue := x.nomDue || chN, dataDue := x.dataDue || chD }, badN || badD)

/-- CAN_CTRL_WRITE (R588). -/
def execCanCtrlWrite (m : Fin 16) (n : Fin 2) (v : W64) (s : State) : Host.Outcome State Fault Refusal :=
  .next (s.reachTry m.val (R.canCtrlNominal n.val) fun s => s.canCtrl n.val v)

/-- CAN_CONFIG at its effect instant (R586, R592): channel settings and all 64 filters, kept in the state area (R588). -/
def State.canConfig (s : State) (c : CanCfg) : State :=
  let w := c.nominal + c.data * 8 + (if c.autoRec then 64 else 0) + (if c.watchEn then 128 else 0) + c.watchId * 256
  let s := { s with bin := { s.bin with canCfg := mput none s.bin.canCfg c.ch (some c) } }
  let s := (s.canCtrl c.ch (BitVec.ofNat 64 w)).1
  (List.range 64).foldl (fun s i =>
    let f := c.filters.getD i ⟨0, false, 0, 0⟩
    let s := s.setReg (R.canFlt0 c.ch i).addr (BitVec.ofNat 64 (f.mtch % 2 ^ 29 + (if f.ide then 2 ^ 29 else 0) + f.action % 4 * 2 ^ 30))
    s.setReg (R.canFlt1 c.ch i).addr (BitVec.ofNat 64 (f.mask % 2 ^ 29))) s

/-- Words 2 to 9 of an object's address. -/
def canObjData (n k i : Nat) : Nat := (R.canObj n k).addr + 16 + 8 * i

/-- CAN_OBJECT at its effect instant: both words and the data (R586, R592); NEW and COUNT belong to the channel. -/
def State.canObject (s : State) (c : CanObjCfg) : State :=
  let s := { s with bin := { s.bin with canObj := mput none s.bin.canObj (256 * c.ch + c.obj) (some c) } }
  let s := s.setReg (R.canObj c.ch c.obj).addr (BitVec.ofNat 64 (c.w0.toNat % 2 ^ 41))
  let s := s.setFld (R.canObj1Period c.ch c.obj) (c.w1.toNat % 2 ^ 16)
  (List.range 8).foldl (fun s i => s.setReg (canObjData c.ch c.obj i) (c.data.getD i 0)) s

/-! ### Fault confinement (R587) -/

/-- TEC, REC, error state and errors after a bus event, as ISO 11898-1 gives them; the events of a change of state. -/
def State.canFault (s : State) (n : Nat) (x : Option CanConf) : State :=
  match x with
  | none => s
  | some x =>
    let old := s.fld (R.canStatusErrstate n)
    let s := (s.setFld (R.canStatusTec n) x.tec.toNat).setFld (R.canStatusRec n) x.rec_.toNat
    let s := (s.setFld (R.canStatusErrstate n) x.err.val).addSat (R.canCntErrors n) x.errors
    if x.err.val = old then s
    else if x.err.val = 1 then s.raise 0x0B01 (leBytes 1 n ++ leBytes 1 x.tec.toNat ++ leBytes 1 x.rec_.toNat)
    else if x.err.val = 2 then s.raise 0x0B02 (leBytes 1 n)
    else s.raise 0x0B03 (leBytes 1 n)

/-- The channel leaves bus-off. -/
def State.canRecovered (s : State) (n : Nat) : State :=
  let s := ((s.setFld (R.canStatusErrstate n) 0).setFld (R.canStatusTec n) 0).setFld (R.canStatusRec n) 0
  (s.modCan n fun x => { x with recovering := false }).raise 0x0B03 (leBytes 1 n)

/-- CAN_BUS_OFF_RECOVERY (R587): 128 occurrences of 11 recessive bits have passed. -/
def execCanBusOffRecovery (n : Fin 2) (s : State) : Host.Outcome State Fault Refusal :=
  if s.fld (R.canStatusErrstate n.val) = 2 ∧ (s.flag (R.canCtrlAutoRec n.val) ∨ (s.canOf n.val).recovering) then .next (s.canRecovered n.val)
  else .next s

/-! ### Transmission (R583, R585) -/

/-- The channel may transmit: normal mode, not bus-off. -/
def State.canTalks (s : State) (n : Nat) : Bool := s.fld (R.canStatusMode n) == 3 && s.fld (R.canStatusErrstate n) != 2

/-- Data bytes of an object. -/
def State.canBytes (s : State) (n k : Nat) : List Byte :=
  ((List.range 8).flatMap fun i => leBytes 8 (s.reg (canObjData n k i)).toNat).take (s.fld (R.canObjLen n k))

/-- A transmission of an object completes: TXOK, NEW, COUNT. -/
def State.canSent (s : State) (n k : Nat) : State :=
  let s := s.emit (.can n (s.fld (R.canObjId n k)) (s.flag (R.canObjIde n k)) (s.flag (R.canObjFdf n k)) (s.canBytes n k))
  let s := (s.incSat (R.canCntTxok n)).setFlag (R.canObj1New n k) true
  (s.incMod (R.canObj1Count n k)).modCan n fun x => { x with pend := x.pend.filter fun j => j != k }

/-- A transmission of an object is due: it replaces the pending one; `sent`: it completes now, else it stays pending. -/
def State.canDue (s : State) (n k : Nat) (sent : Bool) : State :=
  let s := s.modCan n fun x => { x with pend := (x.pend.filter fun j => j != k) ++ [k] }
  if sent then s.canSent n k else s

/-- CAN_PERIODIC_TX (R583) at TB2 `t` ns: object k falls due; `sent`: the bus carries it now; fault confinement after it. -/
def execCanPeriodicTx (n : Fin 2) (k : Fin 256) (t : Nat) (sent : Bool) (conf : Option CanConf) (s : State) : Host.Outcome State Fault Refusal :=
  let p := s.fld (R.canObj1Period n.val k.val)
  if s.canTalks n.val ∧ s.flag (R.canObjEn n.val k.val) ∧ s.flag (R.canObjTx n.val k.val) ∧ p ≠ 0 ∧ t % (p * 1000000) = 0 then
    .next (((s.to2 t).canDue n.val k.val sent).canFault n.val conf)
  else .next s

/-- CAN_SEND at its effect instant (R583, R586): sent once by a channel in normal mode. -/
def State.canSendObj (s : State) (n k : Nat) : State :=
  if s.canTalks n ∧ s.flag (R.canObjEn n k) ∧ s.flag (R.canObjTx n k) then s.canDue n k true else s

/-- CAN_WATCH_SEND (R585): a WATCH frame within 1 ms of entering normal mode and every 1 s of TB3 after. -/
def execCanWatchSend (n : Fin 2) (conf : Option CanConf) (s : State) : Host.Outcome State Fault Refusal :=
  if ¬ (s.canTalks n.val ∧ s.flag (R.canCtrlWatchEn n.val)) then .next s
  else
    let due := (s.canOf n.val).watchAt
    let s := s.to3 due
    let data := beBytes 2 s.pairNum ++ beBytes 4 (s.fld R.pairWatchWatch) ++ beBytes 1 (s.fld R.pairStateSlot) ++ beBytes 1 s.pstate
    let s := (s.emit (.can n.val (s.fld (R.canCtrlWatchId n.val)) false false data)).incSat (R.canCntTxok n.val)
    .next ((s.modCan n.val fun x => { x with watchAt := due + 1000000000 }).canFault n.val conf)

/-! ### Reception (R582, R584, R585) -/

/-- The filter whose action a frame meets (R584). -/
def State.canFilter (s : State) (n : Nat) (f : CanRx) : Option Nat :=
  (List.range 64).find? fun i =>
    let m := s.fld (R.canFlt1Mask n i)
    s.fld (R.canFlt0Action n i) != 0 && s.flag (R.canFlt0Ide n i) == f.ide && (f.id &&& m) == (s.fld (R.canFlt0Match n i) &&& m)

/-- Receive objects updated by a frame (R583, R588). -/
def State.canObjects (s : State) (n : Nat) (f : CanRx) : State :=
  (List.range 256).foldl (fun s k =>
    if s.flag (R.canObjEn n k) ∧ ¬ s.flag (R.canObjTx n k) ∧ s.fld (R.canObjId n k) = f.id ∧ s.flag (R.canObjIde n k) = f.ide ∧
        s.flag (R.canObjFdf n k) = f.fdf then
      let pad := (f.data ++ List.replicate 64 0).take 64
      let s := (List.range 8).foldl (fun s i => s.setReg (canObjData n k i) (BitVec.ofNat 64 (ofLe ((pad.drop (8 * i)).take 8)))) s
      (s.setFlag (R.canObj1New n k) true).incMod (R.canObj1Count n k)
    else s) s

/-- A frame put into a FIFO, or dropped, counted and reported at most once per second (R584, R591). -/
def State.canFifo (s : State) (n q : Nat) (e : CanEntry) : State :=
  let l := mget [] (s.canOf n).fifo q
  if l.length < 64 then s.modCan n fun x => { x with fifo := mput [] x.fifo q (l ++ [e]) }
  else
    let s := s.incSat (if q = 0 then R.canCntOvf0 n else R.canCntOvf1 n)
    let now := s.tb 3
    let due := match mget none (s.canOf n).ovfAt q with | none => true | some u => decide (u + 1000000000 ≤ now)
    if due then (s.modCan n fun x => { x with ovfAt := mput none x.ovfAt q (some now) }).raise 0x0B04 (leBytes 1 n ++ leBytes 1 q) else s

/-- A frame received without error: objects, filter and FIFO, the rate found by detection. -/
def State.canRx (s : State) (n : Nat) (f : CanRx) : State :=
  let s := s.incSat (R.canCntRxok n)
  let s := if s.fld (R.canStatusMode n) = 1 then
      let x := s.canOf n
      if 1 ≤ x.streak then
        let s := (s.setFld (R.canStatusRate n) x.probe).setFld (R.canStatusMode n) 2
        ((s.modCan n fun x => { x with streak := 0 }).canFollow n).raise 0x0B00 (leBytes 1 n ++ leBytes 1 x.probe)
      else s.modCan n fun x => { x with streak := x.streak + 1 }
    else s
  let s := s.canObjects n f
  match s.canFilter n f with
  | none => s
  | some i =>
    match s.fld (R.canFlt0Action n i) with
    | 1 => s.canFifo n 0 ⟨f, i, s.tb 0⟩
    | 2 => s.canFifo n 1 ⟨f, i, s.tb 0⟩
    | _ => s

/-- CAN_FRAME_RX (R582 to R584, R587): a frame of another node, or an erroneous one (none). -/
def execCanFrameRx (n : Fin 2) (f : Option CanRx) (conf : Option CanConf) (s : State) : Host.Outcome State Fault Refusal :=
  if s.fld (R.canStatusMode n.val) = 0 then .next s
  else match f with
    | some f => .next ((s.canRx n.val f).canFault n.val conf)
    | none => .next ((s.modCan n.val fun x => { x with streak := 0 }).canFault n.val conf)

/-- CAN_RATE_PROBE (R582): 200 ms without two frames; the next rate. -/
def execCanRateProbe (n : Fin 2) (s : State) : Host.Outcome State Fault Refusal :=
  if s.fld (R.canStatusMode n.val) = 1 then .next (s.modCan n.val fun x => { x with probe := x.probe % 4 + 1, streak := 0 }) else .next s

/-- CAN_WATCH_RX (R585): a WATCH frame of a pair with its Watch number, slot and state. -/
def execCanWatchRx (n : Fin 2) (pair : BitVec 16) (watch : BitVec 32) (slot state : BitVec 8) (s : State) : Host.Outcome State Fault Refusal :=
  if s.fld (R.canStatusMode n.val) = 0 then .next s
  else
    let data := beBytes 2 pair.toNat ++ beBytes 4 watch.toNat ++ beBytes 1 slot.toNat ++ beBytes 1 state.toNat
    let s := s.canRx n.val ⟨s.fld (R.canCtrlWatchId n.val), false, false, false, false, data⟩
    if pair.toNat ≠ s.pairNum then .next s
    else
      let s := s.setFld (R.canStatusSeen n.val) (max watch.toNat (s.fld (R.canStatusSeen n.val)))
      if s.fld R.pairWatchWatch < watch.toNat then
        .next (((s.canListen n.val).setFlag (R.canStatusYielded n.val) true).raise 0x0B05 (leBytes 1 n.val ++ leBytes 4 watch.toNat))
      else .next s

/-- CAN_BUS_IDLE (R582, R588): the first bus idle after a change of NOMINAL or DATA; pending transmissions go out. -/
def execCanBusIdle (n : Fin 2) (s : State) : Host.Outcome State Fault Refusal :=
  let x := s.canOf n.val
  let s := if x.nomDue ∨ x.dataDue then
      let s := s.modCan n.val fun x => { x with nomDue := false, dataDue := false }
      let s := if s.fld (R.canStatusErrstate n.val) ≠ 0 then s.canRecovered n.val
        else (s.setFld (R.canStatusTec n.val) 0).setFld (R.canStatusRec n.val) 0
      let nom := s.fld (R.canCtrlNominal n.val)
      if nom = 0 ∧ x.nomDue then
        ((s.setFld (R.canStatusRate n.val) 0).setFld (R.canStatusMode n.val) 1).modCan n.val fun x => { x with probe := 1, streak := 0 }
      else if nom = 0 then s
      else ((s.setFld (R.canStatusRate n.val) nom).setFld (R.canStatusMode n.val) (max 2 (s.fld (R.canStatusMode n.val)))).canFollow n.val
    else s
  .next (if s.canTalks n.val then (s.canOf n.val).pend.foldl (fun s k => s.canSent n.val k) s else s)

/-- CAN_NORMAL_AFTER_H (R309, R581): the new active's channels at H + 100 µs. -/
def execCanNormalAfterH (s : State) : Host.Outcome State Fault Refusal :=
  if (s.canOf 0).wait ∨ (s.canOf 1).wait then .next s.canNormal else .next s

/-! ### Register rows (R589) -/

/-- Counter k of CANn_CNT: TXOK, RXOK, ERRORS, OVF0, OVF1. -/
def canCounter (n k : Nat) : Fld :=
  match k with
  | 0 => R.canCntTxok n
  | 1 => R.canCntRxok n
  | 2 => R.canCntErrors n
  | 3 => R.canCntOvf0 n
  | _ => R.canCntOvf1 n

/-- CAN_CNT_CLEAR_REG: `occ` is a counter that counts in the same clock. -/
def execCanCntClearReg (m : Fin 16) (n : Fin 2) (occ : Option (Fin 5)) (s : State) : Host.Outcome State Fault Refusal :=
  .next (s.reach m.val (R.canCntClear n.val) fun s =>
    s.clearThen ((List.range 5).map (canCounter n.val)) (occ.map fun k s => s.incSat (canCounter n.val k.val)))

/-- CAN_OBJ_NEW_CLEAR: `occ` is a receipt or transmission of the same clock. -/
def execCanObjNewClear (m : Fin 16) (n : Fin 2) (k : Fin 256) (occ : SameClock) (s : State) : Host.Outcome State Fault Refusal :=
  .next (s.reach m.val (R.canObj1New n.val k.val) fun s =>
    s.clearThen [R.canObj1New n.val k.val] (if occ then some fun s => s.setFlag (R.canObj1New n.val k.val) true else none))

end Sys2Proof.Machine
end

