-- ==== Sys2Proof/Machine/Fabric.lean ====
section
/-! DEFINITION. The plant fabric: adjacencies, the link-state database, routes and trees, soundings, announcements, transit (R356 to
R393). -/

namespace Sys2Proof.Machine

/-- A fabric frame is taken at a port: the module takes part and the port carries fabric frames (R358, R364, R390). -/
def State.fabTakes (s : State) (p : Nat) : Bool := s.flag R.fabCtrlJoined && decide (2 ≤ s.fld (R.fabPortAdj p))

/-! ### Adjacencies (R366, R367, R389, R390) -/

/-- The adjacency of a port changes by a row of R367 that originates an LSR; FAB_ADJ_UP or FAB_ADJ_DOWN. -/
def State.adjGo (s : State) (p new : Nat) : State :=
  let old := s.fld (R.fabPortAdj p)
  let s := s.setFld (R.fabPortAdj p) new
  let s := if new = 3 ∧ old ≠ 3 then s.raise evFabAdjUp [] else if old = 3 ∧ new ≠ 3 then s.raise evFabAdjDown [] else s
  s.originate s.fab.seq

/-- FABRIC_PORT_LINK_UP (R367, R369, R372, R389): `rate10` a 10 Gbit/s link. -/
def execFabricPortLinkUp (p : Fin 2) (rate10 : Bool) (s : State) : Host.Outcome State Fault Refusal :=
  let p := p.val + 2
  if s.flag (R.fabPortLink p) ∨ ¬ s.portOn p then .next s
  else
    let s := s.setFlag (R.fabPortLink p) true
    let dflt := if rate10 then 10 else 100
    let cost := match s.fab.cfg with
      | some c => (if p = 2 then c.cost2 else c.cost3)
      | none => dflt
    let new := s.fld (R.fabPortCost p) != cost
    let s := s.setFld (R.fabPortCost p) cost
    let s := { s with fab := { s.fab with upAt := mput 0 s.fab.upAt p (s.tb 3) } }
    let s := s.setFld (R.fabPortAdj p) (if s.flag R.fabCtrlMacsec then 1 else 2)
    .next (if new then s.originate s.fab.seq else s)

/-- FABRIC_PORT_LINK_DOWN (R367). -/
def execFabricPortLinkDown (p : Fin 2) (s : State) : Host.Outcome State Fault Refusal :=
  let p := p.val + 2
  let s := (s.setFlag (R.fabPortLink p) false).setFlag (R.fabPortSecured p) false
  let s := s.adjGo p 0
  .next ((s.setFld (R.fabPortNaddr p) 0).setFld (R.fabPortNport p) 0)

/-- MKA_SECURED (R367, R389, R472): the secure channel is in use in both directions, agreed from CAK `cak`, a usable key of KEYS slot 1 or 2. -/
def execMkaSecured (p : Fin 2) (cak : Fin 2) (s : State) : Host.Outcome State Fault Refusal :=
  let p := p.val + 2
  if s.fld (R.fabPortAdj p) = 1 ∧ s.keyOk (1 + cak.val) then
    let s := { s with fab := { s.fab with sak := mput 0 s.fab.sak p 1 } }
    .next ((s.setFlag (R.fabPortSecured p) true).setFld (R.fabPortAdj p) 2)
  else .next s

/-- MACSEC_TIMEOUT (R390): 10 s of TB3 after link up. -/
def execMacsecTimeout (p : Fin 2) (s : State) : Host.Outcome State Fault Refusal :=
  let p := p.val + 2
  if s.fld (R.fabPortAdj p) = 1 then .next ((s.to3 (mget 0 s.fab.upAt p + 10000000000)).raise evFabMacsecFail []) else .next s

/-- SAK_REKEY (R390): the next SAK is in use in both directions. -/
def execSakRekey (p : Fin 2) (s : State) : Host.Outcome State Fault Refusal :=
  let p := p.val + 2
  if s.flag (R.fabPortSecured p) then .next { s with fab := { s.fab with sak := mput 0 s.fab.sak p (mget 0 s.fab.sak p + 1) } }
  else .next s

/-- HELLO_SEND (R366). -/
def execHelloSend (p : Fin 2) (s : State) : Host.Outcome State Fault Refusal :=
  let p := p.val + 2
  if ¬ s.fabTakes p then .next s
  else
    let heard := s.fld (R.fabPortNaddr p)
    .next (s.fabSend 1 p 32 0xFFFF s.fabOwn s.fabWatch
      [s.pair.serial, p, s.pstate, s.fld (R.fabPortCost p), if heard = 0 then 0xFFFF else heard,
       if heard = 0 then 0xFF else s.fld (R.fabPortNport p)])

/-- HELLO_RX (R367, R370): at UP the LSRs held go out, each with the AGE it has reached. -/
def execHelloRx (p : Fin 2) (h : Hello) (s : State) : Host.Outcome State Fault Refusal :=
  let p := p.val + 2
  if ¬ s.fabTakes p then .next s
  else
    let s := s.fabSee h.src h.watch
    let s := (s.setFld (R.fabPortNaddr p) h.src).setFld (R.fabPortNport p) h.port
    let s := { s with fab := { s.fab with helloAt := mput 0 s.fab.helloAt p (s.tb 3) } }
    let mine := h.heard == s.fabOwn && h.heardPort == p
    if s.fld (R.fabPortAdj p) = 2 ∧ mine then
      let s := s.adjGo p 3
      .next (s.fab.db.foldl (fun s e =>
        match e.2 with
        | some x =>
          if e.1 = s.fabOwn then s else s.fabSend 2 p 32 0xFFFF e.1 x.l.watch (lsrWords { x.l with age := x.l.age + (s.tb 3 - x.at3) / 1000000000 })
        | none => s) s)
    else if s.fld (R.fabPortAdj p) = 3 ∧ ¬ mine then .next (s.adjGo p 2)
    else .next s

/-- ADJ_HELLO_TIMEOUT (R367): no valid HELLO for 350 ms. -/
def execAdjHelloTimeout (p : Fin 2) (s : State) : Host.Outcome State Fault Refusal :=
  let p := p.val + 2
  if s.fld (R.fabPortAdj p) < 2 then .next s
  else .next ((s.to3 (mget 0 s.fab.helloAt p + 350000000)).adjGo p 2)

/-! ### The link-state database (R361, R368 to R371) -/

/-- LSR_ORIGINATE (R369): its content has changed, or 1,800 s of TB3 have passed. -/
def execLsrOriginate (s : State) : Host.Outcome State Fault Refusal :=
  let same : Bool := match mget none s.fab.db s.fabOwn with
    | some x => x.l == s.ownLsr s.fab.seq
    | none => false
  if same ∧ s.tb 3 < s.fab.lastOrig + 1800000000000 then .next s else .next (s.originate s.fab.seq)

/-- An LSR forwarded on every adjacency in UP but one (R370). -/
def State.flood (s : State) (typ hops src watch : Nat) (payload : List Nat) (except_ : Nat) : State :=
  if hops = 0 then s
  else (s.fabUp.filter fun q => q != except_).foldl (fun s q => s.fabSend typ q (hops - 1) 0xFFFF src watch payload) s

/-- LSR_RX (R361, R369 to R371). -/
def execLsrRx (p : Fin 2) (src : BitVec 16) (hops : Nat) (l : Lsr) (s : State) : Host.Outcome State Fault Refusal :=
  let p := p.val + 2
  let a := src.toNat
  if ¬ s.fabTakes p then .next s
  else
    let s := s.fabSee a l.watch
    if a = s.fabOwn then
      if l.serial ≠ s.pair.serial then
        .next ((s.setFlag R.fabAddrConflict true).setJoined.raise evFabAddrConflict [])
      else if s.fab.seq ≤ l.seq then .next (s.originate l.seq) else .next s
    else
      match mget none s.fab.db a with
      | none =>
        if 8448 ≤ s.fab.db.length then
          let due := match s.fab.fullAt with | none => true | some t => decide (t + 3600000000000 ≤ s.tb 3)
          if due then .next ({ s with fab := { s.fab with fullAt := some (s.tb 3) } }.raise evFabDbFull []) else .next s
        else
          let s := { s with fab := { s.fab with db := mput none s.fab.db a (some ⟨l, s.tb 3⟩) } }
          .next (s.fabDirty.flood 2 hops a l.watch (lsrWords l) p)
      | some x =>
        let s := if x.l.serial = l.serial then s else s.raise evFabAddrConflict []
        if x.l.seq < l.seq then
          let s := { s with fab := { s.fab with db := mput none s.fab.db a (some ⟨l, s.tb 3⟩) } }
          .next (s.fabDirty.flood 2 hops a l.watch (lsrWords l) p)
        else .next s

/-- LSR_AGE_EXPIRY (R370): AGE, advanced each second the LSR is held, reaches 3,600. -/
def execLsrAgeExpiry (src : BitVec 16) (s : State) : Host.Outcome State Fault Refusal :=
  match mget none s.fab.db src.toNat with
  | some x =>
    let s := s.to3 (x.at3 + (3600 - x.l.age) * 1000000000)
    .next ({ s with fab := { s.fab with db := mput none s.fab.db src.toNat none } }.fabDirty)
  | none => .next s

/-! ### Routes and trees (R372 to R375, R381) -/

/-- A node on a shortest-path tree: cost, parent with the parent's port and the node's own, links from the root, root's egress port. -/
structure PathNode where
  addr : Nat
  cost : Nat
  par : Nat
  parPort : Nat
  myPort : Nat
  hops : Nat
  egress : Nat
  deriving DecidableEq, Repr

/-- The LSR of an address in the database. -/
def State.lsrOf (s : State) (a : Nat) : Option Lsr := (mget none s.fab.db a).map (·.l)

/-- The directed links of a node: neighbour, own port, its port, cost (R372). -/
def State.linksOf (s : State) (x : Nat) : List LsrAdj :=
  match s.lsrOf x with
  | none => []
  | some l => l.adj.filter fun a =>
      match s.lsrOf a.addr with
      | some y => y.adj.any fun b => b.addr == x && b.lport == a.nport && b.nport == a.lport
      | none => false

/-- A path to a node precedes another by R373: cost, then parent's address, then its port. -/
def pathBefore (x y : PathNode) : Bool :=
  decide (x.cost < y.cost) || (x.cost == y.cost && (decide (x.par < y.par) || (x.par == y.par && decide (x.parPort < y.parPort))))

/-- A tentative path put among the others, one per node. -/
def relax (n : PathNode) (ts : List PathNode) : List PathNode :=
  match ts.find? fun x => x.addr == n.addr with
  | none => n :: ts
  | some o => if pathBefore n o then n :: ts.filter (fun x => x.addr != n.addr) else ts

/-- The node of least cost, ties to the lower address. -/
def leastOf : List PathNode → Option PathNode
  | [] => none
  | n :: ns =>
    match leastOf ns with
    | none => some n
    | some m => if n.cost < m.cost ∨ (n.cost = m.cost ∧ n.addr < m.addr) then some n else some m

/-- The tree of R373 over paths of at most `most` links, built within `fuel` nodes: tentative nodes, final nodes. -/
def State.spf (s : State) (most : Nat) : Nat → List PathNode → List PathNode → List PathNode
  | 0, _, done => done
  | k + 1, ts, done =>
    match leastOf ts with
    | none => done
    | some v =>
      let done := done ++ [v]
      let ts := ts.filter fun x => x.addr != v.addr
      let ts := if most ≤ v.hops then ts
        else (s.linksOf v.addr).foldl (fun ts a =>
          if done.any fun d => d.addr == a.addr then ts
          else relax ⟨a.addr, v.cost + a.cost, v.addr, a.lport, a.nport, v.hops + 1, if v.hops = 0 then a.lport else v.egress⟩ ts) ts
      s.spf most k ts done

/-- The tree rooted at an address (R373). -/
def State.tree (s : State) (root : Nat) : List PathNode := s.spf 31 (s.fab.db.length + 1) [⟨root, 0, 0, 0, 0, 0, 0⟩] []

/-- The nodes that only paths longer than 31 links reach from an address (R373). -/
def State.tooFar (s : State) (root : Nat) : List Nat :=
  let n := s.fab.db.length + 1
  let near := s.tree root
  ((s.spf n n [⟨root, 0, 0, 0, 0, 0, 0⟩] []).map (·.addr)).filter fun a => !near.any fun x => x.addr == a

/-- WATCH of a slot for the choice of ACTIVE: of its LSR or the highest seen from it (R374, R385). -/
def State.slotWatch (s : State) (a : Nat) : Nat := max ((s.lsrOf a).elim 0 (·.watch)) (mget 0 s.fab.hi a)

/-- A slot's LSR shows ACTIVE or SOLO. -/
def State.slotActs (s : State) (a : Nat) : Bool := (s.lsrOf a).elim false fun l => l.state == 1 || l.state == 5

/-- The ACTIVE slot of a pair: 1 A, 2 B (R374). -/
def State.activeSlot (s : State) (n : Nat) : Option Nat :=
  match s.slotActs (n * 16 + 1), s.slotActs (n * 16 + 2) with
  | true, false => some 1
  | false, true => some 2
  | true, true => some (if s.slotWatch (n * 16 + 1) < s.slotWatch (n * 16 + 2) then 2 else 1)
  | false, false => none

/-- The routes from the tree rooted at the module (R374). -/
def State.routesFrom (s : State) (t : List PathNode) : NMap Route :=
  let at_ := fun a => (t.find? fun n => n.addr == a && n.hops != 0).map fun n => (n.egress, n.cost)
  let keys := ((s.fab.db.map (·.1)).map fun a => if a % 16 = 15 then 4096 + a / 16 else a / 16).eraseDups
  keys.foldl (fun m k =>
    let e : Route := if 4096 ≤ k then ⟨at_ ((k - 4096) * 16 + 15), none, none⟩
      else ⟨at_ (k * 16 + 1), at_ (k * 16 + 2), s.activeSlot k⟩
    mput Route.none_ m k e) []

/-- A node lies in the subtree of another: its chain of parents, within `fuel` links, meets it. -/
def inSubtree (t : List PathNode) (top : Nat) : Nat → Nat → Bool
  | 0, a => a == top
  | k + 1, a => a == top || (match t.find? fun n => n.addr == a && n.hops != 0 with
      | some n => inSubtree t top k n.par
      | none => false)

/-- The forwarding entry of a sounding at this module, from the tree of its publisher's ACTIVE module (R381). -/
def State.treeEnt (s : State) (pair idx : Nat) : Option TreeEnt :=
  (s.activeSlot pair).bind fun slot =>
    let t := s.tree (pair * 16 + slot)
    let me := s.fabOwn
    (t.find? fun n => n.addr == me).bind fun n =>
      let subs := (s.fab.db.filter fun e => (e.2.elim false fun x => x.l.subs.any fun u => u == (pair, idx))).map (·.1)
      let kids := t.filter fun k => k.hops != 0 && k.par == me && subs.any fun a => inSubtree t k.addr 32 a
      let loc := subs.contains me
      if kids.isEmpty ∧ ¬ loc then none
      else some ⟨n.myPort, (kids.map (·.parPort)).eraseDups, loc⟩

/-- Every sounding subscribed in the database, as pair × 64 + index, ascending. -/
def State.soundingIds (s : State) : List Nat :=
  sortNat ((s.fab.db.flatMap fun e => (e.2.elim [] fun x => x.l.subs.map fun u => u.1 * 64 + u.2)).eraseDups)

/-- ROUTE_RECOMPUTE (R375): 20 ms after the first LSR change, routes and sounding entries computed and installed. -/
def execRouteRecompute (s : State) : Host.Outcome State Fault Refusal :=
  match s.fab.dirty with
  | none => .next s
  | some t0 =>
    let s := s.to3 (t0 + 20000000)
    let t := s.tree s.fabOwn
    let far := s.tooFar s.fabOwn
    let ents := s.soundingIds.filterMap fun k => (s.treeEnt (k / 64) (k % 64)).map fun e => (k, e)
    let routes := s.routesFrom t
    let s := { s with fab := { s.fab with dirty := none, routes := routes,
                                          trees := (ents.take 4096).foldl (fun (m : NMap (Option TreeEnt)) (e : Nat × TreeEnt) => mput none m e.1 (some e.2)) [] } }
    let s := s.setFld R.fabDbRoutes ((routes.filter fun e => e.2.a.isSome || e.2.b.isSome).length)
    let s := (s.setFld R.fabDbSoundings (min 4096 ents.length)).incSat R.fabDbSpfRuns
    let s := far.foldl (fun s a => s.raise evFabUnreachable (leBytes 2 a)) s
    .next (if 4096 < ents.length then s.raise evFabTreeFull [] else s)

/-- The egress port toward an address (R374). -/
def State.routeTo (s : State) (dst : Nat) : Option Nat :=
  let n := dst / 16
  let e := mget Route.none_ s.fab.routes (if dst % 16 = 15 then 4096 + n else n)
  let act : Option (Nat × Nat) := match e.active with
    | some 1 => e.a
    | some 2 => e.b
    | _ => none
  match dst % 16 with
  | 0 => act.map (·.1)
  | 1 => e.a.map (·.1)
  | 2 => e.b.map (·.1)
  | 15 => e.a.map (·.1)
  | _ => none

/-! ### Soundings (R381 to R384) -/

/-- SOUNDING_FRAME_RX (R381 to R383) at TB2 `t` ns; `late`: the burst would end within 64 I8 clocks of the class's PAGE_IN flip. -/
def execSoundingFrameRx (p : Fin 2) (f : SoundSeg) (late : Bool) (t : Nat) (s : State) : Host.Outcome State Fault Refusal :=
  let p := p.val + 2
  if ¬ s.fabTakes p then .next s
  else
    let s := (s.to2 t).fabSee f.src f.watch
    match mget none s.fab.trees (f.src / 16 * 64 + f.index) with
    | none => .next s
    | some e =>
      if e.arrive ≠ p then .next s
      else
        let words := [f.index, f.seg, f.nseg, f.first, f.recs.length, f.epoch, f.wake, f.interval, f.layout] ++ f.recs.flatMap recWords
        let s := if f.hops = 0 then (if e.loc then s else s.incSat (R.fabPortCntHops p))
          else e.out.foldl (fun s q => s.fabSend 3 q (f.hops - 1) 0xFFFF f.src f.watch words) s
        if ¬ e.loc then .next s
        else
          let us := s.runBook.elim [] fun b => b.subs.filter fun u => u.pair == f.src / 16 && u.sidx == f.index
          .next (us.foldl (fun s u => s.subSeg u f late) s)

/-- SOUNDING_AGE_CHECK (R384) for the nominal start of class c at TB2 `start` ns. -/
def execSoundingAgeCheck (c : Fin 8) (start : Nat) (s : State) : Host.Outcome State Fault Refusal :=
  let us := (s.clsBook c.val).elim [] fun b => b.subs.filter fun u => s.subClass u.idx == some c.val
  .next (us.foldl (fun s u =>
    let x := s.sub u.idx
    match x.at2 with
    | none => s
    | some w =>
      let age := start - w
      let iv := x.interval * 1000
      let level := if (u.stale + 1) * iv + 2000000 < age then 2 else if iv + 2000000 < age then 1 else 0
      let s := x.quals.foldl (fun s e =>
        match s.subSig u.idx e.1 with
        | some sig => s.qualityWrite 11 0 sig (if level = 2 then 0 else if level = 1 then 1 else e.2)
        | none => s) s
      let s := s.modSub u.idx fun y => { y with level := level }
      if x.level < level then s.raise evSoundingLost (leBytes 1 u.idx ++ leBytes 1 (if level = 2 then 0 else 1)) else s) s)

/-! ### Announcements and transit (R359, R364, R365, R374, R385, R388) -/

/-- ANNOUNCE_RX (R385). -/
def execAnnounceRx (p : Fin 2) (src : BitVec 16) (watch : BitVec 32) (hops : Nat) (s : State) : Host.Outcome State Fault Refusal :=
  let p := p.val + 2
  if ¬ s.fabTakes p then .next s
  else
    let new := decide (s.fabHi (src.toNat / 16) < watch.toNat)
    let s := s.fabSee src.toNat watch.toNat
    .next (if new then s.flood 6 hops src.toNat watch.toNat [] p else s)

/-- An address names this module (R359, R388). -/
def State.fabMine (s : State) (dst : Nat) : Bool := dst == s.fabOwn || (dst == s.pairNum * 16 && s.isActive)

/-- FABRIC_TRANSIT_FRAME_RX (R359, R364, R365, R374, R388): a frame that is discarded or forwarded by route; `full`: the port buffer has no
room. A frame for this module is MBOX_FRAME_RX. -/
def execFabricTransitFrameRx (p : Fin 2) (f : FabFrame) (full : Bool) (s : State) : Host.Outcome State Fault Refusal :=
  let p := p.val + 2
  if ¬ s.fabTakes p ∨ ¬ f.etypeOk ∨ ¬ f.verOk then .next s
  else if full then .next (s.incSat (R.fabPortCntDropped p))
  else if ¬ f.checkOk then .next (s.incSat (R.fabPortCntCrcerr p))
  else if f.typ ≠ 4 ∧ f.typ ≠ 5 then .next s
  else
    let s := s.fabSee f.src f.watch
    if s.fabMine f.dst then .next s
    else if f.dst = 0xFFFF ∨ (3 ≤ f.dst % 16 ∧ f.dst % 16 ≤ 14) ∨ f.dst = s.pairNum * 16 then .next (s.incSat (R.fabPortCntUnreach p))
    else if f.hops = 0 then .next (s.incSat (R.fabPortCntHops p))
    else match s.routeTo f.dst with
      | some q => .next (s.fabSend f.typ q (f.hops - 1) f.dst f.src f.watch f.payload)
      | none => .next (s.incSat (R.fabPortCntUnreach p))

/-! ### Configuration (R360, R361, R372) -/

/-- The module's address from its pair number and slot (R360). -/
def State.fabSetAddr (s : State) (pair : Nat) : State :=
  let s := s.setFld R.fabAddrAddr (pair % 4096 * 16 + (if s.slotB then 2 else 1))
  ((s.setFlag R.fabAddrValid true).setFlag R.fabAddrConflict false).setJoined

/-- FABRIC_CONFIG at its effect instant (R360, R369, R372). -/
def State.fabricConfig (s : State) (c : FabricCfg) : State :=
  let old := s.fabOwn
  let s := { s with fab := { s.fab with cfg := some c } }
  let s := s.fabSetAddr c.pair
  let s := if s.fabOwn = old then s else { s with fab := { s.fab with db := mdel s.fab.db old } }
  let s := if s.flag (R.fabPortLink 2) then s.setFld (R.fabPortCost 2) c.cost2 else s
  let s := if s.flag (R.fabPortLink 3) then s.setFld (R.fabPortCost 3) c.cost3 else s
  s.originate s.fab.seq

end Sys2Proof.Machine
end

