-- ==== Sys2Proof/Machine/Queues.lean ====
section
/-! DEFINITION. QMGR and HOST: index writes, bindings and sessions, the event log and its queues, MSI-X, PCIe apertures, MBOX frames,
fabric message rings (R485 to R489, R493, R495, R501, R506 to R515, R521 to R523, R531 to R535, R584, R590). -/

namespace Sys2Proof.Machine

/-! ### Rings and their owners (R485, R487, R495) -/

/-- The ring's producer is a host. -/
def hostProduces (q : Nat) : Bool := (decide (q < 64) && q % 2 == 0) || (decide (160 ≤ q) && decide (q < 192))

/-- The ring's consumer is a host (R352, R408, R419, R485, R551, R590). -/
def hostConsumes (q : Nat) : Bool :=
  (decide (q < 64) && q % 2 == 1) || (decide (64 ≤ q) && decide (q < 160)) || q == 196 || q == 197 ||
    (decide (224 ≤ q) && decide (q < 228)) || q == 245 || q == 246

/-- A ring that its chapter reserves: any access ends with an error (R352, R551, R590). -/
def ringReserved (q : Nat) : Bool :=
  (decide (199 ≤ q) && decide (q < 224)) || (decide (229 ≤ q) && decide (q < 244)) || decide (247 ≤ q)

/-- The ring that owns an entry of the queue memory (R485). -/
def ringOfEntry (e : Nat) : Nat :=
  if e < 4096 then e / 64 else if e < 20480 then 64 + (e - 4096) / 256 else if e < 24576 then 128 + (e - 20480) / 64
  else if e < 26624 then 192 + (e - 24576) / 64 else if e < 28672 then 224 + (e - 26624) / 128 else 240 + (e - 28672) / 256

/-- Ring pair p. -/
def State.sess (s : State) (p : Nat) : Session := mget Session.init s.mail.sess p

/-- The state with ring pair p changed. -/
def State.modSess (s : State) (p : Nat) (f : Session → Session) : State :=
  { s with mail := { s.mail with sess := mmod Session.init s.mail.sess p f } }

/-- BOUND of both rings of a pair follows its session (R521). -/
def State.pairBound (s : State) (p : Nat) : State :=
  let b := (s.sess p).isOpen
  (s.setFlag (R.qmgrQCfgBound (2 * p)) b).setFlag (R.qmgrQCfgBound (2 * p + 1)) b

/-- OWN set in the slots from count `i` on, `n` of them (R493). -/
def State.ownSlots (s : State) (q i : Nat) : Nat → State
  | 0 => s
  | n + 1 =>
    let k := s.qKey q i 1
    let w := mget 0 s.mail.qmem k
    ({ s with mail := { s.mail with qmem := mput 0 s.mail.qmem k (putBits w 0 1 1) } }).ownSlots q (i + 1) n

/-- Entries of the export placed in Q246 while it has room; LOG_EXPORTED at the end of the stream (R551). -/
def State.exportPump (s : State) : State :=
  match s.log.export_ with
  | none => s
  | some x =>
    let now := x.entries.take (s.qFree 246)
    let s := now.foldl (fun s e => s.qPut 246 e) s
    let s := match s.viaOf 246 with
      | some .pcie => s
      | some v => s.emits (now.map fun e => .mboxTo v 246 x.client [e])
      | none => s
    let rest := x.entries.drop now.length
    if rest.isEmpty then ({ s with log := { s.log with export_ := none } }).raise evLogExported []
    else { s with log := { s.log with export_ := some { x with entries := rest } } }

/-- CI advanced by a host that consumes the ring (R488, R493). -/
def State.consume (s : State) (q v : Nat) : State :=
  let ci := s.fld (R.qmgrQIdxCi q)
  let s := if q < 64 then s.ownSlots q ci (min (sub32 v ci) 64) else s
  let s := (s.setFld (R.qmgrQIdxCi q) v).qFullFlag q
  if q = 246 then s.exportPump else s

/-- Entries taken from a ring that a host produces (R508). -/
def State.takeEntries (s : State) (q n : Nat) : State :=
  if n = 0 then s else ((s.setFld (R.qmgrQIdxCi q) (s.fld (R.qmgrQIdxCi q) + n)).qFullFlag q).qNotify q

/-- An index write that keeps R487's limits. -/
def State.indexOk (s : State) (q : Nat) (pi : Bool) (v : Nat) : Bool :=
  if pi then hostProduces q && decide (sub32 v (s.fld (R.qmgrQIdxPi q)) ≤ s.qFree q)
  else hostConsumes q && decide (sub32 v (s.fld (R.qmgrQIdxCi q)) ≤ s.qUsed q)

/-- A pair is free: bound to no transport. -/
def State.pairFree (s : State) (p : Nat) : Bool := (s.sess p).bound.isNone

/-- An index write by the host of a transport, dropped and counted where R487 or R513 refuses it. The first one that reaches the command
ring of a free pair binds the pair (R495). -/
def State.indexWrite (s : State) (via : Transport) (q : Nat) (pi : Bool) (v : Nat) : State :=
  let mine := s.viaOf q == some via || (decide (q < 64) && q % 2 == 0 && s.pairFree (q / 2))
  if mine ∧ s.indexOk q pi v then
    let s := if q < 64 ∧ s.pairFree (q / 2) then s.modSess (q / 2) fun x => { x with bound := some via, lastRx := s.tb 3 } else s
    if pi then (s.setFld (R.qmgrQIdxPi q) v).qFullFlag q else s.consume q v
  else match via with
    | .pcie => s.incSat R.hostStatusIdxErr
    | _ => s.incSat (R.qmgrQCfgLost q)

/-! ### Bindings and sessions (R495, R501, R506) -/

/-- A binding ended: the ring is bound to no client. -/
def State.unbind (s : State) (q : Nat) : State :=
  let s := { s with mail := { s.mail with binds := mput none s.mail.binds q none, drops := mput 0 s.mail.drops q 0 } }
  s.setFlag (R.qmgrQCfgBound q) false

/-- A pair becomes free: its session and bindings end, commands not yet taken are discarded, and an export to its client ends
(R501, R506). -/
def State.freePair (s : State) (p : Nat) : State :=
  let x := s.sess p
  let mine := if x.isOpen then (s.mail.binds.filter fun e => (e.2.map (·.client)) == some x.client).map (·.1) else []
  let s := mine.foldl (fun s q => s.unbind q) s
  let s := if x.isOpen ∧ (s.log.export_.map (·.client)) = some x.client then { s with log := { s.log with export_ := none } } else s
  let s := { s with mail := { s.mail with sess := mdel s.mail.sess p } }
  let s := s.pairBound p
  (s.setFld (R.qmgrQIdxCi (2 * p)) (s.fld (R.qmgrQIdxPi (2 * p)))).qFullFlag (2 * p)

/-- CLIENT_IDLE_TIMEOUT (R501): a fabric or service port session without a command for its Idle Time. -/
def execClientIdleTimeout (p : Fin 32) (s : State) : Host.Outcome State Fault Refusal :=
  let x := s.sess p.val
  if x.isOpen ∧ x.bound ≠ some .pcie then .next ((s.to3 (x.lastRx + x.idle * 1000000000)).freePair p.val) else .next s

/-- PCIE_LINK_DOWN_TIMEOUT (R501): the PCIe link down for longer than 100 ms. -/
def execPcieLinkDownTimeout (s : State) : Host.Outcome State Fault Refusal :=
  match s.mail.downAt with
  | none => .next s
  | some t =>
    let s := s.to3 (t + 100000001)
    let ps := (s.mail.sess.filter fun e => e.2.bound == some .pcie).map (·.1)
    .next (ps.foldl (fun s p => s.freePair p) { s with mail := { s.mail with downAt := none } })

/-! ### The PCIe host port (R511 to R514, R522, R523) -/

/-- The PCIe host reaches the module: I15 out of reset and the link up (R32, R522). -/
def State.hostUp (s : State) : Bool := !s.inReset 15 && s.flag R.hostStatusLinkup

/-- PCIE_LINK_UP (R511, R522): speed 1 to 3, lanes 1, 2 or 4. -/
def execPcieLinkUp (speed width : Fin 3) (s : State) : Host.Outcome State Fault Refusal :=
  if s.inReset 15 then .next s
  else
    let s := (s.setFlag R.hostStatusLinkup true).setFld R.hostStatusSpeed (speed.val + 1)
    let s := s.setFld R.hostStatusWidth (2 ^ width.val)
    .next { s with mail := { s.mail with downAt := none } }

/-- PCIE_LINK_DOWN (R501, R522). -/
def execPcieLinkDown (s : State) : Host.Outcome State Fault Refusal :=
  if ¬ s.flag R.hostStatusLinkup then .next s
  else
    let s := ((s.setFlag R.hostStatusLinkup false).setFld R.hostStatusSpeed 0).setFld R.hostStatusWidth 0
    let s := s.setFlag R.hostStatusLinkLost true
    .next { s with mail := { s.mail with downAt := some (s.tb 3) } }

/-- HOST_INDEX_WRITE (R487, R495, R513): a BAR0 write of PI, of CI, or of both by one 64-bit write. -/
def execHostIndexWrite (q : Fin 256) (pi ci : Option (BitVec 32)) (s : State) : Host.Outcome State Fault Refusal :=
  if ¬ s.hostUp then .next s
  else
    let s := match pi with
      | some v => s.indexWrite .pcie q.val true v.toNat
      | none => s
    match ci with
    | some v => .next (s.indexWrite .pcie q.val false v.toNat)
    | none => .next s

/-- HOST_RING_ENTRY_WRITE (R512, R513): a BAR2 write of 4 or 8 bytes at an offset of an entry. -/
def execHostRingEntryWrite (e : Fin 32768) (off : Fin 64) (wide : Bool) (v : W64) (s : State) : Host.Outcome State Fault Refusal :=
  let n := if wide then 8 else 4
  if ¬ s.hostUp ∨ off.val % n ≠ 0 then .next s
  else
    let q := ringOfEntry e.val
    let mine := s.viaOf q == some .pcie || (decide (q < 64) && s.pairFree (q / 2))
    if hostProduces q ∧ mine then
      let k := e.val * 8 + off.val / 8
      let w := if wide then v else putBits (mget 0 s.mail.qmem k) (off.val % 8 * 8) 32 v.toNat
      .next { s with mail := { s.mail with qmem := mput 0 s.mail.qmem k w } }
    else .next (s.incSat R.hostStatusRingErr)

/-- A read by a master of memory or of a slot; the first eight bytes are its reply. -/
def State.masterRead (s : State) (m ctx a n : Nat) : State :=
  if targetOf a = some 3 then s.slotRead m (a - 0x1000000000) n
  else
    let (s, data, bad) := s.memRead m ctx a n
    s.reply bad (BitVec.ofNat 64 (ofLe (data.take 8)))

/-- QMGR_LOST_CLEAR (R521, R523): `occ` counts in LOST in the same clock. -/
def execQmgrLostClear (m : Fin 16) (q : Fin 256) (occ : SameClock) (s : State) : Host.Outcome State Fault Refusal :=
  .next (s.reach m.val (R.qmgrQCfgClear q.val) fun s =>
    s.clearThen [R.qmgrQCfgLost q.val] (if occ then some fun s => s.incSat (R.qmgrQCfgLost q.val) else none))

/-- HOST_LOCK (R522). -/
def execHostLock (m : Fin 16) (s : State) : Host.Outcome State Fault Refusal :=
  .next (s.reach m.val R.hostCtrlLock fun s => s.setFlag R.hostCtrlLocked true)

/-- A counter of HOST_STATUS by number: IDX_ERR, RING_ERR, AP_ERR. -/
def hostCounter (k : Nat) : Fld :=
  match k with
  | 0 => R.hostStatusIdxErr
  | 1 => R.hostStatusRingErr
  | _ => R.hostStatusApErr

/-- HOST_CNT_CLEAR (R523): `occ` is the counter that counts in the same clock. -/
def execHostCntClear (m : Fin 16) (occ : Option (Fin 3)) (s : State) : Host.Outcome State Fault Refusal :=
  .next (s.reach m.val R.hostStatusClear fun s =>
    s.clearThen ((List.range 3).map hostCounter) (occ.map fun k s => s.incSat (hostCounter k.val)))

/-- HOST_LINK_LOST_CLEAR (R18, R523). -/
def execHostLinkLostClear (m : Fin 16) (occ : SameClock) (s : State) : Host.Outcome State Fault Refusal :=
  .next (s.reach m.val R.hostStatusLinkLost fun s => s.setFlag R.hostStatusLinkLost occ)

/-! ### MSI-X (R507, R508) -/

/-- A pending message sent if it may be. -/
def State.vecTry (s : State) (v : Nat) : State :=
  if ¬ mget false s.mail.vecPend v then s else if 256 ≤ v then s.vecPost v else s.qNotify v

/-- MSIX_HOLDOFF_EXPIRY (R508): the holdoff of a vector ends. -/
def execMsixHoldoffExpiry (v : Fin 272) (s : State) : Host.Outcome State Fault Refusal :=
  match mget none s.mail.vecLast v.val with
  | some t => .next ((s.to3 (t + s.vecHoldoff v.val)).vecTry v.val)
  | none => .next (s.vecTry v.val)

/-- MSIX_TABLE_WRITE (R508, R511). -/
def execMsixTableWrite (w : MsixWrite) (s : State) : Host.Outcome State Fault Refusal :=
  if ¬ s.hostUp then .next s
  else match w with
    | .entry v a d => .next { s with mail := { s.mail with vecAddr := mput (0, 0) s.mail.vecAddr v.val (a, d) } }
    | .mask v b =>
      let s := { s with mail := { s.mail with vecMask := mput true s.mail.vecMask v.val b } }
      .next (if b then s else s.vecTry v.val)
    | .control en mask =>
      let s := (s.setFlag R.hostStatusMsixEn en)
      let s := { s with mail := { s.mail with funMask := mask } }
      .next ((s.mail.vecPend.map (·.1)).foldl (fun s v => s.vecTry v) s)

/-! ### The event log (R489, R506, R531 to R535) -/

/-- Base of the event log in MRAM (R38). -/
def logBase : Nat := 0x800300000

/-- The 64-byte record of an event (R531). -/
def evBytes (seq : Nat) (e : Event) : List Byte :=
  let b := leBytes 4 seq ++ leBytes 2 e.code ++ leBytes 1 (e.slot % 2 + if e.tb0Valid then 2 else 0) ++ leBytes 1 e.pstate ++
    leBytes 8 e.tb3 ++ leBytes 8 e.tb0 ++ leBytes 4 e.watch ++ e.data
  b ++ leBytes 4 (crc32c b)

/-- The EVENTS_LOST record of `n` drops. No rule states its SEQ (DESIGN CHOICE, assumption 5). -/
def State.lostEvent (s : State) (n : Nat) : List Byte :=
  evBytes (Config.freeWord32 s.free).toNat
    { code := evEventsLost, slot := s.fld R.pairStateSlot, tb0Valid := s.flag R.timeStatusTb0Valid, pstate := s.pstate, tb3 := s.tb 3,
      tb0 := s.tb 0, watch := s.fld R.pairWatchWatch, data := (leBytes 4 n ++ List.replicate 32 0).take 32 }

/-- An entry of an event queue dropped and counted (R489). -/
def State.dropEvent (s : State) (q : Nat) : State :=
  let s := { s with mail := { s.mail with drops := mput 0 s.mail.drops q (mget 0 s.mail.drops q + 1) } }
  s.incSat (R.qmgrQCfgLost q)

/-- An event record put into an event queue, after EVENTS_LOST where entries were dropped (R489, R535). -/
def State.queueEvent (s : State) (q : Nat) (b : List Byte) : State :=
  let d := mget 0 s.mail.drops q
  if s.qFree q = 0 then s.dropEvent q
  else
    let s := if d = 0 then s
      else
        let t := (s.qPut q (packWords 8 (s.lostEvent d))).nextFree
        { t with mail := { t.mail with drops := mput 0 t.mail.drops q 0 } }
    if s.qFree q = 0 then s.dropEvent q else s.qPut q (packWords 8 b)

/-- The event passes the filter of a bound event queue (R506). -/
def State.eventPasses (s : State) (q code : Nat) : Bool :=
  match s.bindOf q with
  | none => false
  | some b => b.filter.isEmpty || b.filter.any fun r => decide (r.1 ≤ code) && decide (code ≤ r.2)

/-- EVENT_LOG_WRITE (R506, R526, R531, R534): the oldest event raised goes to its slot, to the bound event queues that it passes, and to the
front display. -/
def execEventLogWrite (s : State) : Host.Outcome State Fault Refusal :=
  match s.events with
  | [] => .next s
  | e :: rest =>
    if s.inReset 9 then .next s
    else
      let seq := s.bin.evSeq
      let b := evBytes seq e
      let s := { s with events := rest, bin := { s.bin with evSeq := (seq + 1) % 2 ^ 32 } }
      let s := s.setBytes (logBase + seq % 65536 * 64) b
      let s := if e.code = 0x800 ∨ e.code = evEjectUnsafe ∨ e.code = evExerciseDue then
          { s with bin := { s.bin with shown := some (e.code, e.tb3) } } else s
      .next ((List.range 64).foldl (fun s k => if s.eventPasses (64 + k) e.code then s.queueEvent (64 + k) b else s) s)

/-! ### MBOX frames and fabric message rings (R386, R388, R510, R515, R516) -/

/-- MBOX_FRAME_RX (R386, R388, R495, R510, R515, R516): entries for ring q from a transport. `toPair`: addressed with role 0; `p`, `src`, `watch`:
port and header of a fabric frame; `txRing`: the sender's transmit ring. -/
def execMboxFrameRx (via : Transport) (toPair : Bool) (p : Fin 2) (watch : BitVec 32) (q : Fin 256) (txRing : BitVec 8)
    (entries : List (List W64)) (s : State) : Host.Outcome State Fault Refusal :=
  let port := p.val + 2
  match via with
  | .pcie => .next s
  | _ =>
    let fab : Option Nat := match via with
      | .fabric a => some a
      | _ => none
    if fab.isSome ∧ ¬ s.fabTakes port then .next s
    else
      let s := match fab with
        | some a => s.fabSee a watch.toNat
        | none => s
      if fab.isSome ∧ toPair ∧ ¬ s.isActive then .next (s.incSat (R.fabPortCntUnreach port))
      else if entries.isEmpty ∨ 16 < entries.length then .next s
      else if q.val < 64 ∧ q.val % 2 = 0 then
        let n := entries.length
        let mine := s.viaOf q.val == some via || s.pairFree (q.val / 2)
        if ¬ mine ∨ s.qFree q.val < n then .next (s.incSat (R.qmgrQCfgLost q.val))
        else
          let pi := s.fld (R.qmgrQIdxPi q.val)
          let s := (entries.zipIdx).foldl (fun s e => s.qWrite q.val (pi + e.2) e.1) s
          .next (s.indexWrite via q.val true ((pi + n) % 2 ^ 32))
      else if 128 ≤ q.val ∧ q.val < 160 then
        match fab with
        | none => .next (s.incSat (R.qmgrQCfgLost q.val))
        | some a =>
          if (s.bindOf q.val).isNone ∨ s.qFree q.val = 0 then .next (s.incSat (R.qmgrQCfgLost q.val))
          else
            .next (entries.foldl (fun s e =>
              let w0 := e.getD 0 0
              s.qPut q.val (BitVec.ofNat 64 (a % 2 ^ 16 + txRing.toNat * 2 ^ 16 + getBits w0 32 32 * 2 ^ 32) :: e.drop 1)) s)
      else .next (s.incSat (R.qmgrQCfgLost q.val))

/-- FABRIC_MSG_TRANSMIT (R510): up to 16 entries of transmit ring Q160 + j sent in one MBOX frame, then CI advanced. A frame of the module's own
that finds no route is counted in UNREACH of P2 (DESIGN CHOICE, assumption 20). -/
def execFabricMsgTransmit (j : Fin 32) (s : State) : Host.Outcome State Fault Refusal :=
  let q := 160 + j.val
  match s.bindOf q with
  | none => .next s
  | some b =>
    let n := min 16 (s.qUsed q)
    if n = 0 ∨ ¬ s.flag R.fabCtrlJoined then .next s
    else
      let ci := s.fld (R.qmgrQIdxCi q)
      let ws := (List.range n).flatMap fun i => (List.range 8).map fun w => (mget 0 s.mail.qmem (s.qKey q (ci + i) w)).toNat
      let s := match s.routeTo b.dest with
        | some port => s.fabSend 4 port 32 b.dest s.fabOwn s.fabWatch ([b.client, b.destRing, n] ++ ws)
        | none => s.incSat (R.fabPortCntUnreach 2)
      .next (s.takeEntries q n)

/-! ### CAN FIFOs (R584, R590) -/

/-- The entries of a received frame (R590). -/
def canEntries (e : CanEntry) : List (List W64) :=
  let n := e.f.data.length
  let id := e.f.id + (if e.f.ide then 2 ^ 29 else 0) + (if e.f.fdf then 2 ^ 30 else 0) + if e.f.brs then 2 ^ 31 else 0
  let pad := (e.f.data ++ List.replicate 112 0).take 112
  let fl := (if e.f.esi then 1 else 0) + if 48 < n then 2 else 0
  let head := leBytes 4 id ++ leBytes 1 n ++ leBytes 1 fl ++ leBytes 1 e.filter ++ leBytes 1 0 ++ leBytes 8 e.at0 ++ pad.take 48
  packWords 8 head :: if 48 < n then [packWords 8 (pad.drop 48)] else []

/-- CAN_FIFO_MOVE (R584, R590): the oldest frame of a FIFO moves into its queue while the queue has room. -/
def execCanFifoMove (n f : Fin 2) (s : State) : Host.Outcome State Fault Refusal :=
  let q := 224 + 2 * n.val + f.val
  match mget [] (s.canOf n.val).fifo f.val with
  | [] => .next s
  | e :: rest =>
    let es := canEntries e
    if s.qFree q < es.length then .next s
    else
      let s := s.modCan n.val fun x => { x with fifo := mput [] x.fifo f.val rest }
      .next (es.foldl (fun s w => s.qPut q w) s)

end Sys2Proof.Machine
end

