-- ==== Sys2Proof/Machine/Debug.lean ====
section
/-! DEFINITION. The TAP and the debug gate (R474, R476, R478, R483). -/

namespace Sys2Proof.Machine

/-- DBG_GATE_CLOSE (R478). -/
def execDbgGateClose (m : Fin 16) (s : State) : Host.Outcome State Fault Refusal := .next (s.reach m.val R.dbgGateOpen fun s => s.gateClose)

/-- KEYS draws a challenge: 64 random bits (R476; DESIGN CHOICE, assumption 5). -/
def State.newChallenge (s : State) : State :=
  let s := (s.setReg R.dbgChal.addr (Config.freeWord s.free)).nextFree
  { s with acc := { s.acc with chalAt := some (s.tb 3) } }

/-- No challenge is valid (R476, R483). -/
def State.dropChallenge (s : State) : State := { s.setReg R.dbgChal.addr 0 with acc := { s.acc with chalAt := none } }

/-- DBG_NEWCHAL (R476, R483). -/
def execDbgNewchal (m : Fin 16) (s : State) : Host.Outcome State Fault Refusal :=
  .next (s.reach m.val R.dbgGateNewchal fun s => s.newChallenge)

/-- CHALLENGE_EXPIRY (R476): 10 min of TB3. -/
def execChallengeExpiry (s : State) : Host.Outcome State Fault Refusal :=
  match s.acc.chalAt with
  | some t => .next (s.to3 (t + 600000000000)).dropChallenge
  | none => .next s

/-- The TAP's instruction. -/
def State.tapIs (s : State) (i : Nat) : State := { s with acc := { s.acc with tap := i } }

/-- TAP_BYPASS (R474): the bypass register shifts what comes in one bit behind. -/
def execTapBypass (tdi : W64) (s : State) : Host.Outcome State Fault Refusal := .next ((s.tapIs 0).emit (.tap [tdi <<< 1]))

/-- TAP_IDCODE (R474). -/
def execTapIdcode (s : State) : Host.Outcome State Fault Refusal := .next ((s.tapIs 1).emit (.tap [Config.idcode.zeroExtend 64]))

/-- TAP_SAMPLE_PRELOAD (R474): the pins' levels are captured and shifted out, the boundary cells loaded. -/
def execTapSamplePreload (pins cells : List Bool) (s : State) : Host.Outcome State Fault Refusal :=
  let s := (s.tapIs 2).emit (.tap (pins.map fun b => if b then 1 else 0))
  .next { s with acc := { s.acc with cells := cells } }

/-- The debug gate is open with a SCOPE bit, DBG out of reset (R474). -/
def State.gateFor (s : State) (bit : Nat) : Bool := s.flag R.dbgGateOpen && s.bit R.dbgGateScope bit && !s.inReset 19

/-- TAP_EXTEST (R474): the pins follow the boundary cells while the gate is open with SCAN and the module is SAFE. -/
def execTapExtest (s : State) : Host.Outcome State Fault Refusal :=
  if s.gateFor 2 ∧ s.pstate = psSafe then .next ((s.tapIs 3).emit (.pins s.acc.cells)) else .next s

/-- DBG_MCTL set through the TAP for an access. -/
def State.mctl (s : State) (addr colour : Nat) : State := (s.setFld R.dbgMctlAddr addr).setFld R.dbgMctlColour colour

/-- The end of a master 14 access. -/
def State.mctlDone (s : State) : State := (s.setFlag R.dbgMctlError s.bus.err).setFlag R.dbgMctlDone true

/-- TAP_MEMORY_READ (R474, R483). -/
def execTapMemoryRead (addr : BitVec 48) (colour : BitVec 4) (s : State) : Host.Outcome State Fault Refusal :=
  if ¬ s.gateFor 1 then .next s
  else
    let s := (s.mctl addr.toNat colour.toNat).masterRead 14 colour.toNat addr.toNat 8
    let s := (s.setReg R.dbgMdata.addr s.bus.data).mctlDone
    .next (s.emit (.tap [s.bus.data]))

end Sys2Proof.Machine
end

