-- ==== Sys2Proof/Machine/Reset.lean ====
section
/-! DEFINITION. RSTC: reset sources, episodes, islands, strap, the Binnacle watchdog, class D escalation (R31, R32, R433, R434, R525,
R593 to R605, R611 to R614). -/

namespace Sys2Proof.Machine

/-! ### What a reset leaves (R21, R399, R594, R602) -/

/-- A register word after an episode that applies the Warm column. -/
def warmWord (a : Nat) (w : W64) : W64 :=
  match regOf a with
  | none => w
  | some r => r.fields.foldl (fun w f => match f.warm with | some v => putBits w f.lo f.len v | none => w) w

/-- The registers of the slots `hit` marks under the Cold or the Warm column. -/
def State.regsReset (s : State) (hit : Nat → Bool) (cold : Bool) : State :=
  { s with regs := s.regs.filterMap fun e =>
      if ¬ hit (e.1 / 0x10000) then some e
      else if cold then none
      else
        let w := warmWord e.1 e.2
        if w = regCold e.1 then none else some (e.1, w) }

/-- What PAIR and the Binnacle keep for the pair in MRAM (R278, R602). -/
def PairSt.kept (p : PairSt) : PairSt :=
  { PairSt.init with aliveOut := p.aliveOut, storedWatch := p.storedWatch, pStoredWatch := p.pStoredWatch, heldWatch := p.heldWatch,
                     serial := p.serial, prefSerial := p.prefSerial, pairLevel := p.pairLevel }

/-- What LOGB keeps: the recording area and its windows; the staging backlog is lost (R548, R602). -/
def LogSt.kept (g : LogSt) : LogSt :=
  { LogSt.init with seq := (g.flash.getLast?.map fun r => r.seq + 1).getD (if g.staged.isEmpty then g.seq else 0), flash := g.flash,
                    used := g.used, wins := g.wins, modeSeq := g.modeSeq, imported := g.imported,
                    gapDue := g.gapDue || !g.staged.isEmpty }

/-- The memories and the Binnacle's data of the main island and of the DRAM: contents not defined, taken as initialised (DESIGN CHOICE, assumption 18). -/
def State.resetMain (s : State) : State :=
  let s := s.clearRange 0 0x3000000
  let b := s.book
  { s with classes := [], flipStop := false, stn := ⟨[], [], [], [], s.stn.sfp, none⟩,
           book := { b with slots := [], running := none, turn := none, pendMode := none, retAt := [], retAllAt := none },
           mail := { s.mail with qmem := [], drops := [], binds := [] },
           acc := { s.acc with tags := [], force := [], violAt := [] },
           fab := { FabSt.init with cfg := s.fab.cfg, epoch := s.fab.epoch } }

/-- The Binnacle's processor: sessions, events held, transfers, running firmware (R501, R602). -/
def State.resetBinnacle (s : State) : State :=
  { s with events := [], mail := { s.mail with sess := [], binds := [], drops := [], bulk := [] },
           bin := { s.bin with wdog := none, runs := none, recovery := false, sensed := false, shown := none, pVersion := none },
           acc := { s.acc with chalAt := none } }

/-- The levels that hold latches keep at the driven pins of the pulse outputs through a warm episode (R601). -/
def State.holdPins (s : State) : State :=
  let n := s.fld R.rstcHoldLimit * 10000000
  let ks := [0, 1, 2, 3].filter fun k => mget false s.time.driven k && (mget none s.time.held k).isNone
  if ks.isEmpty then s
  else if n = 0 then { s with time := { s.time with driven := ks.foldl (fun m k => mput false m k false) s.time.driven } }
  else
    { s with time := { s.time with
        held := ks.foldl (fun m k => mput none m k (some (s.flag (R.timeTpoCfgActive k) != s.flag (R.timeTpoCfgPol k)))) s.time.held,
        holdUntil := s.tb 3 + n } }

/-- TIME beside its registers (R399, R594, R601). -/
def State.resetTime (s : State) (cold : Bool) : State :=
  let s := if cold then { s with tbs := [], time := { s.time with driven := [], held := [], holdAt := none } } else s.holdPins
  { s with time := { s.time with ports := [], locked := [], trail := [], tpiLast := [], pMaster := false } }

/-- FLD and the CAN channels; the island goes on with the commands and switches it holds (R601, R602). -/
def State.resetField (s : State) (cold : Bool) : State :=
  let f := s.field
  let sw := if cold then 0 else if f.heldSw ≠ 0 then f.heldSw else s.fld R.fldStatusClosed
  let ao := if cold then [] else [0, 1, 2, 3].foldl (fun m k => mput AoSt.init m k { AoSt.init with latched := (s.ao k).latched }) []
  { s with can := [],
           field := { FldSt.init with trims := f.trims, hold := if cold then 0 else f.hold, ao := ao, heldSw := sw,
                                      loops := if cold then 0 else f.loops,
                                      holdUntil := if sw = 0 then none else f.holdUntil.orElse fun _ => some (s.tb 3 + f.hold) } }

/-- Island of a source that reports a lasting condition (R426). -/
def srcIsland (src : Nat) : Option Nat :=
  if src < 8 then some src
  else if 0x2A ≤ src ∧ src ≤ 0x2E then some 10
  else if 0x2F ≤ src ∧ src ≤ 0x32 then some (src - 0x2F + 11)
  else match src with
    | 0x21 => some 8
    | 0x34 | 0x35 | 0x36 => some 19
    | 0x37 => some 21
    | 0x38 | 0x3F | 0x40 | 0x42 => some 9
    | _ => none

/-- The conditions that sources of an island report end with its reset (R633). -/
def State.clearSources (s : State) (i : Nat) : State :=
  ((List.range 0x45).filter fun src => srcIsland src == some i).foldl (fun s src =>
    (s.setBit (R.fcolNowFault (src / 64)) (src % 64) false).setBit (R.fcolBrokenBroken (src / 64)) (src % 64) false) s

/-- What the reset of one island leaves beside registers. -/
def State.islandState (s : State) (cold : Bool) (i : Nat) : State :=
  if i < 8 then { s with lanes := mdel s.lanes i }
  else match i with
    | 8 => s.resetMain
    | 9 => s.resetBinnacle
    | 10 => { s with pair := s.pair.kept }
    | 13 | 14 => { s with time := { s.time with ports := s.time.ports.filter fun e => e.1 / 2 + 11 != i } }
    | 15 =>
      let down := if s.flag R.hostStatusLinkup then some (s.tb 3) else s.mail.downAt
      { s with mail := { s.mail with vecMask := [], vecAddr := [], vecPend := [], vecLast := [], funMask := false, downAt := down } }
    | 16 => s.resetTime cold
    | 17 =>
      let s := s.clearRange 0x8000000000 0x8200000000
      { s with book := { s.book with slots := [] }, log := s.log.kept }
    | 18 => { s with log := s.log.kept }
    | 19 => (s.resetField cold)
    | 20 => if cold then { s with fcol := FcolSt.init, bin := { s.bin with trialBkp := none } } else s
    | 21 => s.openOutputs
    | _ => s

/-- Islands held in reset take their reset values; their bits of INRESET follow (R596, R613). -/
def State.resetIslands (s : State) (is : List Nat) (cold : Bool) : State :=
  let s := is.foldl (fun s i => s.islandState cold i) s
  let s := is.foldl (fun s i => s.clearSources i) s
  let keep := s.fld R.rstcIslstatInreset
  let cause := s.reg R.rstcCause.addr
  let s := s.regsReset (fun n => is.contains (slotIsland n)) cold
  let s := (s.setReg R.rstcCause.addr cause).setFld R.rstcIslstatInreset keep
  (is.foldl (fun s i => s.setBit R.rstcIslstatInreset i true) s).setOpen

/-! ### Sources and episodes (R593 to R600, R612) -/

/-- RSTC_CAUSE bit of a module source. -/
def causeFld (src : Nat) : Fld :=
  match src with
  | 0 => R.rstcCausePor
  | 1 => R.rstcCauseCarrier
  | 2 => R.rstcCauseWdog
  | 3 => R.rstcCauseEsc
  | 4 => R.rstcCauseSwwarm
  | _ => R.rstcCauseSwcold

/-- The source has cold reach. -/
def srcCold (src : Nat) : Bool := src == 0 || src == 1 || src == 5

/-- Islands that a source reaches. -/
def srcReach (src : Nat) : List Nat := if src = 6 then List.range 8 else if srcCold src then List.range 22 else List.range 20

/-- A module source asserted: it begins an episode, or joins the one in progress and may widen it (R597, R600, R601, R612); the
field island held by its own bit joins it (R598). -/
def State.assertSource (s : State) (src : Nat) : State :=
  let begins := s.rst.episode.isNone
  let wide := srcCold src || s.rst.episode == some true
  let s := if begins then s.setReg R.rstcCause.addr 0 else s
  let s := (s.setFlag (causeFld src) true).setFld R.rstcCauseWidest (if wide then 4 else 3)
  let s := { s with reports := [], fcol := { s.fcol with cAt := none, dAt := none } }
  let is := if srcCold src then List.range 22 else if begins ∧ s.inReset 21 then List.range 20 ++ [21] else List.range 20
  let s := s.resetIslands is wide
  let cause := s.reg R.rstcCause.addr
  let inReset := s.fld R.rstcIslstatInreset
  let s := if wide then s else s.regsReset (fun n => n == 0 || n == 1) false
  let s := (s.setReg R.rstcCause.addr cause).setFld R.rstcIslstatInreset inReset
  let r := s.rst
  { s with rst := { r with on := if r.on.contains src then r.on else r.on ++ [src], episode := some wide,
                           held := if begins then is else (r.held ++ is).eraseDups,
                           strapDone := r.strapDone && !srcCold src } }

/-- RSTC_SWRST_WARM (R593, R599). -/
def execRstcSwrstWarm (m : Fin 16) (s : State) : Host.Outcome State Fault Refusal :=
  .next (s.reach m.val R.rstcSwrstWarm fun s => s.assertSource 4)

/-- RSTC_SWRST_COLD (R593, R599): COLD wins over WARM of the same write. -/
def execRstcSwrstCold (m : Fin 16) (s : State) : Host.Outcome State Fault Refusal :=
  .next (s.reach m.val R.rstcSwrstCold fun s => s.assertSource 5)

/-- POWER_ON_RESET_ASSERT (R593). -/
def execPowerOnResetAssert (s : State) : Host.Outcome State Fault Refusal := .next (s.assertSource 0)

/-- PRESENT_N_DEASSERT (R593, R611). -/
def execPresentNDeassert (s : State) : Host.Outcome State Fault Refusal := .next (s.assertSource 0)

/-- CARRIER_RESET_ASSERT (R593). -/
def execCarrierResetAssert (s : State) : Host.Outcome State Fault Refusal := .next (s.assertSource 1)

/-- RESET_SOURCE_RELEASE (R593, R596): a source's condition to be held has ended. -/
def execResetSourceRelease (src : Fin 7) (s : State) : Host.Outcome State Fault Refusal :=
  .next { s with rst := { s.rst with on := s.rst.on.filter fun x => x != src.val } }

/-- The release condition of an island as RSTC knows it (R32, R596, R605); rails and clocks are within tolerance when the command says
so. -/
def State.mayRelease (s : State) (i : Nat) : Bool :=
  s.inReset i && !(s.rst.on.any fun src => (srcReach src).contains i) && !((s.reg R.rstcIslrst.addr).toNat.testBit i) &&
    !s.rst.clockBad.contains i && (i == 20 || s.rst.strapDone) && (i == 9 || i == 20 || !s.rst.strapDone || s.flag R.rstcStrapValid)

/-- ISLAND_RELEASE (R21, R32, R596, R597, R605). -/
def execIslandRelease (i : Fin 22) (s : State) : Host.Outcome State Fault Refusal :=
  if ¬ s.mayRelease i.val then .next s
  else
    let s := s.setBit R.rstcIslstatInreset i.val false
    let held := s.rst.held.filter fun x => x != i.val
    let s := { s with rst := { s.rst with held := held, episode := if held.isEmpty then none else s.rst.episode } }
    let s := if i.val = 9 then { s with bin := { s.bin with releasedAt := s.tb 3 } } else s
    .next (if i.val = 19 then { s with field := { s.field with firstDue := true } } else s)

/-- STRAP_DECODE_DONE (R603, R604): the pin voltage and the reference, in the same unit. The code of an invalid strap is not stated
(DESIGN CHOICE, assumption 5). -/
def execStrapDecodeDone (v ref : Nat) (s : State) : Host.Outcome State Fault Refusal :=
  if s.rst.strapDone ∨ s.inReset 20 then .next s
  else
    let ok := decide (ref ≤ 36 * v) && decide (36 * v < 33 * ref)
    let k := if ok then (36 * v / ref - 1) / 2 else (Config.freeWord s.free).toNat % 16
    let s := if ok then s else s.nextFree
    let s := ((s.setFld R.rstcStrapCode k).setFlag R.rstcStrapValid ok).setFld R.rstcStrapRatio (min 255 (v * 256 / ref))
    let s := s.setFld R.pairStateSlot (k % 2)
    .next { s with rst := { s.rst with strapDone := true } }

/-- RSTC_ISLRST written whole. -/
def State.islrst (s : State) (w : Nat) : State :=
  let old := (s.reg R.rstcIslrst.addr).toNat
  let is := (List.range 22).filter fun i => i != 9 && i != 20 && w.testBit i
  let s := s.setReg R.rstcIslrst.addr (BitVec.ofNat 64 (is.foldl (fun n i => n + 2 ^ i) 0))
  let new := is.filter fun i => !old.testBit i
  if new.isEmpty then s
  else
    let s := s.setFlag R.rstcCauseIsland true
    let s := if new.contains 21 then s.openLine else s
    s.resetIslands new false

/-- RSTC_ISLRST_WRITE (R593, R598, R613, R614): bits 9 and 20 do not exist; a bit newly set holds its island in reset, and one cleared leaves it to
be released. -/
def execRstcIslrstWrite (m : Fin 16) (w : BitVec 22) (s : State) : Host.Outcome State Fault Refusal :=
  .next (s.reach m.val R.rstcIslrst fun s => s.islrst w.toNat)

/-- LANE_RESET (R598): the debug reset of I0 to I7; the TAP captures whether it took effect. -/
def execLaneReset (s : State) : Host.Outcome State Fault Refusal :=
  let ok := s.gateFor 0 && (s.pstate == psSafe || s.fld R.bookModeMode == 0 || s.book.running.isNone)
  if ¬ ok then .next (s.emit (.tap [0]))
  else
    let s := (s.emit (.tap [1])).setFlag R.rstcCauseDebug true
    let s := { s with rst := { s.rst with on := if s.rst.on.contains 6 then s.rst.on else s.rst.on ++ [6] } }
    .next (s.resetIslands (List.range 8) false)

/-- RSTC_CAUSE_CLEAR (R18, R614): DEBUG and ISLAND cleared as written; `occ` is an episode of the same clock: debug (true) or island. -/
def execRstcCauseClear (m : Fin 16) (debug island : Bool) (occ : Option Bool) (s : State) : Host.Outcome State Fault Refusal :=
  .next (s.reach m.val R.rstcCauseDebug fun s =>
    let s := if debug then s.setFlag R.rstcCauseDebug (occ == some true) else s
    if island then s.setFlag R.rstcCauseIsland (occ == some false) else s)

/-- RSTC_HOLD_WRITE (R613). -/
def execRstcHoldWrite (m : Fin 16) (v : BitVec 9) (s : State) : Host.Outcome State Fault Refusal :=
  .next (s.reachTry m.val R.rstcHoldLimit fun s => if 500 < v.toNat then (s, true) else (s.setFld R.rstcHoldLimit v.toNat, false))

/-! ### The Binnacle watchdog (R525) -/

/-- The Binnacle watchdog serviced. -/
def State.wdogKick (s : State) : State :=
  let s := s.setFlag R.rstcWdogExpired false
  let s := s.setBit (R.fcolNowFault 0) 0x3F false
  { s.setOpen with bin := { s.bin with wdog := some (s.tb 3) } }

/-- RSTC_WDOG_KICK (R525). -/
def execRstcWdogKick (m : Fin 16) (s : State) : Host.Outcome State Fault Refusal :=
  .next (s.reach m.val R.rstcWdogKick fun s => s.wdogKick)

/-- BINNACLE_WDOG_EXPIRY (R525): 8 ms after the last service. -/
def execBinnacleWdogExpiry (s : State) : Host.Outcome State Fault Refusal :=
  match s.bin.wdog with
  | none => .next s
  | some t =>
    if s.flag R.rstcWdogExpired then .next s
    else .next (((s.to3 (t + 8000000)).setFlag R.rstcWdogExpired true).report 0x3F 0)

/-- BINNACLE_WDOG_RESET (R525, R593): 8 ms after the report. -/
def execBinnacleWdogReset (s : State) : Host.Outcome State Fault Refusal :=
  match s.bin.wdog with
  | none => .next s
  | some t =>
    if ¬ s.flag R.rstcWdogExpired then .next s
    else .next ((s.to3 (t + 16000000)).assertSource 2)

/-! ### Escalation and clocks (R31, R32, R433, R434) -/

/-- ESCALATION_EXPIRY (R433, R434). -/
def execEscalationExpiry (s : State) : Host.Outcome State Fault Refusal :=
  match s.fcol.dAt with
  | none => .next s
  | some t =>
    let d := s.fld R.fcolCfgDDwell
    if d = 0 then .next s
    else
      let s := s.to3 (t + d * 100000000)
      let s := { s with fcol := { s.fcol with dAt := none } }
      let n := s.fld R.fcolEscCount
      if s.flag R.fcolEscBlocked then .next s
      else if n = 0 ∨ s.fcol.escFrom + 3600000000000 ≤ s.tb 3 then
        let s := s.setFld R.fcolEscCount 1
        .next ({ s with fcol := { s.fcol with escFrom := s.tb 3 } }.assertSource 3)
      else if n < s.fld R.fcolCfgEscLimit then .next ((s.setFld R.fcolEscCount (n + 1)).assertSource 3)
      else .next ((s.setFlag R.fcolEscBlocked true).raise evEscalationBlocked [])

/-- ISLAND_CLOCK_FAULT (R31, R32): the clock of an island stops or deviates, or (`good`) has returned. I15 is held in reset without a
report. -/
def execIslandClockFault (i : Fin 20) (good : Bool) (s : State) : Host.Outcome State Fault Refusal :=
  let r := s.rst
  if good then
    let s := { s with rst := { r with clockBad := r.clockBad.filter fun x => x != i.val } }
    .next (if i.val = 15 ∨ ¬ s.rst.clockBad.isEmpty then s else (s.setBit (R.fcolNowFault 0) 0x27 false).setOpen)
  else
    let s := { s with rst := { r with clockBad := if r.clockBad.contains i.val then r.clockBad else r.clockBad ++ [i.val] } }
    .next (if i.val = 15 then s.resetIslands [15] false else if s.inReset i.val then s else s.report 0x27 i.val)

end Sys2Proof.Machine
end

