-- ==== Sys2Proof/Machine/Effects.lean ====
section
/-! DEFINITION. State-changing commands at their effect instants, and restarts of the program (R107 to R110, R116, R230, R295, R296, R315,
R403, R541, R601). -/

namespace Sys2Proof.Machine

/-- A restart of the program from a Book slot (R116, R117, R403). -/
def State.startProgram (s : State) (warm : Bool) (i : Nat) (stopped : Bool) : State := s.restartStep.restart warm i stopped

/-- The Book slot that the next restart runs: while a Turn is pending the running one (R221), else the one that BOOK_SELECT names (R238). -/
def State.selected (s : State) : Nat :=
  match s.book.turn, s.book.running with
  | some _, some i => i
  | _, _ => s.fld R.bookSlotsSelect

/-- The used classes. -/
def State.usedClasses (s : State) : List Nat := (List.range 8).filter fun c => s.used c

/-- A mode that each class of a list is to apply (R107). -/
def State.modeAsk (s : State) (cs : List Nat) (m : Nat → Nat) : State :=
  cs.foldl (fun s c => s.modCls c fun k => { k with modeTo := some (m c) }) s

/-- A mode command at its effect instant (R107, R109, R115). A follower requests the mirror of a restarted program (R274). -/
def State.modeEffect (s : State) (m : ModeCmd) : State :=
  let s := { s with book := { s.book with pendMode := none } }
  let s := s.setFlag R.bookModePending false
  match m with
  | .stop => (s.modeAsk s.usedClasses fun _ => 0).setFld R.bookModeMode 0
  | .hold set => (s.modeAsk s.usedClasses fun c => if set.testBit c then 2 else 1).setFld R.bookModeMode 2
  | .step c => s.modeAsk [c] fun _ => 3
  | .run .resume => (s.modeAsk s.usedClasses fun _ => 1).setFld R.bookModeMode 1
  | .run k =>
    if s.isActive then
      let s := s.startProgram (k == .warm) s.selected false
      if s.mirrored then { s with pair := { s.pair with lagging := true } } else s
    else if s.isFollower then s.dropRole psSyncing
    else s

/-- PAIR_CFG and the Preferred module (R315, R321). -/
def State.loadPair (s : State) (c : PairCfg) : State :=
  let s := (s.setFld R.pairCfgStrict c.strict).setFld R.pairCfgStrictWait c.strictWait
  let s := (s.setFld R.pairCfgReclaim c.reclaim).setFlag R.pairCfgDetachWarm c.detachWarm
  let s := (s.setFld R.pairCfgExercise c.exercise).setFld R.pairCfgPwait c.pwait
  let s := { s with pair := { s.pair with prefSerial := c.serial } }
  s.setFlag R.pairStatePreferred (c.serial != 0 && c.serial == s.pair.serial)

/-- PAIR_CONFIG at its effect instant (R315, R321, R322). -/
def State.pairConfig (s : State) (c : PairCfg) : State := { s.loadPair c with bin := { (s.loadPair c).bin with pairCfg := c } }

/-- LOGB_CFG (R556). -/
def State.loadLog (s : State) (c : LogCfg) : State := (s.setFld R.logbCfgInterval c.interval).setFld R.logbCfgFreeze c.freeze

/-- LOG_CONFIG at its effect instant (R541, R556). -/
def State.logConfig (s : State) (c : LogCfg) : State := { s.loadLog c with bin := { (s.loadLog c).bin with logCfg := c } }

/-- A command that waits for a class. -/
def State.addPend (s : State) (m : MirCmd) (c : Nat) (done : Bool) : State :=
  { s with book := { s.book with pend := s.book.pend ++ [⟨c, m.effect, none, m.client, m.logSeq, done, m.body⟩] } }

/-- The classes that apply a force command. -/
def State.forceClasses (s : State) (m : MirBody) : List Nat :=
  match m with
  | .forceReleaseAll set =>
    ((s.forceValid.map fun i => (s.dirEntry (s.forceSig i)).cls).eraseDups).filter fun c => set.isNone || set == some c
  | _ => [s.bodyClass m]

/-- A force command at its effect instant (R230): in the table of the active at once; a follower receives it with the commits, and keeps it for
a takeover until then (R296). -/
def State.forceEffect (s : State) (m : MirCmd) : State :=
  let cs := s.forceClasses m.body
  let s := if s.isActive then s.forceDo m.client none m.body else s
  cs.foldl (fun s c => s.addPend m c s.isActive) s

/-- A mirrored command takes effect on this module (R295). -/
def State.takeEffect (s : State) (m : MirCmd) : State :=
  match m.body with
  | .mode x => { s with log := { s.log with modeSeq := m.logSeq } }.modeEffect x
  | .tune _ _ _ => s.addPend m (s.bodyClass m.body) false
  | .signalWrite _ _ _ => s.addPend m (s.bodyClass m.body) false
  | .forceSet _ _ _ => s.forceEffect m
  | .forceRelease _ => s.forceEffect m
  | .forceReleaseAll _ => s.forceEffect m
  | .bookTurn _ _ => s
  | .pairConfig c => s.pairConfig c
  | .fabricConfig c => s.fabricConfig c
  | .timeConfig c => s.timeConfig c
  | .timeSet tai utc => s.timeSet tai utc
  | .tb2Step t => s.tb2Step t
  | .stationRelease n => s.releaseStation n
  | .stationReleaseAll r => s.releaseAll r
  | .logConfig c => s.logConfig c
  | .canConfig c => s.canConfig c
  | .canObject c => s.canObject c
  | .canSend n k => s.canSendObj n k

/-- COMMAND_COMPLETED: client ID and Tally (R296). -/
def State.completed (s : State) (m : MirCmd) : State := s.raise evCommandCompleted (leBytes 2 m.client ++ leBytes 2 m.tally)

/-- A command received from the failed active, at or after t_d (R296). -/
def State.inherited (s : State) (m : MirCmd) : Bool :=
  m.pair.isNone && s.isActive && s.pair.tdAt.any fun t => decide (t ≤ m.effect)

/-- EFFECT_INSTANT (R107, R230, R295, R296): TB2 is at `t` ns; every command whose effect instant has come takes effect, in order of acceptance.
Commands done are kept for 60 s (R296). -/
def execEffectInstant (t : Nat) (s : State) : Host.Outcome State Fault Refusal :=
  let due := fun (m : MirCmd) => m.fixed && !m.done && decide (m.effect ≤ t)
  let ms := s.pair.mirrors.filter due
  if ms.isEmpty then .next s
  else
    let s := s.to2 t
    let s := { s with pair := { s.pair with mirrors :=
      ((s.pair.mirrors.map fun m => if due m then { m with done := true } else m).filter fun m =>
        !m.done || decide (s.tb 3 < m.arrival + 60000000000)) } }
    .next (ms.foldl (fun s m =>
      let s := s.takeEffect m
      if s.inherited m then s.completed m else s) s)

/-! ### Acceptance (R107, R295, R543, R545) -/

/-- The COMMAND record of a command (R545). -/
def State.logCommand (s : State) (m : MirCmd) : State :=
  let q := s.log.seq
  let s := s.logRec 3 0 0 0
    ([m.effect, m.client + m.tally * 2 ^ 16 + m.op * 2 ^ 32 + 8 * m.params.length * 2 ^ 48] ++ m.params)
  { s with log := { s.log with staged := s.log.staged.map fun r => if r.seq = q then { r with cmd := some m.body } else r } }

/-- Whether a command waits for an effect instant; a Turn fixes its own (R215). -/
def bodyTimed (m : MirBody) : Bool :=
  match m with
  | .bookTurn _ _ => false
  | _ => true

/-- The effect instant of a command is fixed: the first base tick at least 100 µs from `t` (TB2 ns; R107, R295); it is
recorded. -/
def State.fixEffectAt (s : State) (client tally t : Nat) : State :=
  match s.pair.mirrors.find? fun m => m.client == client && m.tally == tally && !m.fixed with
  | none => s
  | some m =>
    let y : MirCmd := { m with fixed := true, effect := if bodyTimed m.body then tickAtOrAfter (t + 100000) else 0, logSeq := s.log.seq,
                               done := !bodyTimed m.body }
    let s := { s with pair := { s.pair with mirrors := s.pair.mirrors.map fun (x : MirCmd) =>
      if x.client = client ∧ x.tally = tally ∧ ¬ x.fixed then y else x } }
    s.logCommand y

end Sys2Proof.Machine
end

