-- ==== Sys2Proof/Machine/Bin.lean ====
section
/-! DEFINITION. SENS, the Logbook's checkpoints and flash, firmware slots (R527 to R530, R536 to R548, R550, R551, R622). -/

namespace Sys2Proof.Machine

/-! ### SENS (R527 to R530, R622) -/

/-- A measurement register of a temperature: TEMP and MAX, both signed (R530). -/
def State.sensTemp (s : State) (k : Nat) (v : BitVec 16) : State :=
  let old := BitVec.ofNat 16 (s.fld (R.sensTempMax k))
  let m := if s.bin.sensed then (if old.toInt < v.toInt then v else old) else v
  (s.setFld (R.sensTempTemp k) v.toNat).setFld (R.sensTempMax k) m.toNat

/-- A measurement register of a rail: MV, NOMINAL, MINMV and MAXMV (R530); NOMINAL is not stated (DESIGN CHOICE, assumption 5). -/
def State.sensRail (s : State) (k : Nat) (v : BitVec 16) : State :=
  let lo := if s.bin.sensed then min (s.fld (R.sensRailMinmv k)) v.toNat else v.toNat
  let hi := if s.bin.sensed then max (s.fld (R.sensRailMaxmv k)) v.toNat else v.toNat
  let s := (s.setFld (R.sensRailMv k) v.toNat).setFld (R.sensRailNominal k) (Config.railNominal k).toNat
  (s.setFld (R.sensRailMinmv k) lo).setFld (R.sensRailMaxmv k) hi

/-- A source whose report is on its way or whose condition stands. -/
def State.srcKnown (s : State) (src : Nat) : Bool := s.srcNow src || s.reports.any fun r => r.src == src

/-- A feed below 17.0 V for 1 ms is reported; the detail is the feed (R622, source 38h). -/
def State.feedJudge (s : State) (k mv : Nat) : State :=
  let low := decide (mv < 17000)
  let s := if low ∧ s.bin.feedLow.testBit k ∧ ¬ s.srcKnown 0x38 then s.report 0x38 k else s
  let n := s.bin.feedLow
  { s with bin := { s.bin with feedLow := if n.testBit k == low then n else if low then n + 2 ^ k else n - 2 ^ k } }

/-- Milliseconds of a day. -/
def msPerDay : Nat := 86400000

/-- The class of a film under ISA-71.04 from its loss per 30 days (R528). -/
def filmClass (rate g2 : Nat) : Nat := if rate < g2 then 1 else if rate < 1000 then 2 else if rate < 2000 then 3 else 4

/-- A quotient rounded down, or up by `u` where it is inexact: no rule states the rounding (DESIGN CHOICE, assumption 5). -/
def roundFree (num den u : Nat) : Nat := num / den + if num % den = 0 then 0 else u % 2

/-- The loss of a film over the latest 30 days, or scaled to 30 days from its exposure of 7 days or more (R528). `old` is the loss 30 days
ago. -/
def filmRate (exposed loss old u : Nat) : Nat :=
  if 30 * msPerDay ≤ exposed then loss - old else roundFree (loss * (30 * msPerDay)) exposed u

/-- The losses of both films when they had been exposed for `t` ms. -/
def lossAt (films : List (Nat × Nat × Nat)) (t : Nat) : Nat × Nat :=
  ((films.find? fun e => decide (e.1 ≤ t)).map (·.2)).getD (0, 0)

/-- The corrosion estimate after a measurement of both losses (R528 to R530). -/
def State.corrode (s : State) (ag cu : Nat) : State :=
  let b := s.bin
  let now := b.exposed + 1
  let cur := (b.films.head?.map (·.2)).getD (0, 0)
  let films := if cur = (ag, cu) then b.films else (now, ag, cu) :: b.films
  let s := { s with bin := { b with exposed := now, films := films } }
  if getBits b.corr 35 1 = 1 then s
  else
    let u := (Config.freeWord s.free).toNat
    let s := s.nextFree
    let young := decide (now < 7 * msPerDay)
    let old := lossAt films (now - 30 * msPerDay)
    let ra := if young then u % 65536 else min 0xFFFF (filmRate now ag old.1 u)
    let rc := if young then u / 65536 % 65536 else min 0xFFFF (filmRate now cu old.2 (u / 2))
    let cls := if young then 0 else max (filmClass ra 200) (filmClass rc 300)
    let spent := decide (45000 < ag) || decide (45000 < cu)
    let left := fun n u => roundFree ((50000 - n) * 100) 50000 u
    let w := ra + rc * 2 ^ 16 + cls * 2 ^ 32 + (if spent then 2 ^ 35 else 0) + getBits b.corr 36 3 * 2 ^ 36 +
      left ag (u / 4) * 2 ^ 40 + left cu (u / 8) * 2 ^ 48
    let prev := getBits b.corr 32 3
    let lim := getBits b.corr 36 3
    let s := { s with bin := { s.bin with corr := BitVec.ofNat 64 w } }
    let s := if spent then s.raise evSensorFilmSpent [] else s
    if spent then s
    else if lim < cls then
      if prev < cls ∨ ¬ s.srcKnown 0x40 then ((s.setBit (R.fcolNowFault 1) 0 false).setOpen).report 0x40 cls else s
    else (s.setBit (R.fcolNowFault 1) 0 false).setOpen

/-- SENSOR_SAMPLE (R527 to R530, R622): the measurement at the next millisecond of TB3. SENS_CORR follows once firmware runs (R530). -/
def execSensorSample (m : SensorSet) (s : State) : Host.Outcome State Fault Refusal :=
  if s.inReset 9 then .next s
  else
    let s := s.to3 ((s.tb 3 / 1000000 + 1) * 1000000)
    let s := (List.range 12).foldl (fun s k => s.sensTemp k (m.temps.getD k 0)) s
    let s := (List.range 20).foldl (fun s k => s.sensRail k (m.rails.getD k 0)) s
    let w := m.va.toNat + m.ia.toNat * 2 ^ 16 + m.vb.toNat * 2 ^ 32 + m.ib.toNat * 2 ^ 48
    let s := s.setReg R.sensFeed.addr (BitVec.ofNat 64 w)
    let s := (s.feedJudge 0 m.va.toNat).feedJudge 1 m.vb.toNat
    let s := s.corrode m.ag.toNat m.cu.toNat
    let s : State := { s with bin := { s.bin with sensed := true } }
    .next (if s.bin.runs.isSome ∨ s.bin.recovery then s.setReg R.sensCorr.addr s.bin.corr else s)

/-! ### Checkpoints and the flash (R544 to R548, R550, R556) -/

/-- A checkpoint is due at TB2 `t` ns: at a multiple of INTERVAL, or at the first base tick after a restart, a gap or a change of state
(R547). -/
def State.ckptAt (s : State) (t : Nat) : Bool :=
  let n := s.fld R.logbCfgInterval * 60000000000
  s.fld R.logbStatusState == 1 && ((n != 0 && t % n == 0) || (s.log.ckptDue && t % 500000 == 0))

/-- CHECKPOINT_BEGIN (R547) at TB2 `t` ns. -/
def execCheckpointBegin (t : Nat) (s : State) : Host.Outcome State Fault Refusal :=
  if s.ckptAt t then .next ((s.to2 t).logCkptBegin t) else .next s

/-- Grains of mirrored state (R41). -/
def mirroredGrains : Nat := 659456

/-- CHECKPOINT_READ_DONE (R547): the entries read, then END once every class has its W_cp. -/
def execCheckpointReadDone (s : State) : Host.Outcome State Fault Refusal :=
  match s.log.ckpt with
  | some k =>
    if k.readDone then .next s
    else
      let s := s.logPut 7 0 0 0 [mirroredGrains] [] s.mirrorCells (mirroredGrains * 72)
      .next ({ s with log := { s.log with ckpt := some { k with readDone := true } } }).logCkptEnd
  | none => .next s

/-- The recording area in bytes (R548): 1,900 GiB of the Logbook flash. -/
def recordingArea : Nat := 1900 * 2 ^ 30

/-- The oldest records outside every frozen window are overwritten until `n` bytes fit (R549). -/
def State.logTrim (s : State) (n : Nat) : Nat → List LogRec → State
  | 0, _ => s
  | _ + 1, [] => s
  | fuel + 1, r :: rs =>
    if s.log.used + n ≤ recordingArea then s
    else if s.log.wins.any fun w => decide (w.first ≤ r.seq) && decide (r.at3 ≤ w.until3) then s.logTrim n fuel rs
    else
      let g := { s.log with flash := s.log.flash.filter fun x => x.seq != r.seq, used := s.log.used - r.len }
      ({ s with log := g }).logTrim n fuel rs

/-- Staged records written to the recording area in SEQ order, `n` of them. -/
def State.logDrain (s : State) : Nat → State
  | 0 => s
  | n + 1 =>
    match s.log.staged with
    | [] => s
    | r :: rs =>
      let s := s.logTrim r.len s.log.flash.length s.log.flash
      let s := { s with log := { s.log with staged := rs, backlog := s.log.backlog - r.len, flash := s.log.flash ++ [r],
                                            used := s.log.used + r.len } }
      (s.setFld R.logbSeqNewest r.seq).logDrain n

/-- LOG_STAGING_DRAIN (R548): LOGB writes `n` staged records; below 1 GiB the recording resumes after drops. -/
def execLogStagingDrain (n : Nat) (s : State) : Host.Outcome State Fault Refusal :=
  if s.inReset 17 ∨ s.inReset 18 ∨ s.fld R.logbStatusState = 3 then .next s
  else
    let s := (s.logDrain (min n s.log.staged.length)).logRate
    if s.log.dropping ∧ s.log.backlog < 2 ^ 30 then
      .next (({ s with log := { s.log with dropping := false } }).logGap (s.log.seq - 1) 1)
    else .next s

/-! ### Export (R544, R551) -/

/-- The bytes of a grain entry (R284). -/
def grainBytes (e : GrainEntry) : List Byte := (entryNats e).flatMap fun n => leBytes 8 n

/-- The words of the grain at `a` in a read of mirrored state. -/
def cellGrain (cells : NMap Byte) (a : Nat) : List W64 :=
  (List.range 8).map fun i =>
    BitVec.ofNat 64 (ofLe ((List.range 8).map fun j => mget (memDefault (a + 8 * i + j)) cells (a + 8 * i + j)))

/-- The entries of the read of a checkpoint: every grain of mirrored state, as memory held it. -/
def imageEntries (cells : NMap Byte) : List GrainEntry :=
  let g := fun a => (⟨a, false, cellGrain cells a⟩ : GrainEntry)
  ((List.range 0xA0000).map fun i => g (64 * i)) ++ ((List.range 0x1000).map fun i => g (0x2F80000 + 64 * i))

/-- A record as the recording area holds it (R544). -/
def recordBytes (r : LogRec) : List Byte :=
  let es := if r.image.isEmpty then r.gs else imageEntries r.image
  let b := leBytes 4 r.len ++ leBytes 1 r.typ ++ leBytes 1 r.cls ++ leBytes 2 r.flags ++ leBytes 8 r.seq ++ leBytes 6 r.wake ++
    leBytes 2 0 ++ (r.body.flatMap fun n => leBytes 8 n) ++ es.flatMap grainBytes
  b ++ leBytes 4 (crc32c b) ++ leBytes 4 0

/-- The entries of an export of records (R551). -/
def exportEntries (serial : Nat) (rs : List LogRec) : List (List W64) :=
  let first := (rs.head?.map (·.seq)).getD 0
  let last := (rs.getLast?.map (·.seq)).getD 0
  let n := rs.foldl (fun n r => n + r.len) 0
  let hd := leBytes 4 0x4B4C4F47 ++ leBytes 2 1 ++ leBytes 2 0 ++ leBytes 8 serial ++ leBytes 8 first ++ leBytes 8 last ++ leBytes 8 n ++
    leBytes 24 0
  toEntries hd ++ toEntries (rs.flatMap recordBytes)

/-! ### Firmware slots and trials (R536 to R541) -/

/-- A firmware slot's image. -/
def State.fwSlot (s : State) (i : Nat) : Option FwSlot := mget none s.bin.fw i

/-- Marks a slot for trial in the backup registers and the boot record (R538). -/
def State.markTrial (s : State) (t : Option Trial) : State := { s with bin := { s.bin with trialBkp := t, trialRec := t } }

/-- The trial passes: its firmware has taken a pair state or reached Bench replay within 120 s of reset release (R538). -/
def State.trialPass (s : State) : State :=
  match s.bin.trialRec with
  | some t =>
    if t.started ∧ ¬ t.passed ∧ s.bin.runs = some t.slot ∧ s.tb 3 ≤ s.bin.releasedAt + 120000000000 then
      s.markTrial (some { t with passed := true })
    else s
  | none => s

/-- FIRMWARE_TRIAL_TIMEOUT (R538): 120 s from reset release without a pair state; the trial has not passed, and the next reset starts the
previous slot. -/
def execFirmwareTrialTimeout (s : State) : Host.Outcome State Fault Refusal :=
  match s.bin.trialRec with
  | some t => .next (if t.started ∧ ¬ t.passed then s.to3 (s.bin.releasedAt + 120000000001) else s)
  | none => .next s

end Sys2Proof.Machine
end

