-- ==== Sys2Proof/Machine/Replay.lean ====
section
/-! DEFINITION. Bench replay (R552 to R555). -/

namespace Sys2Proof.Machine

/-! ### Checkpoints of the recording -/

/-- A complete checkpoint of the recording: its BEGIN and END records and those between (R545, R547). -/
structure CkptAt where
  first : LogRec
  last : LogRec
  parts : List LogRec
  deriving DecidableEq, Repr

/-- The checkpoint whose BEGIN record heads a list, if it is complete: no restart, gap or other BEGIN before its END. -/
def ckptFrom : List LogRec → Option CkptAt
  | [] => none
  | b :: rest =>
    if b.typ ≠ 7 ∨ b.flags ≠ 1 then none
    else match rest.find? fun r => r.typ == 6 || r.typ == 9 || (r.typ == 7 && r.flags != 0) with
      | some e =>
        if e.typ = 7 ∧ e.flags = 2 then
          some ⟨b, e, rest.filter fun r => r.typ == 7 && r.flags == 0 && decide (r.seq < e.seq)⟩
        else none
      | none => none

/-- Every complete checkpoint of a list of records, in order. -/
def ckptsOf : List LogRec → List CkptAt
  | [] => []
  | r :: rs =>
    match ckptFrom (r :: rs) with
    | some k => k :: ckptsOf rs
    | none => ckptsOf rs

/-- W_cp of a class. -/
def CkptAt.wcp (k : CkptAt) (c : Nat) : Nat := k.last.body.getD c 0

/-- The identity that six words spell. -/
def ofIdWords (ws : List Nat) : Nat := ((ws.take 6).reverse).foldl (fun n w => n * 2 ^ 64 + w) 0

/-- The running Book's identity at a checkpoint. -/
def CkptAt.identity (k : CkptAt) : Nat := ofIdWords (k.last.body.drop 9)

/-- The memory cells of the read. -/
def CkptAt.cells (k : CkptAt) : NMap Byte := ((k.parts.find? fun r => r.gs.isEmpty).map (·.image)).getD []

/-- The entries of class c up to W_cp(c), in record order. -/
def CkptAt.entries (k : CkptAt) (c : Nat) : List GrainEntry :=
  (k.parts.filter fun r => r.cls == c && decide (r.wake ≤ k.wcp c)).flatMap (·.gs)

/-! ### Classes of the replay -/

/-- The replay of a class. -/
def Replay.of (r : Replay) (c : Nat) : ReplayCls := mget ReplayCls.init r.cls c

/-- The state with the replay of a class changed. -/
def State.modReplay (s : State) (c : Nat) (f : ReplayCls → ReplayCls) : State :=
  { s with log := { s.log with replay := s.log.replay.map fun r => { r with cls := mmod ReplayCls.init r.cls c f } } }

/-- An entry written to its address: a BOTH entry to both buffers, or to the front of class c where one is given. -/
def State.putEntry (s : State) (front : Option Nat) (e : GrainEntry) : State :=
  if ¬ e.both then s.setWords e.addr e.words
  else match front with
    | none => (s.setWords e.addr e.words).setWords (e.addr + 0x400000) e.words
    | some c => s.setWords (e.addr + if s.front c 1 then 0x400000 else 0) e.words

/-- The whole state of a checkpoint: the read, the entries of every class, the page bits (R547, R553). -/
def State.loadCkpt (s : State) (k : CkptAt) : State :=
  let s := (s.clearRange 0 0x2800000).clearRange 0x2F80000 0x2FC0000
  let s := k.cells.foldl (fun s e => s.setByte e.1 e.2) s
  let s := (List.range 8).foldl (fun s c => (k.entries c).foldl (fun s e => s.putEntry none e) s) s
  let pages := k.last.body.getD 8 0 % 2 ^ 16
  (s.setFld R.dirPagePageIn (pages % 256)).setFld R.dirPagePageOut (pages / 256)

/-- SEQ of the PUBLISH record of a class and Wake number after a checkpoint begins; the checkpoint's END where there is none. -/
def State.ckptPublish (s : State) (k : CkptAt) (c : Nat) : Nat :=
  ((s.log.flash.find? fun r => r.typ == 2 && r.cls == c && r.wake == k.wcp c && decide (k.first.seq < r.seq)).map (·.seq)).getD k.last.seq

/-- The Book of an identity, in a slot or in the Book store. -/
def State.bookBy (s : State) (id : Nat) : Option Book :=
  (((s.book.slots.filterMap fun e => e.2.img) ++ (s.book.store.filterMap (·.2))).find? fun b => b.identity == id)

/-- A Book in a slot, taken from the Book store where no slot holds it; the slot that does not run receives it. -/
def State.bookSlotFor (s : State) (b : Book) : State × Nat :=
  if (s.slot 0).img.any fun x => x.identity == b.identity then (s, 0)
  else if (s.slot 1).img.any fun x => x.identity == b.identity then (s, 1)
  else
    let i := if s.book.running = some 0 then 1 else 0
    ((s.modSlot i fun x => { x with img := some b }).setSlotState i 3, i)

/-- The replay goes on from a checkpoint under its Book: classes as its schedule has them, each after its W_cp (R553). -/
def State.replayFrom (s : State) (k : CkptAt) (b : Book) : State :=
  let (s, i) := s.bookSlotFor b
  let s := { s.idleLanes with classes := [], book := { s.book with turn := none } }
  let s := ((s.runSlot i).loadSched b).loadLanes b
  let s := s.loadCkpt k
  let s := s.setReg R.bookTurn.addr 0
  let s := (List.range 8).foldl (fun s c => (s.modCls c fun x => { x with mode := 1, begun := true }).setFld (R.bookTcWakeWake c) (k.wcp c)) s
  (List.range 8).foldl (fun s c => s.modReplay c fun x => { x with pos := s.ckptPublish k c + 1, state := if s.used c then x.state else 1 }) s

/-! ### The records of a class -/

/-- The records of the replay from a SEQ on. -/
def State.replayRest (s : State) (rp : Replay) (pos : Nat) : List LogRec :=
  s.log.flash.filter fun r => decide (pos ≤ r.seq) && decide (r.seq ≤ rp.stop)

/-- The TURN record, before the next restart or gap, whose Wake number of class c is `w`. -/
def State.replayTurnRec (s : State) (rp : Replay) (c w : Nat) : Option LogRec :=
  ((s.replayRest rp (rp.of c).pos).takeWhile fun r => r.typ != 6 && r.typ != 9).find? fun r => r.typ == 5 && r.body.getD (13 + c) 0 == w

/-- The Turn of a record has to wait: another one is in progress. -/
def State.replayBusy (s : State) (r : LogRec) : Bool := s.turnBook.any fun b => b.identity != ofIdWords (r.body.drop 6)

/-- Class c turns before its cycle `w` where the recording says so (R216, R553); the Turn ends when every class has turned or ended. -/
def State.replayTurn (s : State) (rp : Replay) (c w : Nat) : State :=
  match s.replayTurnRec rp c w with
  | none => s
  | some r =>
    match s.bookBy (ofIdWords (r.body.drop 6)) with
    | none => s
    | some n =>
      let (s, i) := s.bookSlotFor n
      let s := if s.book.turn.isSome then s
        else { s with book := { s.book with turn := some ⟨i, none, s.tb 3, false, 0, false, 0⟩ } }.armTurn
      let s := ((s.turnWork c w).turnSched c).setBit R.bookTurnTurned c true
      if (List.range 8).all fun d => !s.used d || s.bit R.bookTurnTurned d || (rp.of d).state != 0 then
        let s := ((s.runSlot i).setFld R.bookSlotsRevision n.revision).setReg R.bookTurn.addr 0
        let s := { s with book := { s.book with turn := none } }
        (List.range 8).foldl (fun s d => s.modCls d fun k => { k with turnDone := false }) s
      else s

/-- A command that a class applies in the replay (R553): input forces are left out. -/
def State.replayApply (s : State) (c : Nat) (r : LogRec) : State :=
  match (s.log.flash.find? fun x => x.typ == 3 && x.seq == r.body.headD 0).bind (·.cmd) with
  | none => s
  | some m =>
    match m with
    | .tune inst word v => s.tuneWord inst word v
    | .forceSet sig _ _ => if (s.dirEntry sig).kind = 0 then s.forceDo 0 none m else s
    | .forceRelease sig => if (s.dirEntry sig).kind = 0 then s.forceDo 0 none m else s
    | .forceReleaseAll _ => s.forceDo 0 (some c) m
    | _ => s

/-- A CYCLE record that is not skipped (R545, R553): its entries into the front, its times; an executed or stepped cycle begins on the lanes. -/
def State.replayCycle (s : State) (c : Nat) (r : LogRec) : State :=
  let s := r.gs.foldl (fun s e => s.putEntry (some c) e) s
  let t := r.body.getD 1 0
  let s := s.modCls c fun k => { k with start := r.body.headD 0, cycTime := t, stopTime := t }
  if r.flags = 0 ∨ r.flags = 4 then
    (s.modCls c fun k => { k with inFlight := true, cycStart := r.body.headD 0, cycWake := r.wake, flyTime := t }).beginLanes c
  else s

/-- One record for class c: the state after it, and whether the class waits there: for its cycle, for a publication, or for the other classes
at a restart or gap. -/
def State.replayRec (s : State) (rp : Replay) (c : Nat) (r : LogRec) : State × Bool :=
  let on := fun (s : State) => s.modReplay c fun x => { x with pos := r.seq + 1 }
  let here := fun (s : State) => s.modReplay c fun x => { x with pos := r.seq }
  if r.typ = 6 ∨ r.typ = 9 then (here s, true)
  else if r.cls ≠ c then (on s, false)
  else if r.typ = 1 then
    let s := s.setFld (R.bookTcWakeWake c) r.wake
    if r.flags = 1 then (on s, false)
    else
      if (s.replayTurnRec rp c r.wake).any s.replayBusy then (here s, true)
      else
        let s := (s.replayTurn rp c r.wake).replayCycle c r
        (on s, (s.cls c).inFlight)
  else if r.typ = 2 then (here s, true)
  else if r.typ = 4 then (on (s.replayApply c r), false)
  else (on s, false)

/-- Class c runs through its records until it waits or has none left. -/
def State.replayRun (s : State) (rp : Replay) (c : Nat) : List LogRec → State
  | [] => s.modReplay c fun x => { x with state := 1 }
  | r :: rs =>
    let (s, halt) := s.replayRec rp c r
    if halt then s else s.replayRun rp c rs

/-- The record at which a class waits. -/
def State.replayAt (s : State) (c : Nat) : Option LogRec :=
  s.log.replay.bind fun rp => (s.replayRest rp (rp.of c).pos).head?

/-- Every running class that has no cycle in flight goes on. -/
def State.replayPass (s : State) : State :=
  (List.range 8).foldl (fun s c =>
    match s.log.replay with
    | some rp =>
      if (rp.of c).state ≠ 0 ∨ (s.cls c).inFlight then s else s.replayRun rp c (s.replayRest rp (rp.of c).pos)
    | none => s) s

/-- Every class has ended: REPLAY_DONE (R554). -/
def State.replayDone (s : State) : State :=
  match s.log.replay with
  | some rp =>
    if s.fld R.logbStatusState = 2 ∧ (List.range 8).all (fun c => (rp.of c).state != 0) then
      (s.setFld R.logbStatusState 0).raise evReplayDone []
    else s
  | none => s

/-- All running classes wait at one restart or gap: they go on from the next complete checkpoint after it, or end (R553, R555). -/
def State.replayCross (s : State) (rp : Replay) (q : Nat) : State :=
  let s := (List.range 8).foldl (fun s c =>
    if (rp.of c).state ≠ 0 then s else s.modReplay c fun x => { x with crossed := x.crossed ++ [q] }) s
  let next := (ckptsOf (s.replayRest rp (q + 1))).head?
  match next, next.bind fun k => s.bookBy k.identity with
  | some k, some b => s.replayFrom k b
  | _, _ => (List.range 8).foldl (fun s c => s.modReplay c fun x => { x with state := if x.state = 0 then 1 else x.state }) s

/-- The replay goes on as far as it can without a lane or a comparison. -/
def State.replayGo (s : State) : Nat → State
  | 0 => s
  | n + 1 =>
    let s := s.replayPass.replayPass
    match s.log.replay with
    | none => s
    | some rp =>
      let live := (List.range 8).filter fun c => (rp.of c).state == 0
      match live.head?.bind fun c => s.replayAt c with
      | some r =>
        if (r.typ = 6 ∨ r.typ = 9) ∧ live.all fun c => (rp.of c).pos == r.seq && !(s.cls c).inFlight then
          (s.replayCross rp r.seq).replayGo n
        else s
      | none => s.replayDone

/-- The replay advanced, as many times as the recording has records. -/
def State.replayOn (s : State) : State := (s.replayGo (s.log.flash.length + 1)).replayDone

/-! ### Comparison (R554) -/

/-- Grains of class c in Signal SRAM: the front quads of its signals, the frames of its instances. -/
def State.classGrains (s : State) (c : Nat) : List (Nat × Nat) :=
  let quads := fun kind => ((s.classSigs c kind).map (· / 4)).eraseDups.map fun q =>
    (recAddr (s.front c kind) (q * 4), quadAddr q)
  let frames := (s.clsBook c).elim [] fun b => (b.insts.filter fun r => r.cls == c).flatMap fun r =>
    (List.range r.grains).map fun g => (frameAddr (r.frame + g), frameAddr (r.frame + g))
  quads 0 ++ quads 1 ++ frames

/-- A quad without CHANGED, which the checkpoint's read and its entries need not agree on (DESIGN CHOICE, assumption 30). -/
def sameGrain (quad : Bool) (x y : List W64) : Bool :=
  let m : W64 := 0xFBFFFFFFFFFFFFFF
  let cut := fun (l : List W64) => ((List.range l.length).zip l).map fun e => if quad && e.1 % 2 == 1 then e.2 &&& m else e.2
  cut x == cut y

/-- The first grain of class c that differs from a checkpoint at W_cp(c). -/
def State.ckptDiff (s : State) (k : CkptAt) (c : Nat) : Option Nat :=
  let es := k.entries c
  let want := fun (home : Nat) => ((es.reverse.find? fun e => e.addr == home).map (·.words)).getD (cellGrain k.cells home)
  ((s.classGrains c).find? fun g => !sameGrain (decide (g.2 < 0x1000000)) (s.grain g.1) (want g.2)).map (·.2)

/-- Class c ends with a divergence: REPLAY_DIVERGED with class, Wake and lanes. -/
def State.diverge (s : State) (c wake lanes want got : Nat) (grain : Option Nat) : State :=
  let s := s.modReplay c fun x => { x with state := 2, wake := wake, lanes := lanes, want := want, got := got, grain := grain }
  s.raise evReplayDiverged (leBytes 1 c ++ leBytes 6 wake ++ leBytes 1 lanes)

/-- The hashes of a replayed publication against its PUBLISH record, then the checkpoint at that Wake with CHECK (R554). -/
def State.compare (s : State) (rp : Replay) (c : Nat) (r : LogRec) : State :=
  let got := (List.range 8).map fun k => s.laneHash c k
  let want := (List.range 8).map fun k => r.body.getD (2 + k) 0
  let bad := (List.range 8).filter fun k => got.getD k 0 != want.getD k 0
  match bad with
  | k :: _ => s.diverge c r.wake (bad.foldl (fun n k => n + 2 ^ k) 0) (want.getD k 0) (got.getD k 0) none
  | [] =>
    let s := s.modReplay c fun x => { x with compared := x.compared + 1, pos := r.seq + 1 }
    if ¬ rp.check then s
    else
      match ((ckptsOf (s.replayRest rp rp.start)).find? fun k => k.wcp c == r.wake && decide (k.first.seq < r.seq)).bind
          fun k => s.ckptDiff k c with
      | some g => s.diverge c r.wake 0 0 0 (some g)
      | none => s

/-- REPLAY_PUBLISH_COMPARE (R553, R554): class c publishes what it has reached, with stop records where the recording has them. -/
def execReplayPublishCompare (c : Fin 8) (s : State) : Host.Outcome State Fault Refusal :=
  match s.log.replay with
  | none => .next s
  | some rp =>
    let k := s.cls c.val
    match s.replayAt c.val with
    | none => .next s
    | some r =>
      if (rp.of c.val).state ≠ 0 ∨ r.typ ≠ 2 ∨ r.cls ≠ c.val ∨ (k.inFlight ∧ ¬ k.complete) then .next s
      else
        let s := if r.flags.testBit 1 then s.stopRecords c.val else s
        let s := ((s.flip c.val 0).finishBack c.val 0).modCls c.val fun k => { k with inFlight := false, wrFrm := [], wrMisc := [] }
        .next (s.compare rp c.val r).replayOn

/-! ### REPLAY_START and REPLAY_STOP (R553, R557) -/

/-- The Books that a range needs (R553): of its checkpoints, Turns and restarts. -/
def rangeBooks (rs : List LogRec) : List Nat :=
  ((rs.filterMap fun r =>
    if r.typ = 5 then some (ofIdWords (r.body.drop 6))
    else if r.typ = 6 then some (ofIdWords r.body)
    else if r.typ = 7 ∧ r.flags = 2 then some (ofIdWords (r.body.drop 9))
    else none)).eraseDups

/-- The start checkpoint by SEQ of its BEGIN or END, or the latest one at or before a TB0 instant. -/
def State.replayCkpt (s : State) (bySeq : Bool) (v : Nat) : Option CkptAt :=
  let ks := ckptsOf s.log.flash
  if bySeq then ks.find? fun k => k.first.seq == v || k.last.seq == v
  else (ks.filter fun k => decide (k.first.at0 ≤ v)).getLast?

/-- REPLAY_START: the replay begins, or the item that is missing (R553). -/
def State.replayStart (s : State) (bySeq : Bool) (v stop : Nat) (check : Bool) : State × Option Nat :=
  match s.replayCkpt bySeq v with
  | none => (s, some (v % 2 ^ 32))
  | some k =>
    let ids := k.identity :: rangeBooks (s.log.flash.filter fun r => decide (k.last.seq < r.seq) && decide (r.seq ≤ stop))
    match ids.find? fun id => (s.bookBy id).isNone, s.bookBy k.identity with
    | some id, _ => (s, some (id % 2 ^ 32))
    | none, none => (s, some (k.identity % 2 ^ 32))
    | none, some b =>
      let s := { s with log := { s.log with replay := some ⟨k.first.seq, stop, check, []⟩ } }
      let s := s.setFld R.logbStatusState 2
      ((s.replayFrom k b).replayOn, none)

/-- REPLAY_STOP: the replay of every class ends. -/
def State.replayStop (s : State) : State :=
  let s := (List.range 8).foldl (fun s c => s.modReplay c fun x => { x with state := if x.state = 0 then 1 else x.state }) s
  ({ s.idleLanes with classes := [] }).replayDone

end Sys2Proof.Machine
end

