-- ==== Sys2Proof/Machine/Pair.lean ====
section
/-! DEFINITION. The pair: what follows from the partner's state, takeover and catch-up, first pair state and election, orderly handover
(R274 to R283, R297 to R316). -/

namespace Sys2Proof.Machine

/-! ### What a module may run (R256, R277, R313) -/

/-- The Book in the slot that BOOK_SELECT names, if it is READY, running or not (R274). -/
def State.readyBook (s : State) : Option Book :=
  if s.slotState s.selected = 3 ∨ s.slotState s.selected = 4 then (s.slot s.selected).img else none

/-- The barred lanes. -/
def State.barred (s : State) : List Nat := (List.range 8).filter fun l => s.bit R.cmpStatusBarred l

/-- A lane that serves a class in a Book. -/
def laneServes (b : Book) (l : Nat) : Bool := b.lists.any fun x => x.lane == l && !x.entries.isEmpty

/-- R256 lets the module run a Book without a partner. -/
def State.mayRunAlone (s : State) (b : Book) : Bool :=
  match s.barred with
  | [] => true
  | [l] => if laneServes b l then b.sched.spare.any fun x => x != l else b.sched.spare == some l
  | _ => false

/-- The module may run the program under rule 1 of R277. -/
def State.mayLead (s : State) : Bool := s.readyBook.isSome && !s.acc.opened && s.barred.isEmpty

/-- FIT as the election counts it (R277). -/
def State.electFit (s : State) : Bool := s.fitNow && s.readyBook.isSome

/-- FIT as a module without a role reports it for an election (R277); a module that resynchronises with an active one takes it afresh (R313). -/
def State.fitElect (s : State) : State :=
  let pp := s.fld R.pairStatePstate
  if s.pstate = psStart ∨ s.pstate = psSyncing ∨ s.pstate = psDetached then
    s.setFlag R.pairStateFit (s.pair.testsDone.isSome && s.electFit && pp != psActive && pp != psSolo)
  else s

/-- Identity of the Book in a slot, 0 where there is none (R203). -/
def State.slotId (s : State) (i : Nat) : Nat := ((s.slot i).img.map (·.identity)).getD 0

/-- What this module brings to an election (R277), and its Books (R313). -/
def State.ownElect (s : State) : ElectInfo :=
  { mayRun := s.mayLead, fit := s.electFit, preferred := s.flag R.pairStatePreferred, held := s.pair.heldWatch, serial := s.pair.serial,
    watch := s.pair.storedWatch, pairLevel := s.pair.pairLevel,
    version := ((s.bin.runs.bind fun i => s.fwSlot i).map (·.version)).getD 0, books := [s.slotId 0, s.slotId 1],
    busy := [0, 1].any fun i => s.slotState i == 1 || s.slotState i == 2 }

/-- Module x wins over module y by rules 1 to 5 of R277. -/
def wins (x y : ElectInfo) : Bool :=
  if x.mayRun != y.mayRun then x.mayRun
  else if x.fit != y.fit then x.fit
  else if x.preferred != y.preferred then x.preferred
  else if x.held ≠ y.held then decide (y.held < x.held)
  else decide (x.serial < y.serial)

/-! ### Small changes that go with a state -/

/-- Output frames that wait leave, since the requirement of R289 has lapsed. -/
def State.flushWait (s : State) : State :=
  if s.partner = psStandby ∧ s.isActive then s
  else
    let ws := s.pair.waitOut
    let s := { s with pair := { s.pair with waitOut := [] } }
    ws.foldl (fun s w => s.sendCycle w.wake w.frames) s

/-- The Reclaim count runs while the module is STANDBY, Preferred and FIT (R316). -/
def State.reclaimSet (s : State) : State :=
  let on := s.pstate == psStandby && s.flag R.pairStateFit && s.flag R.pairStatePreferred
  { s with pair := { s.pair with reclaimFrom := if on then some (s.pair.reclaimFrom.getD (s.tb 3)) else none } }

/-- The Reclaim count begins anew (R316). -/
def State.reclaimAgain (s : State) : State :=
  { s with pair := { s.pair with reclaimFrom := s.pair.reclaimFrom.map fun _ => s.tb 3 } }

/-- A module that leaves an active role: outputs open, CAN quiet, fence reaction of the hardware (R279, R281). -/
def State.quiet (s : State) : State := (s.openOutputs.stopStn true).canQuiet

/-- DETACHED (R274, R311). -/
def State.detach (s : State) : State := s.dropRole psDetached

/-- SAFE without a class D report: no role, outputs open, ALIVE_OUT static (R274, R275). -/
def State.safeStop (s : State) : State := ((s.openOutputs.canQuiet).dropRole psSafe).raise evPartnerLost []

/-- The frames of the Watch announcement on P0 and P1, each in both forms (R298, R327, R349): no values. -/
def State.announceRings (s : State) : State :=
  if s.flag R.stnSafeStopped then s
  else
    [(0, false), (0, true), (1, false), (1, true)].foldl (fun s (x : Nat × Bool) =>
      s.ringSend x.1 { s.frameTo 4 (x.1 * 128) with all := true, towardB := x.2 }) s

/-- The Watch announcement on P0 to P3 (R298). -/
def State.announce (s : State) : State := s.announceRings.fabAnnounce

/-! ### Catch-up (R299, R300) -/

/-- Back buffers brought into line with the fronts (R300): UNDER records stand for forced ones; KIND 1 quads with own writes stay. -/
def State.alignBacks (s : State) : State :=
  let under := fun (sig : Nat) => (s.forceOf sig).map s.forceUnder
  (List.range 8).foldl (fun s c =>
    [0, 1].foldl (fun s kind =>
      let own := quadsOf (s.cls c).wrIn
      let qs := ((s.classSigs c kind).map (· / 4)).eraseDups
      let f := s.front c kind
      qs.foldl (fun s q => if kind = 1 ∧ own.contains q then s else s.copyQuad f (!f) (fun _ => false) under q) s) s) s

/-- A cycle that the catch-up executes: in flight from its nominal start, with its frozen image in place (R299); the Turn and the tuning of its
Wake number come first (R178, R219). -/
def State.catchCycle (s : State) (h : HeldInput) (published : Bool) : State :=
  let c := h.cls
  let turn := s.flag R.bookTurnArmed && !s.bit R.bookTurnTurned c && decide (s.fld R.bookTurnInstant * 500000 ≤ h.start)
  let s := if turn then (((s.turnWork c h.wake).turnSched c).setBit R.bookTurnTurned c true).turnComplete else s
  let due := fun (x : PendApply) => x.cls == c && !x.done && x.wake.any fun w => decide (w ≤ h.wake)
  let s := (s.book.pend.filter due).foldl (fun s x => match x.body with | .tune i w v => s.tuneWord i w v | _ => s) s
  let s := { s with book := { s.book with pend := s.book.pend.filter fun x => !due x } }
  let s := h.grains.foldl (fun s e => s.putEntry (some c) e) s
  let s := s.modCls c fun k =>
    { k with inFlight := true, cycStart := h.start, cycWake := h.wake, flyTime := h.ctime, cycTime := h.ctime, cycSkips := 0,
             shipTurn := k.shipTurn || turn }
  let m := s.pair.catchUp
  let m := if m.testBit c == published then m else if published then m + 2 ^ c else m - 2 ^ c
  { s with pair := { s.pair with catchUp := m } }.beginLanes c

/-- The next held Input record of class c: executed, applied as a held or stopped start, or none left (R299). The starts after the oldest
unpublished cycle are skipped. -/
def State.catchNext (s : State) (c : Nat) : List HeldInput → State
  | [] =>
    let m := s.pair.catchUp
    let s := { s with pair := { s.pair with catchUp := if m.testBit c then m - 2 ^ c else m } }
    s.modCls c fun k => { k with inFlight := false, complete := false }
  | h :: hs =>
    let s := { s with pair := { s.pair with held := s.pair.held.filter fun x => !(x.cls == c && x.wake == h.wake) } }
    if h.noexec then (h.grains.foldl (fun s e => s.putEntry (some c) e) s).catchNext c hs
    else
      let published := !hs.isEmpty || decide (h.wake < mget 0 s.pair.relayed c)
      let s := s.catchCycle h published
      if published then s
      else
        let n := s.fld (R.bookTcWakeWake c) - h.wake
        s.modCls c fun k => { k with cycSkips := n }

/-- The held Input records of class c. -/
def State.heldOf (s : State) (c : Nat) : List HeldInput := s.pair.held.filter fun h => h.cls == c

/-- The starts of class c that came before t_d without an Input record: skipped, counted and logged (R97, R299). -/
def State.catchSkips (s : State) (c : Nat) : State :=
  let k := s.cls c
  let now := s.fld (R.bookTcWakeWake c)
  let last := match (s.heldOf c).getLast? with
    | some h => h.wake
    | none => if s.flag (R.pairClassValid c) then s.fld (R.pairClassAcked c) else now
  (List.range (now - last)).foldl (fun s i =>
    let back := now - last - 1 - i
    let s := (s.incSat (R.bookTcCountSkips c)).overrunEvent c
    s.logRec 1 1 c (last + 1 + i) [k.start - back * s.periodNs c, k.cycTime - back * s.periodNs c / 1000, 0]) s

/-- The catch-up of class c begins: the front as it was at A(c), then the held records in order (R299). -/
def State.catchBegin (s : State) (c : Nat) : State :=
  if ¬ s.used c ∨ ¬ (s.cls c).begun then s
  else
    let s := s.catchSkips c
    let hs := s.heldOf c
    if hs.isEmpty then s
    else
      let s := (mget [] s.pair.undo c).foldl (fun s e => s.putEntry (some c) e) s
      let s := { s with pair := { s.pair with undo := mdel s.pair.undo c } }
      s.catchNext c hs

/-- CATCH_UP_DONE (R299): a cycle taken as published has been recomputed; its records become the front, the Logbook takes it in the
ordinary way, and the next held cycle follows. -/
def execCatchUpDone (c : Fin 8) (s : State) : Host.Outcome State Fault Refusal :=
  let k := s.cls c.val
  if ¬ s.pair.catchUp.testBit c.val ∨ ¬ k.inFlight ∨ ¬ k.complete then .next s
  else
    let s := (s.flip c.val 0).finishBack c.val 0
    let s := s.logPublish 0 c.val k.cycWake (k.cycStart + s.periodNs c.val - s.marginNs c.val)
    let s := s.modCls c.val fun k => { k with inFlight := false, complete := false, wrFrm := [], wrMisc := [], pubDone := true }
    .next (s.catchNext c.val (s.heldOf c.val))

/-! ### Takeover (R280, R296 to R299, R312) -/

/-- Commands that took effect through the failed active (R296); a Turn whose instant is not fixed has taken none. -/
def State.completeOld (s : State) : State :=
  let t := s.tb 2
  (s.pair.mirrors.filter fun m => m.pair.isNone && (!m.fixed || decide (m.effect < t)) && (bodyTimed m.body || m.effect != 0) &&
    decide (s.tb 3 ≤ m.arrival + 60000000000)).foldl (fun s m => s.completed m) s

/-- Forces whose commits have not arrived (R230, R296). -/
def State.takeForces (s : State) : State :=
  let fs := s.book.pend.filter fun x =>
    !x.done && (match x.body with | .forceSet _ _ _ => true | .forceRelease _ => true | .forceReleaseAll _ => true | _ => false)
  let s := { s with book := { s.book with pend := s.book.pend.filter fun x => !(fs.any (· == x)) } }
  fs.foldl (fun s x => s.forceDo x.client (match x.body with | .forceReleaseAll _ => some x.cls | _ => none) x.body) s

/-- The active role: relays end, outputs, CAN, SAFE frames, fabric, time (R274, R298, R350, R412). -/
def State.lead (s : State) (p : Nat) : State :=
  let s := s.enter p
  let s := { s with pair := { s.pair with handover := none, deferred := none, lagging := false, oldActive := false, newActive := false,
                                          reclaimFrom := none, gaveCause := none } }
  s.safeFrames.setJoined

/-- Steps 1 and 2 of R298: Watch number, PAIR_TAKE, fence, announcements. -/
def State.takeFence (s : State) (w cause : Nat) : State :=
  let s := (s.takeWatch w).latchTake w cause true
  let t := s.tb 3
  let s := (s.setFlag R.pairFenceOut true)
  { s with pair := { s.pair with fenceOutAt := some t, announceUntil := some (t + 10000000), tdAt := some (s.tb 2) } }.announce

/-- One barred lane that serves a class: the spare carries its lists from the class epochs (R256). -/
def State.spareBarred (s : State) (b : Book) : State :=
  match s.barred with
  | [l] => if laneServes b l then (s.setFld R.cmpStatusSpared l).setFlag R.cmpStatusSparing true else s
  | _ => s

/-- The spare takes up the lists that it is to carry in a module that already follows a Book, and their code (R256). -/
def State.carryLists (s : State) : State :=
  match s.namedSpare with
  | some sp =>
    let l := s.fld R.cmpStatusSpared
    if s.flag R.cmpStatusSparing = false ∨ s.bit R.cmpStatusBarred l = false then s
    else
      let s := (s.runBook.elim s fun b => s.loadCode sp 0 (laneCode b l))
      let s := (s.turnBook.elim s fun b => s.loadCode sp 1 (laneCode b l))
      (List.range 8).foldl (fun s c =>
        let x := (s.clsBook c).bind fun b => b.lists.find? fun x => x.cls == c && x.lane == l
        let s := (s.setFld (R.laneListBase sp c) (x.elim 0 (·.base))).setFld (R.laneListCount sp c) (x.elim 0 (·.entries.length))
        s.setBit (R.laneBankBank sp) c (s.turned c)) s
  | none => s

/-- The module takes over from t_d (R298 to R300); a crossfade steps to full drive (R577); without a partner a barred lane's lists go to the
spare (R256). A module that finds a valid fence takes no active role (R281). -/
def State.takeover (s : State) (cause p : Nat) : State :=
  if s.flag R.pairFenceValid then s
  else
    match s.nextWatch with
    | none => s.raise evWatchExhausted []
    | some w =>
      let s := if s.field.xfade.isSome then s.xfadeEnd true else s
      let s := if cause = 3 then s else (s.runBook.elim s fun b => s.spareBarred b).carryLists
      let s := (s.takeFence w cause).lead p
      let s := s.takeOutputs.canNormal
      let s := s.completeOld.takeForces
      let s := if cause = 1 ∨ cause = 2 then s.setMaster true else s
      let s := { s with pair := { s.pair with exerciseFrom := some (s.tb 3, 0) } }
      (List.range 8).foldl (fun s c => s.catchBegin c) s.alignBacks

/-- The takeover of R312: no catch-up, a WARM restart of the selected Book, as the boot mode has it (R109). -/
def State.takeCold (s : State) : State :=
  match s.nextWatch, s.readyBook with
  | none, _ => s.raise evWatchExhausted []
  | _, none => s
  | some w, some b =>
    let s := ((s.takeFence w 8).lead psSolo).takeOutputs.canNormal.completeOld
    let s := (s.setMaster true).spareBarred b
    let s := { s with pair := { s.pair with exerciseFrom := some (s.tb 3, 0) } }
    ((s.startProgram true s.selected (s.bootMode == 1)).safeFrames).raise evTakeoverNotBumpless []

/-- The last cycles that the old active of a handover owes come no more: its classes go on from the commits applied (R308; DESIGN CHOICE,
assumption 52). -/
def State.handoverCut (s : State) : State :=
  if s.pair.newActive then { s with pair := { s.pair with newActive := false, held := [], undo := [] } } else s

/-- The partner is lost (R274, R297): cause 1 silent with the link lost, 2 SAFE. A handover that has not come to H ends (R308). -/
def State.partnerLost (s : State) (cause : Nat) : State :=
  let p := s.pstate
  if p = psStandby then
    if s.flag R.pairStateFit ∨ s.runBook.any s.mayRunAlone then s.takeover cause psSolo else s.safeStop
  else if p = psSyncing ∨ p = psDetached then
    if s.pair.lostSeen then s
    else if s.flag R.pairCfgDetachWarm ∧ s.readyBook.any s.mayRunAlone ∧ ¬ s.flag R.pairFenceValid then s.takeCold
    else (s.setMaster true).raise evPartnerLost []
  else if p = psActive then
    let s := if s.field.xfade.isSome then s.xfadeEnd true else s
    let s := { s.handoverCut with pair := { s.handoverCut.pair with handover := none } }
    (((s.enter psSolo).flushWait).setMaster true).raise evPartnerLost []
  else s

/-! ### First pair state and election (R274, R277, R412) -/

/-- The time-master role at the first pair state (R412). -/
def State.firstMaster (s : State) : State :=
  let alive := s.flag R.pairStateAliveIn
  let up := s.flag R.pairLinkUp
  let safe := up && s.fld R.pairStatePstate == psSafe
  let b := if (!up && !alive) || safe then true
    else if up && s.fld R.pairStatePstate == psStart && !s.time.pMaster then s.masterByRule
    else false
  s.setMaster b

/-- What goes with the first pair state: a trial passes, the role of R412, the fabric. -/
def State.firstTaken (s : State) : State := (s.trialPass.firstMaster).setJoined

/-- The module enters SYNCING or DETACHED from start-up. -/
def State.firstWait (s : State) (p : Nat) : State := (s.enter p).firstTaken

/-- The module takes the active role from an election or alone and restarts the program (R116, R117, R277, R278). -/
def State.begin (s : State) (cause p : Nat) (b : Book) : State :=
  match s.nextWatch with
  | none => s.raise evWatchExhausted []
  | some w =>
    let s := ((s.takeWatch w).latchTake w cause true).spareBarred b
    let first := s.pstate == psStart
    let s := s.lead p
    let s := if first then s.firstTaken else s
    let s := s.startProgram (!b.sched.startCold) s.selected (s.bootMode == 1)
    s.canNormal.safeFrames

/-- The election with a partner (R277): both levels in PAIR_UNFIT (R540). A winner that finds a valid fence takes no active role (R281). -/
def State.elect (s : State) (e : ElectInfo) : State :=
  let own := s.ownElect
  let sync := fun (s : State) => if s.pstate = psStart then s.firstWait psSyncing
    else if s.pstate = psSyncing then s else s.dropRole psSyncing
  if ¬ own.mayRun ∧ ¬ e.mayRun then (sync s).raise evPairUnfit (leBytes 2 own.pairLevel ++ leBytes 2 e.pairLevel)
  else if wins own e ∧ s.flag R.pairFenceValid = false then
    match s.readyBook with
    | some b => s.begin 9 psActive b
    | none => sync s
  else sync s

/-- SAFE as the first pair state, with the outputs open. -/
def State.firstSafe (s : State) : State := ((s.enter psSafe).openOutputs.firstTaken).enter psSafe

/-- The first pair state, once the start-up tests are complete (R256, R274, R281, R434, R606, R609): a module whose escalation is blocked stays SAFE
through a reset of warm reach. -/
def State.firstState (s : State) : State :=
  if s.pstate ≠ psStart ∨ s.pair.testsDone.isNone ∨ s.flag R.fcolStatusSafe then s
  else
    let up := s.flag R.pairLinkUp
    let pp := s.fld R.pairStatePstate
    if s.flag R.fcolEscBlocked then s.firstSafe
    else if s.flag R.pairFenceValid then s.firstWait psSyncing
    else if up ∧ (pp = psActive ∨ pp = psSolo) then s.firstWait psSyncing
    else if up ∧ (pp = psStart ∨ pp = psSyncing ∨ pp = psDetached) then
      match s.pair.elect with
      | some e => s.elect e
      | none => s
    else if ¬ s.flag R.pairStateAliveIn then
      match s.readyBook with
      | some b => if s.mayRunAlone b then s.begin 10 psSolo b else s.firstSafe
      | none => s.firstWait psSyncing
    else s

/-! ### What the signals from the partner mean (R297) -/

/-- The conditions of R297 under which the partner is lost, but for the pair state of this module. -/
def State.lostNow (s : State) : Bool :=
  !s.flag R.pairStateAliveIn && (!s.flag R.pairLinkUp || s.fld R.pairStatePstate == psSafe)

/-- The loss of the partner acted on, or its return. -/
def State.lostMark (s : State) : State := { s with pair := { s.pair with lostSeen := s.lostNow } }

/-- The combination of ALIVE_IN, link and Status (R274, R297). -/
def State.judgeNow (s : State) : State :=
  let alive := s.flag R.pairStateAliveIn
  let up := s.flag R.pairLinkUp
  let safe := up && s.fld R.pairStatePstate == psSafe
  let p := s.pstate
  if p = psStart then s.firstState
  else if p = psSolo ∨ p = psSafe then s
  else if alive then
    if up then s
    else if p = psStandby ∨ p = psSyncing then s.detach.raise evDetached [] else s
  else if safe then s.partnerLost 2
  else if up then (if s.srcKnown 0x2D then s else s.report 0x2D 0)
  else s.partnerLost 1

/-- The combination judged; a partner once lost is lost anew only after it was there (R274). -/
def State.judge (s : State) : State := s.judgeNow.lostMark

/-! ### Orderly handover (R307 to R309) -/

/-- R307 lets a handover begin. -/
def State.mayHandOver (s : State) : Bool := s.isActive && s.fitPartner && s.book.turn.isNone && s.book.pendMode.isNone

/-- A handover asked for: begun, in place of one that has not come to H, or refused (false). -/
def State.handOver (s : State) (cause notBefore : Nat) : State × Bool :=
  if s.mayHandOver then
    let h : Handover := ⟨cause, 1, 0, false, 0, notBefore, false⟩
    ({ s with pair := { s.pair with handover := some h, deferred := none } }.notice 3 0, true)
  else (s, false)

/-- A handover asked for by another source than a command: deferred where R307 does not allow it. -/
def State.handOverOr (s : State) (cause : Nat) : State :=
  let (s, ok) := s.handOver cause 0
  if ok ∨ ¬ s.isActive then s
  else { s with pair := { s.pair with deferred := some (cause, s.tb 3) } }.raise evHandoverDeferred []

/-! ### Resynchronisation (R313) -/

/-- The slots whose Books the partner is to be sent: those that hold an image of another identity than it reports (R203, R313). -/
def State.booksDiffer (s : State) : List Nat :=
  [0, 1].filter fun i => (s.slot i).img.any fun b => (s.pair.elect.map fun e => e.books.getD i 0) != some b.identity

/-- The partner is still taking Books (R313). -/
def State.partnerBusy (s : State) : Bool := s.pair.elect.any (·.busy)

/-- The Mirror sweep (R313). -/
def State.mirrorAll (s : State) : State :=
  let s := { s with pair := { s.pair with sweepDue := false } }
  s.linkSends (imageEntries s.mirrorCells) fun last es => .mirror es last

/-- A partner requests the mirror: each Book that differs first (R205, R313), then the sweep; not to another PAIR_LEVEL (R540). -/
def State.sweep (s : State) : State :=
  if s.pair.elect.any fun e => e.pairLevel != s.pair.pairLevel then s
  else if s.booksDiffer.isEmpty ∧ ¬ s.partnerBusy then s.mirrorAll
  else
    let s := s.booksDiffer.foldl (fun s i => s.linkSend (.bookRec i (s.slotId i))) s
    { s with pair := { s.pair with sweepDue := true } }

/-- The sweep that waited for the partner's Books (R313). -/
def State.sweepOn (s : State) : State :=
  if s.pair.sweepDue ∧ s.booksDiffer.isEmpty ∧ ¬ s.partnerBusy then s.mirrorAll else s

/-- STANDBY once the sweep has ended, each used class has a commit, and the pair configuration is copied (R313). -/
def State.trySync (s : State) : State :=
  let p := s.pair
  if s.pstate = psSyncing ∧ p.sweepEnded ∧ p.cfgCopied ∧ s.flag R.pairLinkUp ∧ s.usedClasses.all fun c => p.sweepCommits.testBit c then
    ((s.enter psStandby).raise evSynced []).refit.reclaimSet
  else s

end Sys2Proof.Machine
end

