-- ==== Sys2Proof/Machine/Mbox.lean ====
section
/-! DEFINITION. The mailbox firmware: posting, taking and answering commands, sessions and repeats, mirrored acceptance, bulk transfers
(R295, R490 to R506, R516, R520, R605, R606, R634). -/

namespace Sys2Proof.Machine

/-! ### Status codes (R520) -/

/-- The status codes. -/
def stOk : Nat := 0x0
@[inherit_doc stOk] def stBadOpcode : Nat := 0x1
@[inherit_doc stOk] def stBadLength : Nat := 0x2
@[inherit_doc stOk] def stBadParam : Nat := 0x3
@[inherit_doc stOk] def stLevel : Nat := 0x4
@[inherit_doc stOk] def stClient : Nat := 0x5
@[inherit_doc stOk] def stSequence : Nat := 0x6
@[inherit_doc stOk] def stNotActive : Nat := 0x7
@[inherit_doc stOk] def stNotReady : Nat := 0x8
@[inherit_doc stOk] def stState : Nat := 0x9
@[inherit_doc stOk] def stPending : Nat := 0xA
@[inherit_doc stOk] def stNotFound : Nat := 0xB
@[inherit_doc stOk] def stNotWritable : Nat := 0xC
@[inherit_doc stOk] def stTableFull : Nat := 0xD
@[inherit_doc stOk] def stAccessDenied : Nat := 0xE
@[inherit_doc stOk] def stTransfer : Nat := 0xF
@[inherit_doc stOk] def stTurnTimeout : Nat := 0x10
@[inherit_doc stOk] def stDebugRefused : Nat := 0x11
@[inherit_doc stOk] def stKey : Nat := 0x12
@[inherit_doc stOk] def stBusy : Nat := 0x13
@[inherit_doc stOk] def stInternal : Nat := 0x14

/-- What the execution of a command comes to: a status, its detail and the result now, or an answer that waits with the own part of the
result; `query` is the length of the partner's part where its reply is awaited (R499, R634). `last`: answered OK, and then the session ends (none),
or the module is reset, cold or warm (R501, R518). -/
inductive Ans where
  | now (status detail : Nat) (result : List Byte)
  | later (query : Option Nat) (status detail : Nat) (own : List Byte)
  | last (reset : Option Bool)
  deriving DecidableEq, Repr

/-- Executed, with a result. -/
def okWith (bs : List Byte) : Ans := .now stOk 0 bs

/-- Refused with a status and a detail. -/
def refuse (status detail : Nat) : Ans := .now status detail []

/-- BAD_PARAM for operand k of a command: the byte offset of the parameter (R520). -/
def badParam (h : Hdr) (k : Nat) : Ans := refuse stBadParam (h.offs.getD k 0)

/-- Register words as they read, as bytes. -/
def State.regBytes (s : State) (as : List Nat) : List Byte := wordBytes (as.map fun a => s.wordRead a)

/-! ### Responses (R491 to R493, R497, R498) -/

/-- Entries that a command or response of `n` parameter or result bytes takes (R491). -/
def entriesOf (n : Nat) : Nat := 1 + ceilDiv (n - 48) 64

/-- The entries of a response (R491, R492). -/
def respEntries (r : Resp) (again : Bool) : List (List W64) :=
  let head := leBytes 2 r.tally ++ leBytes 2 r.op ++ leBytes 2 r.result.length ++ leBytes 2 r.status ++
    leBytes 1 (if again then 2 else 0) ++ leBytes 3 0 ++ leBytes 4 r.detail
  toEntries (head ++ r.result)

/-- A response written into the ring of its pair, and sent where the transport has no access to the ring (R493, R515, R516). -/
def State.respond (s : State) (p : Nat) (r : Resp) (again : Bool) : State :=
  let q := 2 * p + 1
  let es := respEntries r again
  let pi := s.fld (R.qmgrQIdxPi q)
  let s := es.zipIdx.foldl (fun s e => s.qWrite q (pi + e.2) e.1) s
  let s := ((s.setFld (R.qmgrQIdxPi q) (pi + es.length)).qFullFlag q).qNotify q
  match (s.sess p).bound with
  | some .pcie => s
  | some v => s.emit (.mboxTo v q (s.sess p).client es)
  | none => s

/-- The answer to a command executed: kept for repeats and written (R497). -/
def State.answer (s : State) (p : Nat) (r : Resp) : State :=
  (s.modSess p fun x => { x with hist := (r :: x.hist).take 64 }).respond p r false

/-- The answer to the command of a pair that waits (R499); a free pair's is discarded (R501). -/
def State.finish (s : State) (p status detail : Nat) (result : List Byte) : State :=
  match (s.sess p).waiting with
  | none => s
  | some w => (s.modSess p fun x => { x with waiting := none }).answer p ⟨w.op, w.tally, status, detail, result⟩

/-- The ring pair whose waiting command an opcode names. -/
def State.waiterOf (s : State) (op : Nat) : Option Nat := (s.mail.sess.find? fun e => e.2.waiting.any fun w => w.op == op).map (·.1)

/-- The answer to the waiting command of an opcode. -/
def State.finishOp (s : State) (op status detail : Nat) (result : List Byte) : State :=
  match s.waiterOf op with
  | some p => s.finish p status detail result
  | none => s

/-! ### Posting and taking (R491, R495, R498) -/

/-- The mailbox firmware serves a transport: it runs, and the transport reaches it; the recovery image, which also runs with an invalid strap,
serves the service port alone (R605, R606). -/
def State.mboxServes (s : State) (via : Transport) : Bool :=
  !s.inReset 9 &&
    (match via with
      | .service _ _ => s.bin.runs.isSome || s.bin.recovery
      | .pcie => s.bin.runs.isSome && s.hostUp
      | .fabric _ => s.bin.runs.isSome && s.flag R.fabCtrlJoined)

/-- The entries of a command that its host has not posted yet are posted, and a free pair is bound, or the index write is refused (R487,
R495). -/
def State.mboxPost (s : State) (h : Hdr) (n : Nat) : State :=
  let q := 2 * h.pair
  let k := n - s.qUsed q
  if k = 0 ∧ (s.sess h.pair).bound.isSome then s
  else s.indexWrite h.via q true ((s.fld (R.qmgrQIdxPi q) + k) % 2 ^ 32)

/-- ACK of a command's header, on the transports without access to the ring: the consumer index of the response ring, ignored outside CI to
PI (R490, R515, R516). -/
def State.mboxAck (s : State) (h : Hdr) : State :=
  let q := 2 * h.pair + 1
  if h.via ≠ .pcie ∧ s.indexOk q false (h.ack % 2 ^ 32) then s.consume q (h.ack % 2 ^ 32) else s

/-- A command taken: its entries leave the command ring (R498, R508). -/
def State.mboxTake (s : State) (h : Hdr) (n : Nat) : State :=
  (s.takeEntries (2 * h.pair) n).modSess h.pair fun x => { x with lastRx := s.tb 3 }

/-- NEXT advanced by the command that carried it (R497). -/
def State.mboxNext (s : State) (h : Hdr) : State := s.modSess h.pair fun x => { x with next := (x.next + 1) % 65536 }

/-- The state in which a command with the right Tally is executed: its ACK applied, its entries taken, NEXT advanced. -/
def State.taken (s : State) (h : Hdr) : State := ((s.mboxAck h).mboxTake h (entriesOf h.len)).mboxNext h

/-- Commands that the recovery image offers (R606). -/
def recoveryOp (op : Nat) : Bool :=
  op == 0 || (decide (0x20 ≤ op) && decide (op ≤ 0x23)) || (decide (0xC00 ≤ op) && decide (op ≤ 0xC04))

/-- Expert level is enabled for a transport (R502). -/
def State.expertOn (s : State) (via : Transport) : Bool :=
  s.bin.modCfg.expert.testBit (match via with | .pcie => 0 | .fabric _ => 1 | .service _ _ => 2)

/-- The checks of a command before its own: opcode, length, level, role (R491, R500, R502, R606). -/
def State.mboxChecks (s : State) (h : Hdr) (op : Nat) (active : Bool) : Option Ans :=
  if s.bin.recovery ∧ ¬ recoveryOp op then some (refuse stBadOpcode 0)
  else if h.len ≠ h.need ∨ ¬ h.whole then some (refuse stBadLength h.need)
  else if 2 ≤ h.level ∨ (0xF00 ≤ op ∧ (h.level ≠ 1 ∨ (s.sess h.pair).level ≠ 1)) then some (refuse stLevel 0)
  else if active ∧ ¬ s.isActive then some (refuse stNotActive s.pstate)
  else none

/-- A command with the right Tally: executed, or refused by the common checks. -/
def State.mboxRun (s : State) (h : Hdr) (op : Nat) (active : Bool) (body : State → State × Ans) : State × Ans :=
  match s.mboxChecks h op active with
  | some a => (s, a)
  | none => body s

/-- The entries of an answer, as far as the response ring must have room for them. -/
def ansEntries (a : Ans) : Nat :=
  match a with
  | .now _ _ r => entriesOf r.length
  | .later n _ _ own => entriesOf (own.length + 1 + n.getD 0)
  | .last _ => 1

/-- An executed command and its answer. -/
def State.mboxEnd (s : State) (h : Hdr) (op : Nat) (a : Ans) : State :=
  match a with
  | .now st d r => s.answer h.pair ⟨op, h.tally, st, d, r⟩
  | .later q st d own => s.modSess h.pair fun x => { x with waiting := some ⟨op, h.tally, q, st, d, own, s.tb 3⟩ }
  | .last none => (s.answer h.pair ⟨op, h.tally, stOk, 0, []⟩).freePair h.pair
  | .last (some cold) => (s.answer h.pair ⟨op, h.tally, stOk, 0, []⟩).assertSource (if cold then 5 else 4)

/-- A command of an open pair, taken (R497). -/
def State.mboxOpen (s : State) (h : Hdr) (op : Nat) (active : Bool) (body : State → State × Ans) : State :=
  let x := s.sess h.pair
  let back := (x.next + 65536 - h.tally % 65536) % 65536
  if h.client ≠ x.client then s.respond h.pair ⟨op, h.tally, stClient, 0, []⟩ false
  else if h.tally = x.next then
    let r := (s.mboxNext h).mboxRun h op active body
    r.1.mboxEnd h op r.2
  else if 1 ≤ back ∧ back ≤ 64 then
    match x.hist.find? fun r => r.tally == h.tally with
    | some r => s.respond h.pair r true
    | none => s.respond h.pair ⟨op, h.tally, stSequence, x.next, []⟩ false
  else s.respond h.pair ⟨op, h.tally, stSequence, x.next, []⟩ false

/-- Entries of a command's largest response, as the table of its command gives its result (R498, R520). -/
def respMost (op : Nat) : Nat :=
  match op with
  | 0x10 => 15
  | 0x13 | 0x600 | 0xB00 => 2
  | 0x200 | 0x403 | 0x800 | 0x900 => 3
  | 0x400 => 4
  | 0x30 => 5
  | 0xA00 => 7
  | 0x801 => 9
  | 0xB04 => 11
  | 0x912 => 13
  | 0x12 | 0x22 | 0x100 | 0x102 | 0x103 | 0x300 | 0x500 | 0x602 | 0x603 | 0x604 | 0x700 | 0x811 | 0xF00 => 16
  | _ => 1

/-- The room that the response ring must have before a command is taken: its largest response's (R498); a response that no table bounds takes
what it has. -/
def State.mboxRoom (s : State) (h : Hdr) (op : Nat) (active : Bool) (body : State → State × Ans) : Nat :=
  let x := s.sess h.pair
  max (respMost op)
    (if ¬ x.isOpen ∨ h.client ≠ x.client then 1
     else if h.tally = x.next then ansEntries ((s.mboxNext h).mboxRun h op active body).2
     else ((x.hist.find? fun r => r.tally == h.tally).map fun r => entriesOf r.result.length).getD 1)

/-- The command ring's host and pair let a command be taken: served transport, bound to it, no answer outstanding (R495, R498, R605). -/
def State.mboxTakes (s : State) (h : Hdr) : Bool :=
  decide (h.pair < 32) && (s.sess h.pair).bound == some h.via && (s.sess h.pair).waiting.isNone

/-- A command posted if it is not, and taken when its turn has come and the response ring has room; then checked, executed and answered on an
open pair; `shut` is what becomes of it on a pair that is not open (R495 to R500). -/
def State.mboxWith (s : State) (h : Hdr) (op : Nat) (active : Bool) (body : State → State × Ans) (shut : State → State) : State :=
  let n := if h.whole then entriesOf h.len else 1
  if ¬ s.mboxServes h.via ∨ 32 ≤ h.pair then s
  else
    let s := s.mboxPost h n
    if ¬ s.mboxTakes h ∨ s.qUsed (2 * h.pair) < n then s
    else
      let s := s.mboxAck h
      let t := s.mboxTake h n
      if s.qFree (2 * h.pair + 1) < t.mboxRoom h op active body then s
      else if (t.sess h.pair).isOpen then t.mboxOpen h op active body
      else shut t

/-- A mailbox command other than CLIENT_OPEN (R495 to R500): on a pair that is not open it is answered with CLIENT, and the pair is free
again. -/
def State.mbox (s : State) (h : Hdr) (op : Nat) (active : Bool) (body : State → State × Ans) : State :=
  s.mboxWith h op active body fun s => (s.respond h.pair ⟨op, h.tally, stClient, 0, []⟩ false).freePair h.pair

/-! ### Mirrored acceptance (R295, R296, R499) -/

/-- The effect instant fixed for a client's Tally. -/
def State.effectOf (s : State) (client tally : Nat) : Nat :=
  ((s.pair.mirrors.find? fun m => m.client == client && m.tally == tally).map (·.effect)).getD 0

/-- A state-changing command accepted: recorded, sent to a partner that follows, and answered with its effect instant once that is fixed
(R295, R499). A Turn is answered once its instant is (R215). -/
def State.accept (s : State) (h : Hdr) (op : Nat) (body : MirBody) (params : List Nat) : State × Ans :=
  let m : MirCmd := ⟨h.client, h.tally, some h.pair, op, body, s.tb 2, false, 0, s.tb 3, false, 0, params⟩
  let old := s.pair.mirrors.filter fun x => !(x.client == h.client && x.tally == h.tally)
  let s := { s with pair := { s.pair with mirrors := old ++ [m] } }
  if s.mirrored then (s.linkSend (.command h.client h.tally body 0), .later none stOk 0 (leBytes 8 0))
  else
    let s := s.fixEffectAt h.client h.tally (s.tb 2)
    if bodyTimed body then (s, okWith (leBytes 8 (s.effectOf h.client h.tally))) else (s, .later none stOk 0 (leBytes 8 0))

/-- The partner has acknowledged a Command record at TB2 `t` ns, or takes no part any more (R295): the instant is fixed,
sent to a partner that mirrors, and the host answered. -/
def State.acked (s : State) (client tally t : Nat) : State :=
  match s.pair.mirrors.find? fun m => m.client == client && m.tally == tally && !m.fixed && m.pair.isSome with
  | none => s
  | some m =>
    let s := s.fixEffectAt client tally t
    if ¬ bodyTimed m.body then s
    else
      let p := m.pair.getD 0
      let s := if s.mirrored then s.linkSend (.command client tally m.body (s.effectOf client tally)) else s
      if (s.sess p).waiting.any fun w => w.op == m.op && w.tally == tally then s.finish p stOk 0 (leBytes 8 (s.effectOf client tally)) else s

/-- Commands that wait for the acknowledgement of a partner that no longer takes part (R295). -/
def State.orphans (s : State) : State :=
  if s.mirrored ∨ ¬ s.isActive then s
  else
    (s.pair.mirrors.filter fun m => !m.fixed && m.pair.isSome).foldl (fun s m => s.acked m.client m.tally (max m.accepted (s.tb 2 - 100000))) s

/-! ### Bulk transfers (R504, R505) -/

/-- Bytes of a chunk meet another's range with other contents. -/
def chunkClash (off : Nat) (data : List Byte) (c : Nat × List Byte) : Bool :=
  decide (off < c.1 + c.2.length) && decide (c.1 < off + data.length) && !(c == (off, data))

/-- Every byte up to TOTAL has arrived. -/
def bulkWhole (b : Bulk) : Bool :=
  (b.chunks.foldl (fun n c => n + c.2.length) 0) == b.total

/-- A chunk received (R505): refused, or staged, with whether the transfer is complete. -/
def State.chunk (s : State) (h : Hdr) (c : Chunk) : State × Ans × Bool :=
  let no := refuse stTransfer c.offset
  let mine := fun (b : Bulk) => b.id == c.id && b.pair == h.pair
  let bad := !c.crcOk || decide (992 < c.data.length)
  match s.mail.bulk.find? mine with
  | none =>
    if c.offset ≠ 0 ∨ bad ∨ c.total < c.data.length then (s, no, false)
    else if 4 ≤ s.mail.bulk.length then (s, refuse stBusy 0, false)
    else
      let b : Bulk := ⟨c.id, h.pair, c.total, [(0, c.data)], s.tb 3⟩
      ({ s with mail := { s.mail with bulk := s.mail.bulk ++ [b] } }, okWith [], bulkWhole b)
  | some b =>
    if bad ∨ b.total < c.offset + c.data.length ∨ b.chunks.any (chunkClash c.offset c.data) then (s, no, false)
    else
      let cs := if b.chunks.contains (c.offset, c.data) then b.chunks else b.chunks ++ [(c.offset, c.data)]
      let b' : Bulk := { b with chunks := cs, lastRx := s.tb 3 }
      ({ s with mail := { s.mail with bulk := s.mail.bulk.map fun x => if mine x then b' else x } }, okWith [], bulkWhole b')

/-- The bytes of a transfer from `pos` on, over `n` chunks at most. -/
def bulkFrom (cs : List (Nat × List Byte)) : Nat → Nat → List Byte
  | 0, _ => []
  | n + 1, pos =>
    match cs.find? fun c => c.1 == pos && !c.2.isEmpty with
    | some c => c.2 ++ bulkFrom cs n (pos + c.2.length)
    | none => []

/-- The bytes staged for the transfer of a chunk (R504). -/
def State.staged (s : State) (h : Hdr) (c : Chunk) : List Byte :=
  match s.mail.bulk.find? fun b => b.id == c.id && b.pair == h.pair with
  | some b => bulkFrom b.chunks b.chunks.length 0
  | none => []

/-- A transfer acted on by its owning command. -/
def State.chunkEnd (s : State) (h : Hdr) (c : Chunk) : State :=
  { s with mail := { s.mail with bulk := s.mail.bulk.filter fun b => !(b.id == c.id && b.pair == h.pair) } }

/-- BULK_TRANSFER_TIMEOUT (R505): 60 s of TB3 without a chunk; the transfer is abandoned. -/
def execBulkTransferTimeout (id : BitVec 32) (pair : Fin 32) (s : State) : Host.Outcome State Fault Refusal :=
  let mine := fun (b : Bulk) => b.id == id.toNat && b.pair == pair.val
  match s.mail.bulk.find? mine with
  | none => .next s
  | some b =>
    let s := s.to3 (b.lastRx + 60000000000)
    .next { s with mail := { s.mail with bulk := s.mail.bulk.filter fun x => !mine x } }

end Sys2Proof.Machine
end

