-- ==== Sys2Proof/Machine/Books.lean ====
section
/-! DEFINITION. Loading and verifying Books, the commands of block 0200h, arming and abandoning a Turn (R201 to R215, R238, R313). -/

namespace Sys2Proof.Machine

/-! ### Verification (R204 to R209, R211) -/

/-- A Book image complete in a slot: its verification begins, to end with the partner's where `both` (R205). -/
def State.verifyBegin (s : State) (i : Nat) (b : Book) (both : Bool) (answer : Option Nat) : State :=
  let s := s.modSlot i fun x => { x with img := some b, own := none, partner := none, both := both, answer := answer }
  (s.setSlotState i 2).setSlotOnline i false

/-- The load of a slot completes with its result (R205, R207): MISMATCH where the two results differ. -/
def State.loadEnd (s : State) (i : Nat) : State :=
  let x := s.slot i
  match x.own with
  | none => s
  | some own =>
    let bad := x.both && x.partner.any fun p => p != own
    let code := if bad then 0x1A else own
    let detail := if bad then 0 else x.detail
    let s := s.modSlot i fun x => { x with result := code, detail := detail, own := none, partner := none, both := false, answer := none }
    let s := (s.setSlotState i (if code ≤ 1 then 3 else 6)).setSlotOnline i (code == 0)
    match x.answer with
    | some p => if (s.sess p).waiting.any fun w => w.op == 0x201 then s.finish p stOk 0 (leBytes 1 code ++ leBytes 8 detail.toNat) else s
    | none => s

/-- The load completes if both results are in, or the module's own where no partner's is awaited (R205). -/
def State.loadTry (s : State) (i : Nat) : State :=
  let x := s.slot i
  if x.own.isSome ∧ (¬ x.both ∨ x.partner.isSome) then s.loadEnd i else s

/-- The partner's results are no longer awaited: the pair link is lost (R205). -/
def State.loadAlone (s : State) : State :=
  [0, 1].foldl (fun (s : State) i => (s.modSlot i fun x => { x with both := x.both && x.partner.isSome }).loadTry i) s

/-- The counts of R211 against the running Book; without one every instance is new. -/
def State.countsOf (s : State) (b : Book) : List Nat :=
  match s.runBook with
  | some o => instCounts o b
  | none => [0, 0, b.insts.length, 0]

/-- A verdict written into a slot's record. -/
def State.putVerdict (s : State) (i : Nat) (b : Book) (v : Verdict) : State :=
  s.modSlot i fun x => { x with result := v.code, detail := v.detail, counts := s.countsOf b }

/-- BOOK_VERIFY_DONE (R79, R204 to R207): the module's own verification of a slot ends; the image is in the Book store before an accepting
result is reported. -/
def execBookVerifyDone (i : Fin 2) (s : State) : Host.Outcome State Fault Refusal :=
  let x := s.slot i.val
  match x.img with
  | none => .next s
  | some b =>
    if s.slotState i.val ≠ 2 ∨ x.own.isSome then .next s
    else
      let v := s.verdict b
      let s := s.putVerdict i.val b v
      let s : State := if v.code ≤ 1 then { s with book := { s.book with store := mput none s.book.store i.val (some b) } } else s
      let s := match s.runBook with
        | some o => if v.code = 0 then s.retInitNew b o else s
        | none => s
      let s := s.modSlot i.val fun x => { x with own := some v.code }
      let s := if x.both ∧ s.flag R.pairLinkUp then s.linkSend (.bookResult i.val v.code) else s
      .next (s.loadTry i.val)

/-- BOOK_PARTNER_RESULT_RX (R205): the partner's result for a load. -/
def execBookPartnerResultRx (l : LinkIn) (i : Fin 2) (code : BitVec 8) (s : State) : Host.Outcome State Fault Refusal :=
  let s := s.linkRx l
  if s.slotState i.val ≠ 2 ∨ ¬ (s.slot i.val).both then .next s
  else .next ((s.modSlot i.val fun x => { x with partner := some code.toNat }).loadTry i.val)

/-- BOOK_RECORD_RX (R205, R313): Book records of a slot; at the last one the module begins its own verification. `load`: the active verifies its
own copy too; otherwise the active sends a READY Book to a module that resynchronises. -/
def execBookRecordRx (l : LinkIn) (i : Fin 2) (load last : Bool) (b : Book) (s : State) : Host.Outcome State Fault Refusal :=
  let s := s.linkRx l
  if ¬ s.isFollower ∨ s.slotState i.val = 4 ∨ s.slotState i.val = 5 then .next s
  else if last then .next (s.verifyBegin i.val b load none)
  else .next ((s.setSlotState i.val 1).setSlotOnline i.val false)

/-! ### BOOK commands -/

/-- A command on slot i is refused while a Turn is pending (R213), or in a state of the slot that `bad` names. -/
def State.slotBar (s : State) (h : Hdr) (i : Nat) (bad : List Nat) : Option Ans :=
  if 2 ≤ i then some (badParam h 0)
  else if s.flag R.bookTurnPending then some (refuse stPending (s.fld R.bookTurnInstant))
  else if bad.contains (s.slotState i) then some (refuse stState (s.slotState i))
  else none

/-- Fields of a slot in BOOK_STATUS: state, result code, detail, identity, PROGRAM_ID, REVISION. -/
def State.slotBytes (s : State) (i : Nat) : List Byte :=
  let x := s.slot i
  leBytes 1 (s.slotState i) ++ leBytes 1 x.result ++ leBytes 8 x.detail.toNat ++
    (match x.img with
      | some b => beBytes 48 b.identity ++ leBytes 8 b.programId ++ leBytes 4 b.revision
      | none => List.replicate 60 0)

/-- BOOK_STATUS (R238). -/
def execBookStatus (h : Hdr) (s : State) : Host.Outcome State Fault Refusal :=
  .next (s.mbox h 0x200 false fun s => (s, okWith (s.slotBytes 0 ++ s.slotBytes 1)))

/-- A chunk of BOOK_LOAD; the first one empties the slot (R205, R213). -/
def State.bookChunk (s : State) (h : Hdr) (i : Nat) (c : Chunk) : State × Ans × Bool :=
  match s.slotBar h i [2, 4, 5] with
  | some a => (s, a, false)
  | none =>
    let (s, a, whole) := s.chunk h c
    if a = okWith [] ∧ s.slotState i ≠ 1 then
      ((s.modSlot i fun _ => BookSlot.init).setSlotState i 1 |>.setSlotOnline i false, a, whole)
    else (s, a, whole)

/-- BOOK_LOAD (R203 to R205, R213): the chunk that completes the transfer of Book b; the image goes to a partner that follows, and verification
begins on both. The image is the bytes that were transferred. -/
def execBookLoad (h : Hdr) (i : Nat) (c : Chunk) (b : Book) (s : State) : Host.Outcome State Fault Refusal :=
  .next (s.mbox h 0x201 false fun s =>
    let (s, a, whole) := s.bookChunk h i c
    if ¬ whole then (s, a)
    else
      let both := s.flag R.pairLinkUp && (s.partner == psStandby || s.partner == psSyncing)
      let b := { b with image := s.staged h c }
      let s := (s.chunkEnd h c).verifyBegin i b both (some h.pair)
      (if both then s.linkSend (.bookRec i b.identity) else s, .later none stOk 0 (List.replicate 9 0)))

/-- BULK_CHUNK (R504, R505): a chunk of a bulk transfer for its owning command, staged or refused. The chunk that completes the transfer takes
effect through the owning command's own row. -/
def execBulkChunk (h : Hdr) (for_ : BulkFor) (c : Chunk) (s : State) : Host.Outcome State Fault Refusal :=
  match for_ with
  | .book i => .next (s.mbox h 0x201 false fun s => let x := s.bookChunk h i c; (x.1, x.2.1))
  | .replay => .next (s.mbox h 0x910 false fun s =>
      if s.bootMode ≠ 3 then (s, refuse stState s.pstate) else let x := s.chunk h c; (x.1, x.2.1))
  | .update => .next (s.mbox h 0xC01 false fun s => let x := s.chunk h c; (x.1, x.2.1))

/-- BOOK_CHECK (R209, R210): the compatibility of a READY Book with the running Book, found anew. -/
def execBookCheck (h : Hdr) (i : Nat) (s : State) : Host.Outcome State Fault Refusal :=
  .next (s.mbox h 0x202 false fun s =>
    if 2 ≤ i then (s, badParam h 0)
    else match (s.slot i).img with
      | none => (s, refuse stState (s.slotState i))
      | some b =>
        if s.slotState i ≠ 3 then (s, refuse stState (s.slotState i))
        else
          let v : Verdict := match turnReason s.runBook b with
            | none => ⟨0x00, 0, 0, 0⟩
            | some (r, k, x) => ⟨0x01, r, k, x⟩
          let s := (s.putVerdict i b v).setSlotOnline i (v.code == 0)
          (s, okWith (leBytes 1 v.code ++ leBytes 8 v.detail.toNat)))

/-- BOOK_REPORT (R211). -/
def execBookReport (h : Hdr) (i : Nat) (s : State) : Host.Outcome State Fault Refusal :=
  .next (s.mbox h 0x203 false fun s =>
    if 2 ≤ i then (s, badParam h 0)
    else
      let x := s.slot i
      let cs := (List.range 4).flatMap fun k => leBytes 4 (x.counts.getD k 0)
      (s, okWith (cs ++ leBytes 8 x.detail.toNat)))

/-- A restart that waits for its effect instant (R108, R213, R307). -/
def State.restartPending (s : State) : Bool :=
  match s.book.pendMode with | some (.run .cold) => true | some (.run .warm) => true | _ => false

/-- The effect instant of the mode command that waits, in base ticks; 0 until it is fixed. -/
def State.pendTick (s : State) : Nat :=
  ((s.pair.mirrors.find? fun m => !m.done && (match m.body with | .mode _ => true | _ => false)).map fun m => m.effect / 500000).getD 0

/-- The Turn that a TURN command begins (R213, R238). -/
def State.turnBegin (s : State) (i : Nat) (notBefore : Option Nat) (client : Nat) : State :=
  let s := s.setReg R.bookTurn.addr 0
  let s := (s.setFlag R.bookTurnPending true).setSlotState i 5
  { s with book := { s.book with turn := some ⟨i, notBefore, s.tb 3, false, 0, false, client⟩ } }

/-- BOOK_TURN (R210, R213, R215): accepted, and answered once its instant is fixed or it is abandoned. -/
def execBookTurn (h : Hdr) (i : Nat) (notBefore : Option (BitVec 64)) (s : State) : Host.Outcome State Fault Refusal :=
  .next (s.mbox h 0x204 true fun s =>
    if 2 ≤ i then (s, badParam h 0)
    else if s.flag R.bookTurnPending then (s, refuse stPending (s.fld R.bookTurnInstant))
    else if s.restartPending then (s, refuse stPending s.pendTick)
    else if s.partner = psSyncing ∧ s.flag R.pairLinkUp then (s, refuse stState s.pstate)
    else
      let ok := s.slotState i == 3 && (s.slot i).img.any fun b => (turnReason s.runBook b).isNone
      if ¬ ok then (s, refuse stState (s.slotState i))
      else
        let nb := notBefore.map (·.toNat)
        (s.turnBegin i nb h.client).accept h 0x204 (.bookTurn i nb) [i, nb.getD 0])

/-- BOOK_SELECT (R238): in STOP or while no program runs. -/
def execBookSelect (h : Hdr) (i : Nat) (s : State) : Host.Outcome State Fault Refusal :=
  .next (s.mbox h 0x205 false fun s =>
    if 2 ≤ i then (s, badParam h 0)
    else if s.book.running.isSome ∧ s.fld R.bookModeMode ≠ 0 then (s, refuse stState (s.fld R.bookModeMode))
    else if s.slotState i ≠ 3 ∧ s.slotState i ≠ 4 then (s, refuse stState (s.slotState i))
    else
      let s := s.setSlots R.bookSlotsSelect i
      ({ s with book := { s.book with select := i } }, okWith []))

/-- BOOK_ERASE (R213, R238). -/
def execBookErase (h : Hdr) (i : Nat) (s : State) : Host.Outcome State Fault Refusal :=
  .next (s.mbox h 0x206 false fun s =>
    match s.slotBar h i [4, 5] with
    | some a => (s, a)
    | none =>
      let s := ((s.modSlot i fun _ => BookSlot.init).setSlotState i 0).setSlotOnline i false
      ({ s with book := { s.book with store := mput none s.book.store i none } }, okWith []))

/-! ### Arming a Turn (R214, R215) -/

/-- The instant of a Turn just fixed: told to the partner and to the host (R215, R219, R499); a Turn taken over completes at it (R296). -/
def State.turnFixed (s : State) (was : Bool) : State :=
  if was ∨ ¬ s.flag R.bookTurnArmed then s
  else
    let t := s.fld R.bookTurnInstant * 500000
    let ms := s.pair.mirrors.filter fun m => m.op == 0x204 && m.pair.isSome
    let s := match ms.getLast? with
      | some m => if s.mirrored then s.linkSend (.command m.client m.tally m.body t) else s
      | none => s
    let s := { s with pair := { s.pair with mirrors := s.pair.mirrors.map fun (m : MirCmd) =>
      if m.op = 0x204 ∧ m.pair.isNone ∧ m.effect = 0 then { m with effect := t, done := false } else m } }
    s.finishOp 0x204 stOk 0 (leBytes 8 t)

/-- What waited on a partner that no longer mirrors counts from this module's own part (R215, R295). -/
def State.unmirrored (s : State) : State :=
  let s := s.orphans
  if s.isActive ∧ ¬ s.mirrored then s.fixTurn.turnFixed (s.flag R.bookTurnArmed) else s

/-- TURN_ARMING_DONE (R214, R215) at TB2 `t` ns: this module has armed, or the partner acknowledges that it has. -/
def execTurnArmingDone (own : Bool) (t : Nat) (s : State) : Host.Outcome State Fault Refusal :=
  match s.book.turn with
  | none => .next s
  | some tt =>
    let s := s.to2 t
    let s := if own then (if tt.armedOwn then s else s.armTurn) else s
    let tt' := { tt with armedOwn := tt.armedOwn || own, armedAt := if own ∧ ¬ tt.armedOwn then s.tb 2 else tt.armedAt, armedPartner := tt.armedPartner || !own }
    let s := { s with book := { s.book with turn := some tt' } }
    .next (if s.isActive then s.fixTurn.turnFixed (s.flag R.bookTurnArmed) else s)

/-- TURN_ARM_TIMEOUT (R215): 2 s of TB3 after acceptance arming is not complete; the Turn is abandoned and answered with TURN_TIMEOUT. -/
def execTurnArmTimeout (s : State) : Host.Outcome State Fault Refusal :=
  match s.book.turn with
  | none => .next s
  | some t =>
    if s.flag R.bookTurnArmed then .next s
    else .next (((s.to3 (t.acceptedAt + 2000000000)).abandonTurn).finishOp 0x204 stTurnTimeout 0 [])

end Sys2Proof.Machine
end

