-- ==== Sys2Proof/Machine/PairCmds.lean ====
section
/-! DEFINITION. The signals and records of the pair (R275 to R320, R340, R631). -/

namespace Sys2Proof.Machine

/-! ### ALIVE (R275, R297) -/

/-- PAIR sends on the link: its island out of reset, not in Recovery image or Bench replay (R552, R606). -/
def State.pairTalks (s : State) : Bool := !s.inReset 10 && s.bootMode < 2 && s.flag R.rstcStrapValid

/-- ALIVE_OUT_TOGGLE (R275): the next 50 µs of TB3, while firmware runs and the module is not SAFE. -/
def execAliveOutToggle (s : State) : Host.Outcome State Fault Refusal :=
  if s.pairTalks ∧ s.bin.runs.isSome ∧ ¬ s.pair.aliveStop ∧ s.pstate ≠ psSafe then
    let s := s.to3 ((s.tb 3 / 50000 + 1) * 50000)
    .next (s.modPair fun p => { p with aliveOut := !s.pair.aliveOut })
  else .next s

/-- ALIVE_IN_SILENT (R275, R297). -/
def execAliveInSilent (s : State) : Host.Outcome State Fault Refusal := .next (s.setFlag R.pairStateAliveIn false).judge.unmirrored

/-- ALIVE_IN_TOGGLING (R275, R297). -/
def execAliveInToggling (s : State) : Host.Outcome State Fault Refusal :=
  let s := s.setFlag R.pairStateAliveIn true
  let s := (s.setBit (R.fcolNowFault 0) 0x2D false).setOpen
  .next s.judge.unmirrored

/-! ### Status records and the link (R276, R277, R285) -/

/-- The Status record that PAIR sends (R285); SAFE once PAIR has performed its step of the class D reaction (R432). -/
def State.ownStatus (s : State) : StatusRec :=
  { state := if s.pair.lineSafe then psSafe else s.pstate, fit := s.flag R.pairStateFit, preferred := s.flag R.pairStatePreferred, timeMaster := s.flag R.pairStateTimemaster,
    fault := decide (s.tb 3 < s.pair.faultUntil), watch := s.fld R.pairWatchWatch }

/-- STATUS_RECORD_SEND (R276): the next 10 µs of TB3. -/
def execStatusRecordSend (s : State) : Host.Outcome State Fault Refusal :=
  if s.pairTalks then
    let s := (s.to3 ((s.tb 3 / 10000 + 1) * 10000)).fitElect
    .next (s.linkSend (.status s.ownStatus))
  else .next s

/-- PSTATE; a change is a cause of vector 257 (R507). -/
def State.setPstate (s : State) (v : Nat) : State :=
  if s.fld R.pairStatePstate = v then s else (s.setFld R.pairStatePstate v).vecPost 257

/-- The link lanes trained (R320). -/
def State.linkLanes (s : State) (lanes : BitVec 2) : State := s.setFld R.pairLinkLanes lanes.toNat

/-- PAIR_LINK_LOST (R276, R297, R308, R316): 500 µs without a valid record; while the link is down, the count of consecutive Status records
begins anew. `lanes`: link lanes trained. -/
def execPairLinkLost (lanes : BitVec 2) (s : State) : Host.Outcome State Fault Refusal :=
  let s := (s.linkLanes lanes).modPair fun p => { p with statusGood := 0 }
  if ¬ s.flag R.pairLinkUp then .next s
  else
    let s := (s.setFlag R.pairLinkUp false).setFlag R.pairStateLink false
    let s := ((s.setPstate 0).setFlag R.pairStatePfit false).incSat R.pairLinkLosses
    let s := s.setFlag R.timeStatusPairsync false
    let s := (s.handoverCut.modPair fun p => { p with
      lagging := false, handover := none, inputParts := [], commitParts := [], sweepDue := false, deferred := s.pair.deferred.filter fun d => d.1 != 7 })
    let s := (List.range 8).foldl (fun (s : State) c => s.setFld (R.pairClassPending c) 0) s
    .next ((s.flushWait.reclaimAgain).judge.loadAlone).unmirrored

/-- The Watch number of the active taken over by a module in a pair state; PAIR_TAKE where that shows a change of active module: the handover
just given, an election that the partner won (`old` is the state it left, `up` whether the link was up), or another (R308, R320). -/
def State.adoptWatch (s : State) (r : StatusRec) (old : Nat) (up : Bool) : State :=
  if s.isActive ∨ s.pstate = psStart ∨ ¬ (r.state = psActive ∨ r.state = psSolo) ∨ r.watch ≤ s.fld R.pairWatchWatch then s
  else
    let won := up && old != psActive && old != psSolo && old != psStandby
    let s := match s.pair.gaveCause with
      | some c => s.latchTake r.watch c false
      | none => if won then s.latchTake r.watch 9 false else if s.fld R.pairWatchWatch = 0 then s else s.latchTake r.watch 1 false
    { s.setFld R.pairWatchWatch r.watch with pair := { (s.setFld R.pairWatchWatch r.watch).pair with gaveCause := none } }

/-- An active that becomes active beside a partner that joins (R274); an Opened module stays SOLO (R479). -/
def State.joinPartner (s : State) : State :=
  let pp := s.fld R.pairStatePstate
  let s := if pp = psStart ∨ pp = psSyncing then (s.modPair fun p => { p with leaveSeen := false }) else s
  if s.pstate = psSolo ∧ s.flag R.pairStateAliveIn ∧ (pp = psStart ∨ pp = psSyncing) ∧ ¬ s.acc.opened then s.enter psActive else s

/-- The active at a change of its partner's state (R291, R313, R319, R479). -/
def State.activeSees (s : State) (old : Nat) : State :=
  let pp := s.fld R.pairStatePstate
  let s := s.joinPartner
  let s := if pp = psStart then (s.modPair fun p => { p with exerciseFrom := none }) else s
  let s := if pp = psSyncing ∧ (old ≠ psSyncing ∨ s.pair.lagging) then
    (s.modPair fun p => { p with lagging := false }).sweep
    else if pp = psSyncing then s.sweepOn else (s.modPair fun p => { p with sweepDue := false })
  let s := if pp = psStandby ∧ old ≠ psStandby then
    (s.modPair fun p => { p with lagging := false, exerciseFrom := s.pair.exerciseFrom.orElse fun _ => some (s.tb 3, 0) }) else s
  let s := if s.acc.opened ∧ s.pair.handover.isNone ∧ s.mayHandOver then (s.nextFree.handOver (Config.freeWord s.free % 11).toNat 0).1 else s
  s.flushWait

/-- A module that runs no program, at a change of its partner's state: election with a partner in start-up, or the mirror of an active one
(R274, R277, R310). -/
def State.idleSees (s : State) (old : Nat) : State :=
  let pp := s.fld R.pairStatePstate
  if pp = psStart ∧ (old ≠ psStart ∨ s.book.running.isNone) then
    match s.pair.elect with
    | some e => s.elect e
    | none => s
  else if s.pstate = psDetached ∧ (pp = psActive ∨ pp = psSolo) ∧ ¬ s.pair.eject then s.dropRole psSyncing
  else s

/-- PAIR_UNFIT of a SYNCING module beside an active of another PAIR_LEVEL (R540). -/
def State.levelCheck (s : State) (old : Nat) : State :=
  let pp := s.fld R.pairStatePstate
  match s.pair.elect with
  | some e =>
    if s.pstate = psSyncing ∧ (pp = psActive ∨ pp = psSolo) ∧ old ≠ pp ∧ e.pairLevel ≠ s.pair.pairLevel then
      s.raise evPairUnfit (leBytes 2 s.pair.pairLevel ++ leBytes 2 e.pairLevel)
    else s
  | none => s

/-- A Status record of the partner taken while the link is up; `was`: it was up before. -/
def State.statusTake (s : State) (r : StatusRec) (e : Option ElectInfo) (was : Bool) : State :=
  let old := s.fld R.pairStatePstate
  let wasMaster := s.time.pMaster
  let s := ((s.setPstate r.state).setFlag R.pairStatePfit r.fit).setFlag R.pairStatePpreferred r.preferred
  let s := s.modPair fun p => { p with elect := e.orElse fun _ => p.elect, pFault := r.fault, pStoredWatch := (e.map fun (x : ElectInfo) => x.watch).getD p.pStoredWatch }
  let s := { s with time := { s.time with pMaster := r.timeMaster },
                    bin := { s.bin with pVersion := (e.map fun (x : ElectInfo) => x.version).orElse fun _ => s.bin.pVersion } }
  let s := s.seeWatch r.watch
  let s := s.adoptWatch r old was
  let s : State := if s.flag R.pairFenceOut ∧ r.state = psSyncing ∧ r.watch = s.fld R.pairWatchWatch then
    { s.setFlag R.pairFenceOut false with pair := { s.pair with fenceOutAt := none } } else s
  let s : State := if r.fault then s.reclaimAgain else s
  let free := (wasMaster && !r.timeMaster) || (r.state == psSafe && old != psSafe)
  let s : State := if free ∧ ¬ s.flag R.pairStateTimemaster ∧ s.pstate ≠ psStart then s.setMaster true else s
  let s := if s.isActive then s.activeSees old
    else if s.pstate = psSyncing ∨ s.pstate = psDetached then (s.idleSees old).levelCheck old
    else s
  (s.fitElect.judge.reclaimSet.trySync).unmirrored

/-- STATUS_RECORD_RX (R276, R285): a valid Status record, with what the partner brings to an election. `lanes`: link lanes trained. -/
def execStatusRecordRx (lanes : BitVec 2) (r : StatusRec) (e : Option ElectInfo) (s : State) : Host.Outcome State Fault Refusal :=
  let s := s.linkLanes lanes
  let s := s.modPair fun p => { p with statusGood := min 16 (s.pair.statusGood + 1) }
  if s.flag R.pairLinkUp then .next (s.statusTake r e true)
  else .next ((s.modPair fun p => { p with elect := e.orElse fun _ => s.pair.elect }).seeWatch r.watch)

/-- PAIR_LINK_UP (R276, R412): the sixteenth valid Status record in a row. `lanes`: link lanes trained. -/
def execPairLinkUp (lanes : BitVec 2) (r : StatusRec) (e : Option ElectInfo) (s : State) : Host.Outcome State Fault Refusal :=
  if s.flag R.pairLinkUp ∨ s.pair.statusGood < 15 then .next s
  else
    let s := ((s.setFlag R.pairLinkUp true).setFlag R.pairStateLink true).linkLanes lanes
    let s := s.modPair fun p => { p with statusGood := 16 }
    let s := s.statusTake r e false
    .next (if s.pstate ≠ psStart ∧ ¬ r.timeMaster ∧ ¬ s.flag R.pairStateTimemaster then s.setMaster s.masterByRule else s)

/-- PAIR_RECORD_BAD_CHECK (R276, R285): the record is dropped and asked for again by SEQ; a run of valid Status records ends while the link is
down. -/
def execPairRecordBadCheck (seq : BitVec 16) (s : State) : Host.Outcome State Fault Refusal :=
  let s : State := if s.flag R.pairLinkUp then s else (s.modPair fun p => { p with statusGood := 0 })
  .next (s.emit (.askAgain seq.toNat))

/-- PAIR_RECORD_RESEND_REQUEST (R285, R320): the record of that SEQ is sent again as it was, and counted; source 29h. -/
def execPairRecordResendRequest (seq : BitVec 16) (s : State) : Host.Outcome State Fault Refusal :=
  let s := match s.pair.sent.find? fun x => x.1 == seq.toNat with
    | some (q, w, r) => (s.emit (.link q w r)).incSat R.pairLinkRetry
    | none => s
  .next (s.report 0x29 seq.toNat)

/-! ### Start-up and the Partner Wait (R274) -/

/-- STARTUP_TESTS_COMPLETE (R274, R277). -/
def execStartupTestsComplete (s : State) : Host.Outcome State Fault Refusal :=
  if s.bin.runs.isNone ∨ s.pstate ≠ psStart ∨ s.pair.testsDone.isSome ∨ 2 ≤ s.bootMode then .next s
  else
    let s := s.modPair fun p => { p with testsDone := some (s.tb 3) }
    .next ((s.setFlag R.pairStateFit s.electFit).setJoined).firstState

/-- PARTNER_WAIT_EXPIRY (R274). -/
def execPartnerWaitExpiry (s : State) : Host.Outcome State Fault Refusal :=
  match s.pair.testsDone with
  | some t =>
    if s.pstate = psStart ∧ s.flag R.pairStateAliveIn ∧ ¬ s.flag R.pairLinkUp then
      let s := s.to3 (t + s.fld R.pairCfgPwait * 1000000000)
      .next ((s.firstWait psDetached).raise evPairLinkDown [])
    else .next s
  | none => .next s

/-! ### Fence (R280 to R283, R601) -/

/-- What hardware does at a valid fence (R281, R560, R601). -/
def State.fenceHits (s : State) : State :=
  let s := ((s.openLine).stopStn true).canQuiet
  { s with time := { s.time with driven := s.time.driven.filter fun e => (mget none s.time.held e.1).isNone, held := [] } }

/-- FENCE_IN_VALID (R274, R281, R283). -/
def execFenceInValid (s : State) : Host.Outcome State Fault Refusal :=
  if s.flag R.pairFenceValid then .next s
  else
    let s := ((s.setFlag R.pairFenceInP true).setFlag R.pairFenceInN true).setFlag R.pairFenceValid true
    let both := s.flag R.pairFenceOut && s.pair.fenceOutAt.any fun t => decide (s.tb 3 ≤ t + 50000)
    let s := s.fenceHits
    if both ∧ s.isActive ∧ ¬ s.slotB then .next (s.modPair fun p => { p with fenceWin := true })
    else
      let s := s.setFlag R.pairFenceFenced true
      let s := if both then { s.setFlag R.pairFenceOut false with pair := { s.pair with fenceOutAt := none } } else s
      if s.isActive then .next ((s.raise evFenced []).dropRole psSyncing)
      else .next s.judge

/-- FENCE_IN_MISMATCH (R282): the lines disagree for longer than 10 µs; `p` is the level of FENCE_IN. -/
def execFenceInMismatch (p : Bool) (s : State) : Host.Outcome State Fault Refusal :=
  let s := ((s.setFlag R.pairFenceInP p).setFlag R.pairFenceInN (!p)).setFlag R.pairFenceValid false
  .next ((s.setFlag R.pairFenceMismatch true).report 0x2B 0)

/-- FENCE_IN_CLEARED (R283, R560): FENCE_IN has not been valid for 10 µs. -/
def execFenceInCleared (s : State) : Host.Outcome State Fault Refusal :=
  let s := ((s.setFlag R.pairFenceInP false).setFlag R.pairFenceInN false).setFlag R.pairFenceValid false
  let s := (s.setBit (R.fcolNowFault 0) 0x2B false).setOpen
  let s := if s.openCause then s else s.setFlag R.fldStatusOpenline false
  if s.pair.fenceWin ∧ s.isActive then
    let s := s.modPair fun p => { p with fenceWin := false }
    .next ((s.stopStn false).takeOutputs).canNormal
  else .next s

/-! ### Acknowledgements (R288 to R291, R295) -/

/-- Frames of class c that wait for nothing any more leave, within the Strict Wait (R290). -/
def State.waitGo (s : State) (c : Nat) : State :=
  let w := s.fld R.pairCfgStrictWait * 1000
  let go := fun (x : WaitOut) => x.cls == c && x.inputOk && x.commitOk
  let ws := s.pair.waitOut.filter go
  let s := s.modPair fun p => { p with waitOut := s.pair.waitOut.filter fun x => !go x }
  ws.foldl (fun s x => if s.tb 2 ≤ x.pubAt + w then s.sendCycle x.wake x.frames else s.withhold x.frames) s

/-- The commit of a Strict cycle acknowledged (R290). -/
def State.commitAcked (s : State) (c wake : Nat) : State :=
  let mark := fun (x : WaitOut) => if x.cls = c ∧ x.wake = wake then { x with commitOk := true } else x
  (s.modPair fun p => { p with waitOut := s.pair.waitOut.map mark }).waitGo c

/-- The Input record that goes with a Strict cycle acknowledged (R289). -/
def State.waitInput (s : State) (c wake : Nat) : State :=
  let mark := fun (x : WaitOut) => if x.cls = c ∧ x.inWake = wake then { x with inputOk := true } else x
  (s.modPair fun p => { p with waitOut := s.pair.waitOut.map mark }).waitGo c

/-- STRICT_WAIT_EXPIRY (R289, R290): the frames of class c that still wait are not sent. -/
def execStrictWaitExpiry (c : Fin 8) (s : State) : Host.Outcome State Fault Refusal :=
  match s.pair.waitOut.find? fun x => x.cls == c.val with
  | none => .next s
  | some x =>
    let s := s.to2 (x.pubAt + s.fld R.pairCfgStrictWait * 1000)
    let s := s.modPair fun p => { p with waitOut := s.pair.waitOut.filter fun y => y != x }
    .next (s.withhold x.frames)

/-! ### Notices (R291, R297, R307 to R310, R316) -/

/-- A Notice record received: acknowledged by its SEQ (R284, R285). -/
def State.noticeRx (s : State) (l : LinkIn) : State := (s.linkRx l).linkSend (.ack 4 0 l.seq.toNat)

/-- HANDOVER_NOTICE_RX (R274, R297): t_d is the receipt. -/
def execHandoverNoticeRx (l : LinkIn) (s : State) : Host.Outcome State Fault Refusal :=
  let s := s.noticeRx l
  .next (if s.pstate = psStandby ∧ s.flag R.pairStateFit then s.takeover 3 psActive else s)

/-- LEAVE_NOTICE_RX (R310). -/
def execLeaveNoticeRx (l : LinkIn) (s : State) : Host.Outcome State Fault Refusal :=
  let s := s.noticeRx l
  if s.isActive then
    let s := s.handoverCut.modPair fun p => { p with leaveSeen := true }
    .next ((if s.pstate = psActive then s.enter psSolo else s).flushWait).unmirrored
  else .next s

/-- HANDOVER_REQUEST_RX (R308). The request does not carry its cause (R285): the standby knows that of its own reclaim, any other is open
(DESIGN CHOICE, assumption 5). -/
def execHandoverRequestRx (l : LinkIn) (s : State) : Host.Outcome State Fault Refusal :=
  let s := s.noticeRx l
  if s.pstate = psStandby ∧ s.flag R.pairStateFit then
    let cause := (s.pair.handover.map (·.cause)).getD (4 + (Config.freeWord s.free).toNat % 3)
    let s := s.nextFree
    .next ((s.modPair fun p => { p with handover := some ⟨cause, 1, 0, false, 0, 0, true⟩ }).notice 4 0)
  else .next s

/-- HANDOVER_READY_RX (R308): the active fixes H. -/
def execHandoverReadyRx (l : LinkIn) (s : State) : Host.Outcome State Fault Refusal :=
  let s := s.noticeRx l
  match s.pair.handover with
  | some h =>
    if s.isActive ∧ h.phase = 1 ∧ ¬ h.newActive then
      let t := tickAtOrAfter (max (s.tb 2 + 100000) h.notBefore)
      .next ((s.modPair fun p => { p with handover := some { h with phase := 2, hAt := t, atSeq := s.pair.txSeq } }).notice 6 (t / 500000))
    else .next s
  | none => .next s

/-- HANDOVER_AT_RX (R308): H in base ticks. -/
def execHandoverAtRx (l : LinkIn) (ticks : BitVec 48) (s : State) : Host.Outcome State Fault Refusal :=
  let s := s.noticeRx l
  match s.pair.handover with
  | some h =>
    if h.newActive ∧ s.pstate = psStandby then
      .next (s.modPair fun p => { p with handover := some { h with phase := 2, hAt := ticks.toNat * 500000, acked := true } })
    else .next s
  | none => .next s

/-- HANDOVER_AT_ACK_TIMEOUT (R308): 50 µs before H without the acknowledgement; the request is deferred. -/
def execHandoverAtAckTimeout (s : State) : Host.Outcome State Fault Refusal :=
  match s.pair.handover with
  | some h =>
    if s.isActive ∧ h.phase = 2 ∧ ¬ h.acked then
      let s := s.to2 (h.hAt - 50000)
      .next ((s.modPair fun p => { p with handover := none, deferred := some (h.cause, s.tb 3) }).raise evHandoverDeferred [])
    else .next s
  | none => .next s

/-- HANDOVER_RETRY (R307): 10 s after a deferral. -/
def execHandoverRetry (s : State) : Host.Outcome State Fault Refusal :=
  match s.pair.deferred with
  | some (cause, t) =>
    if s.isActive then .next ((s.to3 (t + 10000000000)).handOverOr cause)
    else .next (s.modPair fun p => { p with deferred := none })
  | none => .next s

/-- LAG_NOTICE_RX (R274, R291). -/
def execLagNoticeRx (l : LinkIn) (s : State) : Host.Outcome State Fault Refusal :=
  let s := s.noticeRx l
  .next (if s.pstate = psStandby then (s.raise evWakeLag []).dropRole psSyncing else s)

/-- RECLAIM_NOTICE_RX (R316). -/
def execReclaimNoticeRx (l : LinkIn) (s : State) : Host.Outcome State Fault Refusal := .next ((s.noticeRx l).handOverOr 7)

/-- The new active at H (R308, R309, R317). -/
def State.handoverTake (s : State) (h : Handover) : State :=
  match s.nextWatch with
  | none => s.raise evWatchExhausted []
  | some w =>
    let s := (s.takeWatch w).latchTake w h.cause true
    let s := (s.alignBacks).lead psActive
    let s := s.xfadeBegin h.hAt true
    let s := [0, 1].foldl (fun (s : State) n => s.modCan n fun x => { x with wait := true }) s
    let s := s.modPair fun p => { p with exerciseFrom := some (s.tb 3, 0), undo := [], newActive := !s.pair.held.isEmpty }
    if h.cause = 7 ∧ s.flag R.pairStatePreferred then (s.setMaster true).raise evReclaim [] else s

/-- The old active at H (R308, R309, R317, R340). -/
def State.handoverGive (s : State) (h : Handover) : State :=
  let s := s.enter psStandby
  let s := (s.xfadeBegin h.hAt false).canQuiet
  let s := s.modPair fun p => { p with oldActive := true, booksEqual := true, handover := none, gaveCause := some h.cause }
  let s := s.oldDone.refit.reclaimSet
  if h.cause = 7 then s.setMaster false else s

/-- HANDOVER_INSTANT (R308, R309): H is reached. -/
def execHandoverInstant (s : State) : Host.Outcome State Fault Refusal :=
  match s.pair.handover with
  | some h =>
    if h.phase ≠ 2 ∨ ¬ h.acked ∨ ¬ s.flag R.pairLinkUp then .next s
    else if h.newActive ∧ s.pstate = psStandby ∧ ¬ s.flag R.pairFenceValid then .next ((s.to2 h.hAt).handoverTake h)
    else if ¬ h.newActive ∧ s.isActive then .next ((s.to2 h.hAt).handoverGive h)
    else .next s
  | none => .next s

/-- CROSSFADE_STEP (R309, R310, R576): step j of the crossfade; after the last one an old active under EJECT_N leaves. -/
def execCrossfadeStep (j : Fin 21) (s : State) : Host.Outcome State Fault Refusal :=
  match s.field.xfade with
  | none => .next s
  | some (_, new) =>
    let s := s.xfadeStep j.val
    if j.val < 20 ∨ new then .next s
    else .next (if s.pair.eject ∧ s.pstate = psStandby then (s.notice 2 0).detach else s)

/-- EJECT_N_ASSERT (R307, R310). -/
def execEjectNAssert (s : State) : Host.Outcome State Fault Refusal :=
  let s := s.modPair fun p => { p with eject := true }
  if s.isActive then
    .next ((if s.mayHandOver then s else s.raise evEjectUnsafe []).handOverOr 6)
  else if s.pstate = psStandby ∧ s.field.xfade.isNone then .next (s.notice 2 0).detach
  else .next s

/-- EJECT_N_DEASSERT (R310, R631). -/
def execEjectNDeassert (s : State) : Host.Outcome State Fault Refusal :=
  let s := s.modPair fun p => { p with eject := false }
  let pp := s.fld R.pairStatePstate
  .next (if s.pstate = psDetached ∧ s.flag R.pairLinkUp ∧ (pp = psActive ∨ pp = psSolo) then s.dropRole psSyncing else s)

/-- YIELD_PRESS (R307): the button of the active, held for 2 s. -/
def execYieldPress (s : State) : Host.Outcome State Fault Refusal := .next (if s.isActive then s.handOverOr 5 else s)

/-- RECLAIM_TIME_EXPIRY (R316). -/
def execReclaimTimeExpiry (s : State) : Host.Outcome State Fault Refusal :=
  match s.pair.reclaimFrom with
  | some t =>
    if s.pstate = psStandby ∧ s.flag R.pairStateFit ∧ s.flag R.pairStatePreferred ∧ s.flag R.pairLinkUp then
      let s := s.to3 (t + s.fld R.pairCfgReclaim * 60000000000)
      .next ((s.modPair fun p => { p with handover := some ⟨7, 0, 0, false, 0, 0, true⟩, reclaimFrom := none }).notice 7 0)
    else .next s
  | none => .next s

/-- EXERCISE_INTERVAL_EXPIRY (R319): the interval, then every 24 h of TB3. -/
def execExerciseIntervalExpiry (s : State) : Host.Outcome State Fault Refusal :=
  match s.pair.exerciseFrom with
  | some (t, n) =>
    let d := s.fld R.pairCfgExercise
    if s.isActive ∧ d ≠ 0 then
      let s := s.to3 (t + (d + n) * 86400000000000)
      .next ((s.modPair fun p => { p with exerciseFrom := some (t, n + 1) }).raise evExerciseDue [])
    else .next s
  | none => .next s

/-- WATCH_ANNOUNCE_REPEAT (R298): the next 500 µs after t_d, until 10 ms after it. -/
def execWatchAnnounceRepeat (s : State) : Host.Outcome State Fault Refusal :=
  match s.pair.announceUntil with
  | some u =>
    if ¬ s.isActive ∨ u ≤ s.tb 3 then .next (s.modPair fun p => { p with announceUntil := none })
    else .next (s.to3 (u - (u - s.tb 3 - 1) / 500000 * 500000)).announce
  | none => .next s

/-! ### Wake records on the follower (R288, R293, R299, R543) -/

/-- The module takes the Wake and Relay records of a class and Wake number: it follows, or it is the new active of a handover and they belong to
the old one's last cycles (R293, R308, R340). -/
def State.takesWake (s : State) (c wake : Nat) : Bool :=
  s.isFollower || (s.pair.newActive && s.pair.held.any fun h => h.cls == c && decide (h.wake ≤ wake))

/-- RELAY_RECORD_RX (R299, R340): the frame leaves from the own ring end, or is dropped. -/
def execRelayRecordRx (l : LinkIn) (r : Fin 2) (f : StnFrame) (s : State) : Host.Outcome State Fault Refusal :=
  let s := s.linkRx l
  let c := s.stnClass f.station
  let s := if f.typ = 1 ∧ s.isFollower then
    (s.modPair fun p => { p with relayed := mput 0 s.pair.relayed c (max (mget 0 s.pair.relayed c) (f.wake + 1)) }) else s
  let s := s.seeWatch f.watch
  if s.takesWake c f.wake ∧ ¬ s.flag R.stnSafeStopped then .next (s.ringSend r.val f) else .next s

/-- The front contents that an Input record replaces, kept for the catch-up (R299). -/
def State.saveUndo (s : State) (c : Nat) (es : List GrainEntry) : State :=
  let old := mget [] s.pair.undo c
  let new := (es.filter fun e => !(old.any fun o => o.addr == e.addr)).map fun e =>
    { e with words := s.grain (e.addr + if e.both ∧ s.front c 1 then 0x400000 else 0) }
  (s.modPair fun p => { p with undo := mput [] s.pair.undo c (old ++ new) })

/-- The grains of an Input record in both buffers, own writes of those quads replaced (R293). -/
def State.putInput (s : State) (c : Nat) (es : List GrainEntry) : State :=
  let s := es.foldl (fun s e => s.putEntry none e) s
  let qs := (es.filter (·.both)).map fun e => (e.addr - 0x800000) / 64
  s.modCls c fun k => { k with wrIn := k.wrIn.filter fun e => !(qs.contains (e.1 / 4)) }

/-- A station's state, SAFEHELD and MISSED as a status word of R344 has them (R348). -/
def State.takeStation (s : State) (st : Nat) (w : W64) : State :=
  ((s.setFld (R.stnStState st) (getBits w 0 3)).setFlag (R.stnStSafeheld st) (w.getLsbD 5)).setFld (R.stnStMissed st) (getBits w 7 8)

/-- What the status words of an Input record say of the stations (R344, R348). -/
def State.takeStations (s : State) (es : List GrainEntry) : State :=
  (s.ringBook.elim [] (·.stations)).foldl (fun s x =>
    match s.stnSig x.num 0 1 with
    | some sig =>
      match es.find? fun e => e.both && e.addr == quadAddr (sig / 4) with
      | some e => s.takeStation x.num (e.words.getD (2 * (sig % 4)) 0)
      | none => s
    | none => s) s

/-- INPUT_RECORD_RX (R286, R288, R293, R348, R543): `last` is its END part. -/
def execInputRecordRx (l : LinkIn) (c : Fin 8) (wake : BitVec 48) (noexec last : Bool) (es : List GrainEntry) (s : State) :
    Host.Outcome State Fault Refusal :=
  let s := s.linkRx l
  if ¬ s.isFollower then .next s
  else
    let all := mget [] s.pair.inputParts c.val ++ es
    if ¬ last then .next (s.modPair fun p => { p with inputParts := mput [] s.pair.inputParts c.val all })
    else
      let s := s.modPair fun p => { p with inputParts := mdel s.pair.inputParts c.val }
      let s := s.setFld (R.bookTcWakeWake c.val) wake.toNat
      let s := s.modCls c.val fun k => { k with begun := true }
      let s := ((s.saveUndo c.val all).putInput c.val all).takeStations all
      let s := s.applyMode c.val
      let k := s.cls c.val
      let due := fun (x : PendApply) => x.cls == c.val && x.wake.isNone && decide (x.effect ≤ k.start)
      let host := fun (x : PendApply) => match x.body with | .signalWrite _ _ _ => true | _ => false
      let s := (s.book.pend.filter due).foldl (fun s x => s.logRec 4 0 c.val wake.toNat [x.seq]) s
      let mark := fun (x : PendApply) => if due x then { x with wake := some wake.toNat } else x
      let pend := (s.book.pend.filter fun x => !(due x && host x)).map mark
      let s := { s with book := { s.book with pend := pend } }
      let h : HeldInput := ⟨c.val, wake.toNat, k.start, k.cycTime, noexec, all⟩
      let s := s.modPair fun p => { p with held := s.pair.held ++ [h] }
      let how := if noexec then (if k.mode = 0 then 3 else 2) else if k.mode = 3 then 4 else 0
      let s := s.logPut 1 how c.val wake.toNat [k.start, k.cycTime, all.length] all [] 0
      .next ((s.logEntries c.val wake.toNat all).linkSend (.ack 0 c.val wake.toNat))

/-- Held Input records up to a commit's Wake number leave; the contents that the rest replaced are brought forward (R293, R299). -/
def State.dropHeld (s : State) (c wake : Nat) : State :=
  let gone := s.pair.held.filter fun h => h.cls == c && decide (h.wake ≤ wake)
  let rest := s.pair.held.filter fun h => !(h.cls == c && decide (h.wake ≤ wake))
  let es := gone.flatMap (·.grains)
  let left := (rest.filter fun h => h.cls == c).flatMap fun h => h.grains.map (·.addr)
  let base := ((mget [] s.pair.undo c).filter fun o => left.contains o.addr).map fun o =>
    match es.reverse.find? fun e => e.addr == o.addr with
    | some e => { o with words := e.words }
    | none => o
  (s.modPair fun p => { p with held := rest, undo := mput [] s.pair.undo c base })

/-- The new active of a handover has every commit of the old one's last cycles (R308). -/
def State.lastTaken (s : State) : State := if s.pair.held.isEmpty then (s.modPair fun p => { p with newActive := false }) else s

/-- COMMIT_RECORD_RX (R219, R287, R288, R293, R543): a commit applies when its END part has arrived. -/
def execCommitRecordRx (l : LinkIn) (c : Fin 8) (wake : BitVec 48) (turn late last : Bool) (es : List GrainEntry) (s : State) :
    Host.Outcome State Fault Refusal :=
  let s := s.linkRx l
  let w := wake.toNat
  if ¬ s.takesWake c.val w then .next s
  else
    let all := mget [] s.pair.commitParts c.val ++ es
    if ¬ last then .next (s.modPair fun p => { p with commitParts := mput [] s.pair.commitParts c.val all })
    else
      let s := s.modPair fun p => { p with commitParts := mdel s.pair.commitParts c.val }
      let s := if turn ∧ s.flag R.bookTurnArmed ∧ !s.bit R.bookTurnTurned c.val then
        ((s.turnWork c.val w).turnSched c.val).setBit R.bookTurnTurned c.val true else s
      let s := all.foldl (fun s e => s.putEntry none e) s
      let s := (s.dropClean fun g => all.any fun e => frameAddr g == e.addr).forceStatus
      let s := if turn then s.turnComplete else s
      let stop := s.pair.held.any fun h => h.cls == c.val && h.wake == w && h.noexec
      let s := (s.dropHeld c.val w).lastTaken
      let s := { s with book := { s.book with pend := s.book.pend.filter fun x =>
        !(x.cls == c.val && x.wake.any fun v => decide (v ≤ w)) } }
      let s := (s.setFld (R.pairClassAcked c.val) w).setFlag (R.pairClassValid c.val) true
      let s := s.logPublish ((if late then 1 else 0) + if stop then 2 else 0) c.val w (s.pubInstant c.val)
      let s := ((s.logEntries c.val w all).logCkptEnd).linkSend (.ack 1 c.val w)
      let n := s.pair.sweepCommits
      let s : State := if s.pair.sweepBegun && !n.testBit c.val then (s.modPair fun p => { p with sweepCommits := n + 2 ^ c.val }) else s
      .next s.trySync

/-- MIRROR_RECORD_RX (R313). -/
def execMirrorRecordRx (l : LinkIn) (es : List GrainEntry) (s : State) : Host.Outcome State Fault Refusal :=
  let s := s.linkRx l
  if s.pstate ≠ psSyncing then .next s
  else
    let s := s.modPair fun p => { p with sweepBegun := true }
    .next ((es.foldl (fun s e => s.putEntry none e) s).linkSend (.ack 3 0 0))

/-- MIRROR_SWEEP_DONE (R313): the sweep has ended; the module knows the active's Books, pages, modes and pair configuration. -/
def execMirrorSweepDone (x : SweepEnd) (s : State) : Host.Outcome State Fault Refusal :=
  if s.pstate ≠ psSyncing then .next s
  else
    let id := fun i => ((s.slot i).img.map (·.identity)).getD 0
    let eq := x.books == [id 0, id 1]
    let s := s.pairConfig x.cfg
    let s := (s.setFld R.dirPagePageIn x.pageIn.toNat).setFld R.dirPagePageOut x.pageOut.toNat
    let s := match (s.slot x.running.val).img with
      | some b =>
        if s.book.running.isSome ∨ x.books.getD x.running.val 0 ≠ b.identity then s
        else ((((s.runSlot x.running.val).loadSched b).loadLoops b).loadLanes b).loadStations b
      | none => s
    let s := ((s.setFld R.bookModeMode x.mode.val).setFld R.bookModeHeld x.held.toNat).forceStatus
    let s := (List.range 8).foldl (fun s c => s.modCls c fun k => { k with mode := (x.modes.getD c 1).val }) s
    let s := s.modPair fun p => { p with sweepBegun := true, sweepEnded := true, cfgCopied := true, booksEqual := eq }
    .next s.trySync

end Sys2Proof.Machine
end

