-- ==== Sys2Proof/Machine/Records.lean ====
section
/-! DEFINITION. Acknowledgements and Command records of the pair (R285, R288 to R290, R295, R308). -/

namespace Sys2Proof.Machine

/-- An Input record of a class is acknowledged: the latest one, the one of the latest executed start (R289, R320). -/
def State.inputAcked (s : State) (c wake : Nat) : State :=
  let k := s.cls c
  let s := if k.inputWake = wake then s.modCls c fun k => { k with inputDue := false } else s
  let s := if k.execWake = some wake then s.setFlag (R.pairClassInputOk c) true else s
  s.waitInput c wake

/-- A commit of a class is acknowledged (R290, R320). -/
def State.commitTaken (s : State) (c wake : Nat) : State :=
  let s := s.setFld (R.pairClassPending c) (s.fld (R.pairClassPending c) - 1)
  ((s.setFld (R.pairClassAcked c) wake).setFlag (R.pairClassValid c) true).commitAcked c wake

/-- ACK_RECORD_RX (R288 to R290, R295, R308). -/
def execAckRecordRx (l : LinkIn) (a : PairAck) (s : State) : Host.Outcome State Fault Refusal :=
  let s := s.linkRx l
  match a with
  | .input c wake => .next (s.inputAcked c.val wake)
  | .commit c wake => .next (s.commitTaken c.val wake)
  | .command client tally t => .next (s.acked client tally t)
  | .mirror => .next s
  | .notice seq =>
    match s.pair.handover with
    | some h =>
      .next (if h.phase = 2 ∧ h.newActive = false ∧ seq = h.atSeq then { s with pair := { s.pair with handover := some { h with acked := true } } } else s)
    | none => .next s

/-- What a follower does with a command at its receipt, before its effect instant (R107, R214, R219). -/
def State.mirrorTake (s : State) (client : Nat) (b : MirBody) : State :=
  match b with
  | .mode m => { s.setFlag R.bookModePending true with book := { (s.setFlag R.bookModePending true).book with pendMode := some m } }
  | .bookTurn i nb => s.turnBegin i nb client
  | _ => s

/-- The instant of a Turn as the active has fixed it (R219). -/
def State.turnTold (s : State) (t : Nat) : State :=
  if s.flag R.bookTurnPending then (s.setFlag R.bookTurnArmed true).setFld R.bookTurnInstant (t / 500000) else s

/-- The effect instant of a mirrored command as the active has fixed it (R107, R219, R295); a Turn completes at its instant (R296). -/
def State.effectTold (s : State) (client tally t : Nat) : State :=
  let turn := s.pair.mirrors.any fun m => m.client == client && m.tally == tally && !bodyTimed m.body
  let s := { s with pair := { s.pair with mirrors := s.pair.mirrors.map fun (m : MirCmd) =>
    if m.client = client ∧ m.tally = tally ∧ (bodyTimed m.body = false ∨ m.done = false) then { m with fixed := true, done := false, effect := t }
    else m } }
  if turn then s.turnTold t else s

/-- COMMAND_RECORD_RX (R107, R219, R295): stored and acknowledged; the effect instant counts from the acknowledgement. `t`: the instant once it
is fixed, 0 before. -/
def execCommandRecordRx (l : LinkIn) (client tally op : BitVec 16) (b : MirBody) (params : List Nat) (t : Nat) (s : State) :
    Host.Outcome State Fault Refusal :=
  let s := s.linkRx l
  if ¬ s.isFollower then .next s
  else if t ≠ 0 then .next ((s.effectTold client.toNat tally.toNat t).linkSend (.ack 2 client.toNat tally.toNat))
  else
    let m : MirCmd := ⟨client.toNat, tally.toNat, none, op.toNat, b, s.tb 2, false, 0, s.tb 3, false, 0, params⟩
    let old := s.pair.mirrors.filter fun x => !(x.client == m.client && x.tally == m.tally)
    let s := { s with pair := { s.pair with mirrors := old ++ [m] } }
    let s := s.mirrorTake client.toNat b
    .next ((s.fixEffectAt client.toNat tally.toNat (s.tb 2)).linkSend (.ack 2 client.toNat tally.toNat))

end Sys2Proof.Machine
end

