-- ==== Sys2Proof/Machine/Start.lean ====
section
/-! DEFINITION. Start-up of the Binnacle and what it loads; transceivers (R206, R251 to R256, R326, R444, R458 to R465, R482, R514, R518,
R534, R538, R601, R605 to R609, R619). -/

namespace Sys2Proof.Machine

/-! ### Access protection (R458 to R465, R514) -/

/-- A mask of colours. -/
def colours (cs : List Nat) : Nat := cs.foldl (fun n c => n + 2 ^ c) 0

/-- The colours that the released firmware grants a master at a target: reads, writes (R459). Targets 0 Signal SRAM, 1 MRAM, 2 DRAM. -/
def grantOf (m t : Nat) : List Nat × List Nat :=
  if m < 8 then (if t = 0 then ([2, 3, 4], [3, 4]) else ([], []))
  else match m, t with
    | 8, 0 => (List.range 15, [1, 2, 3, 4, 5, 6, 7, 8, 9])
    | 8, 1 => ([0, 8], [0, 8])
    | 8, 2 => ([0, 7, 8, 9, 10, 11, 12, 13, 14], [0, 7, 8, 9])
    | 9, 0 => ([1, 2, 3, 4, 5, 6], [1, 2, 3, 4, 5, 6])
    | 9, 2 => ([9], [9])
    | 10, 0 => ([2, 3, 7], [2, 7])
    | 10, 2 => ([7], [7])
    | 11, 0 => ([3, 7], [2, 7])
    | 11, 2 => ([7], [7])
    | 12, 0 => ([1, 2, 3], [])
    | 13, 0 => ([1, 2, 3, 4, 5, 8], [8])
    | 13, 2 => ([8, 9], [8])
    | 14, 0 => ([1, 2, 3, 4, 5, 6, 7, 8, 9], [4])
    | 14, 1 => ([0, 8], [])
    | 15, 0 => ([1, 2, 3, 4, 5], [])
    | 15, 1 => ([0, 8], [])
    | _, _ => ([], [])

/-- The master table word of R459 as ACFG_MTm_t holds it (R481). -/
def grantWord (m t : Nat) : W64 := BitVec.ofNat 64 (colours (grantOf m t).1 + colours (grantOf m t).2 * 2 ^ 16)

/-- The permission word of a slot (R460). -/
def slotWord (n : Nat) : W64 :=
  let rd := colours [8, 14, 15]
  if ¬ slotAssigned n then 0
  else
    let (lo, hi) := if n = 0 ∨ n = 2 ∨ n = 3 ∨ n = 0x12 ∨ n = 0x13 then (colours [8], colours [8])
      else if 0x20 ≤ n ∧ n < 0x28 then (colours [8, 15], colours [14])
      else (colours [8, 15], colours [8, 15])
    BitVec.ofNat 64 (rd + lo * 2 ^ 16 + rd * 2 ^ 32 + hi * 2 ^ 48)

/-- A window word: first and last grain counted from 80_0000_0000h, colour, EN (R481). -/
def winWord (base limit colour : Nat) : W64 := BitVec.ofNat 64 (base / 64 + limit / 64 * 2 ^ 32 + colour * 2 ^ 59 + 2 ^ 63)

/-- The windows of R464. -/
def winTable : List (Nat × W64) :=
  [(0, winWord 0 0x03FFFFFF 9), (1, winWord 0x04000000 0x07FFFFFF 9), (2, winWord 0x08000000 0x0FFFFFFF 9),
   (3, winWord 0x10000000 0x2FFFFFFF 0), (4, winWord 0x40000000 0x7FFFFFFF 0), (5, winWord 0x80000000 0xFFFFFFFF 7),
   (6, winWord 0x100000000 0x1FFFFFFFF 8), (7, winWord 0x30000000 0x3FFFFFFF 0)]

/-- Windows, tables, slot words and the settings of ACCESS_CONFIG, then the load of R462 (R461 to R465). -/
def State.loadAcfg (s : State) : State :=
  let cfg := s.acc.next.getD ⟨[], [], []⟩
  let s := (List.range 64).foldl (fun s w => s.setReg (R.acfgWin w).addr 0) s
  let s := winTable.foldl (fun s x => if x.1 = 7 ∧ ¬ cfg.wins.isEmpty then s else s.setReg (R.acfgWin x.1).addr x.2) s
  let s := cfg.wins.foldl (fun s x => s.setReg (R.acfgWin x.1).addr x.2) s
  let s := (List.range 16).foldl (fun s m => (List.range 3).foldl (fun s t => s.setReg (R.acfgMt m t).addr (grantWord m t)) s) s
  let s := cfg.tables.foldl (fun s x => s.setReg x.1 x.2) s
  let s := (List.range 256).foldl (fun s n => s.setReg (R.acfgSlot n).addr (slotWord n)) s
  s.acfgLoad

/-- The PCIe apertures (R465, R514). -/
def State.loadAps (s : State) : State :=
  let ap := fun (n base last colour : Nat) => (n, BitVec.ofNat 64 (base + colour * 2 ^ 48 + 2 ^ 63), BitVec.ofNat 64 last)
  let own : List (Nat × W64 × W64) := [ap 0 0 0x1FFFF 1, ap 1 0x800000 0x1FFFF 2, ap 2 0x800000 0x1FFFF 3]
  let more := (s.acc.next.map (·.aps)).getD []
  (own ++ more).foldl (fun s x => (s.setReg (R.hostApBase x.1).addr x.2.1).setReg (R.hostApLen x.1).addr x.2.2) s

/-! ### Keys, events, tests (R444, R445, R482, R534, R251 to R255) -/

/-- KEYS_STATUS from the key slots and the backing (R482). -/
def State.keyStatus (s : State) : State :=
  let ks := List.range 9
  let s := s.setFld R.keysStatusPresent ((ks.filter fun k => (mget KeySlot.init s.acc.keys k).present).foldl (fun n k => n + 2 ^ k) 0)
  let s := s.setFld R.keysStatusFault ((ks.filter fun k => (mget KeySlot.init s.acc.keys k).fault).foldl (fun n k => n + 2 ^ k) 0)
  (s.setFlag R.keysStatusOpened s.acc.opened).setFlag R.keysStatusZeroed s.acc.zeroed

/-- KEYS loads the key backing; a slot whose CRC fails is reported (R472, R482). -/
def State.loadKeys (s : State) : State :=
  let bad := (List.range 9).filter fun k => (mget KeySlot.init s.acc.keys k).fault
  bad.foldl (fun s k => s.report 0x42 k) s.keyStatus

/-- The next event number: after the highest SEQ of a record with a valid CHECK (R534). -/
def State.evScan (s : State) : Nat :=
  let slots := ((s.mem.filter fun e => decide (logBase ≤ e.1) && decide (e.1 < logBase + 65536 * 64)).map fun e => (e.1 - logBase) / 64).eraseDups
  let good := slots.filter fun k => s.readN 4 (logBase + k * 64 + 60) == crc32c (s.bytes 60 (logBase + k * 64))
  good.foldl (fun n k => max n ((s.readN 4 (logBase + k * 64) + 1) % 2 ^ 32)) 0

/-- The report path test of every source (R444, R445): the failed ones are reported once TEST is clear. -/
def State.pathTest (s : State) (bad : List (Fin 69)) : State :=
  if s.inReset 20 then s
  else
    let s := (s.setReg R.fcolTest.addr 0).setFlag R.fcolCtrlTest false
    { s with fcol := { s.fcol with testFail := bad.map (·.val) } }

/-- What the comparator test leaves in a lane's registers: signature, windows closed, instructions issued; no rule states their values
(DESIGN CHOICE, assumption 5). -/
def State.laneTested (s : State) (l : Nat) : State :=
  let a := Config.freeWord s.free
  let b := Config.freeWord32 s.free
  let c := Config.freeWord (s.free + 1)
  let s := s.nextFree.nextFree
  let s := (s.setReg (R.laneSig l).addr a).setFld (R.laneWinWindows l) b.toNat
  let s := s.setReg (R.laneRetire l).addr c
  s.modLane l fun ln => { ln with main := { ln.main with issued := c.toNat }, chk := { ln.chk with issued := c.toNat } }

/-- The comparator test (R251 to R255, R270): failed lanes barred, LANE_BARRED with lane and first failed step. -/
def State.cmpTestRun (s : State) (bad : List (Fin 8 × Fin 387)) : State :=
  let fails := (List.range 8).filterMap fun l =>
    let ks := (bad.filter fun x => x.1.val == l).map (·.2.val)
    if ks.isEmpty then none else some (l, ks.foldl min 386)
  let s := (List.range 8).foldl (fun (s : State) l => s.laneTested l) s
  let mask := fails.foldl (fun n x => n + 2 ^ x.1) 0
  let s := (s.setFld R.cmpTestPass (255 - mask)).setFld R.cmpTestDone 255
  let first := fails.foldl (fun (o : Option (Nat × Nat)) x =>
    match o with
    | some y => if x.2 < y.2 then some x else o
    | none => some x) none
  let s := match first with
    | some (l, k) => ((s.setFld R.cmpTestStep k).setFld R.cmpTestFlane l).setFlag R.cmpTestFailed true
    | none => s
  let s := s.setReg R.cmpInj.addr (BitVec.ofNat 64 (0xFF + 2 ^ 17 + 2 ^ 18))
  let s := (s.setFld R.cmpStatusBarred mask).setFlag R.cmpStatusDegraded (mask != 0)
  fails.foldl (fun s x => s.raise evLaneBarred (leBytes 1 x.1 ++ leBytes 2 x.2)) s

/-! ### Configuration from the state area (R462, R518, R608) -/

/-- A configuration field loaded, unless its island is held in reset. -/
def State.cfgFld (s : State) (f : Fld) (v : Nat) : State := if s.inReset (slotIsland (f.addr / 0x10000)) then s else s.setFld f v

/-- The configuration fields of CMP, FCOL, STN, FAB and HOST, the locks closed (R251, R444, R518, R608). -/
def State.loadModule (s : State) : State :=
  let c := s.bin.modCfg
  let s := ((s.cfgFld R.cmpCtrlTest 0).cfgFld R.cmpCtrlWindow c.window).cfgFld R.cmpCtrlLocked 1
  let s := (s.cfgFld R.fcolCfgDDwell c.dwell).cfgFld R.fcolCfgEscLimit c.escLimit
  let s := (s.cfgFld R.fcolCfgScrubSram c.scrubSram.toNat).cfgFld R.fcolCfgScrubDram c.scrubDram.toNat
  let s := (s.cfgFld R.fcolCtrlLocked 1).cfgFld R.stnCtrlEtype c.stnEtype
  let s := (s.cfgFld R.stnCtrlLocked 1).cfgFld R.fabCtrlEtype c.fabEtype
  let s := (s.cfgFld R.fabCtrlMacsec c.macsec.toNat).cfgFld R.fabCtrlLocked 1
  let s := if s.inReset 15 then s else s.loadAps.setFlag R.hostCtrlLocked true
  s.setFlag R.acfgCtrlLocked true

/-- The settings of the mirrored configuration commands, from the state area. -/
def State.loadSettings (s : State) : State :=
  let s := (s.loadPair s.bin.pairCfg).loadLog s.bin.logCfg
  let s := if s.inReset 16 then s else s.timeConfig s.time.cfg
  let s := match s.fab.cfg with
    | some c => s.fabSetAddr c.pair
    | none => s
  let s := (s.bin.canCfg.filterMap (·.2)).foldl (fun (s : State) c => s.canConfig c) s
  let s := [0, 1].foldl (fun (s : State) n => s.modCan n fun x => { x with nomDue := true }) s
  (s.bin.canObj.filterMap (·.2)).foldl (fun (s : State) c => s.canObject c) s

/-- A Book slot reloaded from the Book store and verified, with no Book running (R79, R206, R609). -/
def State.reloadSlot (s : State) (i : Nat) : State :=
  let s := s.modSlot i fun _ => BookSlot.init
  match mget none s.book.store i with
  | none => (s.setSlotState i 0).setSlotOnline i false
  | some b =>
    let v := s.verdict b
    let s := (s.modSlot i fun x => { x with img := some b }).putVerdict i b v
    (s.setSlotState i (if v.code ≤ 1 then 3 else 6)).setSlotOnline i false

/-! ### The boot code (R536, R538, R605, R606, R608) -/

/-- The slot that the boot code selects (R538): the permanent one, or the trial slot once, and again after a trial that passed. -/
def State.bootSlot (s : State) : Nat :=
  match s.bin.trialBkp.orElse fun _ => s.bin.trialRec with
  | none => s.bin.perm
  | some t => if t.started ∧ ¬ t.passed then 1 - t.slot else t.slot

/-- The events and the marking that go with the slot started (R538): `i` is the slot whose firmware starts. -/
def State.bootTrial (s : State) (i : Nat) : State :=
  match s.bin.trialBkp.orElse fun _ => s.bin.trialRec with
  | none => s
  | some t =>
    if i ≠ t.slot then (s.markTrial none).raise evUpdateRolledBack []
    else
      let s := s.markTrial (some { t with started := true })
      if t.started then s else s.raise evUpdateTrial []

/-- Firmware of slot i starts (R275, R525, R608). -/
def State.bootFirmware (s : State) (i : Nat) (x : BootFind) : State :=
  let s := { s with bin := { s.bin with runs := some i, wdog := some (s.tb 3), evSeq := s.evScan } }
  let lv := ((s.fwSlot i).map fun (y : FwSlot) => y.pairLevel).getD s.pair.pairLevel
  let s : State := { s with pair := { s.pair with aliveStop := false, pairLevel := lv } }
  let s := s.bootTrial i
  let s := (s.loadKeys).setReg R.sensCorr.addr s.bin.corr
  let s := (s.pathTest x.paths).cmpTestRun x.lanes
  let s := s.loadAcfg.loadModule.loadSettings
  let s := s.setSlots R.bookSlotsSelect s.book.select
  let s := (s.reloadSlot 0).reloadSlot 1
  if s.bootMode = 3 then s.trialPass else s

/-- The recovery image starts (R605, R606). -/
def State.bootRecovery (s : State) : State :=
  let s := { s with bin := { s.bin with recovery := true, wdog := some (s.tb 3), evSeq := s.evScan } }
  (s.loadKeys).setReg R.sensCorr.addr s.bin.corr

/-- FIRMWARE_BOOT (R206, R538, R605 to R609): start-up after the release of I9, as far as the tests and loads go; the first pair state follows
with STARTUP_TESTS_COMPLETE. A slot whose signature fails gives way to the other one. -/
def execFirmwareBoot (x : BootFind) (s : State) : Host.Outcome State Fault Refusal :=
  if s.inReset 9 ∨ ¬ s.rst.strapDone ∨ s.bin.runs.isSome ∨ s.bin.recovery then .next s
  else if s.bootMode = 2 ∨ ¬ s.flag R.rstcStrapValid then .next s.bootRecovery
  else
    let ok := fun (i : Nat) => x.slotOk.toNat.testBit i && (s.fwSlot i).isSome
    let i := s.bootSlot
    if ok i then .next (s.bootFirmware i x)
    else if ok (1 - i) then .next (s.bootFirmware (1 - i) x)
    else .next s.bootRecovery

/-! ### Transceivers (R326, R619) -/

/-- SFP_INSERT (R326, R619): a transceiver is fitted in port p. -/
def execSfpInsert (p : Fin 4) (x : Sfp) (s : State) : Host.Outcome State Fault Refusal :=
  let s := { s with stn := { s.stn with sfp := mput none s.stn.sfp p.val (some x) } }
  if ¬ sfpOk x then .next (s.report (0x2F + p.val) x.status.toNat)
  else if 2 ≤ p.val then .next s
  else .next (match s.ringBook with
    | some b => s.rateJudge b
    | none => s)

end Sys2Proof.Machine
end

