-- ==== Sys2Proof/Machine/Queries.lean ====
section
/-! DEFINITION. Commands that name modules: each module's part, Query records and the commands themselves (R307, R322, R394, R416, R423, R450,
R592, R607, R634). -/

namespace Sys2Proof.Machine

/-! ### A module's part of a command (R634) -/

/-- The PTP knowledge of a port in a domain: slave, offset in ns, data set of its parent (R423). -/
def ptpBytes (x : PtpPort) : List Byte :=
  leBytes 1 x.slave.toNat ++ leBytes 8 (x.off % 2 ^ 64).toNat ++ ((List.range 6).flatMap fun i => leBytes 8 ((x.best.getD []).getD i 0))

/-- TIME_STATUS of a module: the register, snapshots of the bases, ports 0 to 3 in both domains, time-master role. -/
def State.timePart (s : State) : State × List Byte :=
  let s := (List.range 4).foldl (fun (s : State) n => s.setFld (R.timeTbSnapNs n) (s.tb n)) s
  let ps := (List.range 8).flatMap fun k => ptpBytes (mget PtpPort.init s.time.ports k)
  (s, s.regBytes (R.timeStatus.addr :: (List.range 4).map fun n => (R.timeTbSnap n).addr) ++ ps ++
    leBytes 1 (s.fld R.pairStateTimemaster))

/-- Registers of PAIR_STATUS (R322). -/
def pairRegs : List Nat :=
  [R.pairState.addr, R.pairWatch.addr, R.pairFence.addr, R.pairTake.addr] ++ (List.range 8).map fun c => (R.pairClass c).addr

/-- Registers of FABRIC_STATUS (R394). -/
def fabRegs : List Nat :=
  [R.fabAddr.addr, R.fabDb.addr, (R.fabPort 2).addr, (R.fabPort 3).addr, (R.fabPortCnt 2).addr, (R.fabPortCnt 3).addr]

/-- Registers of FAULT_STATUS (R450). -/
def fcolRegs : List Nat :=
  [R.fcolStatus.addr, R.fcolFirst0.addr, R.fcolFirst1.addr, (R.fcolNow 0).addr, (R.fcolNow 1).addr, (R.fcolBroken 0).addr,
   (R.fcolBroken 1).addr, R.fcolEsc.addr]

/-- Registers of FIELD_STATUS (R592). -/
def fldRegs : List Nat :=
  [R.fldStatus.addr] ++ ((List.range 8).map fun k => (R.fldAi k).addr) ++
    (List.range 4).flatMap fun k => [(R.fldAo k).addr, (R.fldAoFlags k).addr, (R.fldAoTrim k).addr]

/-- The FIELD settings in force (R563, R592): LOOP, NAMUR and filter of each AI channel, FAIL of each AO channel. -/
def State.fieldCfgBytes (s : State) : List Byte :=
  let ai := (s.runBook.elim [] fun b => b.field.ai)
  let ao := (s.runBook.elim [] fun b => b.field.ao)
  ((List.range 8).flatMap fun k =>
    match ai[k]? with
    | some a => leBytes 1 (a.loop.toNat + 2 * a.namur.toNat) ++ leBytes 1 a.filter
    | none => leBytes 2 0) ++ (List.range 4).flatMap fun k => leBytes 1 (ao.getD k 0)

/-- TPO2 and TPO3 are wired on generation 2 carriers only (R607). -/
def State.tpoWired (s : State) (k : Nat) : Bool := decide (k < 2) || s.fld R.rstcStrapCode / 8 % 2 == 1

/-- The first parameter of TPO_PROGRAM that R416 refuses: its place among the operands (3 base, 4 START, 5 PERIOD, 6 WIDTH). -/
def State.tpoBad (s : State) (p : TpoProg) : Option Nat :=
  if 4 ≤ p.base then some 3
  else if 2 ^ 48 ≤ p.period then some 5
  else if 2 ^ 32 ≤ p.width then some 6
  else if ¬ p.en then none
  else if p.width < 8 then some 6
  else if p.period ≠ 0 ∧ (p.period < 1000 ∨ p.period ≤ p.width + 8) then some 5
  else if p.period = 0 ∧ p.start < s.tb p.base + 1000 then some 4
  else none

/-- A pulse output programmed (R416, R607). A change of an enabled output other than its disabling is refused with STATE. -/
def State.tpoPart (s : State) (k : Nat) (p : TpoProg) (offs : List Nat) : State × Nat × Nat :=
  if ¬ s.tpoWired k then (s, stBadParam, offs.getD 1 0)
  else match s.tpoBad p with
    | some i => (s, stBadParam, offs.getD (i - 1) 0)
    | none =>
      let w := BitVec.ofNat 64 (p.base % 4 + p.en.toNat * 4 + p.pol.toNat * 8 + p.width * 256)
      if s.flag (R.timeTpoCfgEn k) ∧ p.en then (s, stState, s.pstate)
      else
        let s := if s.flag (R.timeTpoCfgEn k) then s.pulseOff k else s
        let s := (s.setFld (R.timeTpoStartStart k) p.start).setFld (R.timeTpoPeriodPeriod k) p.period
        let (s, bad) := s.pulseCfg k w
        if bad then (s, stBadParam, offs.getD 3 0) else (s, stOk, 0)

/-- A module's part of a command that names modules: status, detail, result (R634). -/
def State.part (s : State) (q : Query) (offs : List Nat) : State × Nat × Nat × List Byte :=
  match q with
  | .pairStatus => (s, stOk, 0, s.regBytes pairRegs)
  | .fabricStatus => (s, stOk, 0, s.regBytes fabRegs)
  | .timeStatus => let (s, bs) := s.timePart; (s, stOk, 0, bs)
  | .tpoProgram k p => let (s, st, d) := s.tpoPart k.val p offs; (s, st, d, [])
  | .tpiConfig i edge =>
    if ¬ s.tpiWired i.val then (s, stBadParam, offs.getD 1 0, [])
    else if 4 ≤ edge then (s, stBadParam, offs.getD 2 0, [])
    else (s.setFld (R.timeTpiCtlEdge i.val) edge, stOk, 0, [])
  | .tpiRead i =>
    let ts := (List.range 4).map fun n => BitVec.ofNat 64 (s.fld (R.timeTpiTbNs i.val n))
    (s, stOk, 0, wordBytes ts ++ leBytes 4 (s.fld (R.timeTpiCtlCount i.val)) ++ leBytes 2 (s.fld (R.timeTpiCtlMissed i.val)))
  | .faultStatus => (s, stOk, 0, s.regBytes fcolRegs)
  | .faultHistory =>
    (s, stOk, 0, s.regBytes (((List.range 32).flatMap fun n => [(R.fcolHist0 n).addr, (R.fcolHist1 n).addr]) ++ [R.fcolHead.addr]))
  | .faultClear first acount =>
    let s := if first then (s.setFlag R.fcolFirst0Valid false).setFld R.fcolStatusWorst 0 else s
    (if acount then s.setFld R.fcolStatusAcount 0 else s, stOk, 0, [])
  | .fieldStatus => (s, stOk, 0, s.regBytes fldRegs ++ s.fieldCfgBytes)
  | .canStatus n => (s, stOk, 0, s.regBytes [(R.canCtrl n.val).addr, (R.canStatus n.val).addr, (R.canCnt n.val).addr])

/-- A command that names modules (R634): the receiving module's part first, each part behind its AVAIL byte; the partner's is asked for over the
link, or holds zeros at once where the link is lost. -/
def State.parts (s : State) (side : Side) (q : Query) (offs : List Nat) : State × Ans :=
  let x := s.part q offs
  let n := x.2.2.2.length
  match side with
  | .own => (x.1, .now x.2.1 x.2.2.1 (if x.2.1 = stOk then 1 :: x.2.2.2 else []))
  | .partner =>
    if s.flag R.pairLinkUp then (s.linkSend (.query q offs), .later (some n) stOk 0 [])
    else (s, okWith (0 :: List.replicate n 0))
  | .both =>
    if x.2.1 ≠ stOk then (x.1, refuse x.2.1 x.2.2.1)
    else if s.flag R.pairLinkUp then (x.1.linkSend (.query q offs), .later (some n) stOk 0 (1 :: x.2.2.2))
    else (x.1, okWith (1 :: x.2.2.2 ++ 0 :: List.replicate n 0))

/-! ### Query records (R285, R634) -/

/-- QUERY_RECORD_RX (R634): the partner's part of a command, executed in every pair state, and the reply. -/
def execQueryRecordRx (l : LinkIn) (q : Query) (offs : List Nat) (s : State) : Host.Outcome State Fault Refusal :=
  let s := s.linkRx l
  if s.inReset 9 ∨ s.bin.runs.isNone then .next s
  else
    let x := s.part q offs
    .next (x.1.linkSend (.queryReply x.2.1 x.2.2.1 x.2.2.2))

/-- The waiting command of an opcode that expects a reply, with its ring pair. -/
def State.queryWait (s : State) (op : Nat) : Option (Nat × Wait) :=
  s.mail.sess.findSome? fun e => e.2.waiting.bind fun w => if w.op = op ∧ w.query.isSome then some (e.1, w) else none

/-- QUERY_REPLY_RX (R634): the partner's status, detail and part for the waiting command of an opcode. -/
def execQueryReplyRx (l : LinkIn) (op : BitVec 16) (status detail : Nat) (bytes : List Byte) (s : State) : Host.Outcome State Fault Refusal :=
  let s := s.linkRx l
  match s.queryWait op.toNat with
  | none => .next s
  | some (p, w) =>
    .next (if status = stOk then s.finish p stOk 0 (w.own ++ 1 :: bytes) else s.finish p status detail [])

/-- QUERY_REPLY_TIMEOUT (R634): 5 ms without a reply; the partner's part carries AVAIL 0 and zeros. -/
def execQueryReplyTimeout (op : BitVec 16) (s : State) : Host.Outcome State Fault Refusal :=
  match s.queryWait op.toNat with
  | none => .next s
  | some (p, w) => .next ((s.to3 (w.at3 + 5000000)).finish p stOk 0 (w.own ++ 0 :: List.replicate (w.query.getD 0) 0))

/-! ### The commands -/

/-- PAIR_STATUS (R322, R634). -/
def execPairStatus (h : Hdr) (s : State) : Host.Outcome State Fault Refusal :=
  .next (s.mbox h 0x400 false fun s => s.parts .both .pairStatus h.offs)

/-- FABRIC_STATUS (R394, R634). -/
def execFabricStatus (h : Hdr) (s : State) : Host.Outcome State Fault Refusal :=
  .next (s.mbox h 0x600 false fun s => s.parts .both .fabricStatus h.offs)

/-- TIME_STATUS (R423, R634). -/
def execTimeStatus (h : Hdr) (s : State) : Host.Outcome State Fault Refusal :=
  .next (s.mbox h 0x700 false fun s => s.parts .both .timeStatus h.offs)

/-- TPO_PROGRAM (R416, R423, R607, R634). -/
def execTpoProgram (h : Hdr) (side : Side) (k : Fin 4) (p : TpoProg) (s : State) : Host.Outcome State Fault Refusal :=
  .next (s.mbox h 0x704 false fun s => s.parts side (.tpoProgram k p) h.offs)

/-- TPI_CONFIG (R423, R607, R634). -/
def execTpiConfig (h : Hdr) (side : Side) (i : Fin 2) (edge : Nat) (s : State) : Host.Outcome State Fault Refusal :=
  .next (s.mbox h 0x705 false fun s => s.parts side (.tpiConfig i edge) h.offs)

/-- TPI_READ (R423, R634): one module. -/
def execTpiRead (h : Hdr) (partner : Bool) (i : Fin 2) (s : State) : Host.Outcome State Fault Refusal :=
  .next (s.mbox h 0x706 false fun s => s.parts (if partner then .partner else .own) (.tpiRead i) h.offs)

/-- FAULT_STATUS (R450, R634). -/
def execFaultStatus (h : Hdr) (side : Side) (s : State) : Host.Outcome State Fault Refusal :=
  .next (s.mbox h 0x800 false fun s => s.parts side .faultStatus h.offs)

/-- FAULT_HISTORY (R450, R634): one module. -/
def execFaultHistory (h : Hdr) (partner : Bool) (s : State) : Host.Outcome State Fault Refusal :=
  .next (s.mbox h 0x801 false fun s => s.parts (if partner then .partner else .own) .faultHistory h.offs)

/-- FAULT_CLEAR (R439, R450, R634). -/
def execFaultClear (h : Hdr) (side : Side) (first acount : Bool) (s : State) : Host.Outcome State Fault Refusal :=
  .next (s.mbox h 0x802 false fun s => s.parts side (.faultClear first acount) h.offs)

/-- FIELD_STATUS (R592, R634). -/
def execFieldStatus (h : Hdr) (side : Side) (s : State) : Host.Outcome State Fault Refusal :=
  .next (s.mbox h 0xA00 false fun s => s.parts side .fieldStatus h.offs)

/-- CAN_STATUS (R592, R634). -/
def execCanStatus (h : Hdr) (n : Fin 2) (s : State) : Host.Outcome State Fault Refusal :=
  .next (s.mbox h 0xB00 false fun s => s.parts .both (.canStatus n) h.offs)

end Sys2Proof.Machine
end

