-- ==== Sys2Proof/Machine/Session.lean ====
section
/-! DEFINITION. The commands of block 0000h: module status and settings, program mode, module reset, sessions, queues (R107 to R110, R434, R487,
R495 to R502, R506, R510, R518). -/

namespace Sys2Proof.Machine

/-! ### The module -/

/-- MODULE_STATUS (R518): serial number, ordering code, firmware slot (2 for the recovery image) and VERSION, pair state, program mode, DEGRADED,
Opened, strap code, host port link state. -/
def execModuleStatus (h : Hdr) (s : State) : Host.Outcome State Fault Refusal :=
  .next (s.mbox h 0x0 false fun s =>
    let code : List Byte := [0x48, 0x43, 0x39, 0x31, 0x32, 0x30, 0x2D, if s.bin.g3 then 0x47 else 0x53]
    let ver := ((s.bin.runs.bind fun i => s.fwSlot i).map fun (x : FwSlot) => x.version).getD 0
    (s, okWith (leBytes 8 s.pair.serial ++ code ++ leBytes 1 (s.bin.runs.getD 2) ++ leBytes 4 ver ++ leBytes 1 s.pstate ++
      leBytes 1 (s.fld R.bookModeMode) ++ leBytes 1 (s.fld R.cmpStatusDegraded) ++ leBytes 1 s.acc.opened.toNat ++
      leBytes 1 (s.fld R.rstcStrapCode) ++ leBytes 1 (s.wordRead R.hostStatusLinkup.addr).toNat)))

/-- The first setting of MODULE_CONFIG outside its range, as its place among the fields (R245, R251, R449, R502, R516). -/
def modCfgBad (c : ModuleCfg) : Option Nat :=
  if 4 < c.window then some 0
  else if 8 ≤ c.expert then some 1
  else if 2 ^ 32 ≤ c.ipv4 then some 2
  else if 32 < c.prefix_ then some 3
  else if 65536 ≤ c.stnEtype then some 4
  else if 65536 ≤ c.fabEtype then some 5
  else if 256 ≤ c.dwell then some 7
  else if c.escLimit = 0 ∨ 16 ≤ c.escLimit then some 8
  else none

/-- MODULE_CONFIG (R256, R502, R516, R518): kept in the state area; EXPERT and the service port addresses hold from now, the rest from the next
start-up. -/
def execModuleConfig (h : Hdr) (c : ModuleCfg) (s : State) : Host.Outcome State Fault Refusal :=
  .next (s.mbox h 0x1 false fun s =>
    match modCfgBad c with
    | some k => (s, badParam h k)
    | none => ({ s with bin := { s.bin with modCfg := c } }, okWith []))

/-- A mode command that R110 refuses: R108 first, then the table of R109. -/
def State.modeBad (s : State) (h : Hdr) (m : ModeCmd) : Option Ans :=
  let mode := s.fld R.bookModeMode
  let bad := some (refuse stState mode)
  let unused := fun (set : Nat) => decide (256 ≤ set) || (List.range 8).any fun c => set.testBit c && !s.used c
  if s.book.pendMode.isSome then some (refuse stPending s.pendTick)
  else match m with
    | .stop => if mode = 0 then bad else none
    | .run .resume => if mode = 1 then bad else none
    | .run _ =>
      if mode ≠ 0 then bad
      else if s.flag R.bookTurnPending then some (refuse stPending (s.fld R.bookTurnInstant))
      else none
    | .hold set => if mode = 0 then bad else if set = 0 ∨ unused set then some (badParam h 1) else none
    | .step c =>
      if mode ≠ 2 then bad
      else if 8 ≤ c ∨ ¬ s.used c then some (badParam h 1)
      else if (s.cls c).mode ≠ 2 then bad
      else none

/-- A mode command as parameter words. -/
def modeWords (m : ModeCmd) : List Nat :=
  match m with
  | .stop => [0, 0]
  | .run .resume => [1, 0]
  | .run .cold => [1, 1]
  | .run .warm => [1, 2]
  | .hold set => [2, set]
  | .step c => [3, c]

/-- MODE (R107 to R110, R213): accepted, to take effect at its effect instant; offset 1 is that of the kind, set or class. -/
def execModeCmd (h : Hdr) (m : ModeCmd) (s : State) : Host.Outcome State Fault Refusal :=
  .next (s.mbox h 0x2 true fun s =>
    match s.modeBad h m with
    | some a => (s, a)
    | none =>
      let s := { s.setFlag R.bookModePending true with book := { (s.setFlag R.bookModePending true).book with pendMode := some m } }
      s.accept h 0x2 (.mode m) (modeWords m))

/-- MODULE_RESET (R434, R518, R593): answered, then a software module reset; escalation is no longer blocked. -/
def execModuleReset (h : Hdr) (cold : Bool) (s : State) : Host.Outcome State Fault Refusal :=
  .next (s.mbox h 0x3 false fun s => (s.setFlag R.fcolEscBlocked false, .last (some cold)))

/-! ### Sessions (R496, R501, R502) -/

/-- A CLIENT_OPEN executed: the session opened, or refused. -/
def State.openAns (s : State) (h : Hdr) (client level : Nat) (idle : Option Nat) : State × Ans :=
  let t := idle.getD 60
  if client = 0 ∨ 65536 ≤ client then (s, badParam h 0)
  else if 2 ≤ level then (s, badParam h 1)
  else if t < 10 ∨ 3600 < t then (s, badParam h 2)
  else if s.mail.sess.any fun e => e.2.isOpen && e.2.client == client then (s, refuse stClient 0)
  else if level = 1 ∧ ¬ s.expertOn h.via then (s, refuse stLevel 0)
  else
    let n := (h.tally + 1) % 65536
    let s := s.modSess h.pair fun x => { x with isOpen := true, client := client, level := level, next := n, idle := t, hist := [] }
    (s.pairBound h.pair, okWith (leBytes 2 n ++ leBytes 1 level))

/-- CLIENT_OPEN (R495, R496, R497): opens a session on a bound pair that has none. Refused, it leaves the pair free. -/
def execClientOpen (h : Hdr) (client level : Nat) (idle : Option Nat) (s : State) : Host.Outcome State Fault Refusal :=
  .next (s.mboxWith h 0x20 false (fun s => (s, refuse stClient 0)) fun s =>
    let (s, a) := s.mboxRun h 0x20 false fun s => s.openAns h client level idle
    let s := s.mboxEnd h 0x20 a
    if (s.sess h.pair).isOpen then s else s.freePair h.pair)

/-- CLIENT_CLOSE (R501, R518): answered, then the session ends. -/
def execClientClose (h : Hdr) (s : State) : Host.Outcome State Fault Refusal :=
  .next (s.mbox h 0x21 false fun s => (s, .last none))

/-! ### Queues (R487, R506, R509, R510) -/

/-- Entry i of a ring as bytes. -/
def State.entryBytes (s : State) (q i : Nat) : List Byte := wordBytes ((List.range 8).map fun w => mget 0 s.mail.qmem (s.qKey q i w))

/-- QUEUE_READ (R506, R518): any client may read any ring. -/
def execQueueRead (h : Hdr) (q : Nat) (first : BitVec 32) (count : Nat) (s : State) : Host.Outcome State Fault Refusal :=
  .next (s.mbox h 0x22 false fun s =>
    if 256 ≤ q ∨ ringReserved q then (s, badParam h 0)
    else if count = 0 ∨ 15 < count then (s, badParam h 2)
    else (s, okWith (leBytes 4 (s.fld (R.qmgrQIdxPi q)) ++ leBytes 4 (s.fld (R.qmgrQIdxCi q)) ++
      (List.range count).flatMap fun i => s.entryBytes q (first.toNat + i))))

/-- The ring is this client's: its own response ring, or bound to it. -/
def State.ringMine (s : State) (h : Hdr) (q : Nat) : Bool := q == 2 * h.pair + 1 || (s.bindOf q).any fun b => b.client == h.client

/-- QUEUE_ADVANCE (R487, R506, R515): the write of the host's index, dropped and counted where R487 refuses it. -/
def execQueueAdvance (h : Hdr) (q : Nat) (v : BitVec 32) (s : State) : Host.Outcome State Fault Refusal :=
  .next (s.mbox h 0x23 false fun s =>
    if 256 ≤ q ∨ ringReserved q then (s, badParam h 0)
    else
      let pi := hostProduces q
      if s.ringMine h q ∧ s.indexOk q pi v.toNat then (s.indexWrite h.via q pi v.toNat, okWith [])
      else
        let s := match h.via with
          | .pcie => s.incSat R.hostStatusIdxErr
          | _ => s.incSat (R.qmgrQCfgLost q)
        (s, badParam h (if s.ringMine h q then 1 else 0)))

/-- QUEUE_BIND (R506, R509, R510): a ring bound to the client, with its holdoff, notification addresses, and the destination of a transmit
ring. -/
def execQueueBind (h : Hdr) (q holdoff : Nat) (notify : List Nat) (dest destRing : Nat) (s : State) : Host.Outcome State Fault Refusal :=
  .next (s.mbox h 0x24 false fun s =>
    let tx := decide (160 ≤ q) && decide (q < 192)
    if q < 64 ∨ 256 ≤ q ∨ ringReserved q ∨ ¬ (hostProduces q || hostConsumes q) then (s, badParam h 0)
    else if 256 ≤ holdoff then (s, badParam h 1)
    else if 4 < notify.length ∨ notify.any fun a => decide (65536 ≤ a) then (s, badParam h 2)
    else if tx ∧ 65536 ≤ dest then (s, badParam h 3)
    else if tx ∧ (destRing < 128 ∨ 160 ≤ destRing) then (s, badParam h 4)
    else if (s.bindOf q).any fun b => b.client != h.client then (s, refuse stTableFull 0)
    else
      let f := ((s.bindOf q).map fun (b : Binding) => b.filter).getD []
      let b : Binding := ⟨h.client, notify, dest, destRing, f⟩
      let s := { s with mail := { s.mail with binds := mput none s.mail.binds q (some b) } }
      ((s.setFld (R.qmgrQCfgHoldoff q) holdoff).setFlag (R.qmgrQCfgBound q) true, okWith []))

/-- EVENT_REGISTER (R506): the code ranges of an event queue bound to the client; no range stands for all. -/
def execEventRegister (h : Hdr) (q : Nat) (ranges : List (Nat × Nat)) (s : State) : Host.Outcome State Fault Refusal :=
  .next (s.mbox h 0x25 false fun s =>
    match s.bindOf q with
    | none => (s, badParam h 0)
    | some b =>
      if q < 64 ∨ 128 ≤ q ∨ b.client ≠ h.client then (s, badParam h 0)
      else if 8 < ranges.length then (s, badParam h 1)
      else ({ s with mail := { s.mail with binds := mput none s.mail.binds q (some { b with filter := ranges }) } }, okWith []))

/-- QUEUE_RELEASE (R506, R518). -/
def execQueueRelease (h : Hdr) (q : Nat) (s : State) : Host.Outcome State Fault Refusal :=
  .next (s.mbox h 0x26 false fun s =>
    if (s.bindOf q).any fun b => b.client == h.client then (s.unbind q, okWith []) else (s, badParam h 0))

end Sys2Proof.Machine
end

