-- ==== Sys2Proof/Machine/Keys.lean ====
section
/-! DEFINITION. The access, key, debug, sensor and Expert commands (R465, R466, R470 to R484, R503, R530, R557). -/

namespace Sys2Proof.Machine

/-! ### Access protection (R465, R484) -/

/-- ACCESS_STATUS (R484): registers, then the windows and master tables in force. -/
def execAccessStatus (h : Hdr) (s : State) : Host.Outcome State Fault Refusal :=
  .next (s.mbox h 0x10 false fun s =>
    let force := ((List.range 64).map fun w => (R.acfgWin w).addr) ++
      (List.range 16).flatMap fun m => (List.range 3).map fun t => (R.acfgMt m t).addr
    (s, okWith (s.regBytes [R.acfgCtrlLoad.addr, R.acfgViolAddr.addr, R.acfgViolInfoCtx.addr] ++
      wordBytes (force.map fun a => mget 0 s.acc.force a))))

/-- A companion window that R465 admits: 7 to 63, inside the companion area, colour 0 or 10 to 14. -/
def companionWin (x : Nat × W64) : Bool :=
  let c := getBits x.2 59 4
  decide (7 ≤ x.1) && decide (x.1 < 64) && decide (0xC00000 ≤ getBits x.2 0 27) && decide (getBits x.2 0 27 ≤ getBits x.2 32 27) &&
    decide (getBits x.2 32 27 < 0x1000000) && (c == 0 || decide (10 ≤ c)) && c != 15 && getBits x.2 63 1 == 1

/-- Two companion windows overlap, or one number comes twice. -/
def winsClash (ws : List (Nat × W64)) : Bool :=
  ws.zipIdx.any fun x => ws.zipIdx.any fun y =>
    decide (x.2 < y.2) &&
      (x.1.1 == y.1.1 || (decide (getBits x.1.2 0 27 ≤ getBits y.1.2 32 27) && decide (getBits y.1.2 0 27 ≤ getBits x.1.2 32 27)))

/-- The colours R465 lets a table word of masters 12 and 15 grant beyond the released ones: DRAM reads, and DRAM writes of master 12. -/
def companionGrant (m t : Nat) : Nat :=
  if t ≠ 2 then 0 else colours [10, 11, 12, 13, 14] + if m = 12 then colours [10, 11, 12, 13, 14] * 2 ^ 16 else 0

/-- A table word that R465 admits, by the address of its register. -/
def companionTable (x : Nat × W64) : Bool :=
  [12, 15].any fun m => (List.range 3).any fun t =>
    x.1 == (R.acfgMt m t).addr && x.2 &&& ~~~(grantWord m t ||| BitVec.ofNat 64 (companionGrant m t)) == 0

/-- An aperture that R514 leaves to the companion settings. -/
def companionAp (x : Nat × W64 × W64) : Bool :=
  let c := getBits x.2.1 48 4
  decide (3 ≤ x.1) && decide (x.1 < 8) && (c == 0 || decide (10 ≤ c)) && c != 15

/-- ACCESS_CONFIG (R465, R484, R514): kept for the next start-up. -/
def execAccessConfig (h : Hdr) (c : AccessCfg) (s : State) : Host.Outcome State Fault Refusal :=
  .next (s.mbox h 0x11 false fun s =>
    if ¬ (c.wins.all companionWin) ∨ winsClash c.wins then (s, badParam h 0)
    else if ¬ c.tables.all companionTable then (s, badParam h 1)
    else if ¬ c.aps.all companionAp then (s, badParam h 2)
    else ({ s with acc := { s.acc with next := some c } }, okWith []))

/-! ### Keys (R470 to R473, R480, R482) -/

/-- A key slot written; the report of failing slots ends with the last of them (R426, R472). -/
def State.putKey (s : State) (k : Nat) (x : KeySlot) : State :=
  let s := ({ s with acc := { s.acc with keys := mput KeySlot.init s.acc.keys k x } }).keyStatus
  if (List.range 9).any fun i => (s.keySlot i).fault then s else (s.setBit (R.fcolNowFault 1) 2 false).setOpen

/-- KEY_STATUS (R484). -/
def execKeyStatus (h : Hdr) (s : State) : Host.Outcome State Fault Refusal :=
  .next (s.mbox h 0x12 false fun s =>
    (s, okWith (s.regBytes [R.keysStatusPresent.addr] ++ ([0, 4, 5, 6, 7, 8].flatMap fun k => pubBytes (s.keySlot k).pub) ++
      wordBytes s.acc.cert)))

/-- `n` words that no rule gives a value, and the state behind them (DESIGN CHOICE, assumption 5). -/
def State.freeWords (s : State) : Nat → State × List W64
  | 0 => (s, [])
  | n + 1 => let x := s.nextFree.freeWords n; (x.1, Config.freeWord s.free :: x.2)

/-- KEY_IDENTITY (R470, R473, R484): a new identity key while slot 0 is empty; its public key is returned. -/
def execKeyIdentity (h : Hdr) (s : State) : Host.Outcome State Fault Refusal :=
  .next (s.mbox h 0x13 false fun s =>
    if (s.keySlot 0).present then (s, refuse stState s.pstate)
    else
      let (s, pub) := s.freeWords 12
      let s := s.putKey 0 ⟨true, false, pub⟩
      ({ s with acc := { s.acc with certOk := false } }, okWith (pubBytes pub)))

/-- KEY_PROVISION (R473, R484): a wrapped key into slots 1 to 3, a public key into slots 4 to 8, or the identity certificate. -/
def execKeyProvision (h : Hdr) (k : KeyItem) (s : State) : Host.Outcome State Fault Refusal :=
  .next (s.mbox h 0x14 false fun s =>
    match k with
    | .wrapped slot tagOk =>
      if slot = 0 ∨ 3 < slot then (s, badParam h 0)
      else if tagOk ∧ s.keyOk 0 then (s.putKey slot ⟨true, false, []⟩, okWith [])
      else (s, refuse stKey slot)
    | .pub slot key signed =>
      if slot < 4 ∨ 8 < slot then (s, badParam h 0)
      else if (s.keySlot slot).present ∧ ¬ s.acc.opened ∧ ¬ (signed && s.keyOk slot) then (s, refuse stKey slot)
      else (s.putKey slot ⟨true, false, key⟩, okWith [])
    | .cert c => ({ s with acc := { s.acc with cert := c, certOk := (s.keySlot 0).present } }, okWith []))

/-- The conditions of R480. -/
def State.mayCommit (s : State) : Bool :=
  !s.flag R.dbgGateOpen && (s.keyOk 0 && s.acc.certOk) && (!s.flag R.fabCtrlMacsec || s.keyOk 1 || s.keyOk 2) &&
    (s.keyOk 3 || [0, 1].all fun i => !((s.slot i).img.any fun b => b.encrypted))

/-- KEY_COMMIT (R480). -/
def execKeyCommit (h : Hdr) (s : State) : Host.Outcome State Fault Refusal :=
  .next (s.mbox h 0x15 false fun s =>
    if ¬ s.mayCommit then (s, refuse stNotReady 0)
    else
      let s := ({ s with acc := { s.acc with opened := false, zeroed := false } }).keyStatus
      (((s.raise evKeysCommitted []).setJoined).refit, okWith []))

/-! ### The debug gate (R475 to R478) -/

/-- DEBUG_CHALLENGE (R476). -/
def execDebugChallenge (h : Hdr) (s : State) : Host.Outcome State Fault Refusal :=
  .next (s.mbox h 0x16 false fun s => let s := s.newChallenge; (s, okWith (s.regBytes [R.dbgChal.addr])))

/-- The reason R476 refuses a token for. -/
def State.tokenBad (s : State) (t : Token) : Option Nat :=
  let live := s.acc.chalAt.any fun x => decide (s.tb 3 < x + 600000000000)
  let signed := (t.keysel == 0 && t.serviceOk) || (t.keysel == 1 && s.keyOk 8 && signedBy (pubBytes (s.keySlot 8).pub) t.bytes)
  if ¬ t.formOk then some 1
  else if t.serial ≠ s.pair.serial then some 2
  else if ¬ live ∨ s.reg R.dbgChal.addr ≠ t.challenge then some 3
  else if s.flag R.timeStatusTb0Valid ∧ t.notAfter * 1000000000 < s.tb 0 then some 4
  else if ¬ signed then some 5
  else if s.pstate = psActive then some 6
  else none

/-- The gate opened on an accepted token (R477); `bad` is a slot that does not read zero after the erasure. -/
def State.unlock (s : State) (scope : Nat) (bad : Option (Fin 4)) : State :=
  let ks := [0, 1, 2, 3].foldl (fun m k => mput KeySlot.init m k KeySlot.init) s.acc.keys
  let s := { s with acc := { s.acc with opened := true, zeroed := bad.isNone, keys := ks, certOk := false }, fab := { s.fab with sak := [] } }
  let s := [2, 3].foldl (fun (s : State) p => s.setFlag (R.fabPortSecured p) false) s
  let s := (s.keyStatus.setJoined).refit
  match bad with
  | some k => (s.raise evKeyZeroiseFail []).report 0x42 k.val
  | none => if s.inReset 19 then s else ((s.setFld R.dbgGateScope scope).setFlag R.dbgGateOpen true).raise evDebugOpened []

/-- DEBUG_UNLOCK (R475 to R477): a token uses up the challenge. -/
def execDebugUnlock (h : Hdr) (t : Token) (bad : Option (Fin 4)) (s : State) : Host.Outcome State Fault Refusal :=
  .next (s.mbox h 0x17 false fun s =>
    match s.tokenBad t with
    | some r => (s.dropChallenge, refuse stDebugRefused r)
    | none => (s.dropChallenge.unlock t.scope bad, okWith []))

/-- DEBUG_CLOSE (R478). -/
def execDebugClose (h : Hdr) (s : State) : Host.Outcome State Fault Refusal :=
  .next (s.mbox h 0x18 false fun s => (s.gateClose, okWith []))

/-! ### Sensors (R529, R530, R557) -/

/-- SENSOR_READ (R557). -/
def execSensorRead (h : Hdr) (s : State) : Host.Outcome State Fault Refusal :=
  .next (s.mbox h 0x30 false fun s =>
    (s, okWith (s.regBytes (((List.range 12).map fun k => (R.sensTemp k).addr) ++ ((List.range 20).map fun k => (R.sensRail k).addr) ++
      [R.sensFeed.addr, R.sensCorr.addr]))))

/-- SENSOR_CONFIG (R529, R530, R557): the limit class, 1 G1 to 4 GX. -/
def execSensorConfig (h : Hdr) (limit : Nat) (s : State) : Host.Outcome State Fault Refusal :=
  .next (s.mbox h 0x31 false fun s =>
    if limit = 0 ∨ 4 < limit then (s, badParam h 0)
    else
      let s : State := { s with bin := { s.bin with corr := putBits s.bin.corr 36 3 limit } }
      (s.setReg R.sensCorr.addr s.bin.corr, okWith []))

/-! ### Expert commands (R466, R503) -/

/-- The first refused part of an access of `n` bytes by master 15. -/
def State.expertDenied (s : State) (ctx a n : Nat) (write : Bool) : Option Nat :=
  if targetOf a = some 3 then s.gate 15 a 0 write else (partsOf (n + 1) a n).findSome? fun p => s.gate 15 p.1 ctx write

/-- The addresses of an Expert command. -/
def expertAddrs (a : BitVec 64) (width count : Nat) : List Nat := (List.range count).map fun i => (a.toNat + i * width) % 2 ^ 64

/-- A parameter of an Expert command outside its range, or a slot access that R35 forbids: its place among the operands. -/
def expertBad (a : BitVec 64) (colour width count most : Nat) : Option Nat :=
  if 16 ≤ colour then some 1
  else if width ≠ 4 ∧ width ≠ 8 then some 2
  else if count = 0 ∨ most < count then some 3
  else if (expertAddrs a width count).any fun x =>
      targetOf x == some 3 && slotAssigned ((x - 0x1000000000) / 0x10000) && !slotForm (x % 0x10000) width then some 0
  else none

/-- EXPERT_READ (R466, R503): `count` words of `width` bytes, zeros for refused parts. -/
def execExpertRead (h : Hdr) (a : BitVec 64) (colour width count : Nat) (s : State) : Host.Outcome State Fault Refusal :=
  .next (s.mbox h 0xF00 false fun s =>
    match expertBad a colour width count 126 with
    | some k => (s, badParam h k)
    | none =>
      let go := fun (x : State × List Byte × Option Nat) (b : Nat) =>
        let d := x.1.expertDenied colour b width false
        let s := x.1.masterRead 15 colour b width
        (s, x.2.1 ++ leBytes width s.bus.data.toNat, x.2.2.orElse fun _ => d)
      let (s, bs, bad) := (expertAddrs a width count).foldl go (s, [], none)
      (s, match bad with
        | some r => .now stAccessDenied r bs
        | none => okWith bs))

end Sys2Proof.Machine
end

