-- ==== Sys2Proof/Machine/Data.lean ====
section
/-! DEFINITION. The commands of signals, parameters, forces and the pair (R58, R68, R178, R230, R231, R237, R294, R301, R307, R315, R322, R519). -/

namespace Sys2Proof.Machine

/-! ### Signals (R58, R68, R519) -/

/-- A first signal and a count outside the ranges of R519: BAD_PARAM with the offset of the one, or of the first of both. -/
def signalRange (h : Hdr) (first count most : Nat) : Option Ans :=
  if 2 ^ 18 ≤ first then some (badParam h 0)
  else if count = 0 ∨ most < count then some (badParam h 1)
  else if 2 ^ 18 < first + count then some (badParam h 0)
  else none

/-- The records that a range of signals reads as, each through DIR (R54, R58). -/
def State.readRecs (s : State) (first count : Nat) : State × List Byte :=
  (List.range count).foldl (fun x i => (x.1.dirRead (first + i), x.2 ++ recBytes (x.1.readRec (first + i)))) (s, [])

/-- SIGNAL_READ (R54, R58, R519): the front records. -/
def execSignalRead (h : Hdr) (first count : Nat) (s : State) : Host.Outcome State Fault Refusal :=
  .next (s.mbox h 0x100 false fun s =>
    match signalRange h first count 63 with
    | some a => (s, a)
    | none => let (s, bs) := s.readRecs first count; (s, okWith bs))

/-- A value that the type of a signal allows (R44). -/
def valueOk (typ : Nat) (v : W64) : Bool := (typ != 1 && typ != 2) || canonical typ v == v

/-- The refusals that a value for a signal shares: signal, value, quality in the places of the operands. -/
def State.valueBad (s : State) (h : Hdr) (sig : Nat) (kv kq : Nat) (v : W64) (qual : Nat) : Option Ans :=
  let typ := (s.dirEntry sig).typ
  if 2 ^ 18 ≤ sig then some (badParam h 0)
  else if typ = 0 then some (refuse stNotFound sig)
  else if ¬ valueOk typ v then some (badParam h kv)
  else if 4 < qual then some (badParam h kq)
  else none

/-- SIGNAL_WRITE (R68, R295, R519): accepted for a host input. -/
def execSignalWrite (h : Hdr) (sig : Nat) (v : W64) (qual : Nat) (s : State) : Host.Outcome State Fault Refusal :=
  .next (s.mbox h 0x101 true fun s =>
    if sig < 2 ^ 18 ∧ (s.dirEntry sig).typ ≠ 0 ∧ (s.dirEntry sig).bind ≠ 4 then (s, refuse stNotWritable sig)
    else match s.valueBad h sig 1 2 v qual with
      | some a => (s, a)
      | none => s.accept h 0x101 (.signalWrite sig qual v) [sig, v.toNat, qual])

/-- DIRECTORY_READ (R52, R519). -/
def execDirectoryRead (h : Hdr) (first count : Nat) (s : State) : Host.Outcome State Fault Refusal :=
  .next (s.mbox h 0x102 false fun s =>
    (s, (signalRange h first count 31).getD (okWith ((List.range count).flatMap fun i => s.bytes 32 (dirAddr (first + i))))))

/-! ### Parameters (R177, R178, R519) -/

/-- PARAM_READ (R519): frame words of an instance. -/
def execParamRead (h : Hdr) (inst first count : Nat) (s : State) : Host.Outcome State Fault Refusal :=
  .next (s.mbox h 0x103 false fun s =>
    match s.instOf inst with
    | none => (s, refuse stNotFound inst)
    | some r =>
      if count = 0 ∨ 126 < count then (s, badParam h 2)
      else if 8 * r.grains < first + count then (s, badParam h 1)
      else (s, okWith (wordBytes ((List.range count).map fun i => s.rd64 (frameAddr r.frame + 8 * (first + i))))))

/-- A parameter word of an instance and a value that R178 refuses: the place of the parameter among the operands. Parameters are those of the
standard types. -/
def State.tuneBad (s : State) (r : InstRow) (word : Nat) (v : W64) : Option Nat :=
  if 184 ≤ r.typ then some 1
  else
    let base := libConns r.typ + 1
    let n := (libLayout r.typ).par
    if word < base ∨ base + n ≤ word then some 1
    else
      let ps := (List.range n).map fun k => if base + k = word then v else s.rd64 (frameAddr r.frame + 8 * (base + k))
      if paramOk r.typ ps (word - base) then none else some 2

/-- PARAM_TUNE (R178, R295, R519). -/
def execParamTune (h : Hdr) (inst word : Nat) (v : W64) (s : State) : Host.Outcome State Fault Refusal :=
  .next (s.mbox h 0x104 true fun s =>
    match s.instOf inst with
    | none => (s, refuse stNotFound inst)
    | some r =>
      match s.tuneBad r word v with
      | some k => (s, badParam h k)
      | none => s.accept h 0x104 (.tune inst word v) [inst, word, v.toNat])

/-! ### Forces (R224, R230, R231, R237) -/

/-- FORCE_LIST (R237): valid entries from the first one named, with their numbers, as many as were asked for and fit. -/
def execForceList (h : Hdr) (first count : Nat) (s : State) : Host.Outcome State Fault Refusal :=
  .next (s.mbox h 0x300 false fun s =>
    if 4096 ≤ first then (s, badParam h 0)
    else
      let es := ((sortNat s.forceValid).filter fun i => decide (first ≤ i)).take (min count 15)
      (s, okWith (es.flatMap fun i => leBytes 2 i ++ s.bytes 64 (forceAddr i))))

/-- Signals without a force that commands still to take effect force. -/
def State.forcesDue (s : State) : List Nat :=
  (s.pair.mirrors.filterMap fun m =>
    match m.body with
    | .forceSet g _ _ => if m.done ∨ (s.forceOf g).isSome then none else some g
    | _ => none).eraseDups

/-- FORCE_SET (R230, R231, R295). -/
def execForceSet (h : Hdr) (sig qual : Nat) (v : W64) (s : State) : Host.Outcome State Fault Refusal :=
  .next (s.mbox h 0x301 true fun s =>
    match s.valueBad h sig 2 1 v qual with
    | some a => (s, a)
    | none =>
      let due := s.forcesDue.filter fun g => g != sig
      if (s.forceOf sig).isNone ∧ 4096 ≤ s.forceValid.length + due.length then (s, refuse stTableFull 0)
      else s.accept h 0x301 (.forceSet sig qual v) [sig, qual, v.toNat])

/-- FORCE_RELEASE (R230, R231, R295). -/
def execForceRelease (h : Hdr) (sig : Nat) (s : State) : Host.Outcome State Fault Refusal :=
  .next (s.mbox h 0x302 true fun s =>
    if 2 ^ 18 ≤ sig then (s, badParam h 0)
    else if (s.dirEntry sig).typ = 0 ∨ (s.forceOf sig).isNone then (s, refuse stNotFound sig)
    else s.accept h 0x302 (.forceRelease sig) [sig])

/-- FORCE_RELEASE_ALL (R230, R231, R237, R295). -/
def execForceReleaseAll (h : Hdr) (cls : Option Nat) (s : State) : Host.Outcome State Fault Refusal :=
  .next (s.mbox h 0x303 true fun s =>
    if cls.any fun c => decide (8 ≤ c) then (s, badParam h 0)
    else s.accept h 0x303 (.forceReleaseAll cls) [cls.getD 255])

/-! ### The pair (R294, R301, R307, R315, R321, R322) -/

/-- PAIR_HANDOVER (R307, R322): an orderly handover begins, or NOT_READY. -/
def execPairHandover (h : Hdr) (notBefore : Option (BitVec 64)) (s : State) : Host.Outcome State Fault Refusal :=
  .next (s.mbox h 0x401 true fun s =>
    let (s, ok) := s.handOver 4 ((notBefore.map (·.toNat)).getD 0)
    (s, if ok then okWith [] else refuse stNotReady 0))

/-- The first field of PAIR_CONFIG outside its range (R321). -/
def pairCfgBad (c : PairCfg) : Option Nat :=
  if 256 ≤ c.strict then some 0
  else if c.strictWait < 50 ∨ 1000 < c.strictWait then some 1
  else if c.reclaim = 0 ∨ 1440 < c.reclaim then some 2
  else if 255 < c.exercise then some 4
  else if c.pwait < 10 ∨ 600 < c.pwait then some 5
  else none

/-- PAIR_CONFIG (R295, R315, R322). -/
def execPairConfig (h : Hdr) (c : PairCfg) (s : State) : Host.Outcome State Fault Refusal :=
  .next (s.mbox h 0x402 true fun s =>
    match pairCfgBad c with
    | some k => (s, badParam h k)
    | none => s.accept h 0x402 (.pairConfig c) [c.strict, c.strictWait, c.reclaim, c.detachWarm.toNat, c.exercise, c.pwait, c.serial])

/-- A margin as eight bytes in two's complement. -/
def marginBytes (x : Int) : List Byte := leBytes 8 (x % 2 ^ 64).toNat

/-- PAIR_TIMES (R294, R301, R322): TT of every used class; the margins of the first two checks of each in 0.01 ns, that of the third in bytes per
second. -/
def execPairTimes (h : Hdr) (s : State) : Host.Outcome State Fault Refusal :=
  .next (s.mbox h 0x403 false fun s =>
    match s.runBook with
    | none => (s, okWith [])
    | some b =>
      let us := bookUsed b
      let f := sumFrac (us.map fun c => ((gIn b c + gOut b c) * 72, bookPeriod b c))
      let rate : Int := 3125000000 - ((f.1 * 1000000000 / f.2 : Nat) : Int)
      (s, okWith ((us.flatMap fun c => leBytes 4 (takeTime b (s.fld R.pairCfgStrict) c)) ++
        (us.flatMap fun c => marginBytes (linkIn b c) ++ marginBytes (linkAll b c)) ++ marginBytes rate)))

end Sys2Proof.Machine
end

