-- ==== Sys2Proof/Machine/Blocks.lean ====
section
/-! DEFINITION. The commands of the station rings, the fabric, time, the field island and the cabinet bus (R91, R347, R352, R353, R372, R374, R394,
R404, R423, R572, R586 to R588, R592). -/

namespace Sys2Proof.Machine

/-! ### Station rings (R347, R352 to R355) -/

/-- STATION_STATUS (R353): both STN_STs words and the status word of each station, as many as were asked for and fit. -/
def execStationStatus (h : Hdr) (first count : Nat) (s : State) : Host.Outcome State Fault Refusal :=
  .next (s.mbox h 0x500 false fun s =>
    if 256 ≤ first then (s, badParam h 0)
    else
      let sts := (List.range (min count 42)).filterMap fun i => if first + i < 256 then some (first + i) else none
      (s, okWith (sts.flatMap fun st => s.regBytes [(R.stnStState st).addr, (R.stnSt1Losses st).addr] ++ wordBytes [(s.stnOf st).statusWord])))

/-- RING_STATUS (R353). -/
def execRingStatus (h : Hdr) (r : Nat) (s : State) : Host.Outcome State Fault Refusal :=
  .next (s.mbox h 0x501 false fun s =>
    if 2 ≤ r then (s, badParam h 0) else (s, okWith (s.regBytes [(R.stnRingPortUp r).addr, (R.stnRingCntCrcerr r).addr])))

/-- STATION_RELEASE (R295, R347): refused unless the station is HELD. -/
def execStationRelease (h : Hdr) (st : Nat) (s : State) : Host.Outcome State Fault Refusal :=
  .next (s.mbox h 0x502 true fun s =>
    if 256 ≤ st then (s, badParam h 0)
    else
      let x := s.fld (R.stnStState st)
      if x = 0 then (s, refuse stNotFound st)
      else if x ≠ 6 then (s, refuse stState x)
      else s.accept h 0x502 (.stationRelease st) [st])

/-- STATION_RELEASE_ALL (R295, R347, R353): one ring, or both. -/
def execStationReleaseAll (h : Hdr) (ring : Option Nat) (s : State) : Host.Outcome State Fault Refusal :=
  .next (s.mbox h 0x503 true fun s =>
    if ring.any fun r => decide (2 ≤ r) then (s, badParam h 0) else s.accept h 0x503 (.stationReleaseAll ring) [ring.getD 255])

/-- STATION_CLEAR (R353, R355): the counters of a ring, or of a station. -/
def execStationClear (h : Hdr) (station : Bool) (n : Nat) (s : State) : Host.Outcome State Fault Refusal :=
  .next (s.mbox h 0x504 false fun s =>
    if (station ∧ 256 ≤ n) ∨ (¬ station ∧ 2 ≤ n) then (s, badParam h 1)
    else
      let fs := if station then [R.stnStUndelivered n, R.stnSt1Losses n] else (List.range 4).map (ringCounter n)
      (s.clearThen fs none, okWith []))

/-- STATION_CAPTURE (R352, R353): copies of the next `count` frames discarded on a ring, or none. -/
def execStationCapture (h : Hdr) (r : Nat) (on : Bool) (count : Nat) (s : State) : Host.Outcome State Fault Refusal :=
  .next (s.mbox h 0x505 false fun s =>
    if 2 ≤ r then (s, badParam h 0)
    else if on ∧ (count = 0 ∨ 65535 < count) then (s, badParam h 2)
    else ({ s with stn := { s.stn with capture := mput 0 s.stn.capture r (if on then count else 0) } }, okWith []))

/-! ### The fabric (R360, R372, R374, R394) -/

/-- FABRIC_CONFIG (R295, R360, R372). -/
def execFabricConfig (h : Hdr) (c : FabricCfg) (s : State) : Host.Outcome State Fault Refusal :=
  .next (s.mbox h 0x601 true fun s =>
    if 4096 ≤ c.pair then (s, badParam h 0)
    else if c.cost2 = 0 ∨ 65536 ≤ c.cost2 then (s, badParam h 1)
    else if c.cost3 = 0 ∨ 65536 ≤ c.cost3 then (s, badParam h 2)
    else s.accept h 0x601 (.fabricConfig c) [c.pair, c.cost2, c.cost3])

/-- As many items as fit in a result (R491). -/
def packItems (items : List (List Byte)) : List Byte :=
  items.foldl (fun bs x => if bs.length + x.length ≤ 1008 then bs ++ x else bs) []

/-- An originator of the database: address, serial number, SEQ, STATE, adjacencies. -/
def nodeBytes (a : Nat) (l : Lsr) : List Byte :=
  leBytes 2 a ++ leBytes 8 l.serial ++ leBytes 4 l.seq ++ leBytes 1 l.state ++ leBytes 1 l.adj.length ++
    l.adj.flatMap fun x => leBytes 2 x.addr ++ leBytes 1 x.lport ++ leBytes 1 x.nport ++ leBytes 2 x.cost

/-- FABRIC_NODES (R394): from the first originator named on. -/
def execFabricNodes (h : Hdr) (first count : Nat) (s : State) : Host.Outcome State Fault Refusal :=
  .next (s.mbox h 0x602 false fun s =>
    if 65536 ≤ first then (s, badParam h 0)
    else
      let ns := (s.fab.db.filterMap fun e => e.2.bind fun x => if first ≤ e.1 then some (nodeBytes e.1 x.l) else none).take count
      (s, okWith (packItems ns)))

/-- A way of a route: port and cost; port 0 and cost FFFF_FFFFh where the slot is unreachable. -/
def wayBytes (w : Option (Nat × Nat)) : List Byte :=
  match w with
  | some (p, c) => leBytes 1 p ++ leBytes 4 c
  | none => leBytes 1 0 ++ leBytes 4 0xFFFFFFFF

/-- FABRIC_ROUTES (R374, R394): toward slot A or the node, toward slot B, ACTIVE (0 none, 1 A, 2 B). -/
def execFabricRoutes (h : Hdr) (first count : Nat) (s : State) : Host.Outcome State Fault Refusal :=
  .next (s.mbox h 0x603 false fun s =>
    if 8192 ≤ first then (s, badParam h 0)
    else
      let rs := (List.range (min count 91)).filterMap fun i =>
        if 8192 ≤ first + i then none
        else
          let r := mget Route.none_ s.fab.routes (first + i)
          some (wayBytes r.a ++ wayBytes r.b ++ leBytes 1 (r.active.getD 0))
      (s, okWith (packItems rs)))

/-- SOUNDING_STATUS (R382 to R384, R394): published soundings, then subscriptions: kind, index, last WATCH, EPOCH and WAKE, age in ns (all ones
where nothing has been accepted), quality state. -/
def execSoundingStatus (h : Hdr) (s : State) : Host.Outcome State Fault Refusal :=
  .next (s.mbox h 0x604 false fun s =>
    let row := fun (kind idx watch epoch wake age level : Nat) =>
      leBytes 1 kind ++ leBytes 1 idx ++ leBytes 4 watch ++ leBytes 2 epoch ++ leBytes 6 wake ++ leBytes 8 age ++ leBytes 1 level
    let pubs := (s.runBook.elim [] fun b => b.pubs).map fun p =>
      match mget none s.fab.pubWake p.idx with
      | some w => row 0 p.idx s.fabWatch s.fab.epoch w 0 0
      | none => row 0 p.idx 0 0 0 (2 ^ 64 - 1) 0
    let subs := (s.runBook.elim [] fun b => b.subs).map fun u =>
      let x := s.sub u.idx
      let (w, e, k) := x.last.getD (0, 0, 0)
      row 1 u.idx w e k ((x.at2.map fun t => s.tb 2 - t).getD (2 ^ 64 - 1)) x.level
    (s, okWith (packItems (pubs ++ subs))))

/-- FABRIC_CLEAR (R394): P2, P3, or both. -/
def execFabricClear (h : Hdr) (port : Option Nat) (s : State) : Host.Outcome State Fault Refusal :=
  .next (s.mbox h 0x605 false fun s =>
    if port.any fun p => p != 2 && p != 3 then (s, badParam h 0)
    else
      let ps := match port with | some p => [p] | none => [2, 3]
      (s.clearThen (ps.flatMap fun p => (List.range 4).map (portCounter p)) none, okWith []))

/-! ### Time (R91, R404, R405, R423) -/

/-- A port setting outside its range (R404, R421). -/
def ptpPortBad (x : PtpPortCfg) : Bool :=
  decide (6 ≤ x.profile) || decide (3 ≤ x.encap) || decide (2 ^ 32 ≤ x.latIn) || decide (2 ^ 32 ≤ x.latEg) || decide (2 ^ 32 ≤ x.asym) ||
    !(decide (-128 ≤ x.syncInt) && decide (x.syncInt ≤ 127)) || !(decide (-128 ≤ x.annInt) && decide (x.annInt ≤ 127))

/-- The first setting of TIME_CONFIG outside its range (R400, R404, R405). -/
def timeCfgBad (c : TimeCfg) : Option Nat :=
  if 128 ≤ c.domA then some 0
  else if 128 ≤ c.domB then some 1
  else if 128 ≤ c.domR then some 2
  else if 4 < c.ports.length ∨ c.ports.any ptpPortBad then some 3
  else if 256 ≤ c.prio1 then some 4
  else if 256 ≤ c.prio2 then some 5
  else if 3600 < c.window then some 7
  else none

/-- TIME_CONFIG (R295, R423). -/
def execTimeConfig (h : Hdr) (c : TimeCfg) (s : State) : Host.Outcome State Fault Refusal :=
  .next (s.mbox h 0x701 true fun s =>
    match timeCfgBad c with
    | some k => (s, badParam h k)
    | none =>
      let ports := c.ports.flatMap fun x =>
        [x.profile, x.encap, x.twoStep.toNat, x.latIn, x.latEg, x.asym, (x.syncInt % 256).toNat, (x.annInt % 256).toNat]
      s.accept h 0x701 (.timeConfig c) ([c.domA, c.domB, c.domR] ++ ports ++ [c.prio1, c.prio2, c.follow.toNat, c.window]))

/-- TIME_SET (R295, R423): accepted while TB0_STATE is FREE or HOLDOVER. -/
def execTimeSet (h : Hdr) (tai : BitVec 64) (utc : Int) (s : State) : Host.Outcome State Fault Refusal :=
  .next (s.mbox h 0x702 true fun s =>
    let p := s.fld R.timeStatusTb0State
    if p ≠ 0 ∧ p ≠ 3 then (s, refuse stState p)
    else if utc < -32768 ∨ 32767 < utc then (s, badParam h 1)
    else s.accept h 0x702 (.timeSet tai.toNat utc) [tai.toNat, (utc % 2 ^ 64).toNat])

/-- TB2_STEP (R91, R295, R423): accepted in STOP; without a target the step goes to TB0. -/
def execTb2Step (h : Hdr) (target : Option (BitVec 64)) (s : State) : Host.Outcome State Fault Refusal :=
  .next (s.mbox h 0x703 true fun s =>
    if s.fld R.bookModeMode ≠ 0 then (s, refuse stState (s.fld R.bookModeMode))
    else s.accept h 0x703 (.tb2Step (target.map (·.toNat))) [(target.map (·.toNat)).getD 0])

/-! ### The field island (R572, R592) -/

/-- A trim step as R572 numbers it. -/
def trimNum (t : TrimStep) : Nat :=
  match t with
  | .drive4 => 0
  | .set4 => 1
  | .drive20 => 2
  | .set20 => 3
  | .commit => 4

/-- FIELD_TRIM (R572). -/
def execFieldTrim (h : Hdr) (k : Nat) (step : TrimStep) (amps : BitVec 32) (s : State) : Host.Outcome State Fault Refusal :=
  .next (s.mbox h 0xA01 false fun s =>
    if 4 ≤ k then (s, badParam h 0)
    else if ¬ s.trimOk k then (s, refuse stState s.pstate)
    else
      let (s, ok) := s.trimStep k (trimNum step) amps.toNat
      (s, if ok then okWith [] else badParam h 1))

/-- FIELD_CLEAR (R592): the latched bits of a channel. -/
def execFieldClear (h : Hdr) (k : Nat) (s : State) : Host.Outcome State Fault Refusal :=
  .next (s.mbox h 0xA02 false fun s =>
    if 4 ≤ k then (s, badParam h 0)
    else (s.clearThen [R.fldAoFlagsOpenL k, R.fldAoFlagsComplL k, R.fldAoFlagsStageL k] none, okWith []))

/-! ### The cabinet bus (R586 to R588, R592) -/

/-- The first setting of CAN_CONFIG that R588 does not list. -/
def canCfgBad (c : CanCfg) : Option Nat :=
  if 2 ≤ c.ch then some 0
  else if 4 < c.nominal then some 1
  else if 4 < c.data then some 2
  else if 2 ^ 11 ≤ c.watchId then some 5
  else if 64 < c.filters.length ∨ c.filters.any fun f => decide (2 ^ 29 ≤ f.mtch) || decide (4 ≤ f.action) || decide (2 ^ 29 ≤ f.mask) then some 6
  else none

/-- A filter as two words. -/
def canFilterWords (f : CanFilter) : List Nat := [f.mtch + f.ide.toNat * 2 ^ 29 + f.action * 2 ^ 30, f.mask]

/-- CAN_CONFIG (R295, R586, R592). -/
def execCanConfig (h : Hdr) (c : CanCfg) (s : State) : Host.Outcome State Fault Refusal :=
  .next (s.mbox h 0xB01 true fun s =>
    match canCfgBad c with
    | some k => (s, badParam h k)
    | none =>
      s.accept h 0xB01 (.canConfig c)
        ([c.ch, c.nominal, c.data, c.autoRec.toNat, c.watchEn.toNat, c.watchId] ++ c.filters.flatMap canFilterWords))

/-- The words of an object hold values that R588 lists. -/
def canObjOk (w0 w1 : W64) : Bool :=
  let fdf := getBits w0 30 1 == 1
  let len := getBits w0 32 7
  let per := getBits w1 0 16
  (fdf || getBits w0 31 1 == 0) && dlcOk len && (fdf || decide (len ≤ 8)) && (per == 0 || (decide (10 ≤ per) && decide (per ≤ 60000)))

/-- CAN_OBJECT (R295, R586, R592). -/
def execCanObject (h : Hdr) (c : CanObjCfg) (s : State) : Host.Outcome State Fault Refusal :=
  .next (s.mbox h 0xB02 true fun s =>
    if 2 ≤ c.ch then (s, badParam h 0)
    else if 256 ≤ c.obj then (s, badParam h 1)
    else if ¬ canObjOk c.w0 c.w1 then (s, badParam h 2)
    else s.accept h 0xB02 (.canObject c) ([c.ch, c.obj, c.w0.toNat, c.w1.toNat] ++ c.data.map (·.toNat)))

/-- CAN_SEND (R295, R583, R586, R592). -/
def execCanSend (h : Hdr) (n k : Nat) (s : State) : Host.Outcome State Fault Refusal :=
  .next (s.mbox h 0xB03 true fun s =>
    if 2 ≤ n then (s, badParam h 0)
    else if 256 ≤ k then (s, badParam h 1)
    else s.accept h 0xB03 (.canSend n k) [n, k])

/-- CAN_READ (R592): both words and the data of each object. -/
def execCanRead (h : Hdr) (n first count : Nat) (s : State) : Host.Outcome State Fault Refusal :=
  .next (s.mbox h 0xB04 false fun s =>
    if 2 ≤ n then (s, badParam h 0)
    else if 256 ≤ first then (s, badParam h 1)
    else if count = 0 ∨ 8 < count then (s, badParam h 2)
    else if 256 < first + count then (s, badParam h 1)
    else
      (s, okWith ((List.range count).flatMap fun i =>
        s.regBytes ((List.range 10).map fun j => (R.canObj n (first + i)).addr + 8 * j))))

/-- CAN_RECOVER (R587, R592): a channel in bus-off begins its recovery. -/
def execCanRecover (h : Hdr) (n : Nat) (s : State) : Host.Outcome State Fault Refusal :=
  .next (s.mbox h 0xB05 false fun s =>
    if 2 ≤ n then (s, badParam h 0)
    else if s.fld (R.canStatusErrstate n) = 2 then (s.modCan n fun x => { x with recovering := true }, okWith [])
    else (s, okWith []))

/-- CAN_CLEAR (R592). -/
def execCanClear (h : Hdr) (n : Nat) (s : State) : Host.Outcome State Fault Refusal :=
  .next (s.mbox h 0xB06 false fun s =>
    if 2 ≤ n then (s, badParam h 0) else (s.clearThen ((List.range 5).map (canCounter n)) none, okWith []))

end Sys2Proof.Machine
end

