-- ==== Sys2Proof/Machine/Lanes.lean ====
section
/-! DEFINITION. The lane instructions of R147 to R154: the meaning of each row, one issue of its word on both engines of the
lane (R240, R241). -/

namespace Sys2Proof.Machine

/-- NOP (R147): None. -/
def execNop (l : Fin 8) (neg : Bool) (pr : BitVec 3) (s : State) : Host.Outcome State Fault Refusal :=
  .next (s.laneIssue l.val (wordR 0x00 neg pr 0 0 0))

/-- END (R131): Ends the scan. -/
def execEndScan (l : Fin 8) (neg : Bool) (pr : BitVec 3) (s : State) : Host.Outcome State Fault Refusal :=
  .next (s.laneIssue l.val (wordR 0x01 neg pr 0 0 0))

/-- MOV (R147): X[D] ← X[A]. -/
def execMov (l : Fin 8) (neg : Bool) (pr : BitVec 3) (d a : BitVec 6) (s : State) : Host.Outcome State Fault Refusal :=
  .next (s.laneIssue l.val (wordR 0x02 neg pr d a 0))

/-- LDI (R147): X[D] ← IMM sign-extended from 14 bits (−8,192 to 8,191). -/
def execLdi (l : Fin 8) (neg : Bool) (pr : BitVec 3) (d : BitVec 6) (imm : BitVec 14) (s : State) : Host.Outcome State Fault Refusal :=
  .next (s.laneIssue l.val (wordI 0x03 neg pr d imm))

/-- LDK (R147): X[D] ← constant IMM of the type; Book verify refuses IMM ≥ NCONST. -/
def execLdk (l : Fin 8) (neg : Bool) (pr : BitVec 3) (d : BitVec 6) (imm : BitVec 14) (s : State) : Host.Outcome State Fault Refusal :=
  .next (s.laneIssue l.val (wordI 0x04 neg pr d imm))

/-- GET (R155): X[D] ← the cycle value selected by IMM, under R155. -/
def execGet (l : Fin 8) (neg : Bool) (pr : BitVec 3) (d : BitVec 6) (imm : BitVec 14) (s : State) : Host.Outcome State Fault Refusal :=
  .next (s.laneIssue l.val (wordI 0x05 neg pr d imm))

/-- IADD (R148): X[D] ← X[A] + X[B], saturated. -/
def execIadd (l : Fin 8) (neg : Bool) (pr : BitVec 3) (d a b : BitVec 6) (s : State) : Host.Outcome State Fault Refusal :=
  .next (s.laneIssue l.val (wordR 0x10 neg pr d a b))

/-- ISUB (R148): X[D] ← X[A] − X[B], saturated. -/
def execIsub (l : Fin 8) (neg : Bool) (pr : BitVec 3) (d a b : BitVec 6) (s : State) : Host.Outcome State Fault Refusal :=
  .next (s.laneIssue l.val (wordR 0x11 neg pr d a b))

/-- IMUL (R148): X[D] ← X[A] × X[B], saturated. -/
def execImul (l : Fin 8) (neg : Bool) (pr : BitVec 3) (d a b : BitVec 6) (s : State) : Host.Outcome State Fault Refusal :=
  .next (s.laneIssue l.val (wordR 0x12 neg pr d a b))

/-- IDIV (R156): X[D] ← X[A] ÷ X[B], truncated toward zero. -/
def execIdiv (l : Fin 8) (neg : Bool) (pr : BitVec 3) (d a b : BitVec 6) (s : State) : Host.Outcome State Fault Refusal :=
  .next (s.laneIssue l.val (wordR 0x13 neg pr d a b))

/-- IREM (R156): X[D] ← X[A] − X[B] × (X[A] ÷ X[B]). -/
def execIrem (l : Fin 8) (neg : Bool) (pr : BitVec 3) (d a b : BitVec 6) (s : State) : Host.Outcome State Fault Refusal :=
  .next (s.laneIssue l.val (wordR 0x14 neg pr d a b))

/-- INEG (R148): X[D] ← −X[A], saturated. -/
def execIneg (l : Fin 8) (neg : Bool) (pr : BitVec 3) (d a : BitVec 6) (s : State) : Host.Outcome State Fault Refusal :=
  .next (s.laneIssue l.val (wordR 0x15 neg pr d a 0))

/-- IABS (R148): X[D] ← |X[A]|, saturated. -/
def execIabs (l : Fin 8) (neg : Bool) (pr : BitVec 3) (d a : BitVec 6) (s : State) : Host.Outcome State Fault Refusal :=
  .next (s.laneIssue l.val (wordR 0x16 neg pr d a 0))

/-- IMIN (R148): X[D] ← the smaller of X[A] and X[B]. -/
def execImin (l : Fin 8) (neg : Bool) (pr : BitVec 3) (d a b : BitVec 6) (s : State) : Host.Outcome State Fault Refusal :=
  .next (s.laneIssue l.val (wordR 0x17 neg pr d a b))

/-- IMAX (R148): X[D] ← the larger of X[A] and X[B]. -/
def execImax (l : Fin 8) (neg : Bool) (pr : BitVec 3) (d a b : BitVec 6) (s : State) : Host.Outcome State Fault Refusal :=
  .next (s.laneIssue l.val (wordR 0x18 neg pr d a b))

/-- ISAT32 (R148): X[D] ← X[A] limited to −2³¹ to 2³¹ − 1. -/
def execIsat32 (l : Fin 8) (neg : Bool) (pr : BitVec 3) (d a : BitVec 6) (s : State) : Host.Outcome State Fault Refusal :=
  .next (s.laneIssue l.val (wordR 0x19 neg pr d a 0))

/-- IADDW (R148): X[D] ← X[A] + X[B] modulo 2⁶⁴. -/
def execIaddw (l : Fin 8) (neg : Bool) (pr : BitVec 3) (d a b : BitVec 6) (s : State) : Host.Outcome State Fault Refusal :=
  .next (s.laneIssue l.val (wordR 0x1A neg pr d a b))

/-- ISUBW (R148): X[D] ← X[A] − X[B] modulo 2⁶⁴. -/
def execIsubw (l : Fin 8) (neg : Bool) (pr : BitVec 3) (d a b : BitVec 6) (s : State) : Host.Outcome State Fault Refusal :=
  .next (s.laneIssue l.val (wordR 0x1B neg pr d a b))

/-- IMULW (R148): X[D] ← the low 64 bits of X[A] × X[B]. -/
def execImulw (l : Fin 8) (neg : Bool) (pr : BitVec 3) (d a b : BitVec 6) (s : State) : Host.Outcome State Fault Refusal :=
  .next (s.laneIssue l.val (wordR 0x1C neg pr d a b))

/-- AND (R149): X[D] ← X[A] AND X[B]. -/
def execAndB (l : Fin 8) (neg : Bool) (pr : BitVec 3) (d a b : BitVec 6) (s : State) : Host.Outcome State Fault Refusal :=
  .next (s.laneIssue l.val (wordR 0x20 neg pr d a b))

/-- OR (R149): X[D] ← X[A] OR X[B]. -/
def execOrB (l : Fin 8) (neg : Bool) (pr : BitVec 3) (d a b : BitVec 6) (s : State) : Host.Outcome State Fault Refusal :=
  .next (s.laneIssue l.val (wordR 0x21 neg pr d a b))

/-- XOR (R149): X[D] ← X[A] XOR X[B]. -/
def execXorB (l : Fin 8) (neg : Bool) (pr : BitVec 3) (d a b : BitVec 6) (s : State) : Host.Outcome State Fault Refusal :=
  .next (s.laneIssue l.val (wordR 0x22 neg pr d a b))

/-- NOT (R149): X[D] ← NOT X[A]. -/
def execNotB (l : Fin 8) (neg : Bool) (pr : BitVec 3) (d a : BitVec 6) (s : State) : Host.Outcome State Fault Refusal :=
  .next (s.laneIssue l.val (wordR 0x23 neg pr d a 0))

/-- SHL (R149): X[D] ← X[A] shifted left by X[B][5:0], zeros shifted in. -/
def execShl (l : Fin 8) (neg : Bool) (pr : BitVec 3) (d a b : BitVec 6) (s : State) : Host.Outcome State Fault Refusal :=
  .next (s.laneIssue l.val (wordR 0x24 neg pr d a b))

/-- SHR (R149): X[D] ← X[A] shifted right by X[B][5:0], zeros shifted in. -/
def execShr (l : Fin 8) (neg : Bool) (pr : BitVec 3) (d a b : BitVec 6) (s : State) : Host.Outcome State Fault Refusal :=
  .next (s.laneIssue l.val (wordR 0x25 neg pr d a b))

/-- SAR (R149): X[D] ← X[A] shifted right by X[B][5:0], sign bit shifted in. -/
def execSar (l : Fin 8) (neg : Bool) (pr : BitVec 3) (d a b : BitVec 6) (s : State) : Host.Outcome State Fault Refusal :=
  .next (s.laneIssue l.val (wordR 0x26 neg pr d a b))

/-- ROL (R149): X[D] ← X[A] rotated left by X[B][5:0]. -/
def execRol (l : Fin 8) (neg : Bool) (pr : BitVec 3) (d a b : BitVec 6) (s : State) : Host.Outcome State Fault Refusal :=
  .next (s.laneIssue l.val (wordR 0x27 neg pr d a b))

/-- POPC (R149): X[D] ← number of 1 bits in X[A]. -/
def execPopc (l : Fin 8) (neg : Bool) (pr : BitVec 3) (d a : BitVec 6) (s : State) : Host.Outcome State Fault Refusal :=
  .next (s.laneIssue l.val (wordR 0x28 neg pr d a 0))

/-- BNOT (R149): X[D] ← 1 if X[A] = 0, else 0. -/
def execBnot (l : Fin 8) (neg : Bool) (pr : BitVec 3) (d a : BitVec 6) (s : State) : Host.Outcome State Fault Refusal :=
  .next (s.laneIssue l.val (wordR 0x29 neg pr d a 0))

/-- BOOL (R149): X[D] ← 0 if X[A] = 0, else 1. -/
def execBoolOf (l : Fin 8) (neg : Bool) (pr : BitVec 3) (d a : BitVec 6) (s : State) : Host.Outcome State Fault Refusal :=
  .next (s.laneIssue l.val (wordR 0x2A neg pr d a 0))

/-- QOF (R149): X[D] ← X[A][55:48] as an integer, or 0 if that byte exceeds 04h. -/
def execQof (l : Fin 8) (neg : Bool) (pr : BitVec 3) (d a : BitVec 6) (s : State) : Host.Outcome State Fault Refusal :=
  .next (s.laneIssue l.val (wordR 0x2B neg pr d a 0))

/-- IEQ (R150): target ← X[A] = X[B]. -/
def execIeq (l : Fin 8) (neg : Bool) (pr : BitVec 3) (t : BitVec 3) (a b : BitVec 6) (s : State) : Host.Outcome State Fault Refusal :=
  .next (s.laneIssue l.val (wordC 0x30 neg pr t a b))

/-- ILT (R150): target ← X[A] < X[B], signed. -/
def execIlt (l : Fin 8) (neg : Bool) (pr : BitVec 3) (t : BitVec 3) (a b : BitVec 6) (s : State) : Host.Outcome State Fault Refusal :=
  .next (s.laneIssue l.val (wordC 0x31 neg pr t a b))

/-- ILE (R150): target ← X[A] ≤ X[B], signed. -/
def execIle (l : Fin 8) (neg : Bool) (pr : BitVec 3) (t : BitVec 3) (a b : BitVec 6) (s : State) : Host.Outcome State Fault Refusal :=
  .next (s.laneIssue l.val (wordC 0x32 neg pr t a b))

/-- ULT (R150): target ← X[A] < X[B], unsigned. -/
def execUlt (l : Fin 8) (neg : Bool) (pr : BitVec 3) (t : BitVec 3) (a b : BitVec 6) (s : State) : Host.Outcome State Fault Refusal :=
  .next (s.laneIssue l.val (wordC 0x33 neg pr t a b))

/-- FEQ (R159): target ← X[A] = X[B] as binary64. -/
def execFeq (l : Fin 8) (neg : Bool) (pr : BitVec 3) (t : BitVec 3) (a b : BitVec 6) (s : State) : Host.Outcome State Fault Refusal :=
  .next (s.laneIssue l.val (wordC 0x34 neg pr t a b))

/-- FLT (R159): target ← X[A] < X[B] as binary64. -/
def execFlt (l : Fin 8) (neg : Bool) (pr : BitVec 3) (t : BitVec 3) (a b : BitVec 6) (s : State) : Host.Outcome State Fault Refusal :=
  .next (s.laneIssue l.val (wordC 0x35 neg pr t a b))

/-- FLE (R159): target ← X[A] ≤ X[B] as binary64. -/
def execFle (l : Fin 8) (neg : Bool) (pr : BitVec 3) (t : BitVec 3) (a b : BitVec 6) (s : State) : Host.Outcome State Fault Refusal :=
  .next (s.laneIssue l.val (wordC 0x36 neg pr t a b))

/-- FUN (R159): target ← X[A] or X[B] is a NaN. -/
def execFun (l : Fin 8) (neg : Bool) (pr : BitVec 3) (t : BitVec 3) (a b : BitVec 6) (s : State) : Host.Outcome State Fault Refusal :=
  .next (s.laneIssue l.val (wordC 0x37 neg pr t a b))

/-- TST (R150): target ← X[A] ≠ 0. -/
def execTst (l : Fin 8) (neg : Bool) (pr : BitVec 3) (t : BitVec 3) (a : BitVec 6) (s : State) : Host.Outcome State Fault Refusal :=
  .next (s.laneIssue l.val (wordC 0x38 neg pr t a 0))

/-- PAND (R150): target ← P[a] AND P[b]. -/
def execPand (l : Fin 8) (neg : Bool) (pr : BitVec 3) (t a b : BitVec 3) (s : State) : Host.Outcome State Fault Refusal :=
  .next (s.laneIssue l.val (wordC 0x39 neg pr t (a.setWidth 6) (b.setWidth 6)))

/-- POR (R150): target ← P[a] OR P[b]. -/
def execPor (l : Fin 8) (neg : Bool) (pr : BitVec 3) (t a b : BitVec 3) (s : State) : Host.Outcome State Fault Refusal :=
  .next (s.laneIssue l.val (wordC 0x3A neg pr t (a.setWidth 6) (b.setWidth 6)))

/-- PNOT (R150): target ← NOT P[a]. -/
def execPnot (l : Fin 8) (neg : Bool) (pr : BitVec 3) (t a : BitVec 3) (s : State) : Host.Outcome State Fault Refusal :=
  .next (s.laneIssue l.val (wordC 0x3B neg pr t (a.setWidth 6) 0))

/-- PMOV (R150): X[D] ← 1 if P[a] is 1, else 0. -/
def execPmov (l : Fin 8) (neg : Bool) (pr : BitVec 3) (d : BitVec 6) (a : BitVec 3) (s : State) : Host.Outcome State Fault Refusal :=
  .next (s.laneIssue l.val (wordR 0x3C neg pr d (a.setWidth 6) 0))

/-- FADD (R157): X[D] ← X[A] + X[B]. -/
def execFadd (l : Fin 8) (neg : Bool) (pr : BitVec 3) (d a b : BitVec 6) (s : State) : Host.Outcome State Fault Refusal :=
  .next (s.laneIssue l.val (wordR 0x40 neg pr d a b))

/-- FSUB (R157): X[D] ← X[A] − X[B]. -/
def execFsub (l : Fin 8) (neg : Bool) (pr : BitVec 3) (d a b : BitVec 6) (s : State) : Host.Outcome State Fault Refusal :=
  .next (s.laneIssue l.val (wordR 0x41 neg pr d a b))

/-- FMUL (R157): X[D] ← X[A] × X[B]. -/
def execFmul (l : Fin 8) (neg : Bool) (pr : BitVec 3) (d a b : BitVec 6) (s : State) : Host.Outcome State Fault Refusal :=
  .next (s.laneIssue l.val (wordR 0x42 neg pr d a b))

/-- FDIV (R157): X[D] ← X[A] ÷ X[B]. -/
def execFdiv (l : Fin 8) (neg : Bool) (pr : BitVec 3) (d a b : BitVec 6) (s : State) : Host.Outcome State Fault Refusal :=
  .next (s.laneIssue l.val (wordR 0x43 neg pr d a b))

/-- FSQRT (R157): X[D] ← √X[A]. -/
def execFsqrt (l : Fin 8) (neg : Bool) (pr : BitVec 3) (d a : BitVec 6) (s : State) : Host.Outcome State Fault Refusal :=
  .next (s.laneIssue l.val (wordR 0x44 neg pr d a 0))

/-- FMA (R157): X[D] ← X[A] × X[B] + X[D], rounded once. -/
def execFma (l : Fin 8) (neg : Bool) (pr : BitVec 3) (d a b : BitVec 6) (s : State) : Host.Outcome State Fault Refusal :=
  .next (s.laneIssue l.val (wordR 0x45 neg pr d a b))

/-- FMIN (R159): X[D] ← minimum of X[A] and X[B]. -/
def execFmin (l : Fin 8) (neg : Bool) (pr : BitVec 3) (d a b : BitVec 6) (s : State) : Host.Outcome State Fault Refusal :=
  .next (s.laneIssue l.val (wordR 0x46 neg pr d a b))

/-- FMAX (R159): X[D] ← maximum of X[A] and X[B]. -/
def execFmax (l : Fin 8) (neg : Bool) (pr : BitVec 3) (d a b : BitVec 6) (s : State) : Host.Outcome State Fault Refusal :=
  .next (s.laneIssue l.val (wordR 0x47 neg pr d a b))

/-- FABS (R151): X[D] ← X[A] with sign bit 0. -/
def execFabs (l : Fin 8) (neg : Bool) (pr : BitVec 3) (d a : BitVec 6) (s : State) : Host.Outcome State Fault Refusal :=
  .next (s.laneIssue l.val (wordR 0x48 neg pr d a 0))

/-- FNEG (R151): X[D] ← X[A] with sign bit inverted. -/
def execFneg (l : Fin 8) (neg : Bool) (pr : BitVec 3) (d a : BitVec 6) (s : State) : Host.Outcome State Fault Refusal :=
  .next (s.laneIssue l.val (wordR 0x49 neg pr d a 0))

/-- FCLAMP (R159): X[D] ← FMIN(FMAX(X[D], X[A]), X[B]). -/
def execFclamp (l : Fin 8) (neg : Bool) (pr : BitVec 3) (d a b : BitVec 6) (s : State) : Host.Outcome State Fault Refusal :=
  .next (s.laneIssue l.val (wordR 0x4A neg pr d a b))

/-- FRINT (R151): X[D] ← X[A] rounded to an integral value, ties to even. -/
def execFrint (l : Fin 8) (neg : Bool) (pr : BitVec 3) (d a : BitVec 6) (s : State) : Host.Outcome State Fault Refusal :=
  .next (s.laneIssue l.val (wordR 0x4B neg pr d a 0))

/-- FTRUNC (R151): X[D] ← X[A] rounded to an integral value toward zero. -/
def execFtrunc (l : Fin 8) (neg : Bool) (pr : BitVec 3) (d a : BitVec 6) (s : State) : Host.Outcome State Fault Refusal :=
  .next (s.laneIssue l.val (wordR 0x4C neg pr d a 0))

/-- FFLOOR (R151): X[D] ← X[A] rounded to an integral value toward −∞. -/
def execFfloor (l : Fin 8) (neg : Bool) (pr : BitVec 3) (d a : BitVec 6) (s : State) : Host.Outcome State Fault Refusal :=
  .next (s.laneIssue l.val (wordR 0x4D neg pr d a 0))

/-- FCEIL (R151): X[D] ← X[A] rounded to an integral value toward +∞. -/
def execFceil (l : Fin 8) (neg : Bool) (pr : BitVec 3) (d a : BitVec 6) (s : State) : Host.Outcome State Fault Refusal :=
  .next (s.laneIssue l.val (wordR 0x4E neg pr d a 0))

/-- ITOF (R159): X[D] ← INT64 X[A] converted to binary64. -/
def execItof (l : Fin 8) (neg : Bool) (pr : BitVec 3) (d a : BitVec 6) (s : State) : Host.Outcome State Fault Refusal :=
  .next (s.laneIssue l.val (wordR 0x50 neg pr d a 0))

/-- FTOI (R159): X[D] ← X[A] converted to INT64 toward zero. -/
def execFtoi (l : Fin 8) (neg : Bool) (pr : BitVec 3) (d a : BitVec 6) (s : State) : Host.Outcome State Fault Refusal :=
  .next (s.laneIssue l.val (wordR 0x51 neg pr d a 0))

/-- FTOIN (R159): X[D] ← X[A] converted to INT64, ties to even. -/
def execFtoin (l : Fin 8) (neg : Bool) (pr : BitVec 3) (d a : BitVec 6) (s : State) : Host.Outcome State Fault Refusal :=
  .next (s.laneIssue l.val (wordR 0x52 neg pr d a 0))

/-- FEXP (R160): X[D] ← e raised to X[A]. -/
def execFexp (l : Fin 8) (neg : Bool) (pr : BitVec 3) (d a : BitVec 6) (s : State) : Host.Outcome State Fault Refusal :=
  .next (s.laneIssue l.val (wordR 0x53 neg pr d a 0))

/-- FLN (R160): X[D] ← natural logarithm of X[A]. -/
def execFln (l : Fin 8) (neg : Bool) (pr : BitVec 3) (d a : BitVec 6) (s : State) : Host.Outcome State Fault Refusal :=
  .next (s.laneIssue l.val (wordR 0x54 neg pr d a 0))

/-- FSIN (R160): X[D] ← sine of X[A] radians. -/
def execFsin (l : Fin 8) (neg : Bool) (pr : BitVec 3) (d a : BitVec 6) (s : State) : Host.Outcome State Fault Refusal :=
  .next (s.laneIssue l.val (wordR 0x55 neg pr d a 0))

/-- FCOS (R160): X[D] ← cosine of X[A] radians. -/
def execFcos (l : Fin 8) (neg : Bool) (pr : BitVec 3) (d a : BitVec 6) (s : State) : Host.Outcome State Fault Refusal :=
  .next (s.laneIssue l.val (wordR 0x56 neg pr d a 0))

/-- FATAN2 (R160): X[D] ← atan2(X[A], X[B]), with X[A] as y and X[B] as x. -/
def execFatan2 (l : Fin 8) (neg : Bool) (pr : BitVec 3) (d a b : BitVec 6) (s : State) : Host.Outcome State Fault Refusal :=
  .next (s.laneIssue l.val (wordR 0x57 neg pr d a b))

/-- LDF (R152): X[D] ← word W. -/
def execLdf (l : Fin 8) (neg : Bool) (pr : BitVec 3) (d : BitVec 6) (w : BitVec 12) (s : State) : Host.Outcome State Fault Refusal :=
  .next (s.laneIssue l.val (wordM 0x60 neg pr d w))

/-- STF (R152): word W ← X[D]. -/
def execStf (l : Fin 8) (neg : Bool) (pr : BitVec 3) (d : BitVec 6) (w : BitVec 12) (s : State) : Host.Outcome State Fault Refusal :=
  .next (s.laneIssue l.val (wordM 0x61 neg pr d w))

/-- LDFX (R152): X[D] ← word (X[A] + X[B]) modulo 2⁶⁴, taken as unsigned; 0 if that word is outside the frame. -/
def execLdfx (l : Fin 8) (neg : Bool) (pr : BitVec 3) (d a b : BitVec 6) (s : State) : Host.Outcome State Fault Refusal :=
  .next (s.laneIssue l.val (wordR 0x62 neg pr d a b))

/-- STFX (R152): word (X[A] + X[B]) modulo 2⁶⁴ ← X[D]; dropped if that word is NCONN or lower or outside the frame. -/
def execStfx (l : Fin 8) (neg : Bool) (pr : BitVec 3) (d a b : BitVec 6) (s : State) : Host.Outcome State Fault Refusal :=
  .next (s.laneIssue l.val (wordR 0x63 neg pr d a b))

/-- LDSV (R163): X[D] ← VALUE of the prefetched record. -/
def execLdsv (l : Fin 8) (neg : Bool) (pr : BitVec 3) (d : BitVec 6) (conn : BitVec 8) (s : State) : Host.Outcome State Fault Refusal :=
  .next (s.laneIssue l.val (wordS 0x70 neg pr d 0 conn))

/-- LDSM (R163): X[D] ← [47:0] STAMP, [55:48] QUALITY, [63:56] FLAGS of the prefetched record. -/
def execLdsm (l : Fin 8) (neg : Bool) (pr : BitVec 3) (d : BitVec 6) (conn : BitVec 8) (s : State) : Host.Outcome State Fault Refusal :=
  .next (s.laneIssue l.val (wordS 0x71 neg pr d 0 conn))

/-- STS (R164): Store: VALUE from X[D], QUALITY from X[A][7:0], STAMP the cycle time. -/
def execSts (l : Fin 8) (neg : Bool) (pr : BitVec 3) (d a : BitVec 6) (conn : BitVec 8) (s : State) : Host.Outcome State Fault Refusal :=
  .next (s.laneIssue l.val (wordS 0x72 neg pr d a conn))

/-- STSR (R164): Store: VALUE from X[D], STAMP from X[A][47:0], QUALITY from X[A][55:48]. -/
def execStsr (l : Fin 8) (neg : Bool) (pr : BitVec 3) (d a : BitVec 6) (conn : BitVec 8) (s : State) : Host.Outcome State Fault Refusal :=
  .next (s.laneIssue l.val (wordS 0x73 neg pr d a conn))

/-- TSTC (R154): P[D[2:0]] ← 1 if the connection's KIND is not 11; D[5:3] reserved, 0. -/
def execTstc (l : Fin 8) (neg : Bool) (pr : BitVec 3) (t : BitVec 3) (conn : BitVec 8) (s : State) : Host.Outcome State Fault Refusal :=
  .next (s.laneIssue l.val (wordS 0x74 neg pr (t.setWidth 6) 0 conn))

/-- UNASSIGNED_OPCODE (R141): takes effect as NOP with cost 1 and is reported to the fault collector. -/
def execUnassignedOpcode (l : Fin 8) (op : BitVec 8) (rest : BitVec 24) (s : State) : Host.Outcome State Fault Refusal :=
  .next (s.unassigned l.val (BitVec.ofNat 32 (op.toNat * 2 ^ 24 + rest.toNat)))

end Sys2Proof.Machine
end

