-- ==== Sys2Proof/Machine/Logs.lean ====
section
/-! DEFINITION. The commands of the event log, the Logbook, bench replay and firmware update (R531, R534, R536 to R541, R547 to R557). -/

namespace Sys2Proof.Machine

/-! ### The event log (R531, R534) -/

/-- The slot of an event number holds its record with a valid CHECK. -/
def State.evHeld (s : State) (seq : Nat) : Bool :=
  let a := logBase + seq % 65536 * 64
  s.readN 4 a == seq && s.readN 4 (a + 60) == crc32c (s.bytes 60 a)

/-- The oldest event number held before `seq`, going back at most `fuel` records. -/
def State.evOldest (s : State) (seq : Nat) : Nat → Nat
  | 0 => seq
  | k + 1 =>
    let p := (seq + 2 ^ 32 - 1) % 2 ^ 32
    if s.evHeld p then s.evOldest p k else seq

/-- EVENTLOG_STATUS (R557): oldest and newest SEQ. -/
def execEventlogStatus (h : Hdr) (s : State) : Host.Outcome State Fault Refusal :=
  .next (s.mbox h 0x810 false fun s =>
    (s, okWith (leBytes 4 (s.evOldest s.bin.evSeq 65536) ++ leBytes 4 ((s.bin.evSeq + 2 ^ 32 - 1) % 2 ^ 32))))

/-- EVENTLOG_READ (R557): the records of those numbers that the log holds. -/
def execEventlogRead (h : Hdr) (first : BitVec 32) (count : Nat) (s : State) : Host.Outcome State Fault Refusal :=
  .next (s.mbox h 0x811 false fun s =>
    if count = 0 ∨ 15 < count then (s, badParam h 1)
    else
      let seqs := ((List.range count).map fun i => (first.toNat + i) % 2 ^ 32).filter fun q => s.evHeld q
      (s, okWith (seqs.flatMap fun q => s.bytes 64 (logBase + q % 65536 * 64))))

/-! ### The Logbook (R547 to R551, R556, R557) -/

/-- LOG_STATUS (R557): LOGB registers, then number, first SEQ and end of each window. -/
def execLogStatus (h : Hdr) (s : State) : Host.Outcome State Fault Refusal :=
  .next (s.mbox h 0x900 false fun s =>
    (s, okWith (s.regBytes [R.logbStatusState.addr, R.logbSeqNewest.addr, R.logbCkptLast.addr, R.logbCfgInterval.addr] ++
      s.log.wins.flatMap fun w => leBytes 1 w.num ++ leBytes 8 w.first ++ leBytes 8 w.until3)))

/-- LOG_CONFIG (R295, R541, R556). -/
def execLogConfig (h : Hdr) (c : LogCfg) (s : State) : Host.Outcome State Fault Refusal :=
  .next (s.mbox h 0x901 true fun s =>
    if c.interval = 0 ∨ 1440 < c.interval then (s, badParam h 0)
    else if c.freeze = 0 ∨ 60 < c.freeze then (s, badParam h 1)
    else s.accept h 0x901 (.logConfig c) [c.interval, c.freeze])

/-- TB3 of a TB0 instant within the retention: counted from the latest record made at or before it. -/
def State.retained (s : State) (t0 : Nat) : Option Nat :=
  if s.tb 0 < t0 then none
  else ((s.logAll.filter fun r => decide (r.at0 ≤ t0)).getLast?).map fun r => min (s.tb 3) (r.at3 + (t0 - r.at0))

/-- LOG_FREEZE (R549, R557). -/
def execLogFreeze (h : Hdr) (t0 : BitVec 64) (s : State) : Host.Outcome State Fault Refusal :=
  .next (s.mbox h 0x902 false fun s =>
    match s.retained t0.toNat with
    | none => (s, badParam h 0)
    | some t => (s.logFreeze t, okWith []))

/-- LOG_RELEASE (R549, R557). -/
def execLogRelease (h : Hdr) (num : Nat) (s : State) : Host.Outcome State Fault Refusal :=
  .next (s.mbox h 0x903 false fun s =>
    if ¬ (s.log.wins.any fun w => w.num == num) then (s, badParam h 0)
    else
      let wins := s.log.wins.filter fun w => w.num != num
      let s : State := { s with log := { s.log with wins := wins } }
      (s.setFld R.logbStatusFrozen wins.length, okWith []))

/-- LOG_EXPORT (R551): of a window, or of a range of SEQ, into Q246 bound to the client. -/
def execLogExport (h : Hdr) (win : Option Nat) (first last : Nat) (s : State) : Host.Outcome State Fault Refusal :=
  .next (s.mbox h 0x904 false fun s =>
    let rs := match win with
      | some n => (s.log.wins.find? fun w => w.num == n).elim [] fun w => s.log.flash.filter fun r => decide (w.first ≤ r.seq) && decide (r.at3 ≤ w.until3)
      | none => s.log.flash.filter fun r => decide (first ≤ r.seq) && decide (r.seq ≤ last)
    if ¬ ((s.bindOf 246).any fun b => b.client == h.client) then (s, refuse stNotReady 0)
    else if s.log.export_.isSome then (s, refuse stBusy 0)
    else if rs.isEmpty then (s, badParam h 0)
    else
      let x : Export := ⟨exportEntries s.pair.serial rs, h.client⟩
      (({ s with log := { s.log with export_ := some x } }).exportPump, okWith []))

/-- LOG_CHECKPOINT (R547, R557): while the Logbook records. -/
def execLogCheckpoint (h : Hdr) (s : State) : Host.Outcome State Fault Refusal :=
  .next (s.mbox h 0x905 false fun s =>
    if s.fld R.logbStatusState ≠ 1 then (s, refuse stState (s.fld R.logbStatusState))
    else if s.log.ckpt.isSome then (s, refuse stBusy 0)
    else (s.logCkptBegin (s.tb 2), okWith []))

/-! ### Bench replay (R552, R553, R555, R557) -/

/-- A command of Bench replay outside it, or while a replay runs where `idle` is asked for: STATE with LOGB's state. -/
def State.replayBar (s : State) (idle : Bool) : Option Ans :=
  if s.bootMode ≠ 3 ∨ (idle ∧ s.fld R.logbStatusState = 2) then some (refuse stState (s.fld R.logbStatusState)) else none

/-- REPLAY_IMPORT (R504, R551, R552): the chunk that completes the transfer of a stream of records; none: its bytes are no export stream. -/
def execReplayImport (h : Hdr) (c : Chunk) (recs : Option (List LogRec)) (s : State) : Host.Outcome State Fault Refusal :=
  .next (s.mbox h 0x910 false fun s =>
    match s.replayBar true with
    | some a => (s, a)
    | none =>
      let (s, a, whole) := s.chunk h c
      if ¬ whole then (s, a)
      else
        let s := s.chunkEnd h c
        match recs with
        | none => (s, refuse stTransfer c.offset)
        | some rs =>
          let s : State := { s with log := { s.log with flash := rs, used := rs.foldl (fun n r => n + r.len) 0, imported := true, replay := none } }
          (s.setFld R.logbSeqNewest ((rs.getLast?.map (·.seq)).getD 0), okWith []))

/-- REPLAY_START (R553): from a checkpoint named by SEQ or by a TB0 instant up to a SEQ. -/
def execReplayStart (h : Hdr) (bySeq : Bool) (v stop : Nat) (check : Bool) (s : State) : Host.Outcome State Fault Refusal :=
  .next (s.mbox h 0x911 false fun s =>
    match s.replayBar true with
    | some a => (s, a)
    | none =>
      let (s, missing) := s.replayStart bySeq v stop check
      (s, match missing with
        | some id => refuse stNotFound id
        | none => okWith []))

/-- The report of one class (R555). -/
def replayBytes (x : ReplayCls) : List Byte :=
  leBytes 4 x.compared ++ leBytes 1 x.state ++ leBytes 6 x.wake ++ leBytes 1 x.lanes ++ leBytes 8 x.want ++ leBytes 8 x.got ++
    leBytes 4 (x.grain.getD 0xFFFFFFFF) ++ leBytes 1 (x.crossed.take 8).length ++ (x.crossed.take 8).flatMap fun q => leBytes 8 q

/-- REPLAY_STATUS (R555). -/
def execReplayStatus (h : Hdr) (s : State) : Host.Outcome State Fault Refusal :=
  .next (s.mbox h 0x912 false fun s =>
    (s, okWith (match s.log.replay with
      | some r => (List.range 8).flatMap fun c => leBytes 1 c ++ replayBytes (r.of c)
      | none => [])))

/-- REPLAY_STOP (R557). -/
def execReplayStop (h : Hdr) (s : State) : Host.Outcome State Fault Refusal :=
  .next (s.mbox h 0x913 false fun s =>
    match s.replayBar false with
    | some a => (s, a)
    | none => (if s.fld R.logbStatusState = 2 then s.replayStop else s, okWith []))

/-! ### Firmware update (R536 to R541, R557) -/

/-- A firmware slot: bit 0 holds an image, 1 runs, 2 permanent, 3 marked for trial, 4 trial passed; VERSION, SECVER, PAIR_LEVEL. -/
def State.fwBytes (s : State) (i : Nat) : List Byte :=
  let x := s.fwSlot i
  let t := s.bin.trialRec.filter fun (t : Trial) => t.slot == i
  let st := x.isSome.toNat + 2 * (s.bin.runs == some i).toNat + 4 * (s.bin.perm == i).toNat + 8 * t.isSome.toNat +
    16 * (t.any fun t => t.passed).toNat
  leBytes 1 st ++ (match x with
    | some f => leBytes 4 f.version ++ leBytes 1 f.secver ++ leBytes 2 f.pairLevel
    | none => List.replicate 7 0)

/-- UPDATE_STATUS (R557). -/
def execUpdateStatus (h : Hdr) (s : State) : Host.Outcome State Fault Refusal :=
  .next (s.mbox h 0xC00 false fun s => (s, okWith (s.fwBytes 0 ++ s.fwBytes 1 ++ leBytes 1 s.bin.rollback)))

/-- UPDATE_LOAD (R504, R537, R606): the chunk that completes the transfer of an image, into the slot that is not running; the recovery image
loads either slot, and no rule states which. RESULT is the reason: 0 accepted, 1 header or signature, 2 SECVER. `sigOk`: the signature at
the end of the image holds under Psidel's firmware key. -/
def execUpdateLoad (h : Hdr) (c : Chunk) (sigOk : Bool) (s : State) : Host.Outcome State Fault Refusal :=
  .next (s.mbox h 0xC01 false fun s =>
    let (s, a, whole) := s.chunk h c
    if ¬ whole then (s, a)
    else
      let im : FwImage := ⟨(s.staged h c).take 64, (s.staged h c).length, sigOk⟩
      let s := s.chunkEnd h c
      if ¬ im.headerOk ∨ ¬ im.sigOk then (s.raise evUpdateRefused [], okWith [1])
      else if im.secver < s.bin.rollback then (s.raise evUpdateRefused [], okWith [2])
      else
        let i := match s.bin.runs with
          | some r => 1 - r
          | none => (Config.freeWord s.free).toNat % 2
        let same := ((s.bin.runs.bind fun r => s.fwSlot r).map fun (f : FwSlot) => f.pairLevel) == some im.pairLevel
        let s := s.nextFree
        let s : State := { s with bin := { s.bin with fw := mput none s.bin.fw i (some ⟨im.version, im.secver, im.pairLevel⟩), loaded := some i } }
        (s.raise evUpdateLoaded (leBytes 4 im.version ++ leBytes 1 im.secver ++ leBytes 1 same.toNat), okWith [0]))

/-- The slot that UPDATE_ACTIVATE marks: the loaded one. -/
def State.trialSlot (s : State) : Option Nat :=
  (match s.bin.runs with
    | some r => some (1 - r)
    | none => s.bin.loaded).filter fun i => (s.fwSlot i).isSome

/-- UPDATE_ACTIVATE (R538): the loaded slot marked for trial, answered, then a software module warm reset. -/
def execUpdateActivate (h : Hdr) (s : State) : Host.Outcome State Fault Refusal :=
  .next (s.mbox h 0xC02 false fun s =>
    if s.pstate = psActive then (s, refuse stState s.pstate)
    else match s.trialSlot with
      | none => (s, refuse stNotReady 0)
      | some i => ((s.markTrial (some ⟨i, false, false⟩)).vecPost 259, .last (some false)))

/-- The partner is absent, or reports the same VERSION (R539). -/
def State.sameVersion (s : State) (v : Nat) : Bool :=
  (!s.flag R.pairLinkUp && !s.flag R.pairStateAliveIn) || s.bin.pVersion == some v

/-- UPDATE_COMMIT (R539): a passed trial made permanent. -/
def execUpdateCommit (h : Hdr) (s : State) : Host.Outcome State Fault Refusal :=
  .next (s.mbox h 0xC03 false fun s =>
    match s.bin.trialRec.bind fun t => if t.passed ∧ s.bin.runs = some t.slot then (s.fwSlot t.slot).map fun f => (t.slot, f) else none with
    | none => (s, refuse stNotReady 0)
    | some (i, f) =>
      if ¬ s.sameVersion f.version then (s, refuse stNotReady 0)
      else
        let s : State := { s with bin := { s.bin with perm := i, rollback := max s.bin.rollback f.secver } }
        ((s.markTrial none).raise evUpdateCommitted [], okWith []))

/-- UPDATE_REVERT (R538, R539): before a commit, the previous slot is marked for the next start. -/
def execUpdateRevert (h : Hdr) (s : State) : Host.Outcome State Fault Refusal :=
  .next (s.mbox h 0xC04 false fun s =>
    if s.pstate = psActive then (s, refuse stState s.pstate)
    else if s.bin.trialRec.isNone then (s, refuse stNotReady 0)
    else ((s.markTrial none).vecPost 259, okWith []))

end Sys2Proof.Machine
end

