-- ==== Sys2Proof/Machine/Slots.lean ====
section
/-! DEFINITION. Writes of registers whole: the fields under their access types, then what WO fields and the fields of one action do
(R16, R19, R83, R173, R271, R449, R469, R508, R588, R613); the accesses of masters 12, 14 and 15 and REGISTER_WRITE. -/

namespace Sys2Proof.Machine

/-- Bit i of a word. -/
def wbit (w : W64) (i : Nat) : Bool := w.toNat.testBit i

/-- RSTC (R599, R613). -/
def State.actRstc (s : State) (off : Nat) (w full : W64) : State × Bool :=
  match off with
  | 0x08 => (if wbit w 1 then s.assertSource 5 else if wbit w 0 then s.assertSource 4 else s, false)
  | 0x10 => (s.islrst full.toNat, false)
  | 0x28 => (if wbit w 0 then s.wdogKick else s, false)
  | 0x30 => if 500 < getBits full 0 9 then (s, true) else (s.setFld R.rstcHoldLimit (getBits full 0 9), false)
  | _ => (s, false)

/-- FCOL (R439, R440, R444, R449). A step written here finds its path healthy: FCOL sees what the source is told to drive; FCOL_TEST_STEP brings
another finding (DESIGN CHOICE, assumption 42). -/
def State.actFcol (s : State) (off : Nat) (w full : W64) : State × Bool :=
  match off with
  | 0x10 =>
    let s := if wbit w 2 then s.setFld R.fcolStatusAcount 0 else s
    (if wbit w 0 then s.setFlag R.fcolCtrlLocked true else s, false)
  | 0x18 =>
    if s.flag R.fcolCtrlLocked then (s, false)
    else
      let p := getBits full 7 2
      (s.testStep (getBits full 0 7) p (if p = 1 then 1 else 2), false)
  | 0x40 => (if wbit w 7 then s.setFld R.fcolStatusWorst 0 else s, false)
  | _ => (s, false)

/-- ACFG (R452, R462, R469, R481). -/
def State.actAcfg (s : State) (off : Nat) (w : W64) : State × Bool :=
  match off with
  | 0x00 =>
    let locked := s.flag R.acfgCtrlLocked
    let r := if ¬ wbit w 2 then (s, false) else if locked then (s, true) else (s.acfgLoad, false)
    (if wbit w 0 then r.1.setFlag R.acfgCtrlLocked true else r.1, r.2)
  | 0x08 => (if wbit w 63 then s.setFld R.acfgViolInfoCount 0 else s, false)
  | 0x18 => if wbit w 24 then s.tagGo else (s, false)
  | _ => (s, false)

/-- TIME (R396 to R398, R416, R420, R422): `off` inside the slot. -/
def State.actTime (s : State) (off : Nat) (w full : W64) : State × Bool :=
  if off = 0 then (if wbit w 0 then (List.range 4).foldl (fun s n => s.setFld (R.timeTbSnapNs n) (s.tb n)) s else s, false)
  else if off < 0x180 then
    let n := (off - 0x100) / 0x20
    if off % 0x20 = 8 then
      let v := getBits full 0 36
      if incOk n v then (s.setInc n v, false) else (s, true)
    else if off % 0x20 = 0x10 then
      if n = 3 ∨ (n = 2 ∧ s.fld R.bookModeMode ≠ 0) then (s, true) else (s.stepBase n w.toInt, false)
    else (s, false)
  else if 0x200 ≤ off ∧ off < 0x280 ∧ off % 0x20 = 0x10 then s.pulseCfg ((off - 0x200) / 0x20) full
  else if 0x300 ≤ off ∧ off % 0x40 = 0 ∧ wbit w 63 then
    let i := (off - 0x300) / 0x40
    (s.clearThen [R.timeTpiCtlCount i, R.timeTpiCtlMissed i] none, false)
  else (s, false)

/-- Lane n's registers (R173, R259, R272, R273). -/
def State.actLane (s : State) (n off : Nat) (w : W64) : State × Bool :=
  match off with
  | 0x18 => (if wbit w 63 then s.setFld (R.laneOofCount n) 0 else s, false)
  | 0x418 =>
    (if wbit w 0 then s.laneDebug n fun s => s.dbgHalt n
     else if wbit w 1 then s.laneDebug n fun s => s.dbgStep n (s.codeNow n)
     else if wbit w 2 then s.laneDebug n fun s => s.dbgResume n
     else s, false)
  | 0x428 =>
    (if wbit w 21 then s.laneDebug n fun s => s.dbgWrite n else if wbit w 22 then s.laneDebug n fun s => s.dbgRead n else s, false)
  | _ => (s, false)

/-- CANn (R588, R589). -/
def State.actCan (s : State) (n off : Nat) (w full : W64) : State × Bool :=
  match off with
  | 0x00 => s.canCtrl n full
  | 0x10 => (if wbit w 63 then s.clearThen ((List.range 5).map (canCounter n)) none else s, false)
  | _ => (s, false)

/-- What a write of a register does beyond setting fields: `w` the bits written, `full` the word they make with what stood there (R16). -/
def State.regAct (a : Nat) (w full : W64) (s : State) : State × Bool :=
  let off := a % 0x10000
  let clr := fun (fs : List Fld) => (if wbit w 63 then s.clearThen fs none else s, false)
  let lock := fun (i : Nat) (f : Fld) => (if wbit w i then s.setFlag f true else s, false)
  match a / 0x10000 with
  | 0x00 => s.actRstc off w full
  | 0x01 => s.actFcol off w full
  | 0x02 => s.actAcfg off w
  | 0x03 => s.actTime off w full
  | 0x04 => if off = 0x18 then clr [R.pairLinkRetry, R.pairLinkLosses] else (s, false)
  | 0x05 =>
    if off = 0 then lock 17 R.stnCtrlLocked
    else if off < 0x140 ∧ off % 0x20 = 8 then clr ((List.range 4).map (ringCounter ((off - 0x108) / 0x20)))
    else if 0x1000 ≤ off ∧ off % 16 = 8 then clr [R.stnStUndelivered ((off - 0x1008) / 16), R.stnSt1Losses ((off - 0x1008) / 16)]
    else (s, false)
  | 0x06 =>
    if off = 0 then lock 17 R.fabCtrlLocked
    else if 0x100 ≤ off ∧ off % 0x20 = 8 then clr ((List.range 4).map (portCounter ((off - 0x108) / 0x20 + 2)))
    else (s, false)
  | 0x0B =>
    if off < 0x1008 ∨ off % 16 ≠ 8 then (s, false)
    else
      let q := (off - 0x1008) / 16
      ((clr [R.qmgrQCfgLost q]).1.vecTry q, false)
  | 0x0C =>
    if off = 0 then clr ((List.range 3).map hostCounter) else if off = 8 then lock 0 R.hostCtrlLocked else (s, false)
  | 0x0D => s.actCan 0 off w full
  | 0x0E => s.actCan 1 off w full
  | 0x0F => if off = 0 then clr [R.fldStatusLinkloss] else (s, false)
  | 0x13 =>
    if off ≠ 0 then (s, false)
    else
      let s := if s.flag R.dbgGateOpen ∧ ¬ wbit full 0 then s.gateClose else s
      (if wbit w 4 then s.newChallenge else s, false)
  | 0x28 =>
    if off = 0 then lock 5 R.cmpCtrlLocked
    else if off = 0x10 then clr [R.cmpFaultCount]
    else if off = 0x20 then (s.injArm, false)
    else (s, false)
  | 0x30 =>
    if 0x1000 ≤ off ∧ off % 0x100 = 0x20 ∧ wbit w 63 then
      let c := (off - 0x1020) / 0x100
      ((s.setFld (R.bookTcMaxMinSlack c) 0xFFFFFFFF).clearThen [R.bookTcCountOverruns c, R.bookTcCountSkips c, R.bookTcMaxMaxRun c] none, false)
    else (s, false)
  | 0x32 => if off = 8 then clr [R.dirOwnfltCount] else (s, false)
  | k =>
    if 0x20 ≤ k ∧ k < 0x28 then s.actLane (k - 0x20) off w
    else if 7 ≤ k ∧ k < 0xB then (if off = 0x400 then clr [R.portPtpLost (k - 7)] else (s, false))
    else (s, false)

/-- A write of a slot address by a master. -/
def State.slotWrite (s : State) (m a n : Nat) (v : W64) : State := s.slotWriteBy State.regAct m a n v

/-- REGISTER_WRITE (R16). -/
def execRegisterWrite (m : Fin 16) (slot : Fin 256) (off : Fin 65536) (wide : Bool) (v : W64) (s : State) :
    Host.Outcome State Fault Refusal :=
  .next (s.slotWrite m.val (slot.val * 0x10000 + off.val) (if wide then 8 else 4) v)

/-- A write by a master to memory or a slot. -/
def State.masterWrite (s : State) (m ctx a : Nat) (data : List Byte) : State :=
  if targetOf a = some 3 then s.slotWrite m (a - 0x1000000000) data.length (BitVec.ofNat 64 (ofLe data))
  else
    let (s, bad) := s.memWrite m ctx a data
    s.reply bad 0

/-- HOST_APERTURE_ACCESS (R514): a read of `n` bytes, or a write, at an offset of aperture `k`. -/
def execHostApertureAccess (k : Fin 8) (off : BitVec 28) (n : Fin 257) (w : Option (List Byte)) (s : State) :
    Host.Outcome State Fault Refusal :=
  if ¬ s.hostUp then .next s
  else
    let len := match w with | some d => d.length | none => n.val
    if ¬ s.flag (R.hostApBaseEn k.val) ∨ (s.fld (R.hostApLenLast k.val) + 1) * 64 < off.toNat + len then
      .next ((s.incSat R.hostStatusApErr).reply true 0)
    else
      let a := s.fld (R.hostApBaseBase k.val) + off.toNat
      let ctx := s.fld (R.hostApBaseColour k.val)
      match w with
      | some d => .next (s.masterWrite 12 ctx a d)
      | none => .next (s.masterRead 12 ctx a len)

/-- TAP_MEMORY_WRITE (R474, R483). -/
def execTapMemoryWrite (addr : BitVec 48) (colour : BitVec 4) (data : W64) (s : State) : Host.Outcome State Fault Refusal :=
  if ¬ s.gateFor 1 then .next s
  else
    let s := (s.mctl addr.toNat colour.toNat).setReg R.dbgMdata.addr data
    .next (s.masterWrite 14 colour.toNat addr.toNat (leBytes 8 data.toNat)).mctlDone

/-- EXPERT_WRITE (R466, R503): refused parts are dropped. -/
def execExpertWrite (h : Hdr) (a : BitVec 64) (colour width : Nat) (ws : List W64) (s : State) : Host.Outcome State Fault Refusal :=
  .next (s.mbox h 0xF01 false fun s =>
    match expertBad a colour width ws.length 124 with
    | some k => (s, badParam h k)
    | none =>
      let go := fun (x : State × Option Nat) (b : Nat × W64) =>
        let d := x.1.expertDenied colour b.1 width true
        (x.1.masterWrite 15 colour b.1 (leBytes width b.2.toNat), x.2.orElse fun _ => d)
      let (s, bad) := ((expertAddrs a width ws.length).zip ws).foldl go (s, none)
      (s, match bad with
        | some r => refuse stAccessDenied r
        | none => okWith []))

end Sys2Proof.Machine
end

