-- ==== Sys2Proof/Machine/Dispatch.lean ====
section
/-! DEFINITION. What a command does to everything but the queue: one arm per constructor of `Instr`, one direct call of its
meaning. -/

namespace Sys2Proof.Machine

def exec (i : Instr) (s : State) : Host.Outcome State Fault Refusal :=
  match i with
  | .nop l neg pr => Sys2Proof.Machine.execNop l neg pr s
  | .endScan l neg pr => Sys2Proof.Machine.execEndScan l neg pr s
  | .mov l neg pr d a => Sys2Proof.Machine.execMov l neg pr d a s
  | .ldi l neg pr d imm => Sys2Proof.Machine.execLdi l neg pr d imm s
  | .ldk l neg pr d imm => Sys2Proof.Machine.execLdk l neg pr d imm s
  | .get l neg pr d imm => Sys2Proof.Machine.execGet l neg pr d imm s
  | .iadd l neg pr d a b => Sys2Proof.Machine.execIadd l neg pr d a b s
  | .isub l neg pr d a b => Sys2Proof.Machine.execIsub l neg pr d a b s
  | .imul l neg pr d a b => Sys2Proof.Machine.execImul l neg pr d a b s
  | .idiv l neg pr d a b => Sys2Proof.Machine.execIdiv l neg pr d a b s
  | .irem l neg pr d a b => Sys2Proof.Machine.execIrem l neg pr d a b s
  | .ineg l neg pr d a => Sys2Proof.Machine.execIneg l neg pr d a s
  | .iabs l neg pr d a => Sys2Proof.Machine.execIabs l neg pr d a s
  | .imin l neg pr d a b => Sys2Proof.Machine.execImin l neg pr d a b s
  | .imax l neg pr d a b => Sys2Proof.Machine.execImax l neg pr d a b s
  | .isat32 l neg pr d a => Sys2Proof.Machine.execIsat32 l neg pr d a s
  | .iaddw l neg pr d a b => Sys2Proof.Machine.execIaddw l neg pr d a b s
  | .isubw l neg pr d a b => Sys2Proof.Machine.execIsubw l neg pr d a b s
  | .imulw l neg pr d a b => Sys2Proof.Machine.execImulw l neg pr d a b s
  | .andB l neg pr d a b => Sys2Proof.Machine.execAndB l neg pr d a b s
  | .orB l neg pr d a b => Sys2Proof.Machine.execOrB l neg pr d a b s
  | .xorB l neg pr d a b => Sys2Proof.Machine.execXorB l neg pr d a b s
  | .notB l neg pr d a => Sys2Proof.Machine.execNotB l neg pr d a s
  | .shl l neg pr d a b => Sys2Proof.Machine.execShl l neg pr d a b s
  | .shr l neg pr d a b => Sys2Proof.Machine.execShr l neg pr d a b s
  | .sar l neg pr d a b => Sys2Proof.Machine.execSar l neg pr d a b s
  | .rol l neg pr d a b => Sys2Proof.Machine.execRol l neg pr d a b s
  | .popc l neg pr d a => Sys2Proof.Machine.execPopc l neg pr d a s
  | .bnot l neg pr d a => Sys2Proof.Machine.execBnot l neg pr d a s
  | .boolOf l neg pr d a => Sys2Proof.Machine.execBoolOf l neg pr d a s
  | .qof l neg pr d a => Sys2Proof.Machine.execQof l neg pr d a s
  | .ieq l neg pr t a b => Sys2Proof.Machine.execIeq l neg pr t a b s
  | .ilt l neg pr t a b => Sys2Proof.Machine.execIlt l neg pr t a b s
  | .ile l neg pr t a b => Sys2Proof.Machine.execIle l neg pr t a b s
  | .ult l neg pr t a b => Sys2Proof.Machine.execUlt l neg pr t a b s
  | .feq l neg pr t a b => Sys2Proof.Machine.execFeq l neg pr t a b s
  | .flt l neg pr t a b => Sys2Proof.Machine.execFlt l neg pr t a b s
  | .fle l neg pr t a b => Sys2Proof.Machine.execFle l neg pr t a b s
  | .fun l neg pr t a b => Sys2Proof.Machine.execFun l neg pr t a b s
  | .tst l neg pr t a => Sys2Proof.Machine.execTst l neg pr t a s
  | .pand l neg pr t a b => Sys2Proof.Machine.execPand l neg pr t a b s
  | .por l neg pr t a b => Sys2Proof.Machine.execPor l neg pr t a b s
  | .pnot l neg pr t a => Sys2Proof.Machine.execPnot l neg pr t a s
  | .pmov l neg pr d a => Sys2Proof.Machine.execPmov l neg pr d a s
  | .fadd l neg pr d a b => Sys2Proof.Machine.execFadd l neg pr d a b s
  | .fsub l neg pr d a b => Sys2Proof.Machine.execFsub l neg pr d a b s
  | .fmul l neg pr d a b => Sys2Proof.Machine.execFmul l neg pr d a b s
  | .fdiv l neg pr d a b => Sys2Proof.Machine.execFdiv l neg pr d a b s
  | .fsqrt l neg pr d a => Sys2Proof.Machine.execFsqrt l neg pr d a s
  | .fma l neg pr d a b => Sys2Proof.Machine.execFma l neg pr d a b s
  | .fmin l neg pr d a b => Sys2Proof.Machine.execFmin l neg pr d a b s
  | .fmax l neg pr d a b => Sys2Proof.Machine.execFmax l neg pr d a b s
  | .fabs l neg pr d a => Sys2Proof.Machine.execFabs l neg pr d a s
  | .fneg l neg pr d a => Sys2Proof.Machine.execFneg l neg pr d a s
  | .fclamp l neg pr d a b => Sys2Proof.Machine.execFclamp l neg pr d a b s
  | .frint l neg pr d a => Sys2Proof.Machine.execFrint l neg pr d a s
  | .ftrunc l neg pr d a => Sys2Proof.Machine.execFtrunc l neg pr d a s
  | .ffloor l neg pr d a => Sys2Proof.Machine.execFfloor l neg pr d a s
  | .fceil l neg pr d a => Sys2Proof.Machine.execFceil l neg pr d a s
  | .itof l neg pr d a => Sys2Proof.Machine.execItof l neg pr d a s
  | .ftoi l neg pr d a => Sys2Proof.Machine.execFtoi l neg pr d a s
  | .ftoin l neg pr d a => Sys2Proof.Machine.execFtoin l neg pr d a s
  | .fexp l neg pr d a => Sys2Proof.Machine.execFexp l neg pr d a s
  | .fln l neg pr d a => Sys2Proof.Machine.execFln l neg pr d a s
  | .fsin l neg pr d a => Sys2Proof.Machine.execFsin l neg pr d a s
  | .fcos l neg pr d a => Sys2Proof.Machine.execFcos l neg pr d a s
  | .fatan2 l neg pr d a b => Sys2Proof.Machine.execFatan2 l neg pr d a b s
  | .ldf l neg pr d w => Sys2Proof.Machine.execLdf l neg pr d w s
  | .stf l neg pr d w => Sys2Proof.Machine.execStf l neg pr d w s
  | .ldfx l neg pr d a b => Sys2Proof.Machine.execLdfx l neg pr d a b s
  | .stfx l neg pr d a b => Sys2Proof.Machine.execStfx l neg pr d a b s
  | .ldsv l neg pr d conn => Sys2Proof.Machine.execLdsv l neg pr d conn s
  | .ldsm l neg pr d conn => Sys2Proof.Machine.execLdsm l neg pr d conn s
  | .sts l neg pr d a conn => Sys2Proof.Machine.execSts l neg pr d a conn s
  | .stsr l neg pr d a conn => Sys2Proof.Machine.execStsr l neg pr d a conn s
  | .tstc l neg pr t conn => Sys2Proof.Machine.execTstc l neg pr t conn s
  | .unassignedOpcode l op rest => Sys2Proof.Machine.execUnassignedOpcode l op rest s
  | .classNominalStart c t => Sys2Proof.Machine.execClassNominalStart c t s
  | .crossingCopyDone c => Sys2Proof.Machine.execCrossingCopyDone c s
  | .blockScanStart l => Sys2Proof.Machine.execBlockScanStart l s
  | .grainTransferDone l grain bad parity => Sys2Proof.Machine.execGrainTransferDone l grain bad parity s
  | .storeDrain l => Sys2Proof.Machine.execStoreDrain l s
  | .frameWriteBack l line => Sys2Proof.Machine.execFrameWriteBack l line s
  | .lanePartComplete l t => Sys2Proof.Machine.execLanePartComplete l t s
  | .nominalPublication c t => Sys2Proof.Machine.execNominalPublication c t s
  | .backfillDone c out => Sys2Proof.Machine.execBackfillDone c out s
  | .retainSlotWrite c => Sys2Proof.Machine.execRetainSlotWrite c s
  | .holdLimitExpiry c t => Sys2Proof.Machine.execHoldLimitExpiry c t s
  | .effectInstant t => Sys2Proof.Machine.execEffectInstant t s
  | .moduleStatus h => Sys2Proof.Machine.execModuleStatus h s
  | .moduleConfig h c => Sys2Proof.Machine.execModuleConfig h c s
  | .modeCmd h m => Sys2Proof.Machine.execModeCmd h m s
  | .moduleReset h cold => Sys2Proof.Machine.execModuleReset h cold s
  | .clientOpen h client level idle => Sys2Proof.Machine.execClientOpen h client level idle s
  | .clientClose h => Sys2Proof.Machine.execClientClose h s
  | .queueRead h q first count => Sys2Proof.Machine.execQueueRead h q first count s
  | .queueAdvance h q v => Sys2Proof.Machine.execQueueAdvance h q v s
  | .queueBind h q holdoff notify dest destRing => Sys2Proof.Machine.execQueueBind h q holdoff notify dest destRing s
  | .eventRegister h q ranges => Sys2Proof.Machine.execEventRegister h q ranges s
  | .queueRelease h q => Sys2Proof.Machine.execQueueRelease h q s
  | .accessStatus h => Sys2Proof.Machine.execAccessStatus h s
  | .accessConfig h c => Sys2Proof.Machine.execAccessConfig h c s
  | .keyStatus h => Sys2Proof.Machine.execKeyStatus h s
  | .keyIdentity h => Sys2Proof.Machine.execKeyIdentity h s
  | .keyProvision h k => Sys2Proof.Machine.execKeyProvision h k s
  | .keyCommit h => Sys2Proof.Machine.execKeyCommit h s
  | .debugChallenge h => Sys2Proof.Machine.execDebugChallenge h s
  | .debugUnlock h t bad => Sys2Proof.Machine.execDebugUnlock h t bad s
  | .debugClose h => Sys2Proof.Machine.execDebugClose h s
  | .sensorRead h => Sys2Proof.Machine.execSensorRead h s
  | .sensorConfig h limit => Sys2Proof.Machine.execSensorConfig h limit s
  | .signalRead h first count => Sys2Proof.Machine.execSignalRead h first count s
  | .signalWrite h sig v qual => Sys2Proof.Machine.execSignalWrite h sig v qual s
  | .directoryRead h first count => Sys2Proof.Machine.execDirectoryRead h first count s
  | .paramRead h inst first count => Sys2Proof.Machine.execParamRead h inst first count s
  | .paramTune h inst word v => Sys2Proof.Machine.execParamTune h inst word v s
  | .bookStatus h => Sys2Proof.Machine.execBookStatus h s
  | .bookLoad h i1 c b => Sys2Proof.Machine.execBookLoad h i1 c b s
  | .bookCheck h i1 => Sys2Proof.Machine.execBookCheck h i1 s
  | .bookReport h i1 => Sys2Proof.Machine.execBookReport h i1 s
  | .bookTurn h i1 notBefore => Sys2Proof.Machine.execBookTurn h i1 notBefore s
  | .bookSelect h i1 => Sys2Proof.Machine.execBookSelect h i1 s
  | .bookErase h i1 => Sys2Proof.Machine.execBookErase h i1 s
  | .bookVerifyDone i1 => Sys2Proof.Machine.execBookVerifyDone i1 s
  | .turnArmingDone own t => Sys2Proof.Machine.execTurnArmingDone own t s
  | .turnInstant => Sys2Proof.Machine.execTurnInstant s
  | .turnArmTimeout => Sys2Proof.Machine.execTurnArmTimeout s
  | .turnWork c => Sys2Proof.Machine.execTurnWork c s
  | .bulkChunk h for_ c => Sys2Proof.Machine.execBulkChunk h for_ c s
  | .bulkTransferTimeout id pair => Sys2Proof.Machine.execBulkTransferTimeout id pair s
  | .forceList h first count => Sys2Proof.Machine.execForceList h first count s
  | .forceSet h sig qual v => Sys2Proof.Machine.execForceSet h sig qual v s
  | .forceRelease h sig => Sys2Proof.Machine.execForceRelease h sig s
  | .forceReleaseAll h cls => Sys2Proof.Machine.execForceReleaseAll h cls s
  | .pairStatus h => Sys2Proof.Machine.execPairStatus h s
  | .pairHandover h notBefore => Sys2Proof.Machine.execPairHandover h notBefore s
  | .pairConfig h c => Sys2Proof.Machine.execPairConfig h c s
  | .pairTimes h => Sys2Proof.Machine.execPairTimes h s
  | .stationStatus h first count => Sys2Proof.Machine.execStationStatus h first count s
  | .ringStatus h r => Sys2Proof.Machine.execRingStatus h r s
  | .stationRelease h st => Sys2Proof.Machine.execStationRelease h st s
  | .stationReleaseAll h ring => Sys2Proof.Machine.execStationReleaseAll h ring s
  | .stationClear h station n => Sys2Proof.Machine.execStationClear h station n s
  | .stationCapture h r on count => Sys2Proof.Machine.execStationCapture h r on count s
  | .fabricStatus h => Sys2Proof.Machine.execFabricStatus h s
  | .fabricConfig h c => Sys2Proof.Machine.execFabricConfig h c s
  | .fabricNodes h first count => Sys2Proof.Machine.execFabricNodes h first count s
  | .fabricRoutes h first count => Sys2Proof.Machine.execFabricRoutes h first count s
  | .soundingStatus h => Sys2Proof.Machine.execSoundingStatus h s
  | .fabricClear h port => Sys2Proof.Machine.execFabricClear h port s
  | .timeStatus h => Sys2Proof.Machine.execTimeStatus h s
  | .timeConfig h c => Sys2Proof.Machine.execTimeConfig h c s
  | .timeSet h tai utc => Sys2Proof.Machine.execTimeSet h tai utc s
  | .tb2Step h target => Sys2Proof.Machine.execTb2Step h target s
  | .tpoProgram h side k p => Sys2Proof.Machine.execTpoProgram h side k p s
  | .tpiConfig h side i1 edge => Sys2Proof.Machine.execTpiConfig h side i1 edge s
  | .tpiRead h partner i1 => Sys2Proof.Machine.execTpiRead h partner i1 s
  | .faultStatus h side => Sys2Proof.Machine.execFaultStatus h side s
  | .faultHistory h partner => Sys2Proof.Machine.execFaultHistory h partner s
  | .faultClear h side first acount => Sys2Proof.Machine.execFaultClear h side first acount s
  | .eventlogStatus h => Sys2Proof.Machine.execEventlogStatus h s
  | .eventlogRead h first count => Sys2Proof.Machine.execEventlogRead h first count s
  | .logStatus h => Sys2Proof.Machine.execLogStatus h s
  | .logConfig h c => Sys2Proof.Machine.execLogConfig h c s
  | .logFreeze h t0 => Sys2Proof.Machine.execLogFreeze h t0 s
  | .logRelease h num => Sys2Proof.Machine.execLogRelease h num s
  | .logExport h win first last => Sys2Proof.Machine.execLogExport h win first last s
  | .logCheckpoint h => Sys2Proof.Machine.execLogCheckpoint h s
  | .replayImport h c recs => Sys2Proof.Machine.execReplayImport h c recs s
  | .replayStart h bySeq v stop check => Sys2Proof.Machine.execReplayStart h bySeq v stop check s
  | .replayStatus h => Sys2Proof.Machine.execReplayStatus h s
  | .replayStop h => Sys2Proof.Machine.execReplayStop h s
  | .replayPublishCompare c => Sys2Proof.Machine.execReplayPublishCompare c s
  | .fieldStatus h side => Sys2Proof.Machine.execFieldStatus h side s
  | .fieldTrim h k step amps => Sys2Proof.Machine.execFieldTrim h k step amps s
  | .fieldClear h k => Sys2Proof.Machine.execFieldClear h k s
  | .canStatus h n => Sys2Proof.Machine.execCanStatus h n s
  | .canConfig h c => Sys2Proof.Machine.execCanConfig h c s
  | .canObject h c => Sys2Proof.Machine.execCanObject h c s
  | .canSend h n k => Sys2Proof.Machine.execCanSend h n k s
  | .canRead h n first count => Sys2Proof.Machine.execCanRead h n first count s
  | .canRecover h n => Sys2Proof.Machine.execCanRecover h n s
  | .canClear h n => Sys2Proof.Machine.execCanClear h n s
  | .updateStatus h => Sys2Proof.Machine.execUpdateStatus h s
  | .updateLoad h c im => Sys2Proof.Machine.execUpdateLoad h c im s
  | .updateActivate h => Sys2Proof.Machine.execUpdateActivate h s
  | .updateCommit h => Sys2Proof.Machine.execUpdateCommit h s
  | .updateRevert h => Sys2Proof.Machine.execUpdateRevert h s
  | .expertRead h a colour width count => Sys2Proof.Machine.execExpertRead h a colour width count s
  | .expertWrite h a colour width ws => Sys2Proof.Machine.execExpertWrite h a colour width ws s
  | .hostIndexWrite q pi ci => Sys2Proof.Machine.execHostIndexWrite q pi ci s
  | .hostRingEntryWrite e off wide v => Sys2Proof.Machine.execHostRingEntryWrite e off wide v s
  | .hostApertureAccess k off n w => Sys2Proof.Machine.execHostApertureAccess k off n w s
  | .msixHoldoffExpiry v => Sys2Proof.Machine.execMsixHoldoffExpiry v s
  | .clientIdleTimeout p => Sys2Proof.Machine.execClientIdleTimeout p s
  | .pcieLinkDownTimeout => Sys2Proof.Machine.execPcieLinkDownTimeout s
  | .mboxFrameRx via toPair p watch q txRing entries => Sys2Proof.Machine.execMboxFrameRx via toPair p watch q txRing entries s
  | .fabricMsgTransmit j => Sys2Proof.Machine.execFabricMsgTransmit j s
  | .registerWrite m slot off wide v => Sys2Proof.Machine.execRegisterWrite m slot off wide v s
  | .dirOwnfltClear m occ => Sys2Proof.Machine.execDirOwnfltClear m occ s
  | .bookStatsClear m c occ => Sys2Proof.Machine.execBookStatsClear m c occ s
  | .laneOofClear m l occ => Sys2Proof.Machine.execLaneOofClear m l occ s
  | .cmpLock m => Sys2Proof.Machine.execCmpLock m s
  | .cmpInjArm m w => Sys2Proof.Machine.execCmpInjArm m w s
  | .cmpFaultClear m occ => Sys2Proof.Machine.execCmpFaultClear m occ s
  | .laneDebugHalt l => Sys2Proof.Machine.execLaneDebugHalt l s
  | .laneDebugStep l w => Sys2Proof.Machine.execLaneDebugStep l w s
  | .laneDebugResume l => Sys2Proof.Machine.execLaneDebugResume l s
  | .laneDebugWrite l index space word => Sys2Proof.Machine.execLaneDebugWrite l index space word s
  | .laneDebugRead l index space word => Sys2Proof.Machine.execLaneDebugRead l index space word s
  | .breakpointHit l => Sys2Proof.Machine.execBreakpointHit l s
  | .debugQueuePerform l => Sys2Proof.Machine.execDebugQueuePerform l s
  | .pairFenceMismatchClear m occ => Sys2Proof.Machine.execPairFenceMismatchClear m occ s
  | .pairLinkCntClear m => Sys2Proof.Machine.execPairLinkCntClear m s
  | .pairTakeClear m occ => Sys2Proof.Machine.execPairTakeClear m occ s
  | .stnLock m => Sys2Proof.Machine.execStnLock m s
  | .stnRingCntClear m r occ => Sys2Proof.Machine.execStnRingCntClear m r occ s
  | .stnStationCntClear m st occ => Sys2Proof.Machine.execStnStationCntClear m st occ s
  | .fabLock m => Sys2Proof.Machine.execFabLock m s
  | .fabPortCntClear m p occ => Sys2Proof.Machine.execFabPortCntClear m p occ s
  | .timeSnap m => Sys2Proof.Machine.execTimeSnap m s
  | .timeIncWrite m n v => Sys2Proof.Machine.execTimeIncWrite m n v s
  | .timeStepWrite m n v => Sys2Proof.Machine.execTimeStepWrite m n v s
  | .tpoCfgWrite m k v => Sys2Proof.Machine.execTpoCfgWrite m k v s
  | .tpiCntClear m i1 occ => Sys2Proof.Machine.execTpiCntClear m i1 occ s
  | .ptpLostClear m p occ => Sys2Proof.Machine.execPtpLostClear m p occ s
  | .fcolLock m => Sys2Proof.Machine.execFcolLock m s
  | .fcolAclear m occ => Sys2Proof.Machine.execFcolAclear m occ s
  | .fcolTestStep m src pattern seen => Sys2Proof.Machine.execFcolTestStep m src pattern seen s
  | .fcolFirstClear m occ => Sys2Proof.Machine.execFcolFirstClear m occ s
  | .acfgLock m => Sys2Proof.Machine.execAcfgLock m s
  | .acfgLoad m => Sys2Proof.Machine.execAcfgLoad m s
  | .acfgViolClear m occ => Sys2Proof.Machine.execAcfgViolClear m occ s
  | .acfgTagWrite m grain colour => Sys2Proof.Machine.execAcfgTagWrite m grain colour s
  | .dbgGateClose m => Sys2Proof.Machine.execDbgGateClose m s
  | .dbgNewchal m => Sys2Proof.Machine.execDbgNewchal m s
  | .challengeExpiry => Sys2Proof.Machine.execChallengeExpiry s
  | .qmgrLostClear m q occ => Sys2Proof.Machine.execQmgrLostClear m q occ s
  | .hostLock m => Sys2Proof.Machine.execHostLock m s
  | .hostCntClear m occ => Sys2Proof.Machine.execHostCntClear m occ s
  | .hostLinkLostClear m occ => Sys2Proof.Machine.execHostLinkLostClear m occ s
  | .fldLinklossClear m occ => Sys2Proof.Machine.execFldLinklossClear m occ s
  | .fldAoFlagsClear m k mask occ => Sys2Proof.Machine.execFldAoFlagsClear m k mask occ s
  | .canCtrlWrite m n v => Sys2Proof.Machine.execCanCtrlWrite m n v s
  | .canCntClearReg m n occ => Sys2Proof.Machine.execCanCntClearReg m n occ s
  | .canObjNewClear m n k occ => Sys2Proof.Machine.execCanObjNewClear m n k occ s
  | .rstcSwrstWarm m => Sys2Proof.Machine.execRstcSwrstWarm m s
  | .rstcSwrstCold m => Sys2Proof.Machine.execRstcSwrstCold m s
  | .rstcIslrstWrite m w => Sys2Proof.Machine.execRstcIslrstWrite m w s
  | .rstcWdogKick m => Sys2Proof.Machine.execRstcWdogKick m s
  | .rstcHoldWrite m v => Sys2Proof.Machine.execRstcHoldWrite m v s
  | .rstcCauseClear m debug island occ => Sys2Proof.Machine.execRstcCauseClear m debug island occ s
  | .windowClose l => Sys2Proof.Machine.execWindowClose l s
  | .checkerLate l => Sys2Proof.Machine.execCheckerLate l s
  | .laneStall l => Sys2Proof.Machine.execLaneStall l s
  | .spareSelfTest kind => Sys2Proof.Machine.execSpareSelfTest kind s
  | .faultReportTaken n found => Sys2Proof.Machine.execFaultReportTaken n found s
  | .brokenReportPath p => Sys2Proof.Machine.execBrokenReportPath p s
  | .classCResetTimeout => Sys2Proof.Machine.execClassCResetTimeout s
  | .escalationExpiry => Sys2Proof.Machine.execEscalationExpiry s
  | .collectorCopyMismatch off => Sys2Proof.Machine.execCollectorCopyMismatch off s
  | .alwaysOnClockFault => Sys2Proof.Machine.execAlwaysOnClockFault s
  | .handshakeTimeout req tgt => Sys2Proof.Machine.execHandshakeTimeout req tgt s
  | .islandClockFault i1 good => Sys2Proof.Machine.execIslandClockFault i1 good s
  | .tb3CopyRx => Sys2Proof.Machine.execTb3CopyRx s
  | .tb3CopyTimeout => Sys2Proof.Machine.execTb3CopyTimeout s
  | .sramScrubPass err => Sys2Proof.Machine.execSramScrubPass err s
  | .dramScrubPass err => Sys2Proof.Machine.execDramScrubPass err s
  | .acfgWindowCheck v w parity => Sys2Proof.Machine.execAcfgWindowCheck v w parity s
  | .aliveOutToggle => Sys2Proof.Machine.execAliveOutToggle s
  | .aliveInSilent => Sys2Proof.Machine.execAliveInSilent s
  | .aliveInToggling => Sys2Proof.Machine.execAliveInToggling s
  | .statusRecordSend => Sys2Proof.Machine.execStatusRecordSend s
  | .pairLinkLost lanes => Sys2Proof.Machine.execPairLinkLost lanes s
  | .pairLinkUp lanes r e => Sys2Proof.Machine.execPairLinkUp lanes r e s
  | .statusRecordRx lanes r e => Sys2Proof.Machine.execStatusRecordRx lanes r e s
  | .ackRecordRx l0 a => Sys2Proof.Machine.execAckRecordRx l0 a s
  | .handoverNoticeRx l0 => Sys2Proof.Machine.execHandoverNoticeRx l0 s
  | .leaveNoticeRx l0 => Sys2Proof.Machine.execLeaveNoticeRx l0 s
  | .handoverRequestRx l0 => Sys2Proof.Machine.execHandoverRequestRx l0 s
  | .handoverReadyRx l0 => Sys2Proof.Machine.execHandoverReadyRx l0 s
  | .handoverAtRx l0 ticks => Sys2Proof.Machine.execHandoverAtRx l0 ticks s
  | .lagNoticeRx l0 => Sys2Proof.Machine.execLagNoticeRx l0 s
  | .reclaimNoticeRx l0 => Sys2Proof.Machine.execReclaimNoticeRx l0 s
  | .relayRecordRx l0 r f => Sys2Proof.Machine.execRelayRecordRx l0 r f s
  | .forwardRecordRx l0 r f t => Sys2Proof.Machine.execForwardRecordRx l0 r f t s
  | .inputRecordRx l0 c wake noexec last es => Sys2Proof.Machine.execInputRecordRx l0 c wake noexec last es s
  | .commitRecordRx l0 c wake turn late last es => Sys2Proof.Machine.execCommitRecordRx l0 c wake turn late last es s
  | .commandRecordRx l0 client tally op b params t => Sys2Proof.Machine.execCommandRecordRx l0 client tally op b params t s
  | .mirrorRecordRx l0 es => Sys2Proof.Machine.execMirrorRecordRx l0 es s
  | .mirrorSweepDone x => Sys2Proof.Machine.execMirrorSweepDone x s
  | .bookRecordRx l0 i1 load last b => Sys2Proof.Machine.execBookRecordRx l0 i1 load last b s
  | .queryRecordRx l0 q offs => Sys2Proof.Machine.execQueryRecordRx l0 q offs s
  | .queryReplyRx l0 op status detail bytes => Sys2Proof.Machine.execQueryReplyRx l0 op status detail bytes s
  | .queryReplyTimeout op => Sys2Proof.Machine.execQueryReplyTimeout op s
  | .startupTestsComplete => Sys2Proof.Machine.execStartupTestsComplete s
  | .partnerWaitExpiry => Sys2Proof.Machine.execPartnerWaitExpiry s
  | .catchUpDone c => Sys2Proof.Machine.execCatchUpDone c s
  | .fenceInValid => Sys2Proof.Machine.execFenceInValid s
  | .fenceInMismatch p => Sys2Proof.Machine.execFenceInMismatch p s
  | .fenceInCleared => Sys2Proof.Machine.execFenceInCleared s
  | .strictWaitExpiry c => Sys2Proof.Machine.execStrictWaitExpiry c s
  | .handoverAtAckTimeout => Sys2Proof.Machine.execHandoverAtAckTimeout s
  | .handoverRetry => Sys2Proof.Machine.execHandoverRetry s
  | .handoverInstant => Sys2Proof.Machine.execHandoverInstant s
  | .crossfadeStep j => Sys2Proof.Machine.execCrossfadeStep j s
  | .canNormalAfterH => Sys2Proof.Machine.execCanNormalAfterH s
  | .ejectNAssert => Sys2Proof.Machine.execEjectNAssert s
  | .ejectNDeassert => Sys2Proof.Machine.execEjectNDeassert s
  | .yieldPress => Sys2Proof.Machine.execYieldPress s
  | .reclaimTimeExpiry => Sys2Proof.Machine.execReclaimTimeExpiry s
  | .exerciseIntervalExpiry => Sys2Proof.Machine.execExerciseIntervalExpiry s
  | .stationSamplingInstant r start => Sys2Proof.Machine.execStationSamplingInstant r start s
  | .stationInputFrameRx r f t => Sys2Proof.Machine.execStationInputFrameRx r f t s
  | .stationCutoff r start => Sys2Proof.Machine.execStationCutoff r start s
  | .stationAckRx r f t => Sys2Proof.Machine.execStationAckRx r f t s
  | .stationJoinRx r f t => Sys2Proof.Machine.execStationJoinRx r f t s
  | .configRepeat st => Sys2Proof.Machine.execConfigRepeat st s
  | .safeFrameRepeat => Sys2Proof.Machine.execSafeFrameRepeat s
  | .safeSetRebuild => Sys2Proof.Machine.execSafeSetRebuild s
  | .sfpInsert p x => Sys2Proof.Machine.execSfpInsert p x s
  | .helloSend p => Sys2Proof.Machine.execHelloSend p s
  | .helloRx p h => Sys2Proof.Machine.execHelloRx p h s
  | .adjHelloTimeout p => Sys2Proof.Machine.execAdjHelloTimeout p s
  | .fabricPortLinkUp p rate10 => Sys2Proof.Machine.execFabricPortLinkUp p rate10 s
  | .fabricPortLinkDown p => Sys2Proof.Machine.execFabricPortLinkDown p s
  | .mkaSecured p cak => Sys2Proof.Machine.execMkaSecured p cak s
  | .macsecTimeout p => Sys2Proof.Machine.execMacsecTimeout p s
  | .sakRekey p => Sys2Proof.Machine.execSakRekey p s
  | .lsrRx p src hops l => Sys2Proof.Machine.execLsrRx p src hops l s
  | .lsrOriginate => Sys2Proof.Machine.execLsrOriginate s
  | .lsrAgeExpiry src => Sys2Proof.Machine.execLsrAgeExpiry src s
  | .routeRecompute => Sys2Proof.Machine.execRouteRecompute s
  | .soundingFrameRx p f late t => Sys2Proof.Machine.execSoundingFrameRx p f late t s
  | .soundingAgeCheck c start => Sys2Proof.Machine.execSoundingAgeCheck c start s
  | .announceRx p src watch hops => Sys2Proof.Machine.execAnnounceRx p src watch hops s
  | .ptpSyncRx p domB off => Sys2Proof.Machine.execPtpSyncRx p domB off s
  | .ptpAnnounceTimeout p domB => Sys2Proof.Machine.execPtpAnnounceTimeout p domB s
  | .ptpEgressStamp p dom typ seq t => Sys2Proof.Machine.execPtpEgressStamp p dom typ seq t s
  | .tb2FollowUpdate => Sys2Proof.Machine.execTb2FollowUpdate s
  | .pairTimeSync tb0 tb1 tb2 inc3 => Sys2Proof.Machine.execPairTimeSync tb0 tb1 tb2 inc3 s
  | .timeMasterHoldoverExpiry partnerLocked => Sys2Proof.Machine.execTimeMasterHoldoverExpiry partnerLocked s
  | .tpoLeadingEdge k => Sys2Proof.Machine.execTpoLeadingEdge k s
  | .tpoTrailingEdge k => Sys2Proof.Machine.execTpoTrailingEdge k s
  | .tpiEdge i1 rising => Sys2Proof.Machine.execTpiEdge i1 rising s
  | .binnacleWdogExpiry => Sys2Proof.Machine.execBinnacleWdogExpiry s
  | .binnacleWdogReset => Sys2Proof.Machine.execBinnacleWdogReset s
  | .sensorSample m => Sys2Proof.Machine.execSensorSample m s
  | .eventLogWrite => Sys2Proof.Machine.execEventLogWrite s
  | .firmwareBoot x => Sys2Proof.Machine.execFirmwareBoot x s
  | .firmwareTrialTimeout => Sys2Proof.Machine.execFirmwareTrialTimeout s
  | .checkpointBegin t => Sys2Proof.Machine.execCheckpointBegin t s
  | .checkpointReadDone => Sys2Proof.Machine.execCheckpointReadDone s
  | .logStagingDrain n => Sys2Proof.Machine.execLogStagingDrain n s
  | .fieldLinkFrameRx ok storeMv t => Sys2Proof.Machine.execFieldLinkFrameRx ok storeMv t s
  | .fieldLinkLoss => Sys2Proof.Machine.execFieldLinkLoss s
  | .islandHoldExpiry tpo => Sys2Proof.Machine.execIslandHoldExpiry tpo s
  | .openLineAssert => Sys2Proof.Machine.execOpenLineAssert s
  | .fldFirstSwitchCommand => Sys2Proof.Machine.execFldFirstSwitchCommand s
  | .aiConversionEnd t ai ao => Sys2Proof.Machine.execAiConversionEnd t ai ao s
  | .aiValueWrite c start => Sys2Proof.Machine.execAiValueWrite c start s
  | .aoApply k => Sys2Proof.Machine.execAoApply k s
  | .aoReadbackJudge k => Sys2Proof.Machine.execAoReadbackJudge k s
  | .fieldStoreReady => Sys2Proof.Machine.execFieldStoreReady s
  | .fieldTrimTimeout => Sys2Proof.Machine.execFieldTrimTimeout s
  | .canRateProbe n => Sys2Proof.Machine.execCanRateProbe n s
  | .canPeriodicTx n k t sent conf => Sys2Proof.Machine.execCanPeriodicTx n k t sent conf s
  | .canFrameRx n f conf => Sys2Proof.Machine.execCanFrameRx n f conf s
  | .canFifoMove n f => Sys2Proof.Machine.execCanFifoMove n f s
  | .canWatchSend n conf => Sys2Proof.Machine.execCanWatchSend n conf s
  | .canWatchRx n pair watch slot state => Sys2Proof.Machine.execCanWatchRx n pair watch slot state s
  | .canBusOffRecovery n => Sys2Proof.Machine.execCanBusOffRecovery n s
  | .powerOnResetAssert => Sys2Proof.Machine.execPowerOnResetAssert s
  | .presentNDeassert => Sys2Proof.Machine.execPresentNDeassert s
  | .carrierResetAssert => Sys2Proof.Machine.execCarrierResetAssert s
  | .resetSourceRelease src => Sys2Proof.Machine.execResetSourceRelease src s
  | .islandRelease i1 => Sys2Proof.Machine.execIslandRelease i1 s
  | .strapDecodeDone v ref => Sys2Proof.Machine.execStrapDecodeDone v ref s
  | .tapBypass tdi => Sys2Proof.Machine.execTapBypass tdi s
  | .tapIdcode => Sys2Proof.Machine.execTapIdcode s
  | .tapSamplePreload pins cells => Sys2Proof.Machine.execTapSamplePreload pins cells s
  | .tapExtest => Sys2Proof.Machine.execTapExtest s
  | .laneReset => Sys2Proof.Machine.execLaneReset s
  | .tapMemoryRead addr colour => Sys2Proof.Machine.execTapMemoryRead addr colour s
  | .tapMemoryWrite addr colour data => Sys2Proof.Machine.execTapMemoryWrite addr colour data s
  | .watchAnnounceRepeat => Sys2Proof.Machine.execWatchAnnounceRepeat s
  | .pairRecordBadCheck seq => Sys2Proof.Machine.execPairRecordBadCheck seq s
  | .pairRecordResendRequest seq => Sys2Proof.Machine.execPairRecordResendRequest seq s
  | .pcieLinkDown => Sys2Proof.Machine.execPcieLinkDown s
  | .pcieLinkUp speed width => Sys2Proof.Machine.execPcieLinkUp speed width s
  | .msixTableWrite w => Sys2Proof.Machine.execMsixTableWrite w s
  | .ptpMessageRx p msg => Sys2Proof.Machine.execPtpMessageRx p msg s
  | .ptpMasterSendInterval p dom announce => Sys2Proof.Machine.execPtpMasterSendInterval p dom announce s
  | .alwaysOnClockReturn => Sys2Proof.Machine.execAlwaysOnClockReturn s
  | .faultConditionCleared src => Sys2Proof.Machine.execFaultConditionCleared src s
  | .fabricTransitFrameRx p f full => Sys2Proof.Machine.execFabricTransitFrameRx p f full s
  | .canBusIdle n => Sys2Proof.Machine.execCanBusIdle n s
  | .bookPartnerResultRx l0 i1 code => Sys2Proof.Machine.execBookPartnerResultRx l0 i1 code s

end Sys2Proof.Machine
end

