-- ==== Sys2Proof/Safety.lean ====
section
/-! DEFINITION. The terms in which claims about the module are stated: a lane that issues and what it writes, a mailbox command whose
turn has come, a register access that reaches its register, the canonical form of memory. -/

namespace Sys2Proof.Machine

/-- Memory is in its canonical form: addresses strictly rising, no cell listed that reads as memory nothing has written. -/
def Memory.wf (m : List Host.Cell) : Bool := mwfBy memDefault m

/-- The invariant of the module's tables: memory and the register file are in canonical form, and the time bases hold 64 bits of ns with a 32-bit
fraction (R395). -/
def State.canonical (s : State) : Bool := Memory.wf s.mem && mwfBy regCold s.regs && s.tbs.all fun e => decide (e.2 < 2 ^ 96)

/-! ### Register accesses -/

/-- An access of a master that writes a field with an action reaches the register: gate open, island out of reset (R29, R456). -/
def State.reaches (s : State) (m : Fin 16) (f : Fld) : Bool :=
  (s.gate m.val (0x1000000000 + f.addr) 0 true).isNone && !s.inReset (slotIsland (f.addr / 0x10000))

/-- Two register fields share no bit. -/
def apart (f g : Fld) : Prop := g.addr ≠ f.addr ∨ f.lo + f.len ≤ g.lo ∨ g.lo + g.len ≤ f.lo

/-- Every register field that shares no bit with the fields listed reads in `t` as in `s`. -/
def FldsKept (s t : State) (fs : List Fld) : Prop := ∀ g : Fld, (∀ f ∈ fs, apart f g) → t.fld g = s.fld g

/-- From `s` to `t` only the register fields listed have changed. -/
def FldsOnly (s t : State) (fs : List Fld) : Prop := t = { s with regs := t.regs } ∧ FldsKept s t fs

/-- A write of a master changed only the register fields listed and was answered without an error. -/
def WroteOnly (s t : State) (fs : List Fld) : Prop := FldsOnly { s with bus := ⟨false, 0⟩ } t fs

/-- A write of a master was answered with an error and changed nothing. -/
def TurnedAway (s t : State) : Prop := t = { s with bus := ⟨true, 0⟩ }

/-- A write of a master cleared the fields listed and changed nothing else. -/
def Cleared (s t : State) (fs : List Fld) : Prop := WroteOnly s t fs ∧ ∀ f ∈ fs, t.fld f = 0

/-- A write of a master cleared the fields listed, after which the first of them counted one occurrence; nothing else changed. -/
def ClearedThenOne (s t : State) (fs : List Fld) (f : Fld) : Prop :=
  WroteOnly s t fs ∧ ∀ g ∈ fs, t.fld g = if g = f then 1 else 0

/-! ### Lanes -/

/-- The nearest number in the range of INT64 (R156). -/
def clamp64 (n : Int) : Int := max (-(2 ^ 63)) (min (2 ^ 63 - 1) n)

/-- The number that a finite binary64 word stands for (R157). -/
def fVal (w : W64) : ℚ := (if fNeg w then -1 else 1) * (fMant w : ℚ) * (2 : ℚ) ^ fLsb w

/-- Xn of a lane, as its half H holds it. -/
def State.laneX (s : State) (l : Fin 8) (n : BitVec 6) : W64 := (s.lane l.val).main.xr n.toNat

/-- Pn of a lane, as its half H holds it. -/
def State.laneP (s : State) (l : Fin 8) (n : BitVec 3) : Bool := (s.lane l.val).main.pr n.toNat

/-- The lane issues: no fault has stopped it (R249), no debugger has halted it (R259), and no recording is replayed (R553). -/
def State.laneGoes (s : State) (l : Fin 8) : Bool :=
  !(s.lane l.val).stopped && !(s.lane l.val).main.halted && s.log.replay.isNone

/-- The lane issues and Pn XOR NEG is 1: the instruction takes effect (R127). -/
def State.laneTakes (s : State) (l : Fin 8) (neg : Bool) (pr : BitVec 3) : Bool := s.laneGoes l && (s.laneP l pr != neg)

/-- The word of a lane command is the one that its lane issues next, and the store queue takes its store (R126, R142). -/
def State.due (s : State) (c : Instr) : Bool := c.laneWord.any fun x => s.laneDue x.1.val x.2

/-- A lane command whose word is due answers a next state, of which `P` holds. -/
def State.issues (s : State) (c : Instr) (P : State → Prop) : Prop := s.due c = true → ∃ t, exec c s = .next t ∧ P t

/-- From `s` to `t` only the lane has moved on by one instruction: its engines, its replay queue and its place in the code; LANEl_RETIRE and
LANEl_DBGSTAT; nothing else of the module. -/
def LaneOnly (s t : State) (l : Fin 8) : Prop :=
  t = { s with regs := t.regs, lanes := t.lanes } ∧ (∀ k, k ≠ l.val → t.lane k = s.lane k) ∧
    (∀ a, a ≠ (R.laneRetireRetired l.val).addr → a ≠ (R.laneDbgstat l.val).addr → t.reg a = s.reg a) ∧
    t.fld (R.laneRetireRetired l.val) = (s.fld (R.laneRetireRetired l.val) + 1) % 2 ^ 64

/-- Everything of a lane but its two engines, the checker's store queue, the replay queue and the place in the code. -/
def LaneSt.rest (ln : LaneSt) : LaneSt := { ln with main := Engine.init, chk := Engine.init, chkQ := [], dbgQ := [], scan := none }

/-- An engine after one issue that writes none of `x`, `p`, frame words: signature and counts go on. -/
def Engine.went (e e' : Engine) : Prop := e' = { e with sig := e'.sig, folds := e'.folds, extra := e'.extra, issued := e.issued + 1 }

/-- The place in the code after one instruction. -/
def Scan.on (sc : Scan) : Scan := { sc with pc := (sc.pc + 1) % 65536 }

/-- The instruction changed no register, predicate, frame word or store of the lane. -/
def LaneKeeps (s t : State) (l : Fin 8) : Prop :=
  LaneOnly s t l ∧ (t.lane l.val).rest = (s.lane l.val).rest ∧ (t.lane l.val).scan = (s.lane l.val).scan.map Scan.on ∧
    (s.lane l.val).main.went (t.lane l.val).main

/-- The instruction wrote `v` to X[d] and nothing else of the lane's half H. -/
def LaneWrites (s t : State) (l : Fin 8) (d : BitVec 6) (v : W64) : Prop :=
  LaneOnly s t l ∧ (t.lane l.val).rest = (s.lane l.val).rest ∧ (t.lane l.val).scan = (s.lane l.val).scan.map Scan.on ∧
    Engine.went { (s.lane l.val).main with x := (t.lane l.val).main.x } (t.lane l.val).main ∧
    ∀ n, t.laneX l n = if n = d then v else s.laneX l n

/-- The instruction wrote `b` to P[p] (nothing for P0, R124) and nothing else of the lane's half H. -/
def LaneDecides (s t : State) (l : Fin 8) (p : BitVec 3) (b : Bool) : Prop :=
  LaneOnly s t l ∧ (t.lane l.val).rest = (s.lane l.val).rest ∧ (t.lane l.val).scan = (s.lane l.val).scan.map Scan.on ∧
    Engine.went { (s.lane l.val).main with p := (t.lane l.val).main.p } (t.lane l.val).main ∧
    ∀ n, t.laneP l n = if n = p ∧ p ≠ 0 then b else s.laneP l n

/-- Word `w` of the frame that the lane scans, as its half H holds it. -/
def State.laneFrame (s : State) (l : Fin 8) (w : Nat) : Option W64 := (s.lane l.val).frameWord (s.lane l.val).main w

/-- The instruction wrote `v` to frame word `w` and to no register, predicate or store of the lane's half H; the line that holds the word is
dirty for the class of the scan. -/
def LaneFrames (s t : State) (l : Fin 8) (w : Nat) (v : W64) : Prop :=
  LaneOnly s t l ∧ (t.lane l.val).scan = (s.lane l.val).scan.map Scan.on ∧
    (t.lane l.val).rest = { (s.lane l.val).rest with dirty := (t.lane l.val).dirty } ∧
    Engine.went { (s.lane l.val).main with fc := (t.lane l.val).main.fc } (t.lane l.val).main ∧
    ∀ k, t.laneFrame l k = if k = w then some v else s.laneFrame l k

/-- The instruction put a store in the store queue of the lane, or dropped it, and wrote no register, predicate or frame word. -/
def LaneQueues (s t : State) (l : Fin 8) (st : List Store) : Prop :=
  LaneOnly s t l ∧ (t.lane l.val).scan = (s.lane l.val).scan.map Scan.on ∧
    (t.lane l.val).rest = { (s.lane l.val).rest with storeQ := (s.lane l.val).storeQ ++ st } ∧
    (s.lane l.val).main.went (t.lane l.val).main

/-- The two engines of a lane hold the same registers, predicates, frame words and code, have folded the same words and queued the same stores, and no
debugger action waits (R240, R241). -/
def LaneSt.inStep (ln : LaneSt) : Prop :=
  ln.main.x = ln.chk.x ∧ ln.main.p = ln.chk.p ∧ ln.main.fc = ln.chk.fc ∧ ln.main.code = ln.chk.code ∧ ln.main.sig = ln.chk.sig ∧
    ln.main.folds = ln.chk.folds ∧ ln.main.extra = ln.chk.extra ∧ ln.main.halted = ln.chk.halted ∧ ln.storeQ = ln.chkQ ∧ ln.dbgQ = []

/-- A debugger access of a lane is granted: gate open with the lane scope, slot granted to master 14 (R259, R474). -/
def State.laneOpen (s : State) (l : Fin 8) : Bool :=
  s.flag R.dbgGateOpen && s.bit R.dbgGateScope 0 && (s.gate 14 (0x1000000000 + (R.laneDbgctl l.val).addr) 0 true).isNone &&
    !s.inReset (slotIsland ((R.laneDbgctl l.val).addr / 0x10000))

/-- The debugger may act on lane `l`, and the lane's replay queue has room (R260). -/
def State.laneGranted (s : State) (l : Fin 8) : Bool := s.laneOpen l && decide ((s.lane l.val).dbgQ.length < 64)

/-- The half H of a lane is now `e`, and the debugger action waits in the lane's replay queue at its retire point (R259); LANEl_DBGSTAT follows
(R272); no other lane and, beside the fields listed, nothing else of the module changed. -/
def LaneActed (s t : State) (l : Fin 8) (a : DbgAct) (e : Engine) (fs : List Fld) : Prop :=
  t = { s with regs := t.regs, lanes := t.lanes, bus := t.bus, log := t.log } ∧ (∀ k, k ≠ l.val → t.lane k = s.lane k) ∧
    t.lane l.val = { s.lane l.val with main := e, dirty := (t.lane l.val).dirty, dbgQ := (s.lane l.val).dbgQ ++ [⟨a, (s.lane l.val).main.issued⟩] } ∧
    FldsKept s t ([R.laneDbgstatHalted l.val, R.laneDbgstatPending l.val, R.laneDbgstatDepth l.val] ++ fs) ∧
    t.flag (R.laneDbgstatHalted l.val) = e.halted ∧ t.flag (R.laneDbgstatPending l.val) = true ∧
    t.fld (R.laneDbgstatDepth l.val) = (s.lane l.val).dbgQ.length + 1

/-- A lane fault of a kind (R249, R257): the lane is stopped, the fault reported with the lane as its source, and CMP_FAULT latched, or counted while
an earlier fault stands there. -/
def LaneFaulted (s t : State) (l : Fin 8) (kind : Nat) : Prop :=
  (t.lane l.val).stopped = true ∧ (∀ k, k ≠ l.val → t.lane k = s.lane k) ∧ t.reports = s.reports ++ [⟨l.val, kind, false⟩] ∧
    t.flag R.cmpFaultValid = true ∧
    (s.flag R.cmpFaultValid = false → t.fld R.cmpFaultLane = l.val ∧ t.fld R.cmpFaultKind = kind ∧ t.fld R.cmpFaultCount = 1) ∧
    (s.flag R.cmpFaultValid = true → t.fld R.cmpFaultLane = s.fld R.cmpFaultLane ∧ t.fld R.cmpFaultKind = s.fld R.cmpFaultKind ∧
      t.fld R.cmpFaultCount = min (s.fld R.cmpFaultCount + 1) (2 ^ R.cmpFaultCount.len - 1)) ∧ t.mem = s.mem ∧ t.classes = s.classes

/-! ### Mailbox commands -/

/-- A mailbox command whose turn has come and whose checks pass (R491, R495 to R500, R502, R605, R606): the firmware serves its transport, its
pair is bound to it and open, no answer is outstanding, its entries are posted, CLIENT and TALLY are the session's, length and level are
right, the module holds the active role where the command needs it, and the response ring has room for the command's largest response. -/
def State.mboxReady (s : State) (h : Hdr) (op : Nat) (active : Bool) : Bool :=
  let x := s.sess h.pair
  s.mboxServes h.via && decide (h.pair < 32) && h.whole && h.len == h.need && x.bound == some h.via && x.isOpen &&
    x.waiting.isNone && h.client == x.client && h.tally == x.next && decide (entriesOf h.len ≤ s.qUsed (2 * h.pair)) &&
    decide (h.level < 2) && (decide (op < 0xF00) || (h.level == 1 && x.level == 1)) && (!active || s.isActive) &&
    (!s.bin.recovery || recoveryOp op) && decide (respMost op ≤ (s.mboxAck h).qFree (2 * h.pair + 1))

/-- The response ring of a pair has room for a result of `n` bytes once the ACK of the command is applied (R490, R498). -/
def State.mboxFits (s : State) (h : Hdr) (n : Nat) : Bool := decide (entriesOf n ≤ (s.mboxAck h).qFree (2 * h.pair + 1))

/-- A command executed in `u` and answered OK with a result (R492, R497). -/
def State.answered (u : State) (h : Hdr) (op : Nat) (result : List Byte) : State := u.answer h.pair ⟨op, h.tally, stOk, 0, result⟩

/-- A mailbox command answers OK with a result and leaves `v`, the state beside its answer, whenever its turn has come and its result fits. -/
def Answers (c : Instr) (s : State) (h : Hdr) (op : Nat) (active : Bool) (v : State) (r : List Byte) : Prop :=
  s.mboxReady h op active = true → s.mboxFits h r.length = true → exec c s = .next (v.answered h op r)

/-- A mailbox command whose turn has come is answered with a status and a detail, and leaves `v` beside its answer. -/
def AnswersWith (c : Instr) (s : State) (h : Hdr) (op : Nat) (active : Bool) (v : State) (status detail : Nat) : Prop :=
  s.mboxReady h op active = true → s.mboxFits h 0 = true → exec c s = .next (v.answer h.pair ⟨op, h.tally, status, detail, []⟩)

/-- A mailbox command whose turn has come is refused: it changes nothing, and is answered with a status and a detail. -/
def Refuses (c : Instr) (s : State) (h : Hdr) (op : Nat) (active : Bool) (status detail : Nat) : Prop :=
  AnswersWith c s h op active (s.taken h) status detail

/-- BAD_PARAM, with the byte offset of operand `k` (R520). -/
def RefusesParam (c : Instr) (s : State) (h : Hdr) (op : Nat) (active : Bool) (k : Nat) : Prop :=
  Refuses c s h op active stBadParam (h.offs.getD k 0)

/-- A row of SOUNDING_STATUS (R394): publication (0) or subscription (1), its index, Watch number, epoch, Wake, age in ns, level. -/
def soundingRow (kind idx watch epoch wake age level : Nat) : List Byte :=
  leBytes 1 kind ++ leBytes 1 idx ++ leBytes 4 watch ++ leBytes 2 epoch ++ leBytes 6 wake ++ leBytes 8 age ++ leBytes 1 level

/-- Between two states the program has not moved: memory, time bases, lanes, classes, Books, pair, stations, records, field, cabinet bus and what is
sent are kept. -/
def ProgramKept (s t : State) : Prop :=
  t.mem = s.mem ∧ t.tbs = s.tbs ∧ t.lanes = s.lanes ∧ t.classes = s.classes ∧ t.book = s.book ∧ t.pair = s.pair ∧ t.stn = s.stn ∧
    t.log = s.log ∧ t.field = s.field ∧ t.can = s.can ∧ t.pending = s.pending

/-- The key slots but `ks` are as before. -/
def SlotsKept (s t : State) (ks : List Nat) : Prop := ∀ k, k ∉ ks → t.keySlot k = s.keySlot k

/-- Between two states one event of a code was raised. -/
def Raised (s t : State) (code : Nat) : Prop := ∃ e, t.events = s.events ++ [e] ∧ e.code = code

/-- The record of a state-changing command accepted in `w` from its client: not yet fixed, not yet done (R295, R296). -/
def State.mirEntry (w : State) (h : Hdr) (op : Nat) (body : MirBody) (params : List Nat) : MirCmd :=
  ⟨h.client, h.tally, some h.pair, op, body, w.tb 2, false, 0, w.tb 3, false, 0, params⟩

/-- The records of earlier commands, but for one of the same client and Tally. -/
def State.mirOthers (w : State) (h : Hdr) : List MirCmd := w.pair.mirrors.filter fun x => !(x.client == h.client && x.tally == h.tally)

/-- Nothing of the active module waits on a partner that no longer mirrors: no command of its own without its effect instant, no Turn without its
instant (R215, R295). -/
def State.settled (s : State) : Prop :=
  s.mirrored = true ∨ s.isActive = false ∨ ((∀ m ∈ s.pair.mirrors, m.fixed = true ∨ m.pair = none) ∧ (s.book.turn = none ∨ s.flag R.bookTurnArmed = true))

/-- A record sent on the pair link from `s`: under the next SEQ, with the module's Watch number, and kept for a resend (R284, R285). -/
def State.sentRec (s t : State) (r : PairRec) : Prop :=
  t.out = s.out ++ [.link s.pair.txSeq (s.fld R.pairWatchWatch) r] ∧ t.pair.txSeq = (s.pair.txSeq + 1) % 65536 ∧
    t.pair.sent = ((s.pair.txSeq, s.fld R.pairWatchWatch, r) :: s.pair.sent).take 65535

/-- A state-changing command is accepted in `w` whenever its turn has come (R107, R295, R499). With a partner that takes part it is sent in a Command
record, and its answer waits. Without one its effect instant is the first base tick at least 100 µs from now, and it is answered OK with that instant in ns of
TB2. Nothing of the program changes before. -/
def Accepts (c : Instr) (s : State) (h : Hdr) (op : Nat) (w : State) (body : MirBody) (params : List Nat) : Prop :=
  s.mboxReady h op true = true → s.mboxFits h 8 = true →
    (w.mirrored = true → ∃ t, exec c s = .next t ∧ w.sentRec t (.command h.client h.tally body 0) ∧
      t.pair = { w.pair with mirrors := w.mirOthers h ++ [w.mirEntry h op body params], txSeq := t.pair.txSeq, sent := t.pair.sent } ∧
      t.sess h.pair = { w.sess h.pair with waiting := some ⟨op, h.tally, none, stOk, 0, leBytes 8 0, w.tb 3⟩ } ∧
      (∀ p, p ≠ h.pair → t.sess p = w.sess p) ∧ t = { w with pair := t.pair, out := t.out, mail := t.mail }) ∧
    (w.mirrored = false → ∃ v : State, exec c s = .next (v.answered h op (leBytes 8 (tickAtOrAfter (w.tb 2 + 100000)))) ∧
      v.pair = { w.pair with mirrors := w.mirOthers h ++
        [{ w.mirEntry h op body params with fixed := true, effect := tickAtOrAfter (w.tb 2 + 100000), logSeq := w.log.seq }] } ∧
      v.mem = w.mem ∧ v.tbs = w.tbs ∧ v.lanes = w.lanes ∧ v.classes = w.classes ∧ v.book = w.book ∧ v.stn = w.stn ∧ v.time = w.time ∧
      v.field = w.field ∧ v.can = w.can ∧ v.fab = w.fab ∧ v.bin = w.bin ∧ v.pending = w.pending)

/-- A command waits for the partner's part of its answer (R634): the Query record is sent, and the pair keeps the own part and the partner's length. -/
def Asks (c : Instr) (s : State) (h : Hdr) (op : Nat) (v : State) (q : Query) (own : List Byte) (n : Nat) : Prop :=
  s.mboxReady h op false = true → s.mboxFits h (own.length + 1 + n) = true → ∃ t, exec c s = .next t ∧ v.sentRec t (.query q h.offs) ∧
    t.sess h.pair = { v.sess h.pair with waiting := some ⟨op, h.tally, some n, stOk, 0, own, v.tb 3⟩ } ∧
    (∀ p, p ≠ h.pair → t.sess p = v.sess p) ∧ t.pair = { v.pair with txSeq := t.pair.txSeq, sent := t.pair.sent } ∧
    t = { v with out := t.out, mail := t.mail, pair := t.pair }

/-- A command that names modules (R634): the receiving module's part first, the partner's over the link, each behind its AVAIL byte, 0 with zeros where
the link is lost. -/
def PartsAnswer (c : Instr) (s : State) (h : Hdr) (op : Nat) (side : Side) (q : Query) : Prop :=
  let u := s.taken h
  let x := u.part q h.offs
  let st := x.2.1
  let bs := x.2.2.2
  (side = .own → (st = stOk → Answers c s h op false x.1 (1 :: bs)) ∧ (st ≠ stOk → AnswersWith c s h op false x.1 st x.2.2.1)) ∧
  (side = .partner → (u.flag R.pairLinkUp = true → Asks c s h op u q [] bs.length) ∧
    (u.flag R.pairLinkUp = false → Answers c s h op false u (0 :: List.replicate bs.length 0))) ∧
  (side = .both → (st ≠ stOk → AnswersWith c s h op false x.1 st x.2.2.1) ∧
    (st = stOk → u.flag R.pairLinkUp = true → Asks c s h op x.1 q (1 :: bs) bs.length) ∧
    (st = stOk → u.flag R.pairLinkUp = false → Answers c s h op false x.1 (1 :: bs ++ 0 :: List.replicate bs.length 0)))

/-- The entries of a command that its header announces; of one whose continuation entries lie beyond PI, the header alone (R491). -/
def hdrEntries (h : Hdr) : Nat := if h.whole then entriesOf h.len else 1

/-- A posted command of a pair comes to its turn (R495, R498, R605): the firmware serves its transport, its pair is bound to it, no answer is outstanding,
its entries are posted. -/
def State.turnComes (s : State) (h : Hdr) : Bool :=
  s.mboxServes h.via && decide (h.pair < 32) && (s.sess h.pair).bound == some h.via && (s.sess h.pair).waiting.isNone &&
    decide (hdrEntries h ≤ s.qUsed (2 * h.pair))

/-- The state in which a command is taken and not yet checked: its ACK applied, its entries out of the ring. -/
def State.received (s : State) (h : Hdr) : State := (s.mboxAck h).mboxTake h (hdrEntries h)

/-! ### Resets -/

/-- A module source of warm or cold reach was asserted in `s` and began an episode (R21, R593, R594, R596, R597, R602, R612): the source is held,
its islands are in reset, RSTC_CAUSE names it and its reach alone, the registers outside RSTC and FCOL take their Cold or Warm values, the
lanes and the volatile memories their reset state; the field island that its own bit holds joins a warm one (R598); MRAM is kept, and the time bases except under cold reach. -/
def EpisodeBegan (s t : State) (src : Nat) (f : Fld) (cold : Bool) : Prop :=
  t.rst.on = (if src ∈ s.rst.on then s.rst.on else s.rst.on ++ [src]) ∧ t.rst.episode = some cold ∧
    t.rst.held = List.range (if cold then 22 else 20) ++ (if cold = false ∧ s.inReset 21 = true then [21] else []) ∧ (∀ i < (if cold then 22 else 20), t.inReset i = true) ∧
    (t.reg R.rstcCause.addr).toNat = 2 ^ f.lo + (if cold then 4 else 3) * 2 ^ 8 ∧
    (∀ a, a / 0x10000 ≠ 0 → a / 0x10000 ≠ 1 → t.reg a = if cold then regCold a else warmWord a (s.reg a)) ∧
    (∀ l < 8, t.lane l = LaneSt.init) ∧ t.classes = [] ∧ t.reports = [] ∧ t.events = [] ∧ t.mail.sess = [] ∧
    (∀ a, a < 0x3000000 ∨ (0x8000000000 ≤ a ∧ a < 0x8200000000) → t.byte a = memDefault a) ∧
    (∀ a, 0x800000000 ≤ a → a < 0x800800000 → t.byte a = s.byte a) ∧ (∀ k < 4, t.tbFix k = if cold then 0 else s.tbFix k) ∧
    t.pending = s.pending ∧ t.out = s.out

end Sys2Proof.Machine
end

