-- ==== Sys2Proof/Certificates/Slice0/Obligations.lean ====
section
/-! DEFINITION. The statements for the provers, family by family. Each cites the rules of the manual it formalises; where one rests on a choice of
the model, it says so. -/

open Sys2Proof Sys2Proof.Machine

/-! ### Lanes -/

/-- R148, R156: what each integer instruction that takes effect writes to X[D], and that it writes nothing else. -/
def Obligations.IntegerInstructionsWriteResults : Prop :=
  ∀ (s : State) (l : Fin 8) (neg : Bool) (pr : BitVec 3) (d a b : BitVec 6), s.laneTakes l neg pr = true →
    let x := (s.laneX l a).toInt
    let y := (s.laneX l b).toInt
    (s.issues (.iadd l neg pr d a b) fun t => ∃ v, LaneWrites s t l d v ∧ v.toInt = clamp64 (x + y)) ∧
    (s.issues (.isub l neg pr d a b) fun t => ∃ v, LaneWrites s t l d v ∧ v.toInt = clamp64 (x - y)) ∧
    (s.issues (.imul l neg pr d a b) fun t => ∃ v, LaneWrites s t l d v ∧ v.toInt = clamp64 (x * y)) ∧
    (s.issues (.idiv l neg pr d a b) fun t => ∃ v, LaneWrites s t l d v ∧
      v.toInt = if y = 0 then (if x > 0 then 2 ^ 63 - 1 else if x < 0 then -(2 ^ 63) else 0) else clamp64 (x.tdiv y)) ∧
    (s.issues (.irem l neg pr d a b) fun t => ∃ v, LaneWrites s t l d v ∧ v.toInt = if y = 0 then 0 else x - y * x.tdiv y) ∧
    (s.issues (.ineg l neg pr d a) fun t => ∃ v, LaneWrites s t l d v ∧ v.toInt = clamp64 (-x)) ∧
    (s.issues (.iabs l neg pr d a) fun t => ∃ v, LaneWrites s t l d v ∧ v.toInt = clamp64 |x|) ∧
    (s.issues (.imin l neg pr d a b) fun t => ∃ v, LaneWrites s t l d v ∧ v.toInt = min x y) ∧
    (s.issues (.imax l neg pr d a b) fun t => ∃ v, LaneWrites s t l d v ∧ v.toInt = max x y) ∧
    (s.issues (.isat32 l neg pr d a) fun t => ∃ v, LaneWrites s t l d v ∧ v.toInt = max (-(2 ^ 31)) (min (2 ^ 31 - 1) x)) ∧
    (s.issues (.iaddw l neg pr d a b) fun t => ∃ v, LaneWrites s t l d v ∧ v.toInt ≡ x + y [ZMOD 2 ^ 64]) ∧
    (s.issues (.isubw l neg pr d a b) fun t => ∃ v, LaneWrites s t l d v ∧ v.toInt ≡ x - y [ZMOD 2 ^ 64]) ∧
    (s.issues (.imulw l neg pr d a b) fun t => ∃ v, LaneWrites s t l d v ∧ v.toInt ≡ x * y [ZMOD 2 ^ 64])

/-- R149: what each bit, BOOL and quality instruction and MOV (R147) write to X[D], bit by bit. -/
def Obligations.BitInstructionsWriteResults : Prop :=
  ∀ (s : State) (l : Fin 8) (neg : Bool) (pr : BitVec 3) (d a b : BitVec 6), s.laneTakes l neg pr = true →
    let x := s.laneX l a
    let y := s.laneX l b
    let n := y.toNat % 64
    (s.issues (.mov l neg pr d a) fun t => LaneWrites s t l d x) ∧
    (s.issues (.andB l neg pr d a b) fun t => ∃ v, LaneWrites s t l d v ∧ ∀ i < 64, v.getLsbD i = (x.getLsbD i && y.getLsbD i)) ∧
    (s.issues (.orB l neg pr d a b) fun t => ∃ v, LaneWrites s t l d v ∧ ∀ i < 64, v.getLsbD i = (x.getLsbD i || y.getLsbD i)) ∧
    (s.issues (.xorB l neg pr d a b) fun t => ∃ v, LaneWrites s t l d v ∧ ∀ i < 64, v.getLsbD i = (x.getLsbD i ^^ y.getLsbD i)) ∧
    (s.issues (.notB l neg pr d a) fun t => ∃ v, LaneWrites s t l d v ∧ ∀ i < 64, v.getLsbD i = !x.getLsbD i) ∧
    (s.issues (.shl l neg pr d a b) fun t => ∃ v, LaneWrites s t l d v ∧
      ∀ i < 64, v.getLsbD i = (decide (n ≤ i) && x.getLsbD (i - n))) ∧
    (s.issues (.shr l neg pr d a b) fun t => ∃ v, LaneWrites s t l d v ∧ ∀ i < 64, v.getLsbD i = x.getLsbD (i + n)) ∧
    (s.issues (.sar l neg pr d a b) fun t => ∃ v, LaneWrites s t l d v ∧ ∀ i < 64, v.getLsbD i = x.getLsbD (min 63 (i + n))) ∧
    (s.issues (.rol l neg pr d a b) fun t => ∃ v, LaneWrites s t l d v ∧ ∀ i < 64, v.getLsbD ((i + n) % 64) = x.getLsbD i) ∧
    (s.issues (.popc l neg pr d a) fun t => ∃ v, LaneWrites s t l d v ∧ v.toNat = (List.range 64).countP fun i => x.getLsbD i) ∧
    (s.issues (.bnot l neg pr d a) fun t => LaneWrites s t l d (if x = 0 then 1 else 0)) ∧
    (s.issues (.boolOf l neg pr d a) fun t => LaneWrites s t l d (if x = 0 then 0 else 1)) ∧
    (s.issues (.qof l neg pr d a) fun t => ∃ v, LaneWrites s t l d v ∧
      v.toNat = if x.toNat / 2 ^ 48 % 256 ≤ 4 then x.toNat / 2 ^ 48 % 256 else 0)

/-- R151, R157 to R160: a floating-point instruction that takes effect writes the operation's result on its operands to X[D], and nothing else;
FMA and FCLAMP read X[D] as the third operand. What the operations compute is the subject of the statements that follow. -/
def Obligations.FloatInstructionsWriteResults : Prop :=
  ∀ (s : State) (l : Fin 8) (neg : Bool) (pr : BitVec 3) (d a b : BitVec 6), s.laneTakes l neg pr = true →
    let x := s.laneX l a
    let y := s.laneX l b
    let z := s.laneX l d
    (s.issues (.fadd l neg pr d a b) fun t => LaneWrites s t l d (opFAdd x y)) ∧
    (s.issues (.fsub l neg pr d a b) fun t => LaneWrites s t l d (opFSub x y)) ∧
    (s.issues (.fmul l neg pr d a b) fun t => LaneWrites s t l d (opFMul x y)) ∧
    (s.issues (.fdiv l neg pr d a b) fun t => LaneWrites s t l d (opFDiv x y)) ∧
    (s.issues (.fsqrt l neg pr d a) fun t => LaneWrites s t l d (opFSqrt x)) ∧
    (s.issues (.fma l neg pr d a b) fun t => LaneWrites s t l d (opFMA x y z)) ∧
    (s.issues (.fmin l neg pr d a b) fun t => LaneWrites s t l d (opFMin x y)) ∧
    (s.issues (.fmax l neg pr d a b) fun t => LaneWrites s t l d (opFMax x y)) ∧
    (s.issues (.fabs l neg pr d a) fun t => LaneWrites s t l d (opFAbs x)) ∧
    (s.issues (.fneg l neg pr d a) fun t => LaneWrites s t l d (opFNeg x)) ∧
    (s.issues (.fclamp l neg pr d a b) fun t => LaneWrites s t l d (opFMin (opFMax z x) y)) ∧
    (s.issues (.frint l neg pr d a) fun t => LaneWrites s t l d (opFInt .nearest x)) ∧
    (s.issues (.ftrunc l neg pr d a) fun t => LaneWrites s t l d (opFInt .zero x)) ∧
    (s.issues (.ffloor l neg pr d a) fun t => LaneWrites s t l d (opFInt .down x)) ∧
    (s.issues (.fceil l neg pr d a) fun t => LaneWrites s t l d (opFInt .up x)) ∧
    (s.issues (.itof l neg pr d a) fun t => LaneWrites s t l d (opIToF x)) ∧
    (s.issues (.ftoi l neg pr d a) fun t => LaneWrites s t l d (opFToI .zero x)) ∧
    (s.issues (.ftoin l neg pr d a) fun t => LaneWrites s t l d (opFToI .nearest x)) ∧
    (s.issues (.fexp l neg pr d a) fun t => LaneWrites s t l d (opFExp x)) ∧
    (s.issues (.fln l neg pr d a) fun t => LaneWrites s t l d (opFLn x)) ∧
    (s.issues (.fsin l neg pr d a) fun t => LaneWrites s t l d (opFSin x)) ∧
    (s.issues (.fcos l neg pr d a) fun t => LaneWrites s t l d (opFCos x)) ∧
    (s.issues (.fatan2 l neg pr d a b) fun t => LaneWrites s t l d (opFAtan2 x y))

/-- R158: a NaN operand is any encoding with exponent 7FFh and a nonzero fraction; every floating-point operation on one gives the canonical NaN,
7FF8_0000_0000_0000h, and whatever the operands are, an operation whose result is a NaN gives that one. -/
def Obligations.NaNOperandsGiveCanonicalNaN : Prop :=
  (∀ x : W64, isNaN x = true ↔ x.toNat / 2 ^ 52 % 2 ^ 11 = 0x7FF ∧ x.toNat % 2 ^ 52 ≠ 0) ∧
  (∀ (x y z v : W64) (m : RMode), v ∈ [opFAdd x y, opFSub x y, opFMul x y, opFDiv x y, opFSqrt x, opFMA x y z, opFMin x y, opFMax x y, opFMin (opFMax z x) y,
      opFAbs x, opFNeg x, opFInt m x, opFExp x, opFLn x, opFSin x, opFCos x, opFAtan2 x y, opIToF x] → isNaN v = true → v = 0x7FF8000000000000#64) ∧
  (∀ (x y z : W64), isNaN x = true →
    opFAdd x y = 0x7FF8000000000000#64 ∧ opFAdd y x = 0x7FF8000000000000#64 ∧ opFSub x y = 0x7FF8000000000000#64 ∧
    opFSub y x = 0x7FF8000000000000#64 ∧ opFMul x y = 0x7FF8000000000000#64 ∧ opFMul y x = 0x7FF8000000000000#64 ∧
    opFDiv x y = 0x7FF8000000000000#64 ∧ opFDiv y x = 0x7FF8000000000000#64 ∧ opFSqrt x = 0x7FF8000000000000#64 ∧
    opFMA x y z = 0x7FF8000000000000#64 ∧ opFMA y x z = 0x7FF8000000000000#64 ∧ opFMA y z x = 0x7FF8000000000000#64 ∧
    opFMin x y = 0x7FF8000000000000#64 ∧ opFMin y x = 0x7FF8000000000000#64 ∧ opFMax x y = 0x7FF8000000000000#64 ∧
    opFMax y x = 0x7FF8000000000000#64 ∧ opFAbs x = 0x7FF8000000000000#64 ∧ opFNeg x = 0x7FF8000000000000#64 ∧
    (∀ m, opFInt m x = 0x7FF8000000000000#64) ∧ opFExp x = 0x7FF8000000000000#64 ∧ opFLn x = 0x7FF8000000000000#64 ∧
    opFSin x = 0x7FF8000000000000#64 ∧ opFCos x = 0x7FF8000000000000#64 ∧ opFAtan2 x y = 0x7FF8000000000000#64 ∧
    opFAtan2 y x = 0x7FF8000000000000#64)

/-- R157, R159: the special cases of division, of the invalid operations and of the square root; comparisons and orderings: false with a NaN, unordered
exactly then, −0 equal to +0, −0 below +0 for FMIN and FMAX, and FCLAMP with limits out of order. -/
def Obligations.FloatSpecialCasesAndOrderings : Prop :=
  ((∀ (x : W64) (n : Bool), isNaN x = false → isInf x = false → isZero x = false →
     opFDiv x (fZero n) = fInf (fNeg x != n)) ∧
   (∀ m n : Bool, opFDiv (fZero m) (fZero n) = 0x7FF8000000000000#64 ∧ opFDiv (fInf m) (fInf n) = 0x7FF8000000000000#64 ∧
     opFAdd (fInf m) (fInf (!m)) = 0x7FF8000000000000#64 ∧ opFSub (fInf m) (fInf m) = 0x7FF8000000000000#64 ∧
     opFMul (fZero m) (fInf n) = 0x7FF8000000000000#64 ∧ opFMul (fInf m) (fZero n) = 0x7FF8000000000000#64) ∧
   (∀ x : W64, isNaN x = false → isZero x = false → fNeg x = true → opFSqrt x = 0x7FF8000000000000#64) ∧
   opFSqrt 0x8000000000000000#64 = 0x8000000000000000#64) ∧
  ((∀ x y : W64, (isNaN x || isNaN y) = true → opFEq x y = false ∧ opFLt x y = false ∧ opFLe x y = false) ∧
   (∀ x y : W64, opFUn x y = (isNaN x || isNaN y)) ∧
   opFEq 0x8000000000000000#64 0 = true ∧ opFLt 0x8000000000000000#64 0 = false ∧ opFLt 0 0x8000000000000000#64 = false ∧
   (∀ x y : W64, (isNaN x || isNaN y) = false →
     (opFLe x y = (opFLt x y || opFEq x y)) ∧ (opFLt x y || opFEq x y || opFLt y x) = true ∧ (opFLt x y && opFLt y x) = false) ∧
   opFMin 0 0x8000000000000000#64 = 0x8000000000000000#64 ∧ opFMin 0x8000000000000000#64 0 = 0x8000000000000000#64 ∧
   opFMax 0 0x8000000000000000#64 = 0 ∧ opFMax 0x8000000000000000#64 0 = 0 ∧
   (∀ x lo hi : W64, isNaN x = false → isNaN lo = false → isNaN hi = false → opFLt hi lo = true → opFMin (opFMax x lo) hi = hi))

/-- R157: FADD, FSUB and FMUL round to nearest: no finite word is nearer to the exact result than the finite word they give. -/
def Obligations.FloatSumsAndProductsAreNearest : Prop :=
  ∀ x y w : W64, fFinite x = true → fFinite y = true → fFinite w = true →
    (fFinite (opFAdd x y) = true → |fVal (opFAdd x y) - (fVal x + fVal y)| ≤ |fVal w - (fVal x + fVal y)|) ∧
    (fFinite (opFSub x y) = true → |fVal (opFSub x y) - (fVal x - fVal y)| ≤ |fVal w - (fVal x - fVal y)|) ∧
    (fFinite (opFMul x y) = true → |fVal (opFMul x y) - fVal x * fVal y| ≤ |fVal w - fVal x * fVal y|)

/-- R150, R159: what each predicate instruction that takes effect writes to its target, and that a write to P0 is ignored (R124); PMOV writes
X[D]. -/
def Obligations.PredicateInstructionsWriteResults : Prop :=
  ∀ (s : State) (l : Fin 8) (neg : Bool) (pr p q r : BitVec 3) (d a b : BitVec 6), s.laneTakes l neg pr = true →
    let x := s.laneX l a
    let y := s.laneX l b
    (s.issues (.ieq l neg pr p a b) fun t => LaneDecides s t l p (decide (x = y))) ∧
    (s.issues (.ilt l neg pr p a b) fun t => LaneDecides s t l p (decide (x.toInt < y.toInt))) ∧
    (s.issues (.ile l neg pr p a b) fun t => LaneDecides s t l p (decide (x.toInt ≤ y.toInt))) ∧
    (s.issues (.ult l neg pr p a b) fun t => LaneDecides s t l p (decide (x.toNat < y.toNat))) ∧
    (s.issues (.feq l neg pr p a b) fun t => LaneDecides s t l p (opFEq x y)) ∧
    (s.issues (.flt l neg pr p a b) fun t => LaneDecides s t l p (opFLt x y)) ∧
    (s.issues (.fle l neg pr p a b) fun t => LaneDecides s t l p (opFLe x y)) ∧
    (s.issues (.fun l neg pr p a b) fun t => LaneDecides s t l p (isNaN x || isNaN y)) ∧
    (s.issues (.tst l neg pr p a) fun t => LaneDecides s t l p (decide (x ≠ 0))) ∧
    (s.issues (.pand l neg pr p q r) fun t => LaneDecides s t l p (s.laneP l q && s.laneP l r)) ∧
    (s.issues (.por l neg pr p q r) fun t => LaneDecides s t l p (s.laneP l q || s.laneP l r)) ∧
    (s.issues (.pnot l neg pr p q) fun t => LaneDecides s t l p (!s.laneP l q)) ∧
    (s.issues (.pmov l neg pr d q) fun t => LaneWrites s t l d (if s.laneP l q then 1 else 0))

/-- R147, R138, R155: LDI sign-extends its immediate; LDK reads constant IMM, the two code words that end 2 × IMM words below the block's
descriptor, the low half lower; GET gives the cycle value that its immediate selects. LDK and GET are stated for a lane that scans a block. -/
def Obligations.ConstantsAndCycleValues : Prop :=
  ∀ (s : State) (l : Fin 8) (neg : Bool) (pr : BitVec 3) (d : BitVec 6) (imm : BitVec 14), s.laneTakes l neg pr = true →
    (s.issues (.ldi l neg pr d imm) fun t => ∃ v, LaneWrites s t l d v ∧ v.toInt = imm.toInt) ∧
    ∀ sc : Scan, (s.lane l.val).scan = some sc →
      let e := (s.lane l.val).main
      let k := s.cls sc.cls
      let hd := ((s.laneFrame l 0).getD 0).toNat
      let at_ := sc.code + 131072 - 2 * (imm.toNat + 2)
      (s.issues (.ldk l neg pr d imm) fun t => ∃ v, LaneWrites s t l d v ∧
        v.toNat = (e.codeAt sc.bank at_).toNat + 2 ^ 32 * (e.codeAt sc.bank (at_ + 1)).toNat) ∧
      (imm.toNat < 8 → s.issues (.get l neg pr d imm) fun t => ∃ v, LaneWrites s t l d v ∧
        (imm.toNat = 0 → v = BitVec.ofNat 64 k.flyTime) ∧
        (imm.toNat = 1 → v = BitVec.ofNat 64 (s.fld (R.bookTcCfgPeriod sc.cls) * 500000)) ∧
        (imm.toNat = 3 → v = BitVec.ofNat 64 k.cycWake) ∧ (imm.toNat = 4 → v = BitVec.ofNat 64 sc.cls) ∧
        (imm.toNat = 5 → v.toNat = hd / 2 ^ 48 % 2) ∧ (imm.toNat = 6 → v.toNat = hd % 2 ^ 32) ∧
        (imm.toNat = 7 → v.toNat = hd / 2 ^ 32 % 2 ^ 13))

/-- R152, R172, R173: LDF and LDFX read a word of the frame, LDFX giving 0 outside it; STF and STFX write one, STFX dropping what lies outside the
frame or at NCONN or below: stated for a lane that scans a block whose frame is in the Frame Cache. An indexed access outside the frame latches the instance in LANEl_OOF
with a count of 1 where nothing is latched, and raises event 0005h; where something is latched it only counts. -/
def Obligations.FrameInstructionsReachTheFrame : Prop :=
  (∀ (s : State) (l : Fin 8) (neg : Bool) (pr : BitVec 3) (d a b : BitVec 6) (w : BitVec 12) (sc : Scan), s.laneTakes l neg pr = true →
     (s.lane l.val).scan = some sc → (∀ k < sc.grains * 8, (s.laneFrame l k).isSome) →
     let i := (s.laneX l a + s.laneX l b).toNat
     (w.toNat < sc.grains * 8 → s.issues (.ldf l neg pr d w) fun t => ∃ v, LaneWrites s t l d v ∧ s.laneFrame l w.toNat = some v) ∧
     (w.toNat < sc.grains * 8 → s.issues (.stf l neg pr d w) fun t => LaneFrames s t l w.toNat (s.laneX l d)) ∧
     (i < sc.grains * 8 → s.issues (.ldfx l neg pr d a b) fun t => ∃ v, LaneWrites s t l d v ∧ s.laneFrame l i = some v) ∧
     (sc.grains * 8 ≤ i → s.issues (.ldfx l neg pr d a b) fun t => ∀ n, t.laneX l n = if n = d then 0 else s.laneX l n) ∧
     (sc.nconn < i → i < sc.grains * 8 → s.issues (.stfx l neg pr d a b) fun t => LaneFrames s t l i (s.laneX l d)) ∧
     (i ≤ sc.nconn ∨ sc.grains * 8 ≤ i → s.issues (.stfx l neg pr d a b) fun t => (∀ k, t.laneFrame l k = s.laneFrame l k) ∧ ∀ n, t.laneX l n = s.laneX l n)) ∧
  (∀ (s : State) (l : Fin 8) (neg : Bool) (pr : BitVec 3) (d a b : BitVec 6) (sc : Scan) (hd : W64), s.laneTakes l neg pr = true →
     (s.lane l.val).scan = some sc → s.laneFrame l 0 = some hd → sc.grains * 8 ≤ (s.laneX l a + s.laneX l b).toNat →
     s.issues (.ldfx l neg pr d a b) fun t => (s.flag (R.laneOofValid l.val) = false →
         t.flag (R.laneOofValid l.val) = true ∧ t.fld (R.laneOofInstance l.val) = hd.toNat % 2 ^ 32 ∧ t.fld (R.laneOofCount l.val) = 1 ∧
         ∃ e, t.events = s.events ++ [e] ∧ e.code = 5) ∧
       (s.flag (R.laneOofValid l.val) = true →
         t.fld (R.laneOofInstance l.val) = s.fld (R.laneOofInstance l.val) ∧
         t.fld (R.laneOofCount l.val) = min (s.fld (R.laneOofCount l.val) + 1) (2 ^ (R.laneOofCount l.val).len - 1) ∧ t.events = s.events))

/-- R126, R152, R272: LDF, STF, LDFX and STFX complete on every operand, inside the frame or outside it, wherever the frame's grains stand: the lane
goes on to the next word, counts one instruction retired and writes no register but X[D] of a load, no predicate and no memory. -/
def Obligations.FrameInstructionsComplete : Prop :=
  ∀ (s : State) (l : Fin 8) (neg : Bool) (pr : BitVec 3) (d a b : BitVec 6) (w : BitVec 12), s.laneTakes l neg pr = true →
    let done := fun (t : State) =>
      (t.lane l.val).scan = (s.lane l.val).scan.map Scan.on ∧ (t.lane l.val).main.issued = (s.lane l.val).main.issued + 1 ∧
        t.fld (R.laneRetireRetired l.val) = (s.fld (R.laneRetireRetired l.val) + 1) % 2 ^ 64 ∧
        (∀ p, t.laneP l p = s.laneP l p) ∧ (t.lane l.val).storeQ = (s.lane l.val).storeQ ∧ (∀ k, k ≠ l.val → t.lane k = s.lane k) ∧
        t.mem = s.mem ∧ t.classes = s.classes ∧ t.book = s.book ∧ t.pair = s.pair
    (s.issues (.ldf l neg pr d w) fun t => done t ∧ ∀ n, n ≠ d → t.laneX l n = s.laneX l n) ∧
    (s.issues (.ldfx l neg pr d a b) fun t => done t ∧ ∀ n, n ≠ d → t.laneX l n = s.laneX l n) ∧
    (s.issues (.stf l neg pr d w) fun t => done t ∧ ∀ n, t.laneX l n = s.laneX l n) ∧
    (s.issues (.stfx l neg pr d a b) fun t => done t ∧ ∀ n, t.laneX l n = s.laneX l n)

/-- R154, R163, R164: LDSV and LDSM give the prefetched record, a quality above 04h as 00h, GOOD and zeros for an unconnected connection;
STS and STSR queue one store of X[D] where OUT is 1 and drop it where OUT is 0; TSTC tells whether the connection is connected. -/
def Obligations.SignalInstructionsUseTheirConnection : Prop :=
  ∀ (s : State) (l : Fin 8) (neg : Bool) (pr p : BitVec 3) (d a : BitVec 6) (conn : BitVec 8) (sc : Scan) (cw : W64),
    s.laneTakes l neg pr = true → (s.lane l.val).scan = some sc → conn.toNat < sc.nconn → s.laneFrame l (conn.toNat + 1) = some cw →
    let r : Rec := (mget none (s.lane l.val).recs conn.toNat).getD ⟨0, 0, 4, 0⟩
    let q := if r.qual ≤ 4 then r.qual else 0
    let sig := cw.toNat % 2 ^ 18
    let out := cw.toNat / 2 ^ 62 = 0 ∧ cw.toNat / 2 ^ 61 % 2 = 1
    let x := (s.laneX l a).toNat
    (s.issues (.ldsv l neg pr d conn) fun t => LaneWrites s t l d r.value) ∧
    (s.issues (.ldsm l neg pr d conn) fun t => ∃ v, LaneWrites s t l d v ∧
      v.toNat = r.stamp % 2 ^ 48 + q % 256 * 2 ^ 48 + r.flags % 256 * 2 ^ 56) ∧
    (s.issues (.sts l neg pr d a conn) fun t => LaneQueues s t l (if out then [⟨sig, s.laneX l d, (s.cls sc.cls).flyTime % 2 ^ 48, x % 256, sc.cls⟩] else [])) ∧
    (s.issues (.stsr l neg pr d a conn) fun t => LaneQueues s t l (if out then [⟨sig, s.laneX l d, x % 2 ^ 48, x / 2 ^ 48 % 256, sc.cls⟩] else [])) ∧
    (s.issues (.tstc l neg pr p conn) fun t => LaneDecides s t l p (decide (cw.toNat / 2 ^ 62 ≠ 3)))

/-- R126, R127, R131, R141, R147: NOP changes nothing of the lane but its place in the code; END that takes effect ends the scan, clears FIRST of the
frame header, makes the next list entry due and counts the block. An instruction whose predicate does not hold writes no register, predicate, frame word, store or memory, and does not end the scan, whichever lane
instruction it is. A word that is not the next of the scan does nothing (the model's choice, log entry 60; the engine issues every word once, in address order:
R126). An opcode that no table assigns acts as NOP and is reported to the fault collector from source 10h + l, with the word address and bit 17 in its
detail. -/
def Obligations.NopEndAndWordsWithoutEffect : Prop :=
  (∀ (s : State) (l : Fin 8) (neg : Bool) (pr : BitVec 3), s.laneTakes l neg pr = true →
    (s.issues (.nop l neg pr) fun t => LaneKeeps s t l) ∧
    ∀ (sc : Scan) (hd : W64), (s.lane l.val).scan = some sc → s.laneFrame l 0 = some hd →
      s.issues (.endScan l neg pr) fun t => (t.lane l.val).scan = none ∧
        mget 0 (t.lane l.val).next sc.cls = sc.pos + 1 ∧
        (∀ n, t.laneX l n = s.laneX l n) ∧ (∀ p, t.laneP l p = s.laneP l p) ∧
        (∃ v, (t.lane l.val).word (t.lane l.val).main sc.frame 0 = some v ∧ v.toNat = hd.toNat - hd.toNat / 2 ^ 48 % 2 * 2 ^ 48) ∧
        t.fld (R.laneBlocksExecuted l.val) = (s.fld (R.laneBlocksExecuted l.val) + 1) % 2 ^ (R.laneBlocksExecuted l.val).len ∧
        (∀ k, k ≠ l.val → t.lane k = s.lane k) ∧ t.mem = s.mem) ∧
  (∀ (s : State) (l : Fin 8) (op : BitVec 8) (rest : BitVec 24), s.laneGoes l = true → opAssigned op.toNat = false →
     s.due (.unassignedOpcode l op rest) = true → ∃ t pc, exec (.unassignedOpcode l op rest) s = .next (t.report (0x10 + l.val) (pc + 2 ^ 17)) ∧ LaneKeeps s t l ∧
       (∀ sc, (s.lane l.val).scan = some sc → pc = sc.pc)) ∧
  (∀ (s : State) (i : Instr) (l : Fin 8) (w : BitVec 32), i.laneWord = some (l, w) → (∀ op rest, i ≠ .unassignedOpcode l op rest) →
     s.laneGoes l = true → s.laneP l (wordField w 20 3) = wordNot w → s.issues i fun t => LaneKeeps s t l) ∧
  (∀ (s : State) (i : Instr) (l : Fin 8) (w : BitVec 32), i.laneWord = some (l, w) → s.due i = false → exec i s = .next s)

/-- R240, R241: two engines in step stay in step through every lane instruction. -/
def Obligations.EnginesStayInStep : Prop :=
  ∀ (s : State) (i : Instr) (l : Fin 8) (w : BitVec 32), i.laneWord = some (l, w) → s.laneGoes l = true → (s.lane l.val).inStep →
    ∃ t, exec i s = .next t ∧ (t.lane l.val).inStep

/-- R144 to R154: the word of every lane instruction decodes to that instruction, with every operand. -/
def Obligations.LaneWordsDecodeToTheirInstruction : Prop :=
  ∀ (i : Instr) (l : Fin 8) (w : BitVec 32), i.laneWord = some (l, w) →
    (∀ op rest, i = .unassignedOpcode l op rest → opAssigned op.toNat = false) → decodeLaneWord l w = i


/-! ### The block as a whole: its queue of commands, its clock, its memory -/

/-- A step takes the command at the front of the queue and runs it with the rest of the queue (the block's form; the queue is the model's). With
no command waiting, one I16 clock passes (DESIGN CHOICE, assumption 1): each of the four bases advances by its own increment in 2^-32 ns (R395, R396), a
count of 64 bits of ns with a 32-bit fraction, and nothing else of the module changes. -/
def Obligations.StepTakesFrontCommand : Prop :=
  (∀ (c : Instr) (s : State), step { s with pending := c :: s.pending } = exec c s) ∧
  (∀ s : State, s.pending = [] → ∃ t, step s = .next t ∧ t = { s with tbs := t.tbs } ∧
    (∀ k < 4, t.tbFix k = (s.tbFix k + s.fld (R.timeTbIncInc k)) % 2 ^ 96) ∧ ∀ k, 4 ≤ k → t.tbFix k = s.tbFix k)

/-- R21, R48, R272, R395, R354, R392, R485, R588, R603: the machine right after reset: no command waits; every register of the tables holds its Cold value, but
RSTC_CAUSE, which names the power-on reset with cold reach, and RSTC_STRAP, which holds the strap decoded (DESIGN CHOICE, assumption 4); the pair state is start-up, no Book
runs, no lane is halted or stopped; the time bases read 0; no session is open; the tables are in canonical form. -/
def Obligations.ResetLeavesColdValues : Prop :=
  State.reset.canonical = true ∧ State.reset.pending = [] ∧
    (∀ a, a ≠ R.rstcCause.addr → a ≠ R.rstcStrap.addr → State.reset.reg a = regCold a) ∧
    State.reset.fld R.rstcCausePor = 1 ∧ State.reset.fld R.rstcCauseWidest = 4 ∧ State.reset.pstate = 0 ∧
    State.reset.fld R.bookModeMode = 0 ∧ State.reset.fld R.fabCtrlEtype = 0x88B5 ∧ State.reset.fld R.fabCtrlMacsec = 1 ∧
    State.reset.flag R.fabCtrlJoined = false ∧ State.reset.fld R.stnCtrlEtype = 0x88B6 ∧
    (∀ q : Fin 256, State.reset.fld (R.qmgrQCfgBase q.val) = ringBase q.val ∧ State.reset.fld (R.qmgrQCfgLog2size q.val) = ringLog q.val ∧
      State.reset.fld (R.qmgrQIdxPi q.val) = 0 ∧ State.reset.fld (R.qmgrQIdxCi q.val) = 0) ∧
    (∀ k < 4, State.reset.tb k = 0) ∧ (∀ l : Fin 8, (State.reset.lane l.val).main.halted = false ∧ (State.reset.lane l.val).stopped = false) ∧
    (∀ a, State.reset.byte a = memDefault a) ∧ ∀ p : Fin 32, (State.reset.sess p.val).isOpen = false

/-- R15: module memory is little-endian: of a word written at `a`, byte `i` stands at `a + i`; a word read back is the word written; bytes and words
elsewhere are kept; memory stays in canonical form. -/
def Obligations.MemoryIsLittleEndian : Prop :=
  ∀ (s : State) (a : Nat) (w : W64),
    (∀ i < 8, (s.wr64 a w).byte (a + i) = w.extractLsb' (8 * i) 8) ∧ (s.wr64 a w).rd64 a = w ∧
    (∀ c, c < a ∨ a + 8 ≤ c → (s.wr64 a w).byte c = s.byte c) ∧
    (∀ c, c + 8 ≤ a ∨ a + 8 ≤ c → (s.wr64 a w).rd64 c = s.rd64 c) ∧
    (Memory.wf s.mem = true → Memory.wf (s.wr64 a w).mem = true) ∧
    (∀ lo hi c, (s.clearRange lo hi).byte c = if lo ≤ c ∧ c < hi then memDefault c else s.byte c)

/-- Memory and the register file stay in their canonical form, and the time bases within 64 bits of ns with a 32-bit fraction (R395), through
every step: no command writes a byte, a register word or a base outside the model's own operations. -/
def Obligations.EveryStepKeepsCanonicalForm : Prop :=
  ∀ s t : State, s.canonical = true → step s = .next t → t.canonical = true

/-- No command changes the queue of the commands that wait behind it: they come from outside, and leave the queue in order. -/
def Obligations.CommandsLeaveTheQueueAlone : Prop :=
  ∀ (c : Instr) (s t : State), exec c s = .next t → t.pending = s.pending

/-! ### Register clears, locks, writes -/

/-- R84, R122, R269, R320, R355, R393, R422, R440, R469, R489, R523, R578, R588, R594: each clear that reaches its register sets what it clears to 0
(MIN_SLACK to FFFF_FFFFh) and changes no other bit of any register and nothing else of the module. -/
def Obligations.ClearsZeroWhatTheyClear : Prop :=
  ∀ (s : State) (m : Fin 16),
    (s.reaches m R.dirOwnfltValid → ∃ t, exec (.dirOwnfltClear m none) s = .next t ∧ Cleared s t [R.dirOwnfltValid, R.dirOwnfltCount]) ∧
    (∀ c : Fin 8, s.reaches m (R.bookTcCountClear c.val) → ∃ t, exec (.bookStatsClear m c none) s = .next t ∧
      WroteOnly s t [R.bookTcMaxMinSlack c.val, R.bookTcCountOverruns c.val, R.bookTcCountSkips c.val, R.bookTcMaxMaxRun c.val] ∧
      t.fld (R.bookTcMaxMinSlack c.val) = 0xFFFFFFFF ∧ t.fld (R.bookTcCountOverruns c.val) = 0 ∧ t.fld (R.bookTcCountSkips c.val) = 0 ∧
      t.fld (R.bookTcMaxMaxRun c.val) = 0) ∧
    (∀ l : Fin 8, s.reaches m (R.laneOofValid l.val) → ∃ t, exec (.laneOofClear m l none) s = .next t ∧
      Cleared s t [R.laneOofValid l.val, R.laneOofCount l.val]) ∧
    (s.reaches m R.cmpFaultValid → ∃ t, exec (.cmpFaultClear m none) s = .next t ∧ Cleared s t [R.cmpFaultValid, R.cmpFaultCount]) ∧
    (s.reaches m R.pairFenceMismatch → ∃ t, exec (.pairFenceMismatchClear m false) s = .next t ∧ Cleared s t [R.pairFenceMismatch]) ∧
    (s.reaches m R.pairLinkClear → ∃ t, exec (.pairLinkCntClear m) s = .next t ∧ Cleared s t [R.pairLinkRetry, R.pairLinkLosses]) ∧
    (s.reaches m R.pairTakeValid → ∃ t, exec (.pairTakeClear m none) s = .next t ∧ Cleared s t [R.pairTakeValid]) ∧
    (∀ r : Fin 2, s.reaches m (R.stnRingCntClear r.val) → ∃ t, exec (.stnRingCntClear m r none) s = .next t ∧
      Cleared s t [R.stnRingCntCrcerr r.val, R.stnRingCntLate r.val, R.stnRingCntForeign r.val, R.stnRingCntSkew r.val]) ∧
    (∀ n : Fin 256, s.reaches m (R.stnSt1Clear n.val) → ∃ t, exec (.stnStationCntClear m n none) s = .next t ∧
      Cleared s t [R.stnStUndelivered n.val, R.stnSt1Losses n.val]) ∧
    (∀ p : Fin 2, s.reaches m (R.fabPortCntClear (p.val + 2)) → ∃ t, exec (.fabPortCntClear m p none) s = .next t ∧
      Cleared s t [R.fabPortCntCrcerr (p.val + 2), R.fabPortCntHops (p.val + 2), R.fabPortCntDropped (p.val + 2),
        R.fabPortCntUnreach (p.val + 2)]) ∧
    (∀ i : Fin 2, s.reaches m (R.timeTpiCtlClear i.val) → ∃ t, exec (.tpiCntClear m i none) s = .next t ∧
      Cleared s t [R.timeTpiCtlCount i.val, R.timeTpiCtlMissed i.val]) ∧
    (∀ p : Fin 4, s.reaches m (R.portPtpClear p.val) → ∃ t, exec (.ptpLostClear m p false) s = .next t ∧ Cleared s t [R.portPtpLost p.val]) ∧
    (s.reaches m R.fcolCtrlAclear → ∃ t, exec (.fcolAclear m none) s = .next t ∧ Cleared s t [R.fcolStatusAcount]) ∧
    (s.reaches m R.fcolFirst0Valid → ∃ t, exec (.fcolFirstClear m []) s = .next t ∧ Cleared s t [R.fcolFirst0Valid, R.fcolStatusWorst]) ∧
    (s.reaches m R.acfgViolValid → ∃ t, exec (.acfgViolClear m none) s = .next t ∧ Cleared s t [R.acfgViolValid, R.acfgViolInfoCount]) ∧
    (∀ q : Fin 256, s.reaches m (R.qmgrQCfgClear q.val) → ∃ t, exec (.qmgrLostClear m q false) s = .next t ∧
      Cleared s t [R.qmgrQCfgLost q.val]) ∧
    (s.reaches m R.hostStatusClear → ∃ t, exec (.hostCntClear m none) s = .next t ∧
      Cleared s t [R.hostStatusIdxErr, R.hostStatusRingErr, R.hostStatusApErr]) ∧
    (s.reaches m R.hostStatusLinkLost → ∃ t, exec (.hostLinkLostClear m false) s = .next t ∧ Cleared s t [R.hostStatusLinkLost]) ∧
    (s.reaches m R.fldStatusClear → ∃ t, exec (.fldLinklossClear m false) s = .next t ∧ Cleared s t [R.fldStatusLinkloss]) ∧
    (∀ k : Fin 4, s.reaches m (R.fldAoFlagsOpenL k.val) → ∀ mask : BitVec 3, ∃ t, exec (.fldAoFlagsClear m k mask none) s = .next t ∧
      Cleared s t ((if mask.getLsbD 0 then [R.fldAoFlagsOpenL k.val] else []) ++ (if mask.getLsbD 1 then [R.fldAoFlagsComplL k.val] else []) ++
        (if mask.getLsbD 2 then [R.fldAoFlagsStageL k.val] else []))) ∧
    (∀ n : Fin 2, s.reaches m (R.canCntClear n.val) → ∃ t, exec (.canCntClearReg m n none) s = .next t ∧
      Cleared s t [R.canCntTxok n.val, R.canCntRxok n.val, R.canCntErrors n.val, R.canCntOvf0 n.val, R.canCntOvf1 n.val]) ∧
    (∀ (n : Fin 2) (k : Fin 256), s.reaches m (R.canObj1New n.val k.val) → ∃ t, exec (.canObjNewClear m n k false) s = .next t ∧
      Cleared s t [R.canObj1New n.val k.val]) ∧
    (∀ debug island : Bool, s.reaches m R.rstcCauseDebug → ∃ t, exec (.rstcCauseClear m debug island none) s = .next t ∧
      Cleared s t ((if debug then [R.rstcCauseDebug] else []) ++ (if island then [R.rstcCauseIsland] else [])))

/-- R18, R84, R122, R321, R355, R393: an occurrence in the clock of the clear is counted, or latched, after the clear: the counter that counts it
reads 1, the others 0; a bit that it sets reads 1. -/
def Obligations.OccurrenceInTheClearingClockCountsAfterIt : Prop :=
  ∀ (s : State) (m : Fin 16),
    (∀ (g : BitVec 18) (w : Fin 16) (c : Fin 8), s.reaches m R.dirOwnfltValid → ∃ t,
      exec (.dirOwnfltClear m (some (g, w, c))) s = .next t ∧ t.flag R.dirOwnfltValid = true ∧ t.fld R.dirOwnfltCount = 1 ∧
      t.fld R.dirOwnfltSignal = g.toNat ∧ t.fld R.dirOwnfltMaster = w.val ∧
      t.fld R.dirOwnfltClass = (if w.val < 8 then c.val else 0)) ∧
    (∀ (c : Fin 8) (skip held stopped : Bool), s.reaches m (R.bookTcCountClear c.val) → ∃ t,
      exec (.bookStatsClear m c (some (skip, held, stopped))) s = .next t ∧
      t.fld (R.bookTcCountOverruns c.val) = (if (s.cls c.val).winOver then 1 else 0) ∧
      t.fld (R.bookTcCountSkips c.val) = (if skip then 1 else 0) ∧
      t.fld (R.bookTcMaxMaxRun c.val) = (if (s.cls c.val).winPub then (s.cls c.val).winRun % 2 ^ 32 else 0) ∧
      t.fld (R.bookTcMaxMinSlack c.val) = (if (s.cls c.val).winOver then 0 else
        if (s.cls c.val).winPub then min (s.cls c.val).winSlack 0xFFFFFFFF else 0xFFFFFFFF)) ∧
    (s.reaches m R.pairFenceMismatch → ∃ t, exec (.pairFenceMismatchClear m true) s = .next t ∧ WroteOnly s t [R.pairFenceMismatch] ∧
      t.flag R.pairFenceMismatch = true) ∧
    (∀ (w : BitVec 32) (cause : BitVec 4) (role : Bool), s.reaches m R.pairTakeValid → ∃ t,
      exec (.pairTakeClear m (some (w, cause, role))) s = .next t ∧ t.flag R.pairTakeValid = true ∧ t.fld R.pairTakeWatch = w.toNat ∧
      t.fld R.pairTakeCause = cause.toNat ∧ t.flag R.pairTakeRole = role) ∧
    (∀ (r : Fin 2) (k : Fin 4), s.reaches m (R.stnRingCntClear r.val) → ∃ t, exec (.stnRingCntClear m r (some k)) s = .next t ∧
      ClearedThenOne s t [R.stnRingCntCrcerr r.val, R.stnRingCntLate r.val, R.stnRingCntForeign r.val, R.stnRingCntSkew r.val]
        ([R.stnRingCntCrcerr r.val, R.stnRingCntLate r.val, R.stnRingCntForeign r.val, R.stnRingCntSkew r.val][k])) ∧
    (∀ (n : Fin 256) (b : Bool), s.reaches m (R.stnSt1Clear n.val) → ∃ t, exec (.stnStationCntClear m n (some b)) s = .next t ∧
      ClearedThenOne s t [R.stnStUndelivered n.val, R.stnSt1Losses n.val] (if b then R.stnStUndelivered n.val else R.stnSt1Losses n.val)) ∧
    (∀ (p : Fin 2) (k : Fin 4), s.reaches m (R.fabPortCntClear (p.val + 2)) → ∃ t, exec (.fabPortCntClear m p (some k)) s = .next t ∧
      ClearedThenOne s t [R.fabPortCntCrcerr (p.val + 2), R.fabPortCntHops (p.val + 2), R.fabPortCntDropped (p.val + 2),
          R.fabPortCntUnreach (p.val + 2)]
        ([R.fabPortCntCrcerr (p.val + 2), R.fabPortCntHops (p.val + 2), R.fabPortCntDropped (p.val + 2), R.fabPortCntUnreach (p.val + 2)][k])) ∧
    (∀ (i : Fin 2) (b : Bool), s.reaches m (R.timeTpiCtlClear i.val) → ∃ t, exec (.tpiCntClear m i (some b)) s = .next t ∧
      ClearedThenOne s t [R.timeTpiCtlCount i.val, R.timeTpiCtlMissed i.val] (if b then R.timeTpiCtlCount i.val else R.timeTpiCtlMissed i.val)) ∧
    (∀ p : Fin 4, s.reaches m (R.portPtpClear p.val) → ∃ t, exec (.ptpLostClear m p true) s = .next t ∧
      ClearedThenOne s t [R.portPtpLost p.val] (R.portPtpLost p.val)) ∧
    (∀ q : Fin 256, s.reaches m (R.qmgrQCfgClear q.val) → ∃ t, exec (.qmgrLostClear m q true) s = .next t ∧
      ClearedThenOne s t [R.qmgrQCfgLost q.val] (R.qmgrQCfgLost q.val)) ∧
    (∀ k : Fin 3, s.reaches m R.hostStatusClear → ∃ t, exec (.hostCntClear m (some k)) s = .next t ∧
      ClearedThenOne s t [R.hostStatusIdxErr, R.hostStatusRingErr, R.hostStatusApErr]
        ([R.hostStatusIdxErr, R.hostStatusRingErr, R.hostStatusApErr][k])) ∧
    (s.reaches m R.hostStatusLinkLost → ∃ t, exec (.hostLinkLostClear m true) s = .next t ∧
      ClearedThenOne s t [R.hostStatusLinkLost] R.hostStatusLinkLost) ∧
    (s.reaches m R.fldStatusClear → ∃ t, exec (.fldLinklossClear m true) s = .next t ∧
      ClearedThenOne s t [R.fldStatusLinkloss] R.fldStatusLinkloss) ∧
    (∀ (n : Fin 2) (k : Fin 5), s.reaches m (R.canCntClear n.val) → ∃ t, exec (.canCntClearReg m n (some k)) s = .next t ∧
      ClearedThenOne s t [R.canCntTxok n.val, R.canCntRxok n.val, R.canCntErrors n.val, R.canCntOvf0 n.val, R.canCntOvf1 n.val]
        ([R.canCntTxok n.val, R.canCntRxok n.val, R.canCntErrors n.val, R.canCntOvf0 n.val, R.canCntOvf1 n.val][k])) ∧
    (∀ (n : Fin 2) (k : Fin 256), s.reaches m (R.canObj1New n.val k.val) → ∃ t, exec (.canObjNewClear m n k true) s = .next t ∧
      ClearedThenOne s t [R.canObj1New n.val k.val] (R.canObj1New n.val k.val))

/-- R270, R354, R392, R440, R481, R522: a write of LOCK that reaches its register closes the configuration lock of the block and changes nothing
else. -/
def Obligations.LocksClose : Prop :=
  ∀ (s : State) (m : Fin 16),
    (s.reaches m R.cmpCtrlLock → ∃ t, exec (.cmpLock m) s = .next t ∧ WroteOnly s t [R.cmpCtrlLocked] ∧ t.lockClosed 0x28 = true) ∧
    (s.reaches m R.stnCtrlLock → ∃ t, exec (.stnLock m) s = .next t ∧ WroteOnly s t [R.stnCtrlLocked] ∧ t.lockClosed 0x05 = true) ∧
    (s.reaches m R.fabCtrlLock → ∃ t, exec (.fabLock m) s = .next t ∧ WroteOnly s t [R.fabCtrlLocked] ∧ t.lockClosed 0x06 = true) ∧
    (s.reaches m R.fcolCtrlLock → ∃ t, exec (.fcolLock m) s = .next t ∧ WroteOnly s t [R.fcolCtrlLocked] ∧ t.lockClosed 0x01 = true) ∧
    (s.reaches m R.acfgCtrlLock → ∃ t, exec (.acfgLock m) s = .next t ∧ WroteOnly s t [R.acfgCtrlLocked] ∧ t.lockClosed 0x02 = true) ∧
    (s.reaches m R.hostCtrlLock → ∃ t, exec (.hostLock m) s = .next t ∧ WroteOnly s t [R.hostCtrlLocked] ∧ t.lockClosed 0x0C = true)

/-- R16, R19, R20, R35, R83, R122, R173, R269, R440, R449, R469, R594: a write of 4 or 8 bytes that reaches a register without an action of its own completes whatever its fields are. It leaves every field
that is RO or reserved, and every field outside the bytes written; it clears a one-bit W1C field where it carries a 1; it leaves every RWL field of a
block whose lock is closed, and answers with an error if it carried another value for one; an RW field takes the value, or keeps its own and the answer is an
error; a field that the Binnacle sets takes the value from master 8 alone; and no other register changes. A write of a register with an action performs
it: it resets the module, clears a counter with its latch, takes a snapshot, or refuses a value or a closed lock with an error, as the register's table
says. -/
def Obligations.RegisterWritesFollowAccessTypes : Prop :=
  (∀ (s : State) (m : Fin 16) (slot : Fin 256) (off : Fin 65536) (wide : Bool) (v : W64) (r : RegRow),
    let a := slot.val * 0x10000 + off.val / 8 * 8
    let lo := off.val % 8 * 8
    let val := fun (f : FieldRow) => if wide then getBits v f.lo f.len else getBits v (f.lo - lo) f.len
    regOf a = some r → off.val % (if wide then 8 else 4) = 0 → (∀ w full u, State.regAct a w full u = (u, false)) →
    s.reaches m ⟨slot.val * 0x10000 + off.val, 0, 64⟩ →
    ∃ t, exec (.registerWrite m slot off wide v) s = .next t ∧ t = { s with regs := t.regs, bus := ⟨t.bus.err, 0⟩ } ∧
      (∀ b, b ≠ a → t.reg b = s.reg b) ∧
      ∀ f ∈ r.fields,
        let g : Fld := ⟨a, f.lo, f.len⟩
        ((f.acc = .ro ∨ f.acc = .rsv) → t.fld g = s.fld g) ∧
        (wide = false → f.lo + f.len ≤ lo ∨ lo + 32 ≤ f.lo → t.fld g = s.fld g) ∧
        (wide = true ∨ (lo ≤ f.lo ∧ f.lo + f.len ≤ lo + 32) →
          (f.acc = .bin → t.fld g = if m.val = 8 then val f else s.fld g) ∧
          (f.acc = .w1c → f.len = 1 → t.fld g = if val f = 1 then 0 else s.fld g) ∧
          (f.acc = .rwl → s.lockClosed slot.val = true → t.fld g = s.fld g ∧ (val f ≠ s.fld g → t.bus.err = true)) ∧
          (f.acc = .rw → ownRow a f.lo = false → t.fld g = val f ∨ (t.fld g = s.fld g ∧ t.bus.err = true)))) ∧
  (∀ (s : State) (m : Fin 16),
    (s.reaches m R.rstcSwrstWarm → s.rst.episode = none → ∃ t, exec (.registerWrite m 0 8 true 1) s = .next t ∧ 4 ∈ t.rst.on ∧
      t.rst.episode = some false ∧ t.flag R.rstcCauseSwwarm = true ∧ t.bus = ⟨false, 0⟩) ∧
    (∀ v : BitVec 9, s.reaches m R.rstcHoldLimit → ∃ t, exec (.registerWrite m 0 0x30 true (v.setWidth 64)) s = .next t ∧
      t = { s with regs := t.regs, bus := ⟨decide (500 < v.toNat), 0⟩ } ∧
      t.fld R.rstcHoldLimit = if 500 < v.toNat then s.fld R.rstcHoldLimit else v.toNat) ∧
    (s.reaches m R.fcolCtrlAclear → s.flag R.fcolCtrlTest = false → ∃ t, exec (.registerWrite m 1 0x10 true 4) s = .next t ∧ Cleared s t [R.fcolStatusAcount]) ∧
    (∀ v : W64, s.reaches m R.fcolTestSource → s.flag R.fcolCtrlLocked = true →
      (v.toNat % 2 ^ 7 ≠ s.fld R.fcolTestSource ∨ v.toNat / 2 ^ 7 % 4 ≠ s.fld R.fcolTestPattern) →
      ∃ t, exec (.registerWrite m 1 0x18 true v) s = .next t ∧
        t = { s with regs := t.regs, bus := ⟨true, 0⟩ } ∧ FldsKept s t []) ∧
    (s.reaches m R.timeCtrlSnap → ∃ t, exec (.registerWrite m 3 0 true 1) s = .next t ∧ t.bus.err = false ∧
      ∀ n < 4, t.fld (R.timeTbSnapNs n) = s.tb n % 2 ^ 64) ∧
    (∀ l : Fin 8, s.reaches m (R.laneOofValid l.val) →
      ∃ t, exec (.registerWrite m ⟨0x20 + l.val, by omega⟩ 0x18 true (BitVec.ofNat 64 (2 ^ 63))) s = .next t ∧
        Cleared s t [R.laneOofValid l.val, R.laneOofCount l.val]) ∧
    (s.reaches m R.cmpFaultValid → ∃ t, exec (.registerWrite m 0x28 0x10 true (BitVec.ofNat 64 (2 ^ 63))) s = .next t ∧
      Cleared s t [R.cmpFaultValid, R.cmpFaultCount]) ∧
    (s.reaches m R.dirOwnfltValid → ∃ t, exec (.registerWrite m 0x32 8 true (BitVec.ofNat 64 (2 ^ 63))) s = .next t ∧
      Cleared s t [R.dirOwnfltValid, R.dirOwnfltCount]) ∧
    (s.reaches m R.acfgViolValid → ∃ t, exec (.registerWrite m 2 8 true (BitVec.ofNat 64 (2 ^ 63))) s = .next t ∧
      Cleared s t [R.acfgViolValid, R.acfgViolInfoCount]))

/-- R396, R397, R422, R594: a snapshot copies the four bases; an increment inside the range of its base is taken, one outside is turned away; a
step adds its nanoseconds to the base with the fraction unchanged, and is turned away for TB3 and, while BOOK_MODE MODE is not 0, for TB2;
RSTC_HOLD takes a limit up to 500. -/
def Obligations.TimeAndHoldWritesCheckTheirRanges : Prop :=
  ∀ (s : State) (m : Fin 16),
    (s.reaches m R.timeCtrlSnap → ∃ t, exec (.timeSnap m) s = .next t ∧ WroteOnly s t ((List.range 4).map R.timeTbSnapNs) ∧
      ∀ n < 4, t.fld (R.timeTbSnapNs n) = s.tb n % 2 ^ 64) ∧
    (∀ (n : Fin 4) (v : W64), s.reaches m (R.timeTbIncInc n.val) →
      let inc : Int := v.toNat % 2 ^ 36
      let ppm : Int := [1000, 1000, 500, 100][n]
      (|inc - 4 * 2 ^ 32| * 1000000 ≤ ppm * (4 * 2 ^ 32) →
        ∃ t, exec (.timeIncWrite m n v) s = .next t ∧ WroteOnly s t [R.timeTbIncInc n.val] ∧ (t.tbInc n.val : Int) = inc) ∧
      (ppm * (4 * 2 ^ 32) < |inc - 4 * 2 ^ 32| * 1000000 → ∃ t, exec (.timeIncWrite m n v) s = .next t ∧ TurnedAway s t)) ∧
    (∀ (n : Fin 4) (v : W64), s.reaches m (R.timeTbStepStep n.val) →
      (n = 3 ∨ (n = 2 ∧ s.fld R.bookModeMode ≠ 0) → ∃ t, exec (.timeStepWrite m n v) s = .next t ∧ TurnedAway s t) ∧
      (n ≠ 3 → ¬(n = 2 ∧ s.fld R.bookModeMode ≠ 0) →
        (∀ k < 4, s.flag (R.timeTpoCfgEn k) = true → s.fld (R.timeTpoCfgBase k) ≠ n.val) →
        ∃ t, exec (.timeStepWrite m n v) s = .next t ∧ t = { s with tbs := t.tbs, bus := ⟨false, 0⟩, classes := t.classes } ∧ (n ≠ 2 → t.classes = s.classes) ∧
          (∀ c, (t.cls c).flyTime = (s.cls c).flyTime ∧ (t.cls c).inFlight = (s.cls c).inFlight) ∧
          (∀ k, k ≠ n.val → t.tbFix k = s.tbFix k) ∧ t.tbFix n.val % 2 ^ 32 = s.tbFix n.val % 2 ^ 32 ∧
          (t.tb n.val : Int) ≡ s.tb n.val + v.toInt [ZMOD 2 ^ 64])) ∧
    (∀ v : BitVec 9, s.reaches m R.rstcHoldLimit →
      (v.toNat ≤ 500 → ∃ t, exec (.rstcHoldWrite m v) s = .next t ∧ WroteOnly s t [R.rstcHoldLimit] ∧ t.fld R.rstcHoldLimit = v.toNat) ∧
      (500 < v.toNat → ∃ t, exec (.rstcHoldWrite m v) s = .next t ∧ TurnedAway s t))

/-- R452, R462, R481: a tag write gives the grain its colour and no other grain; colour 15 and a grain above B_FFFFh write nothing and return an
error. A load whose enabled windows have BASE at most LIMIT, a colour other than 15 and no overlap is accepted: windows, master tables and slot
words go into force. Any other load leaves LOADED 0 and sets LOADERR, and what is in force stays; with the lock closed it returns an error and
does nothing. -/
def Obligations.TagWritesAndLoads : Prop :=
  ∀ (s : State) (m : Fin 16),
    (∀ (g : BitVec 20) (c : BitVec 4), s.reaches m R.acfgTagwGo →
      ∃ t, exec (.acfgTagWrite m g c) s = .next t ∧ t = { s with regs := t.regs, bus := t.bus, acc := { s.acc with tags := t.acc.tags } } ∧
        FldsKept s t [R.acfgTagwGrain, R.acfgTagwColour] ∧ t.fld R.acfgTagwGrain = g.toNat ∧ t.fld R.acfgTagwColour = c.toNat ∧
        if c = 15 ∨ 0xBFFFF < g.toNat then t.bus = ⟨true, 0⟩ ∧ t.acc = s.acc
        else t.bus = ⟨false, 0⟩ ∧ ∀ k, mget none t.acc.tags k = if k = g.toNat then some c.toNat else mget none s.acc.tags k) ∧
    (s.reaches m R.acfgCtrlLoad → s.flag R.acfgCtrlLocked = true → ∃ t, exec (.acfgLoad m) s = .next t ∧ TurnedAway s t) ∧
    (s.reaches m R.acfgCtrlLoad → s.flag R.acfgCtrlLocked = false →
      let good := ∀ w < 64, s.flag (R.acfgWinEn w) = true →
        s.fld (R.acfgWinBase w) ≤ s.fld (R.acfgWinLimit w) ∧ s.fld (R.acfgWinColour w) ≠ 15 ∧
        ∀ v < w, s.flag (R.acfgWinEn v) = true →
          s.fld (R.acfgWinLimit v) < s.fld (R.acfgWinBase w) ∨ s.fld (R.acfgWinLimit w) < s.fld (R.acfgWinBase v)
      ∃ t, exec (.acfgLoad m) s = .next t ∧
        (good → WroteOnly { s with acc := t.acc } t [R.acfgCtrlLoaded, R.acfgCtrlLoaderr] ∧ t.flag R.acfgCtrlLoaded = true ∧
          t.flag R.acfgCtrlLoaderr = false ∧
          (∀ w < 64, mget 0 t.acc.force (R.acfgWin w).addr = mget 0 s.regs (R.acfgWin w).addr) ∧
          (∀ i < 16, ∀ k < 3, mget 0 t.acc.force (R.acfgMt i k).addr = mget 0 s.regs (R.acfgMt i k).addr) ∧
          (∀ n < 256, mget 0 t.acc.force (R.acfgSlot n).addr = mget 0 s.regs (R.acfgSlot n).addr)) ∧
        (¬good → WroteOnly s t [R.acfgCtrlLoaded, R.acfgCtrlLoaderr, R.acfgCtrlErrA, R.acfgCtrlErrB] ∧ t.flag R.acfgCtrlLoaded = false ∧
          t.flag R.acfgCtrlLoaderr = true))


/-! ### The debugger, the test access port, the comparator's own commands -/

/-- R259, R260, R272, R273: what each granted debugger action does to a lane: HALT and a breakpoint stop it, STEP issues one instruction and it
stays stopped, RESUME lets it go on, a register, predicate or frame word write sets that and nothing else; each waits for the checker in the
replay queue. A read returns the register in LANEn_DBGDATA and is not queued. The queue holds 64 entries: an action that finds it full is
refused with an error and is not performed; a read changes no lane, whatever it names (R260). -/
def Obligations.DebuggerActionsOnALane : Prop :=
  ∀ (s : State) (l : Fin 8),
    let ln := s.lane l.val
    (s.laneGranted l = true → ln.main.halted = false → ∃ t, exec (.laneDebugHalt l) s = .next t ∧ t.bus = ⟨false, 0⟩ ∧
      LaneActed s t l .halt { ln.main with halted := true } []) ∧
    (s.laneGranted l = true → ln.main.halted = true → ∃ t, exec (.laneDebugResume l) s = .next t ∧ t.bus = ⟨false, 0⟩ ∧
      LaneActed s t l .resume { ln.main with halted := false } []) ∧
    (∀ (neg : Bool) (pr : BitVec 3) (d a b : BitVec 6), s.laneGranted l = true → ln.main.halted = true → ln.stopped = false →
      s.laneDue l.val (wordR 0x10 neg pr d a b) = true → (s.laneP l pr != neg) = true →
      ∃ t v, exec (.laneDebugStep l (wordR 0x10 neg pr d a b)) s = .next t ∧ t.bus = ⟨false, 0⟩ ∧
        v.toInt = clamp64 ((s.laneX l a).toInt + (s.laneX l b).toInt) ∧ (∀ n, t.laneX l n = if n = d then v else s.laneX l n) ∧
        (t.lane l.val).main.halted = true ∧ (t.lane l.val).main.p = ln.main.p ∧ (t.lane l.val).main.fc = ln.main.fc ∧
        (t.lane l.val).main.issued = ln.main.issued + 1 ∧
        t.fld (R.laneRetireRetired l.val) = (s.fld (R.laneRetireRetired l.val) + 1) % 2 ^ 64 ∧ ∀ k, k ≠ l.val → t.lane k = s.lane k) ∧
    (∀ (i : BitVec 6) (w : BitVec 13), s.laneGranted l = true → ln.main.halted = true →
      let v := s.reg (R.laneDbgdata l.val).addr
      let fs := [R.laneDbgaccIndex l.val, R.laneDbgaccSpace l.val, R.laneDbgaccWord l.val, R.logbStatusRate, R.logbStatusBacklog]
      (∃ t, exec (.laneDebugWrite l i 0 w) s = .next t ∧ t.bus = ⟨false, 0⟩ ∧ LaneActed s t l (.setX i.toNat v) (t.lane l.val).main fs ∧
        (t.lane l.val).main = { ln.main with x := (t.lane l.val).main.x } ∧ ∀ n, t.laneX l n = if n = i then v else s.laneX l n) ∧
      (∃ t, exec (.laneDebugWrite l i 1 w) s = .next t ∧ t.bus = ⟨false, 0⟩ ∧
        LaneActed s t l (.setP (i.toNat % 8) (v.getLsbD 0)) (t.lane l.val).main fs ∧
        (t.lane l.val).main = { ln.main with p := (t.lane l.val).main.p } ∧
        ∀ n : BitVec 3, t.laneP l n = if n.toNat = i.toNat % 8 ∧ n ≠ 0 then v.getLsbD 0 else s.laneP l n) ∧
      (w.toNat < 7168 → ∃ t, exec (.laneDebugWrite l i 2 w) s = .next t ∧ t.bus = ⟨false, 0⟩ ∧
        LaneActed s t l (.setWord w.toNat v) (t.lane l.val).main fs ∧ (t.lane l.val).main = { ln.main with fc := (t.lane l.val).main.fc } ∧
        ∀ n, mget 0 (t.lane l.val).main.fc n = if n = w.toNat then v else mget 0 ln.main.fc n)) ∧
    (∀ (i : BitVec 6) (w : BitVec 13), s.laneGranted l = true → ln.main.halted = true →
      ∃ t, exec (.laneDebugRead l i 0 w) s = .next t ∧
        WroteOnly s t [R.laneDbgaccIndex l.val, R.laneDbgaccSpace l.val, R.laneDbgaccWord l.val, R.laneDbgdata l.val] ∧
        t.reg (R.laneDbgdata l.val).addr = s.laneX l i) ∧
    (∀ (neg : Bool) (pr : BitVec 3) (d a b i : BitVec 6) (sp : BitVec 2) (w : BitVec 13) (c : Instr), s.laneOpen l = true → 64 ≤ ln.dbgQ.length →
      ((c = .laneDebugHalt l ∧ ln.main.halted = false) ∨ (ln.main.halted = true ∧
        (c = .laneDebugResume l ∨ c = .laneDebugStep l (wordR 0x10 neg pr d a b) ∨ c = .laneDebugWrite l i sp w))) →
      ∃ t, exec c s = .next t ∧ t.bus = ⟨true, 0⟩ ∧ t = { s with regs := t.regs, bus := t.bus } ∧
        FldsKept s t [R.laneDbgaccIndex l.val, R.laneDbgaccSpace l.val, R.laneDbgaccWord l.val]) ∧
    (64 ≤ ln.dbgQ.length → exec (.breakpointHit l) s = .next s) ∧
    (∀ (i : BitVec 6) (sp : BitVec 2) (w : BitVec 13), s.laneOpen l = true → ∃ t, exec (.laneDebugRead l i sp w) s = .next t ∧
      t = { s with regs := t.regs, bus := t.bus } ∧
      FldsKept s t [R.laneDbgaccIndex l.val, R.laneDbgaccSpace l.val, R.laneDbgaccWord l.val, R.laneDbgdata l.val]) ∧
    (∀ sc, ln.scan = some sc → s.flag (R.laneDbgctlBreakEn l.val) = true → sc.pc = s.fld (R.laneDbgctlBreakAddr l.val) →
      sc.bank = s.fld (R.laneDbgctlBreakBank l.val) → ln.main.halted = false → ln.dbgQ.length < 64 →
      ∃ t, exec (.breakpointHit l) s = .next t ∧ t.bus = s.bus ∧ LaneActed s t l .halt { ln.main with halted := true } [])

/-- R259, R478: the checker performs, in order, the entries at the front of the replay queue whose retire point its own count has reached, and
the rest wait. A gate told to close closes once every queue is empty; where no lane is halted and no queue holds an entry, DEBUG_CLOSE closes it
at once. -/
def Obligations.ReplayQueuesAndTheGate : Prop :=
  ∀ s : State,
    (∀ (l : Fin 8) (done wait : List DbgEntry), (s.lane l.val).dbgQ = done ++ wait → (∀ e ∈ done, e.at_ = (s.lane l.val).chk.issued) →
      (∀ e ∈ wait.head?, e.at_ ≠ (s.lane l.val).chk.issued) → s.acc.closing = false →
      ∃ t, exec (.debugQueuePerform l) s = .next t ∧ t = { s with regs := t.regs, lanes := t.lanes } ∧
        (∀ k, k ≠ l.val → t.lane k = s.lane k) ∧
        t.lane l.val = { s.lane l.val with dbgQ := wait, chk := done.foldl (fun e d => d.act.perform e) (s.lane l.val).chk } ∧
        FldsKept s t [R.laneDbgstatPending l.val, R.laneDbgstatDepth l.val] ∧
        t.flag (R.laneDbgstatPending l.val) = !wait.isEmpty ∧ t.fld (R.laneDbgstatDepth l.val) = wait.length % 128) ∧
    (∀ l : Fin 8, s.acc.closing = true → (∀ k < 8, k ≠ l.val → (s.lane k).dbgQ = []) →
      (∀ e ∈ (s.lane l.val).dbgQ, e.at_ = (s.lane l.val).chk.issued) →
      ∃ t, exec (.debugQueuePerform l) s = .next t ∧ t.flag R.dbgGateOpen = false ∧ t.fld R.dbgGateScope = 0 ∧ t.acc.closing = false ∧
        (t.lane l.val).dbgQ = [] ∧ (t.lane l.val).main = (s.lane l.val).main) ∧
    (∀ m : Fin 16, s.reaches m R.dbgGateOpen → (∀ k < 8, (s.lane k).main.halted = false ∧ (s.lane k).dbgQ = []) →
      s.flag R.dbgGateOpen = true →
      ∃ t, exec (.dbgGateClose m) s = .next t ∧ t.flag R.dbgGateOpen = false ∧ t.fld R.dbgGateScope = 0 ∧ t.bus = ⟨false, 0⟩ ∧
        (∀ k, t.lane k = s.lane k) ∧ t.mem = s.mem ∧ t.tbs = s.tbs)

/-- R474, R475, R476, R483, R593: the test access port. BYPASS, IDCODE and SAMPLE/PRELOAD always answer. EXTEST drives the boundary cells onto
the pins only while the gate is open with SCAN, its island is out of reset and the module is SAFE. A granted memory access reads or writes eight bytes of Signal SRAM.
The debug reset returns every lane to its reset state, and is refused while the program runs on a module that is not SAFE. A challenge is a
value that no rule states (the model's free value, log entry 5), and is dropped 10 min of TB3 after it was drawn. -/
def Obligations.TestAccessPort : Prop :=
  ∀ s : State,
    (∀ tdi, ∃ t, exec (.tapBypass tdi) s = .next t ∧ t = { s with out := s.out ++ [.tap [tdi <<< 1]], acc := t.acc } ∧
      t.acc = { s.acc with tap := t.acc.tap }) ∧
    (∃ t, exec .tapIdcode s = .next t ∧ t = { s with out := s.out ++ [.tap [Config.idcode.zeroExtend 64]], acc := t.acc } ∧
      t.acc = { s.acc with tap := t.acc.tap }) ∧
    (∀ pins cells, ∃ t, exec (.tapSamplePreload pins cells) s = .next t ∧
      t = { s with out := s.out ++ [.tap (pins.map fun b => if b then 1 else 0)], acc := t.acc } ∧
      t.acc = { s.acc with tap := t.acc.tap, cells := cells }) ∧
    (s.flag R.dbgGateOpen = true → s.bit R.dbgGateScope 2 = true → s.inReset 19 = false → s.pstate = psSafe →
      ∃ t, exec .tapExtest s = .next t ∧ t = { s with out := s.out ++ [.pins s.acc.cells], acc := t.acc } ∧
        t.acc = { s.acc with tap := t.acc.tap }) ∧
    (s.flag R.dbgGateOpen = false ∨ s.bit R.dbgGateScope 2 = false ∨ s.pstate ≠ psSafe → exec .tapExtest s = .next s) ∧
    (∀ (a : BitVec 48) (c : BitVec 4), s.flag R.dbgGateOpen = true → s.bit R.dbgGateScope 1 = true → s.inReset 19 = false →
      s.inReset 8 = false → a.toNat < 0x3000000 → a.toNat % 64 ≤ 56 →
      (s.gate 14 a.toNat c.toNat false = none → ∃ t, exec (.tapMemoryRead a c) s = .next t ∧
        t = { s with regs := t.regs, bus := t.bus, out := s.out ++ [.tap [s.rd64 a.toNat]] } ∧
        FldsKept s t [R.dbgMctl, R.dbgMdata] ∧ t.reg R.dbgMdata.addr = s.rd64 a.toNat ∧ t.flag R.dbgMctlError = false ∧
        t.flag R.dbgMctlDone = true) ∧
      (∀ d : W64, s.gate 14 a.toNat c.toNat true = none → a.toNat < 0x800000 → ∃ t, exec (.tapMemoryWrite a c d) s = .next t ∧
        t = { s with regs := t.regs, bus := t.bus, mem := t.mem } ∧ FldsKept s t [R.dbgMctl, R.dbgMdata] ∧
        t.flag R.dbgMctlError = false ∧ t.flag R.dbgMctlDone = true ∧ t.rd64 a.toNat = d ∧
        ∀ b, b < a.toNat ∨ a.toNat + 8 ≤ b → t.byte b = s.byte b)) ∧
    (s.flag R.dbgGateOpen = true → s.bit R.dbgGateScope 0 = true → s.inReset 19 = false →
      (s.pstate = psSafe ∨ s.fld R.bookModeMode = 0 ∨ s.book.running = none) →
      ∃ t, exec .laneReset s = .next t ∧ t.out = s.out ++ [.tap [1]] ∧ t.flag R.rstcCauseDebug = true ∧ 6 ∈ t.rst.on ∧
        (∀ l < 8, t.lane l = LaneSt.init ∧ t.inReset l = true) ∧ t.mem = s.mem ∧ t.book = s.book ∧ t.pair = s.pair) ∧
    (s.pstate ≠ psSafe → s.fld R.bookModeMode ≠ 0 → s.book.running.isSome = true →
      ∃ t, exec .laneReset s = .next t ∧ t = { s with out := s.out ++ [.tap [0]] }) ∧
    (∀ m : Fin 16, s.reaches m R.dbgGateNewchal → ∃ t, exec (.dbgNewchal m) s = .next t ∧
      t = { s with regs := t.regs, bus := ⟨false, 0⟩, free := s.free + 1, acc := { s.acc with chalAt := some (s.tb 3) } } ∧
      FldsKept s t [R.dbgChal] ∧ t.reg R.dbgChal.addr = Config.freeWord s.free) ∧
    (∀ t0, s.acc.chalAt = some t0 → s.tbInc 3 ≠ 0 → s.tbFix 3 < 2 ^ 96 → t0 + 600000000000 + 16 < 2 ^ 64 → ∃ t, exec .challengeExpiry s = .next t ∧ t.reg R.dbgChal.addr = 0 ∧
      t.acc.chalAt = none ∧ t0 + 600000000000 ≤ t.tb 3 ∧ t = { s with regs := t.regs, acc := t.acc, tbs := t.tbs } ∧
      FldsKept s t [R.dbgChal])


/-! ### Resets -/

/-- R21, R593, R594, R597, R602, R612: each module source, asserted while no episode is in progress, begins an episode of its reach. -/
def Obligations.ModuleSourcesBeginEpisodes : Prop :=
  ∀ s : State, s.canonical = true → s.rst.episode = none →
    (∃ t, exec .powerOnResetAssert s = .next t ∧ EpisodeBegan s t 0 R.rstcCausePor true) ∧
    (∃ t, exec .presentNDeassert s = .next t ∧ EpisodeBegan s t 0 R.rstcCausePor true) ∧
    (∃ t, exec .carrierResetAssert s = .next t ∧ EpisodeBegan s t 1 R.rstcCauseCarrier true) ∧
    (∀ m : Fin 16, s.reaches m R.rstcSwrstWarm → ∃ t, exec (.rstcSwrstWarm m) s = .next t ∧ EpisodeBegan s t 4 R.rstcCauseSwwarm false) ∧
    (∀ m : Fin 16, s.reaches m R.rstcSwrstCold → ∃ t, exec (.rstcSwrstCold m) s = .next t ∧ EpisodeBegan s t 5 R.rstcCauseSwcold true)

/-- R32, R593, R596, R597, R605: a released source no longer holds its islands; an island whose release condition holds leaves reset, alone; with
the last island the episode ends; an island that a source, its reset bit, its clock or the strap still holds stays in reset. -/
def Obligations.IslandsAreReleasedUnderTheirCondition : Prop :=
  ∀ s : State,
    (∀ src : Fin 7, ∃ t, exec (.resetSourceRelease src) s = .next t ∧ t = { s with rst := { s.rst with on := t.rst.on } } ∧
      ∀ x, x ∈ t.rst.on ↔ x ∈ s.rst.on ∧ x ≠ src.val) ∧
    (∀ i : Fin 22,
      let clear := (∀ src ∈ s.rst.on, i.val ∉ srcReach src) ∧ (s.reg R.rstcIslrst.addr).toNat.testBit i.val = false ∧
        i.val ∉ s.rst.clockBad ∧ (i.val = 20 ∨ s.rst.strapDone = true) ∧
        (i.val = 9 ∨ i.val = 20 ∨ s.rst.strapDone = false ∨ s.flag R.rstcStrapValid = true)
      (s.inReset i.val = true → clear → ∃ t, exec (.islandRelease i) s = .next t ∧
        t = { s with regs := t.regs, rst := t.rst, bin := t.bin, field := t.field } ∧ FldsKept s t [R.rstcIslstatInreset] ∧
        (∀ k < 22, t.inReset k = (s.inReset k && decide (k ≠ i.val))) ∧ (∀ x, x ∈ t.rst.held ↔ x ∈ s.rst.held ∧ x ≠ i.val) ∧
        (t.rst.episode = none ↔ s.rst.episode = none ∨ ∀ x ∈ s.rst.held, x = i.val)) ∧
      (s.inReset i.val = true → ¬clear → exec (.islandRelease i) s = .next s))

/-- R603, R604: the strap code of a ratio r is the k with (2k + 1) / 36 ≤ r < (2k + 3) / 36 and gives the slot by its bit 0; a ratio below 1 / 36 or at or above 33 / 36
is invalid; RATIO is r × 256 rounded down; a code decoded holds until the next episode of cold reach. R525, R599, R602, R612, R613: KICK services the watchdog: EXPIRED
and the condition of source 3Fh end and its time starts again; the island reset bits take the value written, those of I9 and I20 apart, and an island whose bit rises takes
its reset values and shows in INRESET and in ISLAND. -/
def Obligations.StrapDecodingWatchdogAndIslandResetBits : Prop :=
  (∀ (s : State) (v ref : Nat), s.inReset 20 = false → 0 < ref →
     (s.rst.strapDone = true → exec (.strapDecodeDone v ref) s = .next s) ∧
     (s.rst.strapDone = false → v ≤ ref → ∃ t, exec (.strapDecodeDone v ref) s = .next t ∧ t.rst = { s.rst with strapDone := true } ∧
       t = { s with regs := t.regs, rst := t.rst, free := t.free } ∧
       FldsKept s t [R.rstcStrapCode, R.rstcStrapValid, R.rstcStrapRatio, R.pairStateSlot] ∧
       t.fld R.pairStateSlot = t.fld R.rstcStrapCode % 2 ∧ (v < ref → t.fld R.rstcStrapRatio = v * 256 / ref) ∧
       (∀ k < 16, (2 * k + 1) * ref ≤ 36 * v → 36 * v < (2 * k + 3) * ref →
         t.fld R.rstcStrapCode = k ∧ t.flag R.rstcStrapValid = true ∧ t.free = s.free) ∧
       (36 * v < ref ∨ 33 * ref ≤ 36 * v → t.flag R.rstcStrapValid = false))) ∧
  (∀ (s : State) (m : Fin 16),
     (s.reaches m R.rstcWdogKick → ∃ t, exec (.rstcWdogKick m) s = .next t ∧
       t = { s with regs := t.regs, bus := ⟨false, 0⟩, bin := { s.bin with wdog := some (s.tb 3) } } ∧
       FldsKept s t [R.rstcWdogExpired, R.fcolNowFault 0, R.fcolStatusOpen] ∧ t.flag R.rstcWdogExpired = false ∧
       (∀ i < 64, t.bit (R.fcolNowFault 0) i = (s.bit (R.fcolNowFault 0) i && decide (i ≠ 0x3F)))) ∧
     (∀ w : BitVec 22, s.reaches m R.rstcIslrst → ∃ t, exec (.rstcIslrstWrite m w) s = .next t ∧
       (∀ i < 22, (t.reg R.rstcIslrst.addr).toNat.testBit i = (w.getLsbD i && decide (i ≠ 9) && decide (i ≠ 20))) ∧
       (∀ i < 22, i ≠ 9 → i ≠ 20 → w.getLsbD i = true → (s.reg R.rstcIslrst.addr).toNat.testBit i = false →
         t.inReset i = true ∧ t.flag R.rstcCauseIsland = true ∧ (i < 8 → t.lane i = LaneSt.init)) ∧
       ((∀ i < 22, i ≠ 9 → i ≠ 20 → w.getLsbD i = true → (s.reg R.rstcIslrst.addr).toNat.testBit i = true) →
         t = { s with regs := t.regs, bus := ⟨false, 0⟩ } ∧ FldsKept s t [R.rstcIslrst]) ∧
       (∀ l < 8, w.getLsbD l = false → w.getLsbD 8 = false → t.lane l = s.lane l)))


/-! ### The control cycle -/

/-- R86, R92, R93, R97, R107, R121: a nominal start of a class on a module that runs the program, where no other class publishes at the same instant,
no Turn is armed, no command and no sounding waits for it (after a step of TB2, the first start at or after the stepped time: R91). The Wake number is 0 at the first start and one more at each that follows.
While the class is in flight the start is skipped: counted, and the page bits stay. Else the class applies its pending mode, PAGE_IN flips, and
a class that runs or steps is in flight from this start, and its crossing copy takes the front records as they are now (R69); BOOK_TCn_LAST tells what became of the window. A follower takes the Wake number and flips. -/
def Obligations.ClassNominalStarts : Prop :=
  ∀ (s : State) (c : Fin 8) (T : Nat), s.isStart c.val T = true →
    ((s.cls c.val).stepped = false → (s.cls c.val).begun = true → (s.cls c.val).start < T) → ((s.cls c.val).stepped = true → s.tb 2 ≤ T) →
    s.book.running.isSome = true → s.flag R.bookTurnArmed = false → s.book.pend = [] → (∀ u, (s.sub u).waits = false) →
    (∀ d < 8, d ≠ c.val → s.used d = true → (s.cls d).begun = true → (s.cls d).pubDone = true ∨ s.pubInstant d ≠ T) →
    let k := s.cls c.val
    let wake := if k.begun then (s.fld (R.bookTcWakeWake c.val) + 1) % 2 ^ 48 else 0
    let mode := match k.modeTo with | some m => m | none => if k.mode = 3 then 2 else k.mode
    (s.isActive = true → ∃ t, exec (.classNominalStart c T) s = .next t ∧ t.fld (R.bookTcWakeWake c.val) = wake ∧
      (t.cls c.val).begun = true ∧ (t.cls c.val).start = T ∧ (t.cls c.val).pubDone = false ∧ t.front c.val 0 = s.front c.val 0 ∧
      t.flag (R.bookTcLastPublished c.val) = k.winPub ∧ t.flag (R.bookTcLastOverrun c.val) = k.winOver ∧
      t.flag (R.bookTcLastSkip c.val) = k.inFlight ∧
      (k.inFlight = true → t.front c.val 1 = s.front c.val 1 ∧ (t.cls c.val).inFlight = true ∧ (t.cls c.val).cycSkips = k.cycSkips + 1 ∧
        (t.cls c.val).mode = k.mode ∧ (t.cls c.val).modeTo = k.modeTo ∧
        t.fld (R.bookTcCountSkips c.val) = min (s.fld (R.bookTcCountSkips c.val) + 1) (2 ^ (R.bookTcCountSkips c.val).len - 1)) ∧
      (k.inFlight = false → t.front c.val 1 = (!s.front c.val 1) ∧ (t.cls c.val).mode = mode ∧ (t.cls c.val).modeTo = none ∧
        (t.cls c.val).inFlight = (mode == 1 || mode == 3) ∧ t.fld (R.bookTcCountSkips c.val) = s.fld (R.bookTcCountSkips c.val) ∧
        t.flag (R.bookTcLastHeld c.val) = (mode == 2) ∧ t.flag (R.bookTcLastStopped c.val) = (mode == 0) ∧
        (mode = 1 ∨ mode = 3 → (t.cls c.val).cycStart = T ∧ (t.cls c.val).cycWake = wake ∧ (t.cls c.val).cycSkips = 0 ∧
          (t.cls c.val).crossDone = false ∧
          ∀ e ∈ t.crossOf c.val, t.dirOk e.1 = true → (e.2, t.frontRec e.1) ∈ (t.cls c.val).crossSnap))) ∧
    (s.isFollower = true → ∃ t, exec (.classNominalStart c T) s = .next t ∧ t.fld (R.bookTcWakeWake c.val) = wake ∧
      (t.cls c.val).start = T ∧ t.front c.val 1 = (!s.front c.val 1) ∧ t.front c.val 0 = s.front c.val 0)

/-- R59, R95, R96, R97, R111, R114, R121, R299: at its nominal publication instant a class that has completed publishes: PAGE_OUT flips, the cycle is no
longer in flight, its run time is taken and a commit is due. A class still executing, or whose cycle the catch-up recomputes (R299), publishes nothing and has overrun, and is reported stalled
when its skips reach the Skip Limit. A class that owes stop records publishes them. While the class D reaction stops flips nothing is published. A held
class at its Hold Limit owes stop records, and HOLD_EXPIRED is raised. -/
def Obligations.PublicationsAndHolds : Prop :=
  ∀ (s : State) (c : Fin 8) (T : Nat),
    let k := s.cls c.val
    (s.used c.val = true → k.begun = true → k.pubDone = false → s.pubInstant c.val = T → s.book.running.isSome = true → s.isActive = true →
      ∃ t, exec (.nominalPublication c T) s = .next t ∧ (t.cls c.val).pubDone = true ∧ t.front c.val 1 = s.front c.val 1 ∧
        t.fld (R.bookTcWakeWake c.val) = s.fld (R.bookTcWakeWake c.val) ∧
        (s.flipStop = true → t.front c.val 0 = s.front c.val 0 ∧ (t.cls c.val).inFlight = k.inFlight) ∧
        (s.flipStop = false → k.inFlight = true → k.complete = true → s.pair.catchUp.testBit c.val = false → t.front c.val 0 = (!s.front c.val 0) ∧ (t.cls c.val).inFlight = false ∧
          (t.cls c.val).winPub = true ∧ (t.cls c.val).winRun = min ((k.completeAt - k.cycStart) / 10) 0xFFFFFFFF ∧
          (t.cls c.val).commitDue = true ∧ (t.cls c.val).shipWake = k.cycWake ∧
          (k.mode = 3 → (t.cls c.val).holdFrom = some T)) ∧
        (s.flipStop = false → k.inFlight = true → k.complete = false ∨ s.pair.catchUp.testBit c.val = true → t.front c.val 0 = s.front c.val 0 ∧ (t.cls c.val).inFlight = true ∧
          (t.cls c.val).winOver = true ∧
          t.reports = s.reports ++ (if k.cycSkips = s.fld (R.bookTcCfgSkipLimit c.val) then [⟨0x1E, c.val, false⟩] else [])) ∧
        (s.flipStop = false → k.inFlight = false → k.stopDue = true → t.front c.val 0 = (!s.front c.val 0) ∧
          (t.cls c.val).stopDue = false ∧ (t.cls c.val).commitDue = true)) ∧
    (∀ f, k.holdFrom = some f → k.mode = 2 ∨ k.mode = 3 → k.holdFired = false → f + s.fld R.bookModeHoldLimit * 10000000 ≤ T →
      s.book.running.isSome = true → s.isActive = true →
      ∃ t, exec (.holdLimitExpiry c T) s = .next t ∧ t = { s with tbs := t.tbs, classes := t.classes, events := t.events } ∧
        (∀ d, d ≠ c.val → t.cls d = s.cls d) ∧
        t.cls c.val = { k with holdFired := true, stopDue := true, stopTime := (t.cls c.val).stopTime } ∧
        ∃ e, t.events = s.events ++ [e] ∧ e.code = evHoldExpired ∧ e.data = leBytes 1 c.val ++ List.replicate 31 0)

/-- R61, R62, R70, R72, R164, R228: the back-fill of a flip copies to the back buffer, with CHANGED clear, every record of its quads that was not written
since, for a record under a force the one that the force keeps, and nothing else of memory. The crossing copy puts the records taken at the nominal start into the
crossing area. A store drained by the lane that owns the signal, for the class of the signal, becomes the record in the back buffer, and no other byte changes;
one of another owner or class is an owner fault and writes nothing. -/
def Obligations.RecordsMoveBetweenBuffers : Prop :=
  ∀ s : State,
    (∀ (c : Fin 8) (out : Bool),
      let kind := if out then 0 else 1
      let f := s.front c.val kind
      let qs := if out then (s.cls c.val).backOut else (s.cls c.val).backIn
      let un := if out then (s.cls c.val).underOut else (s.cls c.val).underIn
      let wr := if out then (s.cls c.val).wrOut else (s.cls c.val).wrIn
      let clean := fun (r : Rec) => { r with flags := r.flags - (if r.flags.testBit 2 then 4 else 0) }
      (∀ q ∈ qs, q < 65536) → (out = true → (s.cls c.val).commitDue = false) →
      ∃ t, exec (.backfillDone c out) s = .next t ∧ t = { s with mem := t.mem, classes := t.classes } ∧
        (t.cls c.val).backOut = (if out then [] else (s.cls c.val).backOut) ∧ (t.cls c.val).backIn = (if out then (s.cls c.val).backIn else []) ∧
        (∀ q ∈ qs, ∀ i < 4, mget false wr (4 * q + i) = false →
          ((∀ e ∈ un, e.1 ≠ 4 * q + i) → t.recAt (recAddr (!f) (4 * q + i)) = clean (s.recAt (recAddr f (4 * q + i)))) ∧
          (∀ e, (un.find? fun e => e.1 == 4 * q + i) = some e → e.2.stamp < 2 ^ 48 → e.2.qual < 256 → e.2.flags < 256 →
            t.recAt (recAddr (!f) (4 * q + i)) = clean e.2)) ∧
        ∀ a, (a < recAddr (!f) 0 ∨ recAddr (!f) 0 + 0x400000 ≤ a) → t.byte a = s.byte a) ∧
    (∀ c : Fin 8, s.crossDue c.val = true → (∀ d < c.val, s.crossDue d = true → (s.cls d).cycStart ≠ (s.cls c.val).cycStart) →
      ((s.cls c.val).crossSnap.Pairwise fun x y => x.1 ≠ y.1) →
      ∃ t, exec (.crossingCopyDone c) s = .next t ∧
        (∀ e ∈ (s.cls c.val).crossSnap, e.2.stamp < 2 ^ 48 → e.2.qual < 256 → e.2.flags < 256 → t.recAt (0x1000000 + e.1 * 16) = e.2) ∧
        ∀ a, (∀ e ∈ (s.cls c.val).crossSnap, a < 0x1000000 + e.1 * 16 ∨ 0x1000000 + e.1 * 16 + 16 ≤ a) → t.byte a = s.byte a) ∧
    (∀ (l : Fin 8) (st : Store) (rest : List Store), (s.lane l.val).stopped = false → (s.lane l.val).storeQ = st :: rest → st.sig < 0x40000 →
      s.dirOk st.sig = true → (s.dirEntry st.sig).typ ≠ 0 →
      let e := s.dirEntry st.sig
      let a := recAddr (!s.front e.cls e.kind) st.sig
      (e.owner = l.val → e.cls = st.cls → ∃ t, exec (.storeDrain l) s = .next t ∧ (t.lane l.val).storeQ = rest ∧ t.bus = ⟨false, 0⟩ ∧
        (t.recAt a).value = canonical e.typ st.value ∧ (t.recAt a).stamp = st.stamp % 2 ^ 48 ∧
        (t.recAt a).qual = (if st.qual ≤ 4 then st.qual else 0) ∧ t.frontRec st.sig = s.frontRec st.sig ∧
        (∀ b, b < a ∨ a + 16 ≤ b → t.byte b = s.byte b) ∧ t.reports = s.reports) ∧
      (e.owner ≠ l.val ∨ e.cls ≠ st.cls → s.flag R.cmpStatusSparing = false → ∃ t, exec (.storeDrain l) s = .next t ∧ (t.lane l.val).storeQ = rest ∧
        t.mem = s.mem ∧ t.bus.err = true ∧ t.reports = s.reports ++ [⟨0x1C, st.sig, false⟩] ∧ t.flag R.dirOwnfltValid = true))

/-- R61, R62, R70, R72, R90, R164, R287, R308: the transfers of a cycle complete. The back-fill of either kind completes in every state: no quad waits for it, no
page bit moves, and where a commit is due after the PAGE_OUT back-fill, its Commit record is formed: nothing more is due or left to ship, and with a partner that
mirrors one more commit is pending. The crossing copy of a class in flight completes on the module that runs the program unless an Input record of the old
active is still held: then each lane that has a list of the class and is not failed begins it, no other lane takes part, and a lower class that started at the same instant has
its copy first. A store drains from the queue of every lane that is not stopped, whatever signal it names. -/
def Obligations.CycleTransfersComplete : Prop :=
  ∀ (s : State) (c l : Fin 8),
    (∀ out : Bool, ∃ t, exec (.backfillDone c out) s = .next t ∧
      (t.cls c.val).backOut = (if out then [] else (s.cls c.val).backOut) ∧ (t.cls c.val).backIn = (if out then (s.cls c.val).backIn else []) ∧
      (∀ d kind, t.front d kind = s.front d kind) ∧ t.lanes = s.lanes ∧ (∀ d, (t.cls d).inFlight = (s.cls d).inFlight ∧ (t.cls d).mode = (s.cls d).mode) ∧
      (out = true → (s.cls c.val).commitDue = true → (t.cls c.val).commitDue = false ∧ (t.cls c.val).ship = [] ∧ (t.cls c.val).shipOld = [] ∧
        (s.mirrored = true → t.fld (R.pairClassPending c.val) =
          min (s.fld (R.pairClassPending c.val) + 1) (2 ^ (R.pairClassPending c.val).len - 1)) ∧
        (s.mirrored = false → t.fld (R.pairClassPending c.val) = s.fld (R.pairClassPending c.val)))) ∧
    (s.book.running.isSome = true → s.isActive = true → (s.cls c.val).inFlight = true → (s.cls c.val).crossDone = false →
      (∀ h ∈ s.pair.held, h.cls = c.val → h.noexec = true) →
      ∃ t, exec (.crossingCopyDone c) s = .next t ∧ (t.cls c.val).crossDone = true ∧
        (∀ d < c.val, s.crossDue d = true → (s.cls d).cycStart = (s.cls c.val).cycStart → (t.cls d).crossDone = true) ∧
        (∀ d k, t.front d k = s.front d k) ∧
        ∀ k < 8, ((t.cls c.val).parts.testBit k = (s.fld (R.laneListCount k c.val) != 0 && !s.bit R.cmpStatusFailed k)) ∧
          (s.fld (R.laneListCount k c.val) ≠ 0 → s.bit R.cmpStatusFailed k = false →
            t.flag (R.laneStateBusy k) = true ∧ (t.lane k).ready.testBit c.val = true ∧ mget 0 (t.lane k).next c.val = 0)) ∧
    (∀ (st : Store) (rest : List Store), (s.lane l.val).stopped = false → (s.lane l.val).storeQ = st :: rest →
      ∃ t, exec (.storeDrain l) s = .next t ∧ (t.lane l.val).storeQ = rest ∧ (∀ k, k ≠ l.val → t.lane k = s.lane k) ∧
        (∀ d k, t.front d k = s.front d k) ∧ t.book = s.book ∧ t.pair = s.pair ∧
        t.bus.err = decide (s.ownerCheck st.sig l.val st.cls ≠ .ok))

/-- R125, R131, R133, R142, R165, R172, R292: with an empty Frame Cache, the start of a scan of a block of a custom type that is not conditional brings the frame in from
Signal SRAM, clears X0 to X63 and P1 to P7, and the lane executes the entry word of the block for the class. A grain that arrives with an uncorrectable
error stops the lane and is reported with its grain; the write-back of a dirty line writes the eight words of the line to the frame and
no other byte, and waits while Wake staging is full (R292). -/
def Obligations.ScansFillsAndWriteBacks : Prop :=
  ∀ (s : State) (l : Fin 8),
    (∀ c, (s.lane l.val).stopped = false → (s.lane l.val).main.halted = false → (s.lane l.val).scan = none → s.scanClass l.val = some c →
      (s.lane l.val).tags = [] → (s.lane l.val).dirty = [] →
      let pos := mget 0 (s.lane l.val).next c
      let e := s.listEntry l.val c pos
      e.cond = false → 0 < e.grains → e.grains ≤ 896 → 184 ≤ getBits (s.rd64 (frameAddr e.frame)) 32 13 →
      ∃ t, exec (.blockScanStart l) s = .next t ∧ t.mem = s.mem ∧ (∀ n, t.laneX l n = 0) ∧ (∀ p, t.laneP l p = decide (p = 0)) ∧
        (∃ sc, (t.lane l.val).scan = some sc ∧ sc.frame = e.frame ∧ sc.grains = e.grains ∧ sc.cls = c ∧ sc.pos = pos ∧ sc.pc = e.code) ∧
        (∀ w < 8 * e.grains, t.laneFrame l w = some (s.rd64 (frameAddr e.frame + 8 * w))) ∧
        t.fld (R.laneStateClass l.val) = c ∧ t.flag (R.laneStateBusy l.val) = true) ∧
    (∀ (grain : Nat) (parity : Bool), (s.lane l.val).stopped = false → ∃ t, exec (.grainTransferDone l grain true parity) s = .next t ∧
      t = { s with lanes := t.lanes, reports := s.reports ++ [⟨0x19, 0x40000 + grain, false⟩] } ∧
      t.lane l.val = { s.lane l.val with stopped := true } ∧ ∀ k, k ≠ l.val → t.lane k = s.lane k) ∧
    (∀ grain : Nat, (s.lane l.val).stopped = false → s.flag R.cmpCtrlTest = false →
      ∃ t, exec (.grainTransferDone l grain false true) s = .next t ∧ LaneFaulted s t l 2) ∧
    (∀ (line : Fin 896) (g c : Nat), (s.lane l.val).stopped = false → mget 0 (s.lane l.val).dirty line.val = c + 1 →
      mget 0 (s.lane l.val).tags line.val = g + 1 → s.undoBase (s.homeLane l.val) = none → s.stagingFree c g = true →
      ∃ t, exec (.frameWriteBack l line) s = .next t ∧ t = { s with mem := t.mem, lanes := t.lanes, classes := t.classes } ∧
        (∀ w < 8, t.rd64 (frameAddr g + 8 * w) = mget 0 (s.lane l.val).main.fc (line.val * 8 + w)) ∧
        (∀ a, a < frameAddr g ∨ frameAddr g + 64 ≤ a → t.byte a = s.byte a) ∧ mget 0 (t.lane l.val).dirty line.val = 0 ∧
        mget false (t.cls c).wrFrm (frameAddr g / 64) = true ∧ ∀ k, k ≠ l.val → t.lane k = s.lane k) ∧
    (∀ (line : Fin 896) (g c : Nat), (s.lane l.val).stopped = false → mget 0 (s.lane l.val).dirty line.val = c + 1 →
      mget 0 (s.lane l.val).tags line.val = g + 1 → s.stagingFree c g = false → exec (.frameWriteBack l line) s = .next s)

/-- R73, R133, R243 to R249, R252, R257: outside the comparator test, the forced close at the end of a lane's part (after the close of a full window that is
still due) compares the signatures of the two halves: equal, the part is
complete, and with the last part the class cycle; different, a lane fault of KIND 0. The close of a full window does the same without ending
the part. A late checker is a fault of KIND 3 and a BUSY lane without progress one of KIND 4. In the test, a write of CMP_INJ arms the injection of each lane that
LANES names, whose test is then at the step of that injection, and of no other. -/
def Obligations.SignaturesAreCompared : Prop :=
  ∀ (s : State) (l : Fin 8),
    (∀ (c : Fin 8) (T : Nat), s.partClass l.val = some c.val → s.flag R.cmpCtrlTest = false →
      ((s.lane l.val).main.folds < s.windowLen → (s.lane l.val).main.extra = [] → (s.lane l.val).chk.extra = [] →
        (s.lane l.val).main.sig = (s.lane l.val).chk.sig → ∃ t, exec (.lanePartComplete l T) s = .next t ∧
        (∀ i, (t.lane l.val).ready.testBit i = ((s.lane l.val).ready.testBit i && decide (i ≠ c.val))) ∧
        (t.lane l.val).main.sig = 0 ∧ (t.lane l.val).chk.sig = 0 ∧ (t.lane l.val).stopped = false ∧ t.reports = s.reports ∧
        (∀ i, (t.cls c.val).parts.testBit i = ((s.cls c.val).parts.testBit i && decide (i ≠ l.val))) ∧
        ((s.cls c.val).inFlight = true → (∀ i, i ≠ l.val → (s.cls c.val).parts.testBit i = false) →
          (t.cls c.val).complete = true ∧ (t.cls c.val).completeAt = t.tb 2) ∧
        (∀ i, i ≠ l.val → (s.cls c.val).parts.testBit i = true → (t.cls c.val).complete = (s.cls c.val).complete) ∧
        t.fld (R.laneWinWindows l.val) = (s.fld (R.laneWinWindows l.val) + 1) % 2 ^ (R.laneWinWindows l.val).len) ∧
      ((s.lane l.val).main.folds < s.windowLen ∨ ((s.lane l.val).main.folds = s.windowLen ∧ (s.lane l.val).chk.folds = s.windowLen) →
        (s.lane l.val).main.sig ≠ (s.lane l.val).chk.sig → ∃ t, exec (.lanePartComplete l T) s = .next t ∧ LaneFaulted s t l 0)) ∧
    ((s.lane l.val).stopped = false → (s.lane l.val).main.halted = false → s.flag R.cmpCtrlTest = false → s.flag (R.laneStateBusy l.val) = true →
      (s.lane l.val).main.folds = s.windowLen → (s.lane l.val).chk.folds = s.windowLen →
      ((s.lane l.val).main.extra = [] → (s.lane l.val).chk.extra = [] → (s.lane l.val).main.sig = (s.lane l.val).chk.sig → ∃ t, exec (.windowClose l) s = .next t ∧
        t = { s with regs := t.regs, lanes := t.lanes } ∧ FldsKept s t [R.laneSigMainSig l.val, R.laneWinWindows l.val] ∧
        t.fld (R.laneSigMainSig l.val) = (s.lane l.val).main.sig.toNat ∧
        t.fld (R.laneWinWindows l.val) = (s.fld (R.laneWinWindows l.val) + 1) % 2 ^ (R.laneWinWindows l.val).len ∧
        (t.lane l.val).main = { (s.lane l.val).main with sig := 0, folds := 0 } ∧
        (t.lane l.val).chk = { (s.lane l.val).chk with sig := 0, folds := 0 } ∧
        (t.lane l.val).stopped = false) ∧
      ((s.lane l.val).main.sig ≠ (s.lane l.val).chk.sig → ∃ t, exec (.windowClose l) s = .next t ∧ LaneFaulted s t l 0)) ∧
    ((s.lane l.val).stopped = false → (s.lane l.val).main.halted = false → s.flag R.cmpCtrlTest = false →
      (∃ t, exec (.checkerLate l) s = .next t ∧ LaneFaulted s t l 3) ∧
      (s.flag (R.laneStateBusy l.val) = true → ∃ t, exec (.laneStall l) s = .next t ∧ LaneFaulted s t l 4)) ∧
    (∀ (m : Fin 16) (w : W64), s.reaches m R.cmpInj → s.flag R.cmpCtrlLocked = false → s.flag R.cmpCtrlTest = true → getBits w 8 2 ≠ 0 → getBits w 17 1 = 0 →
      ∃ t, exec (.cmpInjArm m w) s = .next t ∧ t.fld R.cmpInjLanes = getBits w 0 8 ∧ t.fld R.cmpInjTarget = getBits w 8 2 ∧
        ∀ k < 8, t.lane k = if (getBits w 0 8).testBit k then { s.lane k with
          inj := some (⟨getBits w 8 2, getBits w 10 1 == 1, getBits w 11 6, 0⟩ : Inj),
          testStep := 1 + 128 * (getBits w 8 2 - 1) + 64 * getBits w 10 1 + getBits w 11 6 } else s.lane k)

/-! ### Fault collection, the Binnacle -/

/-- R424, R425, R426, R430, R436, R437, R439, R440, R445, R449: a report of class B taken alone, from a source that is not under test, holds no report and whose last pulse is over (R633), is numbered and
recorded at HEAD with its class, the state of the pair and its detail, shows in NOW while its condition lasts, is latched as the first of
its episode and raises WORST; FAULT_REPORTED is raised. A class A report counts in ACOUNT and is recorded at most once a second for its source. A broken path shows
in BROKEN. A cleared condition leaves NOW and BROKEN. A path test step shows what FCOL saw. -/
def Obligations.FaultReportsAreRecorded : Prop :=
  ∀ (s : State) (src : Fin 69) (detail : BitVec 32),
    let h := s.fld R.fcolHeadHead
    let entry := fun (cls : Nat) (broken : Bool) (d : Nat) => src.val + 2 ^ 7 + cls * 2 ^ 8 + (if broken then 2 ^ 11 else 0) +
      (if s.fcol.local_ then 2 ^ 12 else 0) + s.pstate * 2 ^ 13 + (s.fcol.seq + 1) % 2 ^ 16 * 2 ^ 16 + d * 2 ^ 32
    let own := s.fcol.clkOut = false ∧ s.flag R.fcolCtrlTest = false ∧ s.fcol.testFail = [] ∧ s.srcNow src.val = false ∧ s.srcBroken src.val = false ∧
      s.inPulse src.val = false
    (∀ rest, own → s.srcClass src.val = 2 → s.reports = ⟨src.val, detail.toNat, false⟩ :: rest →
      ∃ t, exec (.faultReportTaken 1 []) s = .next t ∧ t.reports = rest ∧ t.fcol.seq = s.fcol.seq + 1 ∧
        t.fld (R.fcolHist0 h) = entry 2 false detail.toNat ∧ t.fld (R.fcolHist1 h) = s.fcolStamp % 2 ^ 64 ∧
        t.fld R.fcolHeadHead = (h + 1) % 32 ∧ t.fld R.fcolHeadTotal = (s.fld R.fcolHeadTotal + 1) % 2 ^ 32 ∧
        t.srcNow src.val = !occursOnly src.val ∧ t.fld R.fcolStatusWorst = max 2 (s.fld R.fcolStatusWorst) ∧
        (s.flag R.fcolFirst0Valid = false → t.fld R.fcolFirst0 = entry 2 false detail.toNat) ∧
        (s.flag R.fcolFirst0Valid = true → t.fld R.fcolFirst0 = s.fld R.fcolFirst0) ∧
        (∃ e, t.events = s.events ++ [e] ∧ e.code = 0x800 ∧
          e.data = (leBytes 8 (entry 2 false detail.toNat) ++ leBytes 8 s.fcolStamp ++ List.replicate 16 0)) ∧
        t.lanes = s.lanes ∧ t.mem = s.mem ∧ t.classes = s.classes ∧
        FldsKept s t [R.fcolNowFault (src.val / 64), R.fcolStatusOpen, R.fcolStatusWorst, R.fcolHist0 h, R.fcolHist1 h, R.fcolHead, R.fcolFirst0,
          R.fcolFirst1, R.pairStateFit]) ∧
    (∀ rest, own → s.srcClass src.val = 1 → s.reports = ⟨src.val, detail.toNat, false⟩ :: rest →
      ∃ t, exec (.faultReportTaken 1 []) s = .next t ∧ t.reports = rest ∧ t.events = s.events ∧
        t.fld R.fcolStatusAcount = min (s.fld R.fcolStatusAcount + 1) (2 ^ 32 - 1) ∧ t.fld R.fcolStatusWorst = s.fld R.fcolStatusWorst ∧
        ((∀ at_, mget none s.fcol.aAt src.val = some at_ → at_ + 1000000000 ≤ s.tb 3) →
          t.fld (R.fcolHist0 h) = entry 1 false detail.toNat ∧ t.fld R.fcolHeadHead = (h + 1) % 32) ∧
        (∀ at_, mget none s.fcol.aAt src.val = some at_ → s.tb 3 < at_ + 1000000000 → t.fld R.fcolHeadHead = h)) ∧
    (s.fcol.clkOut = false → (s.flag R.fcolCtrlTest = true → s.fld R.fcolTestSource ≠ src.val) → s.srcBroken src.val = false → s.srcClass src.val = 2 →
      ∃ t, exec (.brokenReportPath (.source src)) s = .next t ∧ t.srcBroken src.val = true ∧ t.srcNow src.val = s.srcNow src.val ∧ t.free = s.free + 1 ∧
        t.fld (R.fcolHist0 h) = entry 2 true (Config.freeWord32 s.free).toNat ∧ t.fld R.fcolHeadHead = (h + 1) % 32) ∧
    (∃ t, exec (.faultConditionCleared src) s = .next t ∧ t = { s with regs := t.regs } ∧ t.srcNow src.val = false ∧ t.srcBroken src.val = false ∧
      (∀ i < 69, i ≠ src.val → t.srcNow i = s.srcNow i ∧ t.srcBroken i = s.srcBroken i) ∧
      FldsKept s t [R.fcolNowFault (src.val / 64), R.fcolBrokenBroken (src.val / 64), R.fcolStatusOpen, R.pairStateFit]) ∧
    (∀ (m : Fin 16) (seen : Fin 3), s.reaches m R.fcolTestSource → s.flag R.fcolCtrlLocked = false → s.flag R.fcolCtrlTest = true →
      ∀ pattern : BitVec 2, pattern ≠ 0 → ∃ t, exec (.fcolTestStep m (BitVec.ofNat 7 src.val) pattern seen) s = .next t ∧
        t = { s with regs := t.regs, bus := ⟨false, 0⟩, fcol := { s.fcol with testFail := t.fcol.testFail } } ∧
        FldsKept s t [R.fcolTestSource, R.fcolTestPattern, R.fcolTestDone, R.fcolTestSeen] ∧
        t.fld R.fcolTestSource = src.val ∧ t.fld R.fcolTestPattern = pattern.toNat ∧ t.flag R.fcolTestDone = true ∧
        t.fld R.fcolTestSeen = seen.val ∧
        (src.val ∈ t.fcol.testFail ↔ src.val ∈ s.fcol.testFail ∨ seen.val ≠ (if pattern = 1 then 1 else 2)))

/-- R279, R351, R431 to R434, R441, R442, R443, R525: the class D reaction makes the module SAFE in hardware: every lane stops, flips stop, the field outputs open, stations
get SAFE frames. It follows a mismatch of the collector's copies, the loss of the always-on clock, and a class C reaction without a reset within 10 ms.
A receiving block that sees 00 or 11 on the class D lines performs its own step. Its escalation reset begins a warm episode unless ESC_LIMIT is reached, which blocks
it. The watchdog's reset begins one 16 ms after the last service. -/
def Obligations.HardwareReactions : Prop :=
  ∀ s : State,
    let safe := fun (t : State) => t.flag R.fcolStatusSafe = true ∧ t.pstate = psSafe ∧ t.flipStop = true ∧ t.fld R.fldStatusClosed = 0 ∧
      t.flag R.stnSafeSafeTx = true ∧ t.pair.aliveStop = true ∧ ∀ l < 8, (t.lane l).stopped = true
    (∀ off, s.flag R.fcolStatusSafe = false → ∃ t, exec (.collectorCopyMismatch off) s = .next t ∧ safe t ∧ t.flag R.fcolStatusCopyFault = true) ∧
    (s.flag R.fcolStatusSafe = false → ∃ t, exec .alwaysOnClockFault s = .next t ∧ safe t ∧ t.fcol.clkOut = true) ∧
    (s.fcol.clkOut = true → s.flag R.fcolStatusSafe = false → s.srcNow 0x28 = false → s.srcBroken 0x28 = false →
      (s.flag R.fcolCtrlTest = true → s.fld R.fcolTestSource ≠ 0x28) →
      ∃ t, exec .alwaysOnClockReturn s = .next t ∧ safe t ∧ t.fcol.clkOut = false ∧ t.srcNow 0x28 = true) ∧
    (∀ t0 src, s.fcol.cAt = some (t0, src) → s.fcol.clkOut = false → s.flag R.fcolStatusSafe = false → s.srcNow 0x44 = false →
      s.srcBroken 0x44 = false → (s.flag R.fcolCtrlTest = true → s.fld R.fcolTestSource ≠ 0x44) →
      ∃ t, exec .classCResetTimeout s = .next t ∧ safe t ∧ t.fcol.cAt = none ∧ t.srcNow 0x44 = true) ∧
    (∃ t, exec (.brokenReportPath (.line .rstc)) s = .next t ∧ t = { s with pair := { s.pair with aliveStop := true } }) ∧
    (∃ t, exec (.brokenReportPath (.line .pair)) s = .next t ∧ t = { s with pair := { s.pair with lineSafe := true } }) ∧
    (∃ t, exec (.brokenReportPath (.line .lanes)) s = .next t ∧ t = { s with lanes := t.lanes, flipStop := true } ∧
      ∀ l < 8, t.lane l = { s.lane l with stopped := true }) ∧
    (∃ t, exec (.brokenReportPath (.line .fld)) s = .next t ∧ t.fld R.fldStatusClosed = 0 ∧ t.flag R.fldStatusOpenline = true ∧ t.mem = s.mem ∧
      t.pstate = s.pstate) ∧
    (∃ t, exec (.brokenReportPath (.line .stn)) s = .next t ∧ t.flag R.stnSafeSafeTx = true ∧ t = { s with regs := t.regs, out := t.out } ∧
      FldsKept s t [R.stnSafeSafeTx]) ∧
    (∀ n : Fin 2, ∃ t, exec (.brokenReportPath (.line (.can n))) s = .next t ∧ t = { s with regs := t.regs, can := t.can } ∧
      (t.canOf n.val).pend = [] ∧ t.fld (R.canStatusMode n.val) = (if 2 ≤ s.fld (R.canStatusMode n.val) then 2 else s.fld (R.canStatusMode n.val)) ∧
      FldsKept s t [R.canStatusMode n.val]) ∧
    (∀ t0, s.canonical = true → s.fcol.dAt = some t0 → s.fld R.fcolCfgDDwell ≠ 0 → t0 + s.fld R.fcolCfgDDwell * 100000000 ≤ s.tb 3 →
      s.flag R.fcolEscBlocked = false → s.rst.episode = none →
      let n := s.fld R.fcolEscCount
      let fresh := n = 0 ∨ s.fcol.escFrom + 3600000000000 ≤ s.tb 3
      (fresh → ∃ t, exec .escalationExpiry s = .next t ∧ EpisodeBegan s t 3 R.rstcCauseEsc false ∧ t.fld R.fcolEscCount = 1) ∧
      (¬fresh → n < s.fld R.fcolCfgEscLimit → ∃ t, exec .escalationExpiry s = .next t ∧ EpisodeBegan s t 3 R.rstcCauseEsc false ∧
        t.fld R.fcolEscCount = n + 1) ∧
      (¬fresh → s.fld R.fcolCfgEscLimit ≤ n → ∃ t, exec .escalationExpiry s = .next t ∧ t.rst = s.rst ∧ t.flag R.fcolEscBlocked = true ∧
        t.fld R.fcolEscCount = n ∧ ∃ e, t.events = s.events ++ [e] ∧ e.code = evEscalationBlocked)) ∧
    (∀ t0, s.canonical = true → s.bin.wdog = some t0 → s.flag R.rstcWdogExpired = true → t0 + 16000000 ≤ s.tb 3 → s.rst.episode = none →
      ∃ t, exec .binnacleWdogReset s = .next t ∧ EpisodeBegan s t 2 R.rstcCauseWdog false)

/-- R30, R31, R257, R438, R446, R463, R525: what the monitors report: a handshake that does not answer ends with an error and source 26h, a
clock that leaves its tolerance with 27h, an uncorrectable or corrected grain of the scrubbers with its source and index, an overlap of windows in force
with 21h and OVERLAP, a watchdog not serviced with 3Fh, a spare that fails its self-test with its lane, which leaves use. FCOL takes the copy of TB3 that arrives, and counts
on its own after 10 µs without one. -/
def Obligations.MonitorsReport : Prop :=
  ∀ s : State,
    (∀ req tgt : Fin 22, s.inReset tgt.val = false → ∃ t, exec (.handshakeTimeout req tgt) s = .next t ∧
      t = { s with bus := ⟨true, 0⟩, reports := s.reports ++ [⟨0x26, req.val + tgt.val * 256, false⟩] }) ∧
    (∀ i : Fin 20, i.val ≠ 15 → s.inReset i.val = false → ∃ t, exec (.islandClockFault i false) s = .next t ∧
      t = { s with reports := s.reports ++ [⟨0x27, i.val, false⟩], rst := { s.rst with clockBad := t.rst.clockBad } } ∧
      ∀ k, k ∈ t.rst.clockBad ↔ k ∈ s.rst.clockBad ∨ k = i.val) ∧
    (∀ i : Fin 20, i.val ≠ 15 → (∀ k ∈ s.rst.clockBad, k = i.val) → ∃ t, exec (.islandClockFault i true) s = .next t ∧
      t = { s with regs := t.regs, rst := { s.rst with clockBad := [] } } ∧ t.srcNow 0x27 = false ∧
      FldsKept s t [R.fcolNowFault 0, R.fcolStatusOpen]) ∧
    (∃ t, exec .tb3CopyRx s = .next t ∧ t = { s with fcol := { s.fcol with copy := s.tb 3, local_ := false } }) ∧
    (s.tbInc 3 ≠ 0 → s.tbFix 3 < 2 ^ 96 → s.fcol.copy + 10016 < 2 ^ 64 → ∃ t, exec .tb3CopyTimeout s = .next t ∧
      t = { s with tbs := t.tbs, fcol := { s.fcol with local_ := true } } ∧ s.fcol.copy + 10000 ≤ t.tb 3) ∧
    (∀ (g : Fin 786432) (ok : Bool), s.flag R.fcolCfgScrubSram = true → ∃ t, exec (.sramScrubPass (some (g, ok))) s = .next t ∧
      t = { s with reports := s.reports ++ [⟨if ok then 0x18 else
        if (0xB0000 ≤ g.val ∧ g.val < 0xBE000) ∨ 0xBF000 ≤ g.val then 0x1A else 0x19, g.val, false⟩] }) ∧
    (∀ (a : Fin 0x200000000) (ok : Bool), s.flag R.fcolCfgScrubDram = true → ∃ t, exec (.dramScrubPass (some (a, ok))) s = .next t ∧
      t = { s with reports := s.reports ++ [⟨if ok then 0x22 else
        if 0x10000000 ≤ a.val ∧ a.val < 0x80000000 then 0x24 else 0x23, a.val / 128, false⟩] }) ∧
    (∀ v w : Fin 64,
      let x := mget 0 s.acc.force (R.acfgWin v.val).addr
      let y := mget 0 s.acc.force (R.acfgWin w.val).addr
      let laps := v.val < w.val ∧ getBits x 63 1 = 1 ∧ getBits y 63 1 = 1 ∧ getBits x 0 27 ≤ getBits y 32 27 ∧ getBits y 0 27 ≤ getBits x 32 27
      (laps → ∃ t, exec (.acfgWindowCheck v w none) s = .next t ∧ t = { s with regs := t.regs, reports := s.reports ++ [⟨0x21, v.val, false⟩] } ∧
        FldsKept s t [R.acfgCtrlOverlap] ∧ t.flag R.acfgCtrlOverlap = true) ∧
      (¬laps → exec (.acfgWindowCheck v w none) s = .next s)) ∧
    (∀ t0, s.bin.wdog = some t0 → s.flag R.rstcWdogExpired = false → ∃ t, exec .binnacleWdogExpiry s = .next t ∧
      t = { s with tbs := t.tbs, regs := t.regs, reports := s.reports ++ [⟨0x3F, 0, false⟩] } ∧ FldsKept s t [R.rstcWdogExpired] ∧
      t.flag R.rstcWdogExpired = true ∧ (s.tbInc 3 ≠ 0 → s.tbFix 3 < 2 ^ 96 → t0 + 8000016 < 2 ^ 64 → t0 + 8000000 ≤ t.tb 3)) ∧
    (∀ (l : Fin 8) (k : Fin 5), s.spareLane = some l.val → ∃ t, exec (.spareSelfTest (some k)) s = .next t ∧ LaneFaulted s t l k.val ∧
      t.bit R.cmpStatusFailed l.val = true ∧ t.flag R.cmpStatusDegraded = true ∧
      ∃ e, t.events = s.events ++ [e] ∧ e.code = evLaneFailed ∧ e.data = [BitVec.ofNat 8 l.val, BitVec.ofNat 8 l.val] ++ List.replicate 30 0)

/-- R525, R528 to R531, R534, R538, R544, R547, R548, R550, R605: the Binnacle's own work: a measurement shows in the sensor registers with its extremes; the oldest event that waits is
written to the event log with its number and stamps; firmware starts from the slot the trial marking names when its image passes, else from the other slot, else from the recovery image, which an
invalid strap or boot mode 2 also starts; a checkpoint begins, its read completes, and staged records pass to the
recording area in order. -/
def Obligations.BinnacleWork : Prop :=
  ∀ s : State,
    (∀ m : SensorSet, s.inReset 9 = false → ∃ t, exec (.sensorSample m) s = .next t ∧ t.bin.sensed = true ∧ t.mem = s.mem ∧
      (∀ k < 12, t.fld (R.sensTempTemp k) = (m.temps.getD k 0).toNat ∧
        (BitVec.ofNat 16 (t.fld (R.sensTempMax k))).toInt = if s.bin.sensed then
          max (BitVec.ofNat 16 (s.fld (R.sensTempMax k))).toInt (m.temps.getD k 0).toInt else (m.temps.getD k 0).toInt) ∧
      (∀ k < 20, t.fld (R.sensRailMv k) = (m.rails.getD k 0).toNat ∧
        t.fld (R.sensRailMinmv k) = (if s.bin.sensed then min (s.fld (R.sensRailMinmv k)) (m.rails.getD k 0).toNat else (m.rails.getD k 0).toNat) ∧
        t.fld (R.sensRailMaxmv k) = (if s.bin.sensed then max (s.fld (R.sensRailMaxmv k)) (m.rails.getD k 0).toNat else (m.rails.getD k 0).toNat)) ∧
      t.fld R.sensFeedVa = m.va.toNat ∧ t.fld R.sensFeedIa = m.ia.toNat ∧ t.fld R.sensFeedVb = m.vb.toNat ∧ t.fld R.sensFeedIb = m.ib.toNat) ∧
    (∀ e rest, s.inReset 9 = false → s.events = e :: rest → e.data.length = 32 → ∃ t, exec .eventLogWrite s = .next t ∧ t.events = rest ∧
      t.bin.evSeq = (s.bin.evSeq + 1) % 2 ^ 32 ∧
      let a := logBase + s.bin.evSeq % 65536 * 64
      t.readN 4 a = s.bin.evSeq % 2 ^ 32 ∧ t.readN 2 (a + 4) = e.code % 2 ^ 16 ∧ t.readN 8 (a + 8) = e.tb3 % 2 ^ 64 ∧
      t.readN 8 (a + 16) = e.tb0 % 2 ^ 64 ∧ t.readN 4 (a + 24) = e.watch % 2 ^ 32 ∧ t.bytes 32 (a + 28) = e.data ∧
      t.readN 4 (a + 60) = crc32c (t.bytes 60 a) % 2 ^ 32 ∧ ∀ b, b < a ∨ a + 64 ≤ b → t.byte b = s.byte b) ∧
    (∀ x : BootFind, s.inReset 9 = false → s.rst.strapDone = true → s.bin.runs = none → s.bin.recovery = false →
      let ok := fun (i : Nat) => x.slotOk.toNat.testBit i && (s.fwSlot i).isSome
      (s.bootMode = 2 ∨ s.flag R.rstcStrapValid = false → ∃ t, exec (.firmwareBoot x) s = .next t ∧ t.bin.recovery = true ∧ t.bin.runs = none ∧
        t.bin.wdog = some (s.tb 3)) ∧
      (s.bootMode ≠ 2 → s.flag R.rstcStrapValid = true → ∃ t, exec (.firmwareBoot x) s = .next t ∧
        t.bin.runs = (if ok s.bootSlot then some s.bootSlot else if ok (1 - s.bootSlot) then some (1 - s.bootSlot) else none) ∧
        t.bin.recovery = (!ok s.bootSlot && !ok (1 - s.bootSlot)) ∧ t.bin.wdog = some (s.tb 3))) ∧
    (∀ tr, s.bin.trialRec = some tr → tr.started = true → tr.passed = false → s.tbInc 3 ≠ 0 → s.tbFix 3 < 2 ^ 96 →
      s.bin.releasedAt + 120000000017 < 2 ^ 64 → ∃ t, exec .firmwareTrialTimeout s = .next t ∧ t = { s with tbs := t.tbs } ∧
        s.bin.releasedAt + 120000000000 < t.tb 3) ∧
    (∀ T, s.ckptAt T = true → ∃ t, exec (.checkpointBegin T) s = .next t ∧ t.log.ckpt = some ⟨T, false, []⟩ ∧ t.log.ckptDue = false ∧
      t.mem = s.mem ∧ t.classes = s.classes) ∧
    (∀ k, s.log.ckpt = some k → k.readDone = false → (∃ c < 8, s.used c = true ∧ mget none k.wcp c = none) →
      ∃ t, exec .checkpointReadDone s = .next t ∧ t.log.ckpt = some { k with readDone := true } ∧ t.mem = s.mem) ∧
    (∀ n : Nat, s.inReset 17 = false → s.inReset 18 = false → s.fld R.logbStatusState ≠ 3 → s.log.dropping = false → n ≤ s.log.staged.length →
      s.log.used + ((s.log.staged.take n).map (·.len)).sum ≤ recordingArea →
      ∃ t, exec (.logStagingDrain n) s = .next t ∧ t.log.staged = s.log.staged.drop n ∧ t.log.flash = s.log.flash ++ s.log.staged.take n ∧
        t.log.used = s.log.used + ((s.log.staged.take n).map (·.len)).sum ∧ t.mem = s.mem ∧
        FldsKept s t [R.logbSeqNewest, R.logbStatusRate, R.logbStatusBacklog])


/-! ### Mailbox commands -/

/-- R54, R58, R238, R301, R322, R355, R394, R456, R484, R506, R518, R519, R538, R541, R555, R557, R592, R626: the commands that only read: whenever the turn
of one has come and its parameters are in range it is answered OK with what it names, in every pair state (R500), and changes nothing beside its answer; a signal whose directory entry fails its CHECK is not read but reported (R54). The
order and widths inside a result that no rule states are the model's (DESIGN CHOICE, assumption 9). -/
def Obligations.ReadingCommandsAnswer : Prop :=
  ∀ (s : State) (h : Hdr),
    (∀ ver : Nat, ver = (((s.taken h).bin.runs.bind fun i => (s.taken h).fwSlot i).map fun (x : FwSlot) => x.version).getD 0 →
      Answers (.moduleStatus h) s h 0x0 false (s.taken h)
        (leBytes 8 (s.taken h).pair.serial ++ [0x48, 0x43, 0x39, 0x31, 0x32, 0x30, 0x2D, if (s.taken h).bin.g3 then 0x47 else 0x53] ++
          leBytes 1 ((s.taken h).bin.runs.getD 2) ++ leBytes 4 ver ++ leBytes 1 (s.taken h).pstate ++
          leBytes 1 ((s.taken h).fld R.bookModeMode) ++ leBytes 1 ((s.taken h).fld R.cmpStatusDegraded) ++
          leBytes 1 (s.taken h).acc.opened.toNat ++ leBytes 1 ((s.taken h).fld R.rstcStrapCode) ++
          leBytes 1 ((s.taken h).wordRead R.hostStatusLinkup.addr).toNat)) ∧
    (∀ (q : Nat) (first : BitVec 32) (count : Nat), q < 256 → ringReserved q = false → 0 < count → count ≤ 15 →
      Answers (.queueRead h q first count) s h 0x22 false (s.taken h)
        (leBytes 4 ((s.taken h).fld (R.qmgrQIdxPi q)) ++ leBytes 4 ((s.taken h).fld (R.qmgrQIdxCi q)) ++
          (List.range count).flatMap fun i => (s.taken h).entryBytes q (first.toNat + i))) ∧
    Answers (.accessStatus h) s h 0x10 false (s.taken h)
      ((s.taken h).regBytes [R.acfgCtrlLoad.addr, R.acfgViolAddr.addr, R.acfgViolInfoCtx.addr] ++
        wordBytes ((((List.range 64).map fun w => (R.acfgWin w).addr) ++
          (List.range 16).flatMap fun m => (List.range 3).map fun t => (R.acfgMt m t).addr).map fun a => mget 0 (s.taken h).acc.force a)) ∧
    Answers (.keyStatus h) s h 0x12 false (s.taken h)
      ((s.taken h).regBytes [R.keysStatusPresent.addr] ++ ([0, 4, 5, 6, 7, 8].flatMap fun k => pubBytes ((s.taken h).keySlot k).pub) ++
        wordBytes (s.taken h).acc.cert) ∧
    Answers (.sensorRead h) s h 0x30 false (s.taken h)
      ((s.taken h).regBytes (((List.range 12).map fun k => (R.sensTemp k).addr) ++ ((List.range 20).map fun k => (R.sensRail k).addr) ++
        [R.sensFeed.addr, R.sensCorr.addr])) ∧
    (∀ first count : Nat, 0 < count → first + count ≤ 2 ^ 18 →
      (count ≤ 63 → (∀ i < count, (s.taken h).dirOk (first + i) = true) → Answers (.signalRead h first count) s h 0x100 false (s.taken h)
        ((List.range count).flatMap fun i => recBytes ((s.taken h).frontRec (first + i)))) ∧
      (count = 1 → (s.taken h).dirOk first = false → ∃ (v : State) (bs : List Byte), Answers (.signalRead h first count) s h 0x100 false v bs ∧
        v = { s.taken h with free := v.free, reports := (s.taken h).reports ++ [⟨0x1B, first, false⟩] } ∧ bs.length = 16) ∧
      (count ≤ 31 → Answers (.directoryRead h first count) s h 0x102 false (s.taken h)
        ((List.range count).flatMap fun i => (s.taken h).bytes 32 (dirAddr (first + i))))) ∧
    (∀ (inst first count : Nat) (r : InstRow), (s.taken h).instOf inst = some r → 0 < count → count ≤ 126 → first + count ≤ 8 * r.grains →
      Answers (.paramRead h inst first count) s h 0x103 false (s.taken h)
        (wordBytes ((List.range count).map fun i => (s.taken h).rd64 (frameAddr r.frame + 8 * (first + i))))) ∧
    (∀ inst first count : Nat, (s.taken h).instOf inst = none → Refuses (.paramRead h inst first count) s h 0x103 false stNotFound inst) ∧
    Answers (.bookStatus h) s h 0x200 false (s.taken h) ((s.taken h).slotBytes 0 ++ (s.taken h).slotBytes 1) ∧
    (∀ i < 2, Answers (.bookReport h i) s h 0x203 false (s.taken h)
      (((List.range 4).flatMap fun k => leBytes 4 (((s.taken h).slot i).counts.getD k 0)) ++ leBytes 8 ((s.taken h).slot i).detail.toNat)) ∧
    (∀ first count : Nat, first < 4096 → Answers (.forceList h first count) s h 0x300 false (s.taken h)
      (((((sortNat (s.taken h).forceValid).filter fun i => decide (first ≤ i)).take (min count 15)).flatMap fun i =>
        leBytes 2 i ++ (s.taken h).bytes 64 (forceAddr i)))) ∧
    ((s.taken h).runBook = none → Answers (.pairTimes h) s h 0x403 false (s.taken h) []) ∧
    (∀ b : Book, (s.taken h).runBook = some b →
      let f := sumFrac ((bookUsed b).map fun c => ((gIn b c + gOut b c) * 72, bookPeriod b c))
      Answers (.pairTimes h) s h 0x403 false (s.taken h)
        (((bookUsed b).flatMap fun c => leBytes 4 (takeTime b ((s.taken h).fld R.pairCfgStrict) c)) ++
          ((bookUsed b).flatMap fun c => marginBytes (linkIn b c) ++ marginBytes (linkAll b c)) ++
          marginBytes (3125000000 - ((f.1 * 1000000000 / f.2 : Nat) : Int)))) ∧
    (∀ first count : Nat, first < 256 → Answers (.stationStatus h first count) s h 0x500 false (s.taken h)
      (((List.range (min count 42)).filterMap fun i => if first + i < 256 then some (first + i) else none).flatMap fun n =>
        (s.taken h).regBytes [(R.stnStState n).addr, (R.stnSt1Losses n).addr] ++ wordBytes [((s.taken h).stnOf n).statusWord])) ∧
    (∀ r < 2, Answers (.ringStatus h r) s h 0x501 false (s.taken h)
      ((s.taken h).regBytes [(R.stnRingPortUp r).addr, (R.stnRingCntCrcerr r).addr])) ∧
    (∀ first count : Nat, first < 65536 → Answers (.fabricNodes h first count) s h 0x602 false (s.taken h)
      (packItems (((s.taken h).fab.db.filterMap fun e => e.2.bind fun x =>
        if first ≤ e.1 then some (nodeBytes e.1 x.l) else none).take count))) ∧
    (∀ first count : Nat, first < 8192 → Answers (.fabricRoutes h first count) s h 0x603 false (s.taken h)
      (packItems ((List.range (min count 91)).filterMap fun i =>
        let w := mget Route.none_ (s.taken h).fab.routes (first + i)
        if 8192 ≤ first + i then none else some (wayBytes w.a ++ wayBytes w.b ++ leBytes 1 (w.active.getD 0))))) ∧
    Answers (.soundingStatus h) s h 0x604 false (s.taken h)
      (packItems ((((s.taken h).runBook.elim [] fun b => b.pubs).map fun p =>
        let w := mget none (s.taken h).fab.pubWake p.idx
        soundingRow 0 p.idx (w.elim 0 fun _ => (s.taken h).fabWatch) (w.elim 0 fun _ => (s.taken h).fab.epoch) (w.getD 0)
          (w.elim (2 ^ 64 - 1) fun _ => 0) 0) ++
        (((s.taken h).runBook.elim [] fun b => b.subs).map fun u =>
          let x := (s.taken h).sub u.idx
          soundingRow 1 u.idx (x.last.getD (0, 0, 0)).1 (x.last.getD (0, 0, 0)).2.1 (x.last.getD (0, 0, 0)).2.2
            ((x.at2.map fun t => (s.taken h).tb 2 - t).getD (2 ^ 64 - 1)) x.level))) ∧
    Answers (.eventlogStatus h) s h 0x810 false (s.taken h)
      (leBytes 4 ((s.taken h).evOldest (s.taken h).bin.evSeq 65536) ++ leBytes 4 (((s.taken h).bin.evSeq + 2 ^ 32 - 1) % 2 ^ 32)) ∧
    (∀ (first : BitVec 32) (count : Nat), 0 < count → count ≤ 15 → Answers (.eventlogRead h first count) s h 0x811 false (s.taken h)
      ((((List.range count).map fun i => (first.toNat + i) % 2 ^ 32).filter fun q => (s.taken h).evHeld q).flatMap fun q =>
        (s.taken h).bytes 64 (logBase + q % 65536 * 64))) ∧
    Answers (.logStatus h) s h 0x900 false (s.taken h)
      ((s.taken h).regBytes [R.logbStatusState.addr, R.logbSeqNewest.addr, R.logbCkptLast.addr, R.logbCfgInterval.addr] ++
        (s.taken h).log.wins.flatMap fun w => leBytes 1 w.num ++ leBytes 8 w.first ++ leBytes 8 w.until3) ∧
    ((s.taken h).log.replay = none → Answers (.replayStatus h) s h 0x912 false (s.taken h) []) ∧
    (∀ r : Replay, (s.taken h).log.replay = some r → Answers (.replayStatus h) s h 0x912 false (s.taken h)
      ((List.range 8).flatMap fun c => leBytes 1 c ++ replayBytes (r.of c))) ∧
    (∀ n first count : Nat, n < 2 → 0 < count → count ≤ 8 → first + count ≤ 256 →
      Answers (.canRead h n first count) s h 0xB04 false (s.taken h) ((List.range count).flatMap fun i =>
        (s.taken h).regBytes ((List.range 10).map fun j => (R.canObj n (first + i)).addr + 8 * j))) ∧
    Answers (.updateStatus h) s h 0xC00 false (s.taken h)
      ((s.taken h).fwBytes 0 ++ (s.taken h).fwBytes 1 ++ leBytes 1 (s.taken h).bin.rollback)

/-- R434, R487, R501, R506, R518: settings, sessions, queues: MODULE_CONFIG keeps its settings; MODULE_RESET and CLIENT_CLOSE are answered before
the reset and the end of the session; QUEUE_ADVANCE writes the index of a ring of this client; QUEUE_BIND, EVENT_REGISTER and QUEUE_RELEASE change a
binding; each is refused with the status of the rule otherwise. -/
def Obligations.SettingsSessionsAndQueues : Prop :=
  ∀ (s : State) (h : Hdr),
    let u := s.taken h
    (∀ c : ModuleCfg, modCfgBad c = none → Answers (.moduleConfig h c) s h 0x1 false { u with bin := { u.bin with modCfg := c } } []) ∧
    (∀ (c : ModuleCfg) (k : Nat), modCfgBad c = some k → RefusesParam (.moduleConfig h c) s h 0x1 false k) ∧
    (∀ cold : Bool, s.mboxReady h 0x3 false → s.mboxFits h 0 → exec (.moduleReset h cold) s =
      .next (((u.setFlag R.fcolEscBlocked false).answered h 0x3 []).assertSource (if cold then 5 else 4))) ∧
    (s.mboxReady h 0x21 false → s.mboxFits h 0 → ∃ t, exec (.clientClose h) s = .next t ∧ t = (u.answered h 0x21 []).freePair h.pair ∧
      t.sess h.pair = Session.init) ∧
    (∀ (q : Nat) (v : BitVec 32), q < 256 → ringReserved q = false → u.ringMine h q → u.indexOk q (hostProduces q) v.toNat →
      Answers (.queueAdvance h q v) s h 0x23 false (u.indexWrite h.via q (hostProduces q) v.toNat) []) ∧
    (∀ (q : Nat) (v : BitVec 32), q < 256 → ringReserved q = false → ¬ (u.ringMine h q ∧ u.indexOk q (hostProduces q) v.toNat) →
      AnswersWith (.queueAdvance h q v) s h 0x23 false (u.incSat (if h.via = .pcie then R.hostStatusIdxErr else R.qmgrQCfgLost q)) stBadParam
        (h.offs.getD (if u.ringMine h q then 1 else 0) 0)) ∧
    (∀ (q : Nat) (v : BitVec 32), 256 ≤ q ∨ ringReserved q → RefusesParam (.queueAdvance h q v) s h 0x23 false 0) ∧
    (∀ (q holdoff : Nat) (notify : List Nat) (dest destRing : Nat), 64 ≤ q → q < 256 → ringReserved q = false →
      (hostProduces q ∨ hostConsumes q) → holdoff < 256 → notify.length ≤ 4 → (∀ a ∈ notify, a < 65536) →
      (160 ≤ q → q < 192 → dest < 65536 ∧ 128 ≤ destRing ∧ destRing < 160) →
      ((∀ b, u.bindOf q = some b → b.client = h.client) → ∃ v, Answers (.queueBind h q holdoff notify dest destRing) s h 0x24 false v [] ∧
        v.bindOf q = some ⟨h.client, notify, dest, destRing, ((u.bindOf q).map fun (b : Binding) => b.filter).getD []⟩ ∧
        (∀ k, k ≠ q → v.bindOf k = u.bindOf k) ∧ FldsKept u v [R.qmgrQCfgHoldoff q, R.qmgrQCfgBound q] ∧
        v.fld (R.qmgrQCfgHoldoff q) = holdoff ∧ v.flag (R.qmgrQCfgBound q) = true ∧
        v = { u with regs := v.regs, mail := { u.mail with binds := v.mail.binds } }) ∧
      (∀ b, u.bindOf q = some b → b.client ≠ h.client →
        Refuses (.queueBind h q holdoff notify dest destRing) s h 0x24 false stTableFull 0)) ∧
    (∀ (q : Nat) (ranges : List (Nat × Nat)) (b : Binding), u.bindOf q = some b → b.client = h.client → 64 ≤ q → q < 128 → ranges.length ≤ 8 →
      ∃ v, Answers (.eventRegister h q ranges) s h 0x25 false v [] ∧ v.bindOf q = some { b with filter := ranges } ∧
        (∀ k, k ≠ q → v.bindOf k = u.bindOf k) ∧ v = { u with mail := { u.mail with binds := v.mail.binds } }) ∧
    (∀ (q : Nat) (b : Binding), u.bindOf q = some b → b.client = h.client → ∃ v, Answers (.queueRelease h q) s h 0x26 false v [] ∧
      v.bindOf q = none ∧ (∀ k, k ≠ q → v.bindOf k = u.bindOf k) ∧ v.flag (R.qmgrQCfgBound q) = false ∧ FldsKept u v [R.qmgrQCfgBound q] ∧
      v = { u with regs := v.regs, mail := { u.mail with binds := v.mail.binds, drops := v.mail.drops } }) ∧
    (∀ q : Nat, (∀ b, u.bindOf q = some b → b.client ≠ h.client) → RefusesParam (.queueRelease h q) s h 0x26 false 0)

/-- R465, R473, R476 to R480, R484, R529, R557: access settings, keys, the debug gate and the sensor limit: what each command leaves when it is
carried out, and when it is refused. The public key of a new identity and the challenge are values that no rule states (DESIGN CHOICE, assumption 5); the failing slot
as the detail of source 42h is the model's (DESIGN CHOICE, assumption 16). -/
def Obligations.KeysAndTheDebugGate : Prop :=
  ∀ (s : State) (h : Hdr),
    let u := s.taken h
    (∀ c : AccessCfg, c.wins.all companionWin → winsClash c.wins = false → c.tables.all companionTable → c.aps.all companionAp →
      Answers (.accessConfig h c) s h 0x11 false { u with acc := { u.acc with next := some c } } []) ∧
    ((u.keySlot 0).present = false → ∃ v, Answers (.keyIdentity h) s h 0x13 false v (pubBytes (u.freeWords 12).2) ∧
      v.keySlot 0 = ⟨true, false, (u.freeWords 12).2⟩ ∧ SlotsKept u v [0] ∧ v.acc.certOk = false ∧ ProgramKept u v) ∧
    ((u.keySlot 0).present = true → Refuses (.keyIdentity h) s h 0x13 false stState u.pstate) ∧
    (∀ slot, 1 ≤ slot → slot ≤ 3 → u.keyOk 0 → ∃ v, Answers (.keyProvision h (.wrapped slot true)) s h 0x14 false v [] ∧
      v.keySlot slot = ⟨true, false, []⟩ ∧ SlotsKept u v [slot] ∧ ProgramKept u v) ∧
    (∀ slot, 1 ≤ slot → slot ≤ 3 → Refuses (.keyProvision h (.wrapped slot false)) s h 0x14 false stKey slot) ∧
    (∀ (slot : Nat) (key : List W64) (signed : Bool), 4 ≤ slot → slot ≤ 8 →
      ((u.keySlot slot).present = false ∨ u.acc.opened ∨ (signed ∧ u.keyOk slot) → ∃ v,
        Answers (.keyProvision h (.pub slot key signed)) s h 0x14 false v [] ∧
        v.keySlot slot = ⟨true, false, key⟩ ∧ SlotsKept u v [slot] ∧ ProgramKept u v) ∧
      ((u.keySlot slot).present → u.acc.opened = false → signed = false →
        Refuses (.keyProvision h (.pub slot key signed)) s h 0x14 false stKey slot)) ∧
    (∀ c : List W64, Answers (.keyProvision h (.cert c)) s h 0x14 false
      { u with acc := { u.acc with cert := c, certOk := (u.keySlot 0).present } } []) ∧
    (u.mayCommit = true → ∃ v, Answers (.keyCommit h) s h 0x15 false v [] ∧ v.acc = { u.acc with opened := false, zeroed := false } ∧
      v.flag R.keysStatusOpened = false ∧ v.flag R.keysStatusZeroed = false ∧ Raised u v evKeysCommitted ∧
      v.flag R.fabCtrlJoined = (u.pair.testsDone.isSome && u.flag R.fabAddrValid && !u.flag R.fabAddrConflict && u.flag R.rstcStrapValid &&
        u.bootMode != 3)) ∧
    (u.mayCommit = false → Refuses (.keyCommit h) s h 0x15 false stNotReady 0) ∧
    (∃ v, Answers (.debugChallenge h) s h 0x16 false v (wordBytes [v.wordRead R.dbgChal.addr]) ∧
      v.reg R.dbgChal.addr = Config.freeWord u.free ∧ v.acc = { u.acc with chalAt := some (u.tb 3) } ∧
      (∀ a, a ≠ R.dbgChal.addr → v.reg a = u.reg a) ∧ ProgramKept u v) ∧
    (∀ (t : Token) (bad : Option (Fin 4)) (r : Nat), u.tokenBad t = some r →
      AnswersWith (.debugUnlock h t bad) s h 0x17 false u.dropChallenge stDebugRefused r) ∧
    (∀ (t : Token) (bad : Option (Fin 4)), u.tokenBad t = none → ∃ v, Answers (.debugUnlock h t bad) s h 0x17 false v [] ∧
      v.acc.opened = true ∧ v.acc.chalAt = none ∧ v.reg R.dbgChal.addr = 0 ∧ (∀ k < 4, v.keySlot k = KeySlot.init) ∧
      SlotsKept u v [0, 1, 2, 3] ∧ v.fab.sak = [] ∧ v.flag (R.fabPortSecured 2) = false ∧ v.flag (R.fabPortSecured 3) = false ∧
      v.flag R.fabCtrlJoined = false ∧
      (bad = none → v.acc.zeroed = true ∧ (u.inReset 19 = false → v.flag R.dbgGateOpen = true ∧ v.fld R.dbgGateScope = t.scope ∧
        Raised u v evDebugOpened)) ∧
      (∀ k, bad = some k → v.acc.zeroed = false ∧ v.flag R.dbgGateOpen = u.flag R.dbgGateOpen ∧ v.reports = u.reports ++ [⟨0x42, k.val, false⟩] ∧
        Raised u v evKeyZeroiseFail)) ∧
    Answers (.debugClose h) s h 0x18 false u.gateClose [] ∧ (u.flag R.dbgGateOpen = false → u.gateClose = u) ∧
    (∀ limit, 1 ≤ limit → limit ≤ 4 → ∃ v, Answers (.sensorConfig h limit) s h 0x31 false v [] ∧
      v.bin = { u.bin with corr := putBits u.bin.corr 36 3 limit } ∧ v.reg R.sensCorr.addr = v.bin.corr ∧ getBits v.bin.corr 36 3 = limit ∧
      v = { u with bin := v.bin, regs := v.regs } ∧ ∀ a, a ≠ R.sensCorr.addr → v.reg a = u.reg a) ∧
    (∀ limit, limit = 0 ∨ 4 < limit → RefusesParam (.sensorConfig h limit) s h 0x31 false 0)

/-- R307, R353, R355, R393, R394, R466, R503, R572, R578, R588, R592: the commands that act on one module's stations, fabric counters, analogue trims,
cabinet bus and memory, and the handover command: whenever the turn of one has come and its parameters are in range it answers OK, with the effect named and
no other; where its condition fails it is refused with the status of the rule. -/
def Obligations.LocalBlockCommands : Prop :=
  ∀ (s : State) (h : Hdr),
    let u := s.taken h
    (∀ n < 256, ∃ v, Answers (.stationClear h true n) s h 0x504 false v [] ∧ FldsOnly u v [R.stnStUndelivered n, R.stnSt1Losses n] ∧
      v.fld (R.stnStUndelivered n) = 0 ∧ v.fld (R.stnSt1Losses n) = 0) ∧
    (∀ r < 2, ∃ v, Answers (.stationClear h false r) s h 0x504 false v [] ∧
      FldsOnly u v [R.stnRingCntCrcerr r, R.stnRingCntLate r, R.stnRingCntForeign r, R.stnRingCntSkew r] ∧ v.fld (R.stnRingCntCrcerr r) = 0 ∧
      v.fld (R.stnRingCntLate r) = 0 ∧ v.fld (R.stnRingCntForeign r) = 0 ∧ v.fld (R.stnRingCntSkew r) = 0) ∧
    (∀ (r : Nat) (on : Bool) (count : Nat), r < 2 → (on → 0 < count ∧ count ≤ 65535) → ∃ v,
      Answers (.stationCapture h r on count) s h 0x505 false v [] ∧ v = { u with stn := { u.stn with capture := v.stn.capture } } ∧
      mget 0 v.stn.capture r = (if on then count else 0) ∧ ∀ k, k ≠ r → mget 0 v.stn.capture k = mget 0 u.stn.capture k) ∧
    (∀ r : Nat, RefusesParam (.stationCapture h (r + 2) false 0) s h 0x505 false 0) ∧
    (∀ port : Option Nat, (∀ p, port = some p → p = 2 ∨ p = 3) → ∃ v, Answers (.fabricClear h port) s h 0x605 false v [] ∧
      FldsOnly u v ((match port with | some p => [p] | none => [2, 3]).flatMap fun p =>
        [R.fabPortCntCrcerr p, R.fabPortCntHops p, R.fabPortCntDropped p, R.fabPortCntUnreach p]) ∧
      ∀ p, (p = 2 ∨ p = 3) → (port = none ∨ port = some p) → v.fld (R.fabPortCntCrcerr p) = 0 ∧ v.fld (R.fabPortCntHops p) = 0 ∧
        v.fld (R.fabPortCntDropped p) = 0 ∧ v.fld (R.fabPortCntUnreach p) = 0) ∧
    (∀ (k : Nat) (amps : BitVec 32), k < 4 → u.trimOk k →
      (∃ v, Answers (.fieldTrim h k .drive4 amps) s h 0xA01 false v [] ∧ v.field.trim = some (k, 4000000, u.tb 3) ∧
        v = { u with field := { u.field with trim := v.field.trim } }) ∧
      (∃ v, Answers (.fieldTrim h k .drive20 amps) s h 0xA01 false v [] ∧ v.field.trim = some (k, 20000000, u.tb 3) ∧
        v = { u with field := { u.field with trim := v.field.trim } }) ∧
      (∃ v, Answers (.fieldTrim h k .set4 amps) s h 0xA01 false v [] ∧ v.ao k = { u.ao k with m4 := some amps.toNat } ∧
        (∀ j, j ≠ k → v.ao j = u.ao j) ∧ v = { u with field := { u.field with trim := v.field.trim, ao := v.field.ao } }) ∧
      (∃ v, Answers (.fieldTrim h k .set20 amps) s h 0xA01 false v [] ∧ v.ao k = { u.ao k with m20 := some amps.toNat } ∧
        (∀ j, j ≠ k → v.ao j = u.ao j) ∧ v = { u with field := { u.field with trim := v.field.trim, ao := v.field.ao } }) ∧
      (∀ a b, (u.ao k).m4 = some a → (u.ao k).m20 = some b →
        (3900000 ≤ a → a ≤ 4100000 → 19900000 ≤ b → b ≤ 20100000 → ∃ v, Answers (.fieldTrim h k .commit amps) s h 0xA01 false v [] ∧
          v.fld (R.fldAoTrimM4 k) = a ∧ v.fld (R.fldAoTrimM20 k) = b ∧ v.field.trim = none ∧ mget trimNominal v.field.trims k = (a, b) ∧
          FldsKept u v [R.fldAoTrimM4 k, R.fldAoTrimM20 k] ∧ Raised u v 0x0A05 ∧ v.mem = u.mem ∧ v.lanes = u.lanes ∧ v.pair = u.pair) ∧
        (a < 3900000 ∨ 4100000 < a ∨ b < 19900000 ∨ 20100000 < b →
          AnswersWith (.fieldTrim h k .commit amps) s h 0xA01 false
            (if u.field.trim.elim false fun t => t.1 != k then u.trimEnd else u) stBadParam (h.offs.getD 1 0)))) ∧
    (∀ (k : Nat) (step : TrimStep) (amps : BitVec 32), k < 4 → u.trimOk k = false → Refuses (.fieldTrim h k step amps) s h 0xA01 false stState u.pstate) ∧
    (∀ k < 4, ∃ v, Answers (.fieldClear h k) s h 0xA02 false v [] ∧ FldsOnly u v [R.fldAoFlagsOpenL k, R.fldAoFlagsComplL k, R.fldAoFlagsStageL k] ∧
      v.fld (R.fldAoFlagsOpenL k) = 0 ∧ v.fld (R.fldAoFlagsComplL k) = 0 ∧ v.fld (R.fldAoFlagsStageL k) = 0) ∧
    (∀ n < 2, u.fld (R.canStatusErrstate n) = 2 → ∃ v, Answers (.canRecover h n) s h 0xB05 false v [] ∧
      v.canOf n = { u.canOf n with recovering := true } ∧ (∀ k, k ≠ n → v.canOf k = u.canOf k) ∧ v = { u with can := v.can }) ∧
    (∀ n < 2, u.fld (R.canStatusErrstate n) ≠ 2 → Answers (.canRecover h n) s h 0xB05 false u []) ∧
    (∀ n < 2, ∃ v, Answers (.canClear h n) s h 0xB06 false v [] ∧
      FldsOnly u v [R.canCntTxok n, R.canCntRxok n, R.canCntErrors n, R.canCntOvf0 n, R.canCntOvf1 n] ∧ v.fld (R.canCntTxok n) = 0 ∧
      v.fld (R.canCntRxok n) = 0 ∧ v.fld (R.canCntErrors n) = 0 ∧ v.fld (R.canCntOvf0 n) = 0 ∧ v.fld (R.canCntOvf1 n) = 0) ∧
    (∀ nb : Option (BitVec 64), u.isActive → u.fitPartner → u.book.turn = none → u.book.pendMode = none → ∃ v,
      Answers (.pairHandover h nb) s h 0x401 true v [] ∧ v.pair.handover = some ⟨4, 1, 0, false, 0, (nb.map (·.toNat)).getD 0, false⟩ ∧
      (u.pair.lineSafe = false → u.sentRec v (.notice 3 0)) ∧
      v = { u with out := v.out, pair := { u.pair with handover := v.pair.handover, deferred := none, txSeq := v.pair.txSeq, sent := v.pair.sent } }) ∧
    (∀ nb : Option (BitVec 64), u.isActive → u.mayHandOver = false → Refuses (.pairHandover h nb) s h 0x401 true stNotReady 0) ∧
    (∀ (a : BitVec 64) (colour width count : Nat), expertBad a colour width count 126 = none →
      (∀ x ∈ expertAddrs a width count, targetOf x ≠ some 3 ∧ u.expertDenied colour x width false = none) →
      ∃ v, Answers (.expertRead h a colour width count) s h 0xF00 false v ((expertAddrs a width count).flatMap fun x => u.bytes width x) ∧
        v = { u with bus := v.bus }) ∧
    (∀ (a : BitVec 64) (colour width count r : Nat), expertBad a colour width count 126 = none → count = 1 → targetOf a.toNat ≠ some 3 →
      u.expertDenied colour a.toNat width false = some r → ∃ (v : State) (bs : List Byte), bs.length = width ∧
        (s.mboxReady h 0xF00 false → s.mboxFits h width →
          exec (.expertRead h a colour width count) s = .next (v.answer h.pair ⟨0xF00, h.tally, stAccessDenied, r, bs⟩)) ∧ v.mem = u.mem) ∧
    (∀ (a : BitVec 64) (colour width : Nat) (w : W64), expertBad a colour width 1 124 = none → targetOf a.toNat ≠ some 3 →
      (a.toNat + width ≤ 0x800000 ∨ 0x1000000 ≤ a.toNat) → u.expertDenied colour a.toNat width true = none →
      ∃ v, Answers (.expertWrite h a colour width [w]) s h 0xF01 false v [] ∧ v.bytes width a.toNat = leBytes width w.toNat ∧
        (∀ c, c < a.toNat ∨ a.toNat + width ≤ c → v.byte c = u.byte c) ∧ v = { u with mem := v.mem, bus := v.bus }) ∧
    (∀ (a : BitVec 64) (colour width count k : Nat), expertBad a colour width count 126 = some k →
      RefusesParam (.expertRead h a colour width count) s h 0xF00 false k)

/-- R505, R538, R539, R547 to R553, R557: the commands of the Logbook, of Bench replay and of firmware update: what each leaves when its preconditions
hold, and its status when they do not. NOT_READY for the update commands, the reason byte of UPDATE_LOAD and the use of a conversion by the latest record in LOG_FREEZE are
the model's choices (DESIGN CHOICE, assumption 23). -/
def Obligations.LogsReplaysAndUpdates : Prop :=
  ∀ (s : State) (h : Hdr),
    let u := s.taken h
    (∀ (t0 : BitVec 64) (t : Nat), u.retained t0.toNat = some t → Answers (.logFreeze h t0) s h 0x902 false (u.logFreeze t) []) ∧
    (∀ t0 : BitVec 64, u.retained t0.toNat = none → RefusesParam (.logFreeze h t0) s h 0x902 false 0) ∧
    (∀ num : Nat, (∃ w ∈ u.log.wins, w.num = num) → ∃ v, Answers (.logRelease h num) s h 0x903 false v [] ∧
      v.log = { u.log with wins := u.log.wins.filter fun w => w.num != num } ∧ v = { u with log := v.log, regs := v.regs } ∧
      FldsKept u v [R.logbStatusFrozen]) ∧
    (∀ num : Nat, (∀ w ∈ u.log.wins, w.num ≠ num) → RefusesParam (.logRelease h num) s h 0x903 false 0) ∧
    (∀ (first last : Nat) (b : Binding), u.bindOf 246 = some b → b.client = h.client → u.log.export_ = none →
      (∃ r ∈ u.log.flash, first ≤ r.seq ∧ r.seq ≤ last) →
      Answers (.logExport h none first last) s h 0x904 false
        ({ u with log := { u.log with export_ := some ⟨exportEntries u.pair.serial (u.log.flash.filter fun r => decide (first ≤ r.seq) && decide (r.seq ≤ last)),
          h.client⟩ } }).exportPump []) ∧
    (∀ (win : Option Nat) (first last : Nat), (∀ b, u.bindOf 246 = some b → b.client ≠ h.client) →
      Refuses (.logExport h win first last) s h 0x904 false stNotReady 0) ∧
    (u.fld R.logbStatusState = 1 → u.log.ckpt = none → ∃ v, Answers (.logCheckpoint h) s h 0x905 false v [] ∧
      v.log.ckpt = some ⟨u.tb 2, false, []⟩ ∧ v.log.ckptDue = false ∧ v.mem = u.mem ∧ v.lanes = u.lanes ∧ v.pair = u.pair) ∧
    (u.fld R.logbStatusState = 1 → u.log.ckpt ≠ none → Refuses (.logCheckpoint h) s h 0x905 false stBusy 0) ∧
    (u.fld R.logbStatusState ≠ 1 → Refuses (.logCheckpoint h) s h 0x905 false stState (u.fld R.logbStatusState)) ∧
    (∀ (c : Chunk) (recs : List LogRec), u.bootMode = 3 → u.fld R.logbStatusState ≠ 2 → (u.mail.bulk.find? fun b => b.id == c.id && b.pair == h.pair) = none →
      u.mail.bulk.length < 4 → c.offset = 0 → c.crcOk → c.data.length ≤ 992 → c.total = c.data.length → ∃ v,
      Answers (.replayImport h c (some recs)) s h 0x910 false v [] ∧ v.log.flash = recs ∧ v.log.imported = true ∧ v.log.replay = none ∧
        v.mail.bulk = u.mail.bulk ∧ v.fld R.logbSeqNewest = (recs.getLast?.map (·.seq)).getD 0 % 2 ^ R.logbSeqNewest.len ∧
        FldsKept u v [R.logbSeqNewest] ∧ v.mem = u.mem) ∧
    (∀ (bySeq check : Bool) (v stop : Nat), u.bootMode = 3 → u.fld R.logbStatusState ≠ 2 → (u.replayStart bySeq v stop check).2 = none →
      Answers (.replayStart h bySeq v stop check) s h 0x911 false (u.replayStart bySeq v stop check).1 []) ∧
    (∀ (bySeq check : Bool) (v stop : Nat), u.bootMode = 3 → u.fld R.logbStatusState ≠ 2 → u.replayCkpt bySeq v = none →
      Refuses (.replayStart h bySeq v stop check) s h 0x911 false stNotFound (v % 2 ^ 32)) ∧
    (∀ (bySeq check : Bool) (v stop : Nat), u.bootMode ≠ 3 →
      Refuses (.replayStart h bySeq v stop check) s h 0x911 false stState (u.fld R.logbStatusState)) ∧
    (u.bootMode = 3 → u.fld R.logbStatusState ≠ 2 → Answers (.replayStop h) s h 0x913 false u []) ∧
    (u.bootMode = 3 → u.fld R.logbStatusState = 2 → ∃ v, Answers (.replayStop h) s h 0x913 false v [] ∧ v.classes = [] ∧ v.mem = u.mem) ∧
    (∀ c : Fin 8, s.log.replay = none → exec (.replayPublishCompare c) s = .next s) ∧
    (∀ (c : Fin 8) (rp : Replay) (r : LogRec) (p : State), s.log.replay = some rp → s.replayAt c.val = some r → (rp.of c.val).state = 0 →
      r.typ = 2 → r.cls = c.val → ((s.cls c.val).inFlight → (s.cls c.val).complete) →
      p = ((((if r.flags.testBit 1 then s.stopRecords c.val else s).flip c.val 0).finishBack c.val 0).modCls c.val
        fun k => { k with inFlight := false, wrFrm := [], wrMisc := [] }) →
      exec (.replayPublishCompare c) s = .next (p.compare rp c.val r).replayOn ∧
      ((∀ k < 8, p.laneHash c.val k = r.body.getD (2 + k) 0) → rp.check = false →
        p.compare rp c.val r = p.modReplay c.val fun x => { x with compared := x.compared + 1, pos := r.seq + 1 }) ∧
      (∀ k < 8, p.laneHash c.val k ≠ r.body.getD (2 + k) 0 → Raised p (p.compare rp c.val r) evReplayDiverged)) ∧
    (∀ (c : Chunk) (sigOk : Bool), let im : FwImage := ⟨c.data.take 64, c.data.length, sigOk⟩
      (u.mail.bulk.find? fun b => b.id == c.id && b.pair == h.pair) = none → u.mail.bulk.length < 4 → c.offset = 0 →
      c.crcOk → c.data.length ≤ 992 → c.total = c.data.length →
      (im.headerOk → sigOk → u.bin.rollback ≤ im.secver → ∀ r, u.bin.runs = some r → r < 2 →
        ∃ v, Answers (.updateLoad h c sigOk) s h 0xC01 false v [0] ∧ v.fwSlot (1 - r) = some ⟨im.version, im.secver, im.pairLevel⟩ ∧
          (∀ k, k ≠ 1 - r → v.fwSlot k = u.fwSlot k) ∧ v.bin.loaded = some (1 - r) ∧ v.bin.perm = u.bin.perm ∧ v.bin.rollback = u.bin.rollback ∧
          Raised u v evUpdateLoaded ∧ v.mem = u.mem) ∧
      (im.headerOk = false ∨ sigOk = false → ∃ v, Answers (.updateLoad h c sigOk) s h 0xC01 false v [1] ∧ v.bin = u.bin ∧ Raised u v evUpdateRefused) ∧
      (im.headerOk → sigOk → im.secver < u.bin.rollback →
        ∃ v, Answers (.updateLoad h c sigOk) s h 0xC01 false v [2] ∧ v.bin = u.bin ∧ Raised u v evUpdateRefused)) ∧
    (∀ i : Nat, u.pstate ≠ psActive → u.trialSlot = some i → s.mboxReady h 0xC02 false → s.mboxFits h 0 →
      exec (.updateActivate h) s = .next (((((u.markTrial (some ⟨i, false, false⟩)).vecPost 259).answered h 0xC02 [])).assertSource 4)) ∧
    (u.pstate = psActive → Refuses (.updateActivate h) s h 0xC02 false stState psActive ∧ Refuses (.updateRevert h) s h 0xC04 false stState psActive) ∧
    (∀ (t : Trial) (f : FwSlot), u.bin.trialRec = some t → t.passed → u.bin.runs = some t.slot → u.fwSlot t.slot = some f → u.sameVersion f.version →
      ∃ v, Answers (.updateCommit h) s h 0xC03 false v [] ∧ v.bin.perm = t.slot ∧ v.bin.rollback = max u.bin.rollback f.secver ∧
        v.bin.trialRec = none ∧ v.bin.trialBkp = none ∧ v.bin.fw = u.bin.fw ∧ Raised u v evUpdateCommitted ∧ v.mem = u.mem) ∧
    (u.bin.trialRec = none → Refuses (.updateCommit h) s h 0xC03 false stNotReady 0) ∧
    (∀ t : Trial, u.pstate ≠ psActive → u.bin.trialRec = some t → Answers (.updateRevert h) s h 0xC04 false ((u.markTrial none).vecPost 259) [])

/-- R68, R107 to R110, R178, R231, R295, R315, R353, R394, R423, R499, R519, R541, R592: the commands that change the program's state: whenever the turn of one
has come, its module is active and its parameters are in range, it is accepted, and it is refused with the status of the rule otherwise. -/
def Obligations.MirroredCommandsAreAccepted : Prop :=
  ∀ (s : State) (h : Hdr),
    let u := s.taken h
    (∀ m : ModeCmd, u.modeBad h m = none →
      Accepts (.modeCmd h m) s h 0x2 { u.setFlag R.bookModePending true with book := { u.book with pendMode := some m } } (.mode m) (modeWords m)) ∧
    (∀ m : ModeCmd, u.book.pendMode ≠ none → Refuses (.modeCmd h m) s h 0x2 true stPending u.pendTick) ∧
    (u.book.pendMode = none → u.fld R.bookModeMode = 0 → Refuses (.modeCmd h .stop) s h 0x2 true stState 0 ∧
      ∀ set, Refuses (.modeCmd h (.hold set)) s h 0x2 true stState 0) ∧
    (∀ (sig : Nat) (v : W64) (qual : Nat), sig < 2 ^ 18 → (u.dirEntry sig).typ ≠ 0 →
      ((u.dirEntry sig).bind = 4 → valueOk (u.dirEntry sig).typ v → qual ≤ 4 →
        Accepts (.signalWrite h sig v qual) s h 0x101 u (.signalWrite sig qual v) [sig, v.toNat, qual]) ∧
      ((u.dirEntry sig).bind ≠ 4 → Refuses (.signalWrite h sig v qual) s h 0x101 true stNotWritable sig) ∧
      (valueOk (u.dirEntry sig).typ v → qual ≤ 4 → (u.forceOf sig ≠ none ∨
          u.forceValid.length + (u.forcesDue.filter fun g => g != sig).length < 4096) →
        Accepts (.forceSet h sig qual v) s h 0x301 u (.forceSet sig qual v) [sig, qual, v.toNat]) ∧
      (valueOk (u.dirEntry sig).typ v → qual ≤ 4 → u.forceOf sig = none →
        4096 ≤ u.forceValid.length + (u.forcesDue.filter fun g => g != sig).length →
        Refuses (.forceSet h sig qual v) s h 0x301 true stTableFull 0) ∧
      (u.forceOf sig ≠ none → Accepts (.forceRelease h sig) s h 0x302 u (.forceRelease sig) [sig]) ∧
      (u.forceOf sig = none → Refuses (.forceRelease h sig) s h 0x302 true stNotFound sig)) ∧
    (∀ (sig : Nat) (v : W64) (qual : Nat), sig < 2 ^ 18 → (u.dirEntry sig).typ = 0 →
      Refuses (.signalWrite h sig v qual) s h 0x101 true stNotFound sig ∧ Refuses (.forceSet h sig qual v) s h 0x301 true stNotFound sig ∧
      Refuses (.forceRelease h sig) s h 0x302 true stNotFound sig) ∧
    (∀ cls : Option Nat, (∀ c, cls = some c → c < 8) →
      Accepts (.forceReleaseAll h cls) s h 0x303 u (.forceReleaseAll cls) [cls.getD 255]) ∧
    (∀ (inst word : Nat) (v : W64) (r : InstRow), u.instOf inst = some r → u.tuneBad r word v = none →
      Accepts (.paramTune h inst word v) s h 0x104 u (.tune inst word v) [inst, word, v.toNat]) ∧
    (∀ (inst word : Nat) (v : W64), u.instOf inst = none → Refuses (.paramTune h inst word v) s h 0x104 true stNotFound inst) ∧
    (∀ c : PairCfg, pairCfgBad c = none → Accepts (.pairConfig h c) s h 0x402 u (.pairConfig c)
      [c.strict, c.strictWait, c.reclaim, c.detachWarm.toNat, c.exercise, c.pwait, c.serial]) ∧
    (∀ (c : PairCfg) (k : Nat), pairCfgBad c = some k → RefusesParam (.pairConfig h c) s h 0x402 true k) ∧
    (∀ n < 256, (u.fld (R.stnStState n) = 6 → Accepts (.stationRelease h n) s h 0x502 u (.stationRelease n) [n]) ∧
      (u.fld (R.stnStState n) = 0 → Refuses (.stationRelease h n) s h 0x502 true stNotFound n) ∧
      (u.fld (R.stnStState n) ≠ 0 → u.fld (R.stnStState n) ≠ 6 → Refuses (.stationRelease h n) s h 0x502 true stState (u.fld (R.stnStState n)))) ∧
    (∀ ring : Option Nat, (∀ r, ring = some r → r < 2) →
      Accepts (.stationReleaseAll h ring) s h 0x503 u (.stationReleaseAll ring) [ring.getD 255]) ∧
    (∀ c : FabricCfg, c.pair < 4096 → 0 < c.cost2 → c.cost2 < 65536 → 0 < c.cost3 → c.cost3 < 65536 →
      Accepts (.fabricConfig h c) s h 0x601 u (.fabricConfig c) [c.pair, c.cost2, c.cost3]) ∧
    (∀ c : TimeCfg, timeCfgBad c = none → ∃ params, Accepts (.timeConfig h c) s h 0x701 u (.timeConfig c) params) ∧
    (∀ (tai : BitVec 64) (utc : Int), u.fld R.timeStatusTb0State = 0 ∨ u.fld R.timeStatusTb0State = 3 → -32768 ≤ utc → utc ≤ 32767 →
      Accepts (.timeSet h tai utc) s h 0x702 u (.timeSet tai.toNat utc) [tai.toNat, (utc % 2 ^ 64).toNat]) ∧
    (∀ (tai : BitVec 64) (utc : Int), u.fld R.timeStatusTb0State ≠ 0 → u.fld R.timeStatusTb0State ≠ 3 →
      Refuses (.timeSet h tai utc) s h 0x702 true stState (u.fld R.timeStatusTb0State)) ∧
    (∀ target : Option (BitVec 64), (u.fld R.bookModeMode = 0 →
        Accepts (.tb2Step h target) s h 0x703 u (.tb2Step (target.map (·.toNat))) [(target.map (·.toNat)).getD 0]) ∧
      (u.fld R.bookModeMode ≠ 0 → Refuses (.tb2Step h target) s h 0x703 true stState (u.fld R.bookModeMode))) ∧
    (∀ c : LogCfg, 1 ≤ c.interval → c.interval ≤ 1440 → 1 ≤ c.freeze → c.freeze ≤ 60 →
      Accepts (.logConfig h c) s h 0x901 u (.logConfig c) [c.interval, c.freeze]) ∧
    (∀ c : CanCfg, canCfgBad c = none → Accepts (.canConfig h c) s h 0xB01 u (.canConfig c)
      ([c.ch, c.nominal, c.data, c.autoRec.toNat, c.watchEn.toNat, c.watchId] ++ c.filters.flatMap canFilterWords)) ∧
    (∀ c : CanObjCfg, c.ch < 2 → c.obj < 256 → canObjOk c.w0 c.w1 → Accepts (.canObject h c) s h 0xB02 u (.canObject c)
      ([c.ch, c.obj, c.w0.toNat, c.w1.toNat] ++ c.data.map (·.toNat))) ∧
    (∀ n k : Nat, n < 2 → k < 256 → Accepts (.canSend h n k) s h 0xB03 u (.canSend n k) [n, k])

/-- R68, R107, R109, R178, R230, R295, R315, R321, R347, R353, R397, R399, R541, R556, R586: EFFECT_INSTANT: TB2 reaches the instant (DESIGN CHOICE, assumption 6), a command
whose instant has come is done, and has its effect; without one nothing changes. -/
def Obligations.CommandsTakeEffectAtTheirInstant : Prop :=
  ∀ (s : State) (t : Nat),
    ((∀ m ∈ s.pair.mirrors, m.fixed → m.done ∨ t < m.effect) → exec (.effectInstant t) s = .next s) ∧
    (∀ m : MirCmd, (s.pair.mirrors.filter fun x => x.fixed && !x.done && decide (x.effect ≤ t)) = [m] → ∃ p : State,
      exec (.effectInstant t) s = .next (if (p.takeEffect m).inherited m then (p.takeEffect m).completed m else p.takeEffect m) ∧
      p = { s with tbs := p.tbs, pair := { s.pair with mirrors := p.pair.mirrors } } ∧
      (∀ x ∈ p.pair.mirrors, x.fixed → x.done ∨ t < x.effect) ∧
      (s.tbInc 2 ≠ 0 → s.tbFix 2 < 2 ^ 96 → t + 16 < 2 ^ 64 → t ≤ p.tb 2)) ∧
    (∀ (p : State) (m : MirCmd),
      (m.body = .mode .stop → (p.takeEffect m).fld R.bookModeMode = 0 ∧ (p.takeEffect m).book.pendMode = none ∧
        (p.takeEffect m).flag R.bookModePending = false ∧ ∀ c < 8, p.used c → ((p.takeEffect m).cls c).modeTo = some 0) ∧
      (m.body = .mode (.run .resume) → (p.takeEffect m).fld R.bookModeMode = 1 ∧ (p.takeEffect m).book.pendMode = none ∧
        ∀ c < 8, p.used c → ((p.takeEffect m).cls c).modeTo = some 1) ∧
      (∀ set, m.body = .mode (.hold set) → (p.takeEffect m).fld R.bookModeMode = 2 ∧ (p.takeEffect m).book.pendMode = none ∧
        ∀ c < 8, p.used c → ((p.takeEffect m).cls c).modeTo = some (if set.testBit c then 2 else 1)) ∧
      (∀ c, m.body = .mode (.step c) → (p.takeEffect m).fld R.bookModeMode = p.fld R.bookModeMode ∧ ((p.takeEffect m).cls c).modeTo = some 3 ∧
        ∀ d, d ≠ c → (p.takeEffect m).cls d = p.cls d) ∧
      (∀ inst word v, m.body = .tune inst word v → p.takeEffect m = { p with book := { p.book with pend := p.book.pend ++
        [⟨p.bodyClass m.body, m.effect, none, m.client, m.logSeq, false, m.body⟩] } }) ∧
      (∀ sig qual v, m.body = .signalWrite sig qual v → p.takeEffect m = { p with book := { p.book with pend := p.book.pend ++
        [⟨(p.dirEntry sig).cls, m.effect, none, m.client, m.logSeq, false, m.body⟩] } }) ∧
      (∀ sig qual v, m.body = .forceSet sig qual v → p.isActive → p.takeEffect m = (p.forceSet sig qual m.client v).addPend m (p.dirEntry sig).cls true) ∧
      (∀ sig qual v, m.body = .forceSet sig qual v → p.isActive = false → p.takeEffect m = p.addPend m (p.dirEntry sig).cls false) ∧
      (∀ i nb, m.body = .bookTurn i nb → p.takeEffect m = p) ∧
      (∀ c : PairCfg, m.body = .pairConfig c → c.strict < 256 → (p.takeEffect m).fld R.pairCfgStrict = c.strict ∧ (p.takeEffect m).bin.pairCfg = c ∧
        (p.takeEffect m).pair.prefSerial = c.serial ∧ (p.takeEffect m).flag R.pairStatePreferred = (c.serial != 0 && c.serial == p.pair.serial)) ∧
      (∀ c : LogCfg, m.body = .logConfig c → c.interval ≤ 1440 → c.freeze ≤ 60 → (p.takeEffect m).fld R.logbCfgInterval = c.interval ∧
        (p.takeEffect m).fld R.logbCfgFreeze = c.freeze ∧ (p.takeEffect m).bin.logCfg = c) ∧
      (∀ c : FabricCfg, m.body = .fabricConfig c → (p.takeEffect m).fab.cfg = some c) ∧
      (∀ c : TimeCfg, m.body = .timeConfig c → (p.takeEffect m).time.cfg = c ∧ (p.takeEffect m).flag R.timeCtrlTb2Follow = c.follow) ∧
      (∀ (tai : Nat) (utc : Int), m.body = .timeSet tai utc → tai < 2 ^ 64 → (p.takeEffect m).tb 0 = tai ∧ (p.takeEffect m).flag R.timeStatusUtcValid = true ∧
        (p.takeEffect m).tb 2 = p.tb 2) ∧
      (∀ x : Nat, m.body = .tb2Step (some x) → x < 2 ^ 64 → (p.takeEffect m).tb 2 = if p.fld R.bookModeMode = 0 then x else p.tb 2) ∧
      (∀ n < 256, m.body = .stationRelease n → (p.takeEffect m).fld (R.stnStState n) = if p.fld (R.stnStState n) = 6 then 3 else p.fld (R.stnStState n)) ∧
      (∀ n k, m.body = .canSend n k → ¬ (p.canTalks n ∧ p.flag (R.canObjEn n k) ∧ p.flag (R.canObjTx n k)) → p.takeEffect m = p))

/-- R322, R394, R398, R416, R422, R423, R439, R450, R592, R607, R634: the commands that name modules, each module's part of them, and the Query
records that carry the partner's part. The order inside a part is the model's (DESIGN CHOICE, assumption 9). -/
def Obligations.CommandsThatNameModules : Prop :=
  ∀ (s : State) (h : Hdr),
    PartsAnswer (.pairStatus h) s h 0x400 .both .pairStatus ∧ PartsAnswer (.fabricStatus h) s h 0x600 .both .fabricStatus ∧
    PartsAnswer (.timeStatus h) s h 0x700 .both .timeStatus ∧ (∀ n : Fin 2, PartsAnswer (.canStatus h n) s h 0xB00 .both (.canStatus n)) ∧
    (∀ side : Side, PartsAnswer (.faultStatus h side) s h 0x800 side .faultStatus ∧ PartsAnswer (.fieldStatus h side) s h 0xA00 side .fieldStatus ∧
      (∀ first acount : Bool, PartsAnswer (.faultClear h side first acount) s h 0x802 side (.faultClear first acount)) ∧
      (∀ (k : Fin 4) (p : TpoProg), PartsAnswer (.tpoProgram h side k p) s h 0x704 side (.tpoProgram k p)) ∧
      (∀ (i : Fin 2) (edge : Nat), PartsAnswer (.tpiConfig h side i edge) s h 0x705 side (.tpiConfig i edge))) ∧
    (∀ partner : Bool, PartsAnswer (.faultHistory h partner) s h 0x801 (if partner then .partner else .own) .faultHistory ∧
      ∀ i : Fin 2, PartsAnswer (.tpiRead h partner i) s h 0x706 (if partner then .partner else .own) (.tpiRead i)) ∧
    (∀ (offs : List Nat),
      s.part .pairStatus offs = (s, stOk, 0, s.regBytes pairRegs) ∧ s.part .fabricStatus offs = (s, stOk, 0, s.regBytes fabRegs) ∧
      s.part .faultStatus offs = (s, stOk, 0, s.regBytes fcolRegs) ∧ s.part .fieldStatus offs = (s, stOk, 0, s.regBytes fldRegs ++ s.fieldCfgBytes) ∧
      (s.part .timeStatus offs).2.1 = stOk ∧ (∀ n < 4, (s.part .timeStatus offs).1.fld (R.timeTbSnapNs n) = s.tb n % 2 ^ 64) ∧
      FldsOnly s (s.part .timeStatus offs).1 ((List.range 4).map R.timeTbSnapNs) ∧
      (∀ first acount : Bool, (s.part (.faultClear first acount) offs).2 = (stOk, 0, []) ∧
        FldsOnly s (s.part (.faultClear first acount) offs).1
          ((if first then [R.fcolFirst0Valid, R.fcolStatusWorst] else []) ++ if acount then [R.fcolStatusAcount] else []) ∧
        (first → (s.part (.faultClear first acount) offs).1.flag R.fcolFirst0Valid = false) ∧
        (acount → (s.part (.faultClear first acount) offs).1.fld R.fcolStatusAcount = 0)) ∧
      (∀ (i : Fin 2) (edge : Nat), (s.tpiWired i.val = false → s.part (.tpiConfig i edge) offs = (s, stBadParam, offs.getD 1 0, [])) ∧
        (s.tpiWired i.val → 4 ≤ edge → s.part (.tpiConfig i edge) offs = (s, stBadParam, offs.getD 2 0, [])) ∧
        (s.tpiWired i.val → edge < 4 → (s.part (.tpiConfig i edge) offs).2 = (stOk, 0, []) ∧
          (s.part (.tpiConfig i edge) offs).1.fld (R.timeTpiCtlEdge i.val) = edge ∧
          FldsOnly s (s.part (.tpiConfig i edge) offs).1 [R.timeTpiCtlEdge i.val])) ∧
      (∀ (k : Fin 4) (p : TpoProg), s.tpoWired k.val = false → s.part (.tpoProgram k p) offs = (s, stBadParam, offs.getD 1 0, [])) ∧
      (∀ (k : Fin 4) (p : TpoProg) (i : Nat), s.tpoWired k.val → s.tpoBad p = some i → s.part (.tpoProgram k p) offs = (s, stBadParam, offs.getD (i - 1) 0, [])) ∧
      (∀ (k : Fin 4) (p : TpoProg), s.tpoWired k.val → s.tpoBad p = none → s.flag (R.timeTpoCfgEn k.val) → p.en →
        s.part (.tpoProgram k p) offs = (s, stState, s.pstate, [])) ∧
      (∀ (k : Fin 4) (p : TpoProg), s.tpoWired k.val → s.tpoBad p = none → s.flag (R.timeTpoCfgEn k.val) = false →
        (s.part (.tpoProgram k p) offs).2.1 = stOk → (s.part (.tpoProgram k p) offs).1.flag (R.timeTpoCfgEn k.val) = p.en ∧
          (s.part (.tpoProgram k p) offs).1.fld (R.timeTpoStartStart k.val) = p.start % 2 ^ 64)) ∧
    (∀ (l : LinkIn) (q : Query) (offs : List Nat), (s.linkRx l).inReset 9 = false → (s.linkRx l).bin.runs ≠ none →
      let x := (s.linkRx l).part q offs
      ∃ t, exec (.queryRecordRx l q offs) s = .next t ∧ x.1.sentRec t (.queryReply x.2.1 x.2.2.1 x.2.2.2) ∧
        t = { x.1 with out := t.out, pair := { x.1.pair with txSeq := t.pair.txSeq, sent := t.pair.sent } }) ∧
    (∀ (l : LinkIn) (q : Query) (offs : List Nat), (s.linkRx l).inReset 9 ∨ (s.linkRx l).bin.runs = none →
      exec (.queryRecordRx l q offs) s = .next (s.linkRx l)) ∧
    (∀ (l : LinkIn) (op : BitVec 16) (status detail : Nat) (bytes : List Byte) (p : Nat) (w : Wait), (s.linkRx l).queryWait op.toNat = some (p, w) →
      (status = stOk → exec (.queryReplyRx l op status detail bytes) s = .next ((s.linkRx l).finish p stOk 0 (w.own ++ 1 :: bytes))) ∧
      (status ≠ stOk → exec (.queryReplyRx l op status detail bytes) s = .next ((s.linkRx l).finish p status detail []))) ∧
    (∀ (op : BitVec 16) (p : Nat) (w : Wait), s.queryWait op.toNat = some (p, w) →
      ∃ r : State, exec (.queryReplyTimeout op) s = .next (r.finish p stOk 0 (w.own ++ 0 :: List.replicate (w.query.getD 0) 0)) ∧
        r = { s with tbs := r.tbs } ∧ (s.tbInc 3 ≠ 0 → s.tbFix 3 < 2 ^ 96 → w.at3 + 5000016 < 2 ^ 64 → w.at3 + 5000000 ≤ r.tb 3)) ∧
    (∀ op : BitVec 16, s.queryWait op.toNat = none → exec (.queryReplyTimeout op) s = .next s) ∧
    (∀ (l : LinkIn) (op : BitVec 16) (status detail : Nat) (bytes : List Byte), (s.linkRx l).queryWait op.toNat = none →
      exec (.queryReplyRx l op status detail bytes) s = .next (s.linkRx l)) ∧
    (∀ (p : Nat) (w : Wait) (st d : Nat) (r : List Byte), (s.sess p).waiting = some w →
      s.finish p st d r = (s.modSess p fun x => { x with waiting := none }).answer p ⟨w.op, w.tally, st, d, r⟩)

/-- R491, R495 to R502, R505, R520: every mailbox command is one `mbox` of its opcode: what happens to a command whose turn has come but which is not executed (a
pair that is not open, another client's, a repeat, a wrong Tally, a wrong length or level, a module that is not active), CLIENT_OPEN, and the ends of sessions
and transfers. A command is taken only where the response ring has room for the largest response of its command (R498). -/
def Obligations.SessionRules : Prop :=
  ∀ (s : State) (h : Hdr),
    let x := s.sess h.pair
    let u := s.received h
    (∀ (op : Nat) (active : Bool) (body : State → State × Ans), s.turnComes h → (s.mboxServes h.via = true) →
      respMost op ≤ (s.mboxAck h).qFree (2 * h.pair + 1) →
      (x.isOpen = false → s.mboxFits h 0 →
        s.mbox h op active body = (u.respond h.pair ⟨op, h.tally, stClient, 0, []⟩ false).freePair h.pair) ∧
      (x.isOpen → h.client ≠ x.client → s.mboxFits h 0 → s.mbox h op active body = u.respond h.pair ⟨op, h.tally, stClient, 0, []⟩ false) ∧
      (∀ r : Resp, x.isOpen → h.client = x.client → (∃ k, 1 ≤ k ∧ k ≤ 64 ∧ (h.tally + k) % 65536 = x.next) → h.tally < 65536 → x.next < 65536 →
        (x.hist.find? fun r => r.tally == h.tally) = some r → s.mboxFits h r.result.length → s.mbox h op active body = u.respond h.pair r true) ∧
      (x.isOpen → h.client = x.client → h.tally ≠ x.next → (x.hist.find? fun r => r.tally == h.tally) = none → s.mboxFits h 0 →
        s.mbox h op active body = u.respond h.pair ⟨op, h.tally, stSequence, x.next, []⟩ false) ∧
      (x.isOpen → h.client = x.client → h.tally = x.next → s.bin.recovery = false → (h.len ≠ h.need ∨ h.whole = false) → s.mboxFits h 0 →
        s.mbox h op active body = (u.mboxNext h).answer h.pair ⟨op, h.tally, stBadLength, h.need, []⟩) ∧
      (x.isOpen → h.client = x.client → h.tally = x.next → s.bin.recovery = false → h.len = h.need → h.whole →
        (0xF00 ≤ op ∧ (h.level ≠ 1 ∨ x.level ≠ 1)) → s.mboxFits h 0 → 
        s.mbox h op active body = (u.mboxNext h).answer h.pair ⟨op, h.tally, stLevel, 0, []⟩) ∧
      (x.isOpen → h.client = x.client → h.tally = x.next → s.bin.recovery = false → h.len = h.need → h.whole → h.level = 0 → op < 0xF00 →
        active → s.isActive = false → s.mboxFits h 0 →
        s.mbox h op active body = (u.mboxNext h).answer h.pair ⟨op, h.tally, stNotActive, s.pstate, []⟩) ∧
      (x.isOpen → h.client = x.client → h.tally = x.next → s.bin.recovery → recoveryOp op = false → s.mboxFits h 0 →
        s.mbox h op active body = (u.mboxNext h).answer h.pair ⟨op, h.tally, stBadOpcode, 0, []⟩)) ∧
    (∀ (client level : Nat) (idle : Option Nat), s.turnComes h → x.isOpen = false → s.bin.recovery = false → h.len = h.need → h.whole →
      h.level < 2 → s.mboxFits h 3 → 0 < client → client < 65536 → level < 2 → 10 ≤ idle.getD 60 → idle.getD 60 ≤ 3600 →
      (∀ e ∈ s.mail.sess, e.2.isOpen → e.2.client ≠ client) → (level = 1 → s.expertOn h.via) →
      ∃ t, exec (.clientOpen h client level idle) s = .next t ∧
        t.sess h.pair = { u.sess h.pair with isOpen := true, client := client, level := level, next := (h.tally + 1) % 65536, idle := idle.getD 60, hist := (t.sess h.pair).hist } ∧
        (t.sess h.pair).hist = [⟨0x20, h.tally, stOk, 0, leBytes 2 ((h.tally + 1) % 65536) ++ leBytes 1 level⟩] ∧
        t.flag (R.qmgrQCfgBound (2 * h.pair)) = true ∧ t.flag (R.qmgrQCfgBound (2 * h.pair + 1)) = true ∧
        (∀ p, p ≠ h.pair → t.sess p = s.sess p) ∧ t.mem = s.mem ∧ t.lanes = s.lanes ∧ t.pair = s.pair) ∧
    (∀ (client level : Nat) (idle : Option Nat), s.turnComes h → x.isOpen = false → s.bin.recovery = false → h.len = h.need → h.whole →
      h.level < 2 → s.mboxFits h 0 → 0 < client → client < 65536 → level < 2 → 10 ≤ idle.getD 60 → idle.getD 60 ≤ 3600 →
      (∃ p, p ≠ h.pair ∧ (s.sess p).isOpen ∧ (s.sess p).client = client) →
      exec (.clientOpen h client level idle) s = .next ((u.answer h.pair ⟨0x20, h.tally, stClient, 0, []⟩).freePair h.pair)) ∧
    (∀ p : Fin 32, (s.sess p.val).isOpen → (s.sess p.val).bound ≠ some .pcie → ∃ r : State, exec (.clientIdleTimeout p) s = .next (r.freePair p.val) ∧
      r = { s with tbs := r.tbs } ∧ (s.tbInc 3 ≠ 0 → s.tbFix 3 < 2 ^ 96 → (s.sess p.val).lastRx + (s.sess p.val).idle * 1000000000 + 16 < 2 ^ 64 →
        (s.sess p.val).lastRx + (s.sess p.val).idle * 1000000000 ≤ r.tb 3)) ∧
    (∀ p : Fin 32, (s.sess p.val).isOpen = false ∨ (s.sess p.val).bound = some .pcie → exec (.clientIdleTimeout p) s = .next s) ∧
    (∀ p : Fin 32, (s.freePair p.val).sess p.val = Session.init ∧ (∀ q, q ≠ p.val → (s.freePair p.val).sess q = s.sess q) ∧
      (s.freePair p.val).flag (R.qmgrQCfgBound (2 * p.val)) = false ∧
      (s.freePair p.val).fld (R.qmgrQIdxCi (2 * p.val)) = (s.freePair p.val).fld (R.qmgrQIdxPi (2 * p.val)) ∧
      (∀ q b, (s.sess p.val).isOpen → s.bindOf q = some b → b.client = (s.sess p.val).client → (s.freePair p.val).bindOf q = none) ∧
      (s.freePair p.val).mem = s.mem ∧ (s.freePair p.val).lanes = s.lanes ∧ (s.freePair p.val).pair = s.pair) ∧
    (∀ t0 : Nat, s.mail.downAt = some t0 → ∃ t, exec .pcieLinkDownTimeout s = .next t ∧ t.mail.downAt = none ∧
      (∀ p, (s.sess p).bound = some .pcie → t.sess p = Session.init) ∧ (∀ p, (∀ e ∈ s.mail.sess, e.1 = p → e.2.bound ≠ some .pcie) → t.sess p = s.sess p) ∧ t.mem = s.mem) ∧
    (s.mail.downAt = none → exec .pcieLinkDownTimeout s = .next s) ∧
    (∀ (id : BitVec 32) (pair : Fin 32), (∃ b ∈ s.mail.bulk, b.id = id.toNat ∧ b.pair = pair.val) → ∃ t, exec (.bulkTransferTimeout id pair) s = .next t ∧
      t.mail = { s.mail with bulk := s.mail.bulk.filter fun b => !(b.id == id.toNat && b.pair == pair.val) } ∧
      t = { s with tbs := t.tbs, mail := t.mail }) ∧
    (∀ (c : Chunk), (s.mail.bulk.find? fun b => b.id == c.id && b.pair == h.pair) = none → s.mail.bulk.length < 4 →
      c.offset = 0 → c.crcOk → c.data.length ≤ 992 → c.data.length ≤ c.total →
      (s.chunk h c).2.1 = okWith [] ∧ ((s.chunk h c).2.2 = true ↔ c.data.length = c.total) ∧
        (s.chunk h c).1 = { s with mail := { s.mail with bulk := s.mail.bulk ++ [⟨c.id, h.pair, c.total, [(0, c.data)], s.tb 3⟩] } }) ∧
    (∀ (c : Chunk), c.crcOk = false ∨ 992 < c.data.length → s.chunk h c = (s, refuse stTransfer c.offset, false)) ∧
    (∀ (c : Chunk), (s.mail.bulk.find? fun b => b.id == c.id && b.pair == h.pair) = none → 4 ≤ s.mail.bulk.length →
      c.offset = 0 → c.crcOk → c.data.length ≤ 992 → c.data.length ≤ c.total → s.chunk h c = (s, refuse stBusy 0, false)) ∧
    (∀ c : Chunk, (s.taken h).bootMode = 3 → (((s.taken h).chunk h c).2.1 = okWith []) →
      Answers (.bulkChunk h .replay c) s h 0x910 false ((s.taken h).chunk h c).1 []) ∧
    (∀ c : Chunk, (((s.taken h).chunk h c).2.1 = okWith []) → Answers (.bulkChunk h .update c) s h 0xC01 false ((s.taken h).chunk h c).1 [])

/-- R487, R493, R501, R507 to R515, R522, R523, R363, R386: the host port, MSI-X and the frames that carry mailbox entries: index writes within the
limits move an index, others are dropped and counted; ring memory, apertures, vectors, links. -/
def Obligations.HostPortAndTransports : Prop :=
  ∀ s : State,
    (∀ speed width : Fin 3, s.inReset 15 = false → ∃ t, exec (.pcieLinkUp speed width) s = .next t ∧ t.flag R.hostStatusLinkup = true ∧
      t.fld R.hostStatusSpeed = speed.val + 1 ∧ t.fld R.hostStatusWidth = 2 ^ width.val ∧
      FldsKept s t [R.hostStatusLinkup, R.hostStatusSpeed, R.hostStatusWidth] ∧ t = { s with regs := t.regs, mail := { s.mail with downAt := none } }) ∧
    (s.flag R.hostStatusLinkup → ∃ t, exec .pcieLinkDown s = .next t ∧ t.flag R.hostStatusLinkup = false ∧ t.fld R.hostStatusSpeed = 0 ∧
      t.fld R.hostStatusWidth = 0 ∧ t.flag R.hostStatusLinkLost = true ∧
      FldsKept s t [R.hostStatusLinkup, R.hostStatusSpeed, R.hostStatusWidth, R.hostStatusLinkLost] ∧
      t = { s with regs := t.regs, mail := { s.mail with downAt := some (s.tb 3) } }) ∧
    (∀ (q : Fin 256) (v : BitVec 32), s.hostUp → (s.viaOf q.val = some .pcie) →
      (s.indexOk q.val true v.toNat → ∃ t, exec (.hostIndexWrite q (some v) none) s = .next t ∧ t.fld (R.qmgrQIdxPi q.val) = v.toNat ∧
        t.flag (R.qmgrQCfgFull q.val) = (t.qUsed q.val == t.qSize q.val) ∧ FldsKept s t [R.qmgrQIdxPi q.val, R.qmgrQCfgFull q.val] ∧
        t.mem = s.mem ∧ t.lanes = s.lanes ∧ t.out = s.out) ∧
      (s.indexOk q.val false v.toNat → ∃ t, exec (.hostIndexWrite q none (some v)) s = .next t ∧ t.fld (R.qmgrQIdxCi q.val) = v.toNat ∧
        t.mem = s.mem ∧ t.lanes = s.lanes ∧
        (q.val ≠ 246 → FldsKept s t [R.qmgrQIdxCi q.val, R.qmgrQCfgFull q.val] ∧ t.out = s.out)) ∧
      (s.indexOk q.val true v.toNat = false → exec (.hostIndexWrite q (some v) none) s = .next (s.incSat R.hostStatusIdxErr)) ∧
      (s.indexOk q.val false v.toNat = false → exec (.hostIndexWrite q none (some v)) s = .next (s.incSat R.hostStatusIdxErr))) ∧
    (∀ (k : Fin 32) (v : BitVec 32), s.hostUp → (s.sess k.val).bound = none → s.indexOk (2 * k.val) true v.toNat → ∃ t,
      exec (.hostIndexWrite ⟨2 * k.val, by omega⟩ (some v) none) s = .next t ∧ (t.sess k.val).bound = some .pcie ∧
      t.fld (R.qmgrQIdxPi (2 * k.val)) = v.toNat) ∧
    (∀ (e : Fin 32768) (off : Fin 64) (v : W64), s.hostUp → off.val % 8 = 0 → hostProduces (ringOfEntry e.val) →
      (s.viaOf (ringOfEntry e.val) = some .pcie ∨ (ringOfEntry e.val < 64 ∧ s.pairFree (ringOfEntry e.val / 2))) → ∃ t,
      exec (.hostRingEntryWrite e off true v) s = .next t ∧ mget 0 t.mail.qmem (e.val * 8 + off.val / 8) = v ∧
      (∀ k, k ≠ e.val * 8 + off.val / 8 → mget 0 t.mail.qmem k = mget 0 s.mail.qmem k) ∧
      t = { s with mail := { s.mail with qmem := t.mail.qmem } }) ∧
    (∀ (e : Fin 32768) (off : Fin 64) (v : W64), s.hostUp → off.val % 4 = 0 → hostProduces (ringOfEntry e.val) →
      (s.viaOf (ringOfEntry e.val) = some .pcie ∨ (ringOfEntry e.val < 64 ∧ s.pairFree (ringOfEntry e.val / 2))) → ∃ t,
      exec (.hostRingEntryWrite e off false v) s = .next t ∧
      mget 0 t.mail.qmem (e.val * 8 + off.val / 8) = putBits (mget 0 s.mail.qmem (e.val * 8 + off.val / 8)) (off.val % 8 * 8) 32 v.toNat ∧
      (∀ k, k ≠ e.val * 8 + off.val / 8 → mget 0 t.mail.qmem k = mget 0 s.mail.qmem k) ∧
      t = { s with mail := { s.mail with qmem := t.mail.qmem } }) ∧
    (∀ (e : Fin 32768) (off : Fin 64) (v : W64), s.hostUp → off.val % 8 = 0 → hostProduces (ringOfEntry e.val) = false →
      exec (.hostRingEntryWrite e off true v) s = .next (s.incSat R.hostStatusRingErr)) ∧
    (∀ (k : Fin 8) (off : BitVec 28) (n : Fin 257), s.hostUp → s.flag (R.hostApBaseEn k.val) = false ∨
        (s.fld (R.hostApLenLast k.val) + 1) * 64 < off.toNat + n.val →
      exec (.hostApertureAccess k off n none) s = .next ((s.incSat R.hostStatusApErr).reply true 0)) ∧
    (∀ (k : Fin 8) (off : BitVec 28) (n : Fin 257), s.hostUp → s.flag (R.hostApBaseEn k.val) →
      off.toNat + n.val ≤ (s.fld (R.hostApLenLast k.val) + 1) * 64 → exec (.hostApertureAccess k off n none) s =
        .next (s.masterRead 12 (s.fld (R.hostApBaseColour k.val)) (s.fld (R.hostApBaseBase k.val) + off.toNat) n.val)) ∧
    (∀ (k : Fin 8) (off : BitVec 28) (n : Fin 257) (d : List Byte), s.hostUp → s.flag (R.hostApBaseEn k.val) →
      off.toNat + d.length ≤ (s.fld (R.hostApLenLast k.val) + 1) * 64 → exec (.hostApertureAccess k off n (some d)) s =
        .next (s.masterWrite 12 (s.fld (R.hostApBaseColour k.val)) (s.fld (R.hostApBaseBase k.val) + off.toNat) d)) ∧
    (∀ (v : Fin 272) (a d : W64), s.hostUp → ∃ t, exec (.msixTableWrite (.entry v a d)) s = .next t ∧ mget (0, 0) t.mail.vecAddr v.val = (a, d) ∧
      t = { s with mail := { s.mail with vecAddr := t.mail.vecAddr } }) ∧
    (∀ v : Fin 272, s.hostUp → ∃ t, exec (.msixTableWrite (.mask v true)) s = .next t ∧ mget true t.mail.vecMask v.val = true ∧ t.out = s.out) ∧
    (∀ en mask : Bool, s.hostUp → ∃ t, exec (.msixTableWrite (.control en mask)) s = .next t ∧ t.flag R.hostStatusMsixEn = en ∧
      t.mail.funMask = mask ∧ FldsKept s t [R.hostStatusMsixEn] ∧ t.mem = s.mem) ∧
    (∀ v : Fin 272, ∃ t, exec (.msixHoldoffExpiry v) s = .next t ∧ t.mem = s.mem ∧ t.regs = s.regs ∧ t.lanes = s.lanes ∧
      (256 ≤ v.val → s.vecReady v.val → mget false s.mail.vecPend v.val = true → mget none s.mail.vecLast v.val = none →
        t.out = s.out ++ [.msix v.val])) ∧
    (∀ v : Nat, (s.vecReady v → (s.vecPost v).out = s.out ++ [.msix v] ∧ mget false (s.vecPost v).mail.vecPend v = false) ∧
      (s.vecReady v = false → (s.vecPost v).out = s.out ∧ mget false (s.vecPost v).mail.vecPend v = true)) ∧
    (∀ (via : Transport) (p : Fin 2) (watch : BitVec 32) (k : Fin 32) (tx : BitVec 8) (es : List (List W64)), (∀ a, via ≠ .fabric a) → via ≠ .pcie →
      es ≠ [] → es.length ≤ 16 → (s.sess k.val).bound = some via → es.length ≤ s.qFree (2 * k.val) → s.qUsed (2 * k.val) ≤ s.qSize (2 * k.val) → ∃ t,
      exec (.mboxFrameRx via false p watch ⟨2 * k.val, by omega⟩ tx es) s = .next t ∧
      t.fld (R.qmgrQIdxPi (2 * k.val)) = (s.fld (R.qmgrQIdxPi (2 * k.val)) + es.length) % 2 ^ 32 ∧ t.mem = s.mem ∧ t.lanes = s.lanes) ∧
    (∀ (via : Transport) (p : Fin 2) (watch : BitVec 32) (k : Fin 32) (tx : BitVec 8) (es : List (List W64)), (∀ a, via ≠ .fabric a) → via ≠ .pcie →
      es ≠ [] → es.length ≤ 16 → (s.sess k.val).bound ≠ some via → (s.sess k.val).bound ≠ none →
      exec (.mboxFrameRx via false p watch ⟨2 * k.val, by omega⟩ tx es) s = .next (s.incSat (R.qmgrQCfgLost (2 * k.val)))) ∧
    (∀ (a : Nat) (toPair : Bool) (p : Fin 2) (watch : BitVec 32) (q : Fin 256) (tx : BitVec 8) (es : List (List W64)), s.fabTakes (p.val + 2) = false →
      exec (.mboxFrameRx (.fabric a) toPair p watch q tx es) s = .next s) ∧
    (∀ (j : Fin 32) (b : Binding), s.bindOf (160 + j.val) = some b → 0 < s.qUsed (160 + j.val) → s.flag R.fabCtrlJoined → ∃ u,
      exec (.fabricMsgTransmit j) s = .next (u.takeEntries (160 + j.val) (min 16 (s.qUsed (160 + j.val)))) ∧
      (s.routeTo b.dest = none → u = s.incSat (R.fabPortCntUnreach 2)) ∧
      (∀ port, s.routeTo b.dest = some port → ∃ payload, u = s.fabSend 4 port 32 b.dest s.fabOwn s.fabWatch payload)) ∧
    (∀ j : Fin 32, s.bindOf (160 + j.val) = none → exec (.fabricMsgTransmit j) s = .next s)

/-! ### Books, the Book Turn, retained values -/

/-- R78, R79, R201 to R221, R238, R505: Books: chunks, the end of a load, verification on one module and on both, the commands of a slot, and the Book Turn from its
acceptance to its work and its completion. Where a mirrored Turn's arming ends, TB2 runs to the instant of the row (DESIGN CHOICE, assumption 6). -/
def Obligations.BooksAreLoadedVerifiedAndTurned : Prop :=
  ∀ (s : State) (h : Hdr),
    let u := s.taken h
    (∀ i < 2, u.flag R.bookTurnPending → ∀ (c : Chunk) (b : Book), Refuses (.bookLoad h i c b) s h 0x201 false stPending (u.fld R.bookTurnInstant) ∧
      Refuses (.bookErase h i) s h 0x206 false stPending (u.fld R.bookTurnInstant) ∧
      Refuses (.bulkChunk h (.book i) c) s h 0x201 false stPending (u.fld R.bookTurnInstant)) ∧
    (∀ (i : Nat) (c : Chunk), (u.bookChunk h i c).2.1 = okWith [] → Answers (.bulkChunk h (.book i) c) s h 0x201 false (u.bookChunk h i c).1 []) ∧
    (∀ (i : Nat) (c : Chunk), i < 2 → u.flag R.bookTurnPending = false → u.slotState i ≠ 2 → u.slotState i ≠ 4 → u.slotState i ≠ 5 →
      (u.chunk h c).2.1 = okWith [] → (u.bookChunk h i c).2 = (u.chunk h c).2 ∧ (u.bookChunk h i c).1.slotState i = 1 ∧
      (u.slotState i ≠ 1 → (u.bookChunk h i c).1.slot i = BookSlot.init ∧ (u.bookChunk h i c).1.slotOnline i = false)) ∧
    (∀ (i : Nat) (c : Chunk) (b : Book), i < 2 → (u.bookChunk h i c).2.2 = true → (u.flag R.pairLinkUp = false ∨ (u.partner ≠ psStandby ∧ u.partner ≠ psSyncing)) →
      s.mboxReady h 0x201 false → s.mboxFits h 10 → ∃ t, exec (.bookLoad h i c b) s = .next t ∧ t.slotState i = 2 ∧ t.slotOnline i = false ∧
      (t.slot i).img = some { b with image := (u.bookChunk h i c).1.staged h c } ∧ (t.slot i).own = none ∧ (t.slot i).both = false ∧ (t.slot i).answer = some h.pair ∧
      ((t.sess h.pair).waiting.map fun w => w.op) = some 0x201 ∧ t.mem = s.mem ∧ t.lanes = s.lanes) ∧
    (∀ (i : Nat) (c : Chunk) (b : Book), i < 2 → (u.bookChunk h i c).2.2 = true → u.flag R.pairLinkUp → (u.partner = psStandby ∨ u.partner = psSyncing) →
      s.mboxReady h 0x201 false → s.mboxFits h 10 → ∃ t, exec (.bookLoad h i c b) s = .next t ∧ t.slotState i = 2 ∧ (t.slot i).both = true ∧
      t.out.getLast? = some (.link u.pair.txSeq (u.fld R.pairWatchWatch)
        (.bookRec i ({ b with image := (u.bookChunk h i c).1.staged h c } : Book).identity))) ∧
    (∀ (i : Nat) (b : Book), i < 2 → (u.slot i).img = some b → u.slotState i = 3 →
      (turnReason u.runBook b = none → Answers (.bookCheck h i) s h 0x202 false ((u.putVerdict i b ⟨0, 0, 0, 0⟩).setSlotOnline i true)
        (leBytes 1 0 ++ leBytes 8 0)) ∧
      (∀ r k x, turnReason u.runBook b = some (r, k, x) → Answers (.bookCheck h i) s h 0x202 false
        ((u.putVerdict i b ⟨1, r, k, x⟩).setSlotOnline i false) (leBytes 1 1 ++ leBytes 8 (Verdict.detail ⟨1, r, k, x⟩).toNat))) ∧
    (∀ i < 2, u.slotState i ≠ 3 → Refuses (.bookCheck h i) s h 0x202 false stState (u.slotState i)) ∧
    (∀ i < 2, (u.book.running = none ∨ u.fld R.bookModeMode = 0) → (u.slotState i = 3 ∨ u.slotState i = 4) → ∃ v,
      Answers (.bookSelect h i) s h 0x205 false v [] ∧ v.fld R.bookSlotsSelect = i ∧ v.book = { u.book with select := i } ∧
      FldsKept u v [R.bookSlotsSelect] ∧ v.mem = u.mem) ∧
    (∀ i < 2, u.book.running ≠ none → u.fld R.bookModeMode ≠ 0 → Refuses (.bookSelect h i) s h 0x205 false stState (u.fld R.bookModeMode)) ∧
    (∀ i < 2, u.flag R.bookTurnPending = false → u.slotState i ≠ 4 → u.slotState i ≠ 5 → ∃ v, Answers (.bookErase h i) s h 0x206 false v [] ∧
      v.slotState i = 0 ∧ v.slotOnline i = false ∧ v.slot i = BookSlot.init ∧ mget none v.book.store i = none ∧ v.slot (1 - i) = u.slot (1 - i) ∧
      v.mem = u.mem) ∧
    (∀ (i : Fin 2) (b : Book), (s.slot i.val).img = some b → s.slotState i.val = 2 → (s.slot i.val).own = none → (s.slot i.val).both = false →
      (s.slot i.val).answer = none → ∃ t, exec (.bookVerifyDone i) s = .next t ∧ (t.slot i.val).result = (s.verdict b).code ∧
      (t.slot i.val).detail = (s.verdict b).detail ∧ t.slotState i.val = (if (s.verdict b).code ≤ 1 then 3 else 6) ∧
      t.slotOnline i.val = ((s.verdict b).code == 0) ∧ ((s.verdict b).code ≤ 1 → mget none t.book.store i.val = some b) ∧
      (1 < (s.verdict b).code → t.book.store = s.book.store)) ∧
    (∀ i : Fin 2, s.slotState i.val ≠ 2 → exec (.bookVerifyDone i) s = .next s) ∧
    (∀ (i : Fin 2) (b : Book), (s.slot i.val).img = some b → s.slotState i.val = 2 → (s.slot i.val).own = none → (s.slot i.val).both → s.flag R.pairLinkUp →
      (s.slot i.val).partner = none → ∃ t, exec (.bookVerifyDone i) s = .next t ∧ 
      t.out = s.out ++ [.link s.pair.txSeq (s.fld R.pairWatchWatch) (.bookResult i.val (s.verdict b).code)] ∧
      (t.slot i.val).own = some (s.verdict b).code ∧ t.slotState i.val = 2) ∧
    (∀ (l : LinkIn) (i : Fin 2) (code : BitVec 8) (own : Nat), let x := s.linkRx l
      x.slotState i.val = 2 → (x.slot i.val).both → (x.slot i.val).own = some own →
      (x.slot i.val).answer = none → ∃ t, exec (.bookPartnerResultRx l i code) s = .next t ∧
      (t.slot i.val).result = (if code.toNat = own then own else 0x1A) ∧
      t.slotState i.val = (if code.toNat = own ∧ own ≤ 1 then 3 else 6) ∧ t.mem = x.mem) ∧
    (∀ (l : LinkIn) (i : Fin 2) (code : BitVec 8), let x := s.linkRx l
      x.slotState i.val = 2 → (x.slot i.val).both → (x.slot i.val).own = none →
      exec (.bookPartnerResultRx l i code) s = .next (x.modSlot i.val fun y => { y with partner := some code.toNat })) ∧
    (∀ (i : Nat) (nb : Option (BitVec 64)) (b : Book), i < 2 → u.flag R.bookTurnPending = false → u.restartPending = false →
      ¬ (u.partner = psSyncing ∧ u.flag R.pairLinkUp) → u.slotState i = 3 → (u.slot i).img = some b → turnReason u.runBook b = none →
      s.mboxReady h 0x204 true → s.mboxFits h 9 → ∃ t, exec (.bookTurn h i nb) s = .next t ∧ t.flag R.bookTurnPending = true ∧
      t.flag R.bookTurnArmed = false ∧ t.slotState i = 5 ∧ t.book.turn = some ⟨i, nb.map (·.toNat), u.tb 3, false, 0, false, h.client⟩ ∧
      ((t.sess h.pair).waiting.map fun w => w.op) = some 0x204 ∧ t.mem = s.mem ∧ t.lanes = s.lanes) ∧
    (∀ (i : Nat) (nb : Option (BitVec 64)), i < 2 → u.flag R.bookTurnPending → Refuses (.bookTurn h i nb) s h 0x204 true stPending (u.fld R.bookTurnInstant)) ∧
    (∀ (i : Nat) (nb : Option (BitVec 64)), i < 2 → u.flag R.bookTurnPending = false → u.restartPending = false →
      ¬ (u.partner = psSyncing ∧ u.flag R.pairLinkUp) → u.slotState i ≠ 3 → Refuses (.bookTurn h i nb) s h 0x204 true stState (u.slotState i)) ∧
    (∀ (t0 : Nat) (own : Bool), s.book.turn = none → exec (.turnArmingDone own t0) s = .next s) ∧
    (∀ (t0 : Nat) (tt : TurnSt), s.book.turn = some tt → tt.armedOwn → s.isActive → s.flag R.bookTurnArmed = false → s.mirrored →
      s.tbInc 2 ≠ 0 → s.tbFix 2 < 2 ^ 96 → t0 + 16 < 2 ^ 64 → ∃ t w, exec (.turnArmingDone false t0) s = .next t ∧ t.flag R.bookTurnArmed = true ∧
      t0 ≤ w ∧ t.tb 2 = w ∧ t.fld R.bookTurnInstant = tickAtOrAfter (max (w + 100000) (tt.notBefore.getD 0)) / 500000 % 2 ^ R.bookTurnInstant.len) ∧
    (s.flag R.bookTurnPending → s.flag R.bookTurnArmed → ∀ n : Book, s.turnBook = some n → ∃ t, exec .turnInstant s = .next t ∧
      t.fld R.bookModeHoldLimit = n.sched.holdLimit % 2 ^ R.bookModeHoldLimit.len ∧ t.mem = s.mem ∧ t.lanes = s.lanes ∧
      (s.tbInc 2 ≠ 0 → s.tbFix 2 < 2 ^ 96 → s.fld R.bookTurnInstant * 500000 + 16 < 2 ^ 64 → s.fld R.bookTurnInstant * 500000 ≤ t.tb 2)) ∧
    (s.flag R.bookTurnPending = false → exec .turnInstant s = .next s) ∧
    (∀ tt : TurnSt, s.book.turn = some tt → s.flag R.bookTurnArmed = false → (∀ e ∈ s.mail.sess, e.2.waiting = none) → ∃ t,
      exec .turnArmTimeout s = .next t ∧ t.book.turn = none ∧ t.reg R.bookTurn.addr = 0 ∧ Raised s t evBookTurnAbandoned ∧ t.mem = s.mem) ∧
    (s.flag R.bookTurnArmed → exec .turnArmTimeout s = .next s) ∧
    (∀ (c : Fin 8) (n b : Book), s.flag R.bookTurnArmed → s.used c.val → s.bit R.bookTurnTurned c.val = false → (s.cls c.val).turnDone = false →
      (s.cls c.val).inFlight = false → (s.cls c.val).backOut = [] → s.turnBook = some n → s.runBook = some b → ∃ t,
      exec (.turnWork c) s = .next t ∧ (t.cls c.val).turnDone = true ∧
      (t.cls c.val).turnWake = (s.fld (R.bookTcWakeWake c.val) + (if (s.cls c.val).begun then 1 else 0)) % 2 ^ 48 ∧
      t.fld (R.bookTcTurnWake c.val) = s.fld (R.bookTcTurnWake c.val)) ∧
    (∀ (tt : TurnSt) (n b : Book), s.book.turn = some tt → s.turnBook = some n → s.runBook = some b →
      (∀ c < 8, s.used c = true → s.bit R.bookTurnTurned c = true) → let t := s.turnComplete
      t.book.running = some tt.target ∧ t.book.turn = none ∧ (∃ e, t.events.getLast? = some e ∧ e.code = evBookTurned) ∧
      ∀ c < 8, s.used c = true → t.flag (R.bookTcTurnValid c) = true ∧ t.fld (R.bookTcTurnWake c) = (s.cls c).turnWake % 2 ^ 48) ∧
    (∀ c : Fin 8, s.flag R.bookTurnArmed = false → exec (.turnWork c) s = .next s) ∧
    (∀ c : Fin 8, (s.isActive → exec (.retainSlotWrite c) s = .next (s.retClass c.val)) ∧
      (s.isActive = false → exec (.retainSlotWrite c) s = .next s)) ∧
    (∀ sig slot : Nat, let r := s.behindForce sig
      let k := s.retChosen slot
      let old := s.recAt (retSigAddr slot k)
      let ready := s.retReady (s.dirEntry sig).cls (slot * 0x20)
      (r.value = old.value → r.qual = old.qual → s.retWriteSig sig slot = s) ∧ (ready = false → s.retWriteSig sig slot = s) ∧
      (r.value ≠ old.value ∨ r.qual ≠ old.qual → ready = true →
        (s.retWriteSig sig slot).bytes 16 (retSigAddr slot (1 - k)) =
          recBytes { r with flags := r.flags % 64 + (s.retGen slot k + 1) % 4 * 64 } ∧
        ∀ a, (a < retSigAddr slot (1 - k) ∨ retSigAddr slot (1 - k) + 16 ≤ a) → (s.retWriteSig sig slot).byte a = s.byte a))

/-! ### The pair -/

/-- R274 to R277, R281 to R285, R297, R313, R320, R412, R560: the signals, the link and the fence: toggles and Status records sent, the link lost and up, Status
records taken, a fence valid, in mismatch and cleared, the start-up tests and the wait for a partner. -/
def Obligations.PairSignalsLinkAndFence : Prop :=
  ∀ s : State,
    (s.pairTalks → s.bin.runs.isSome → s.pair.aliveStop = false → s.pstate ≠ psSafe → ∃ t, exec .aliveOutToggle s = .next t ∧
      t = { s with tbs := t.tbs, pair := { s.pair with aliveOut := !s.pair.aliveOut } } ∧
      (s.tbInc 3 ≠ 0 → s.tbFix 3 < 2 ^ 96 → s.tb 3 + 50016 < 2 ^ 64 → (s.tb 3 / 50000 + 1) * 50000 ≤ t.tb 3)) ∧
    (s.pairTalks = false ∨ s.bin.runs = none ∨ s.pair.aliveStop ∨ s.pstate = psSafe → exec .aliveOutToggle s = .next s) ∧
    (s.pairTalks → ∃ (t : State) (r : StatusRec), exec .statusRecordSend s = .next t ∧ s.sentRec t (.status r) ∧ FldsKept s t [R.pairStateFit] ∧
      t = { s with tbs := t.tbs, out := t.out, regs := t.regs, pair := { s.pair with txSeq := t.pair.txSeq, sent := t.pair.sent } } ∧
      r.state = (if s.pair.lineSafe then psSafe else s.pstate) ∧ r.fit = t.flag R.pairStateFit ∧ r.preferred = s.flag R.pairStatePreferred ∧
      r.timeMaster = s.flag R.pairStateTimemaster ∧ r.watch = s.fld R.pairWatchWatch ∧ (r.fault = true ↔ t.tb 3 < s.pair.faultUntil) ∧
      (s.pstate ≠ psStart → s.pstate ≠ psSyncing → s.pstate ≠ psDetached → t.flag R.pairStateFit = s.flag R.pairStateFit) ∧
      (s.pstate = psStart ∨ s.pstate = psSyncing ∨ s.pstate = psDetached → (t.flag R.pairStateFit = true ↔ s.pair.testsDone.isSome ∧ s.electFit ∧
        s.fld R.pairStatePstate ≠ psActive ∧ s.fld R.pairStatePstate ≠ psSolo)) ∧
      (s.tbInc 3 ≠ 0 → s.tbFix 3 < 2 ^ 96 → s.tb 3 + 10016 < 2 ^ 64 → (s.tb 3 / 10000 + 1) * 10000 ≤ t.tb 3)) ∧
    (s.pairTalks = false → exec .statusRecordSend s = .next s) ∧
    (s.pstate = psSafe ∨ (s.pstate = psSolo ∧ s.settled) → ∃ t, exec .aliveInSilent s = .next t ∧ FldsKept s t [R.pairStateAliveIn] ∧
      t.flag R.pairStateAliveIn = false ∧ t = { s with regs := t.regs, pair := { s.pair with lostSeen := t.pair.lostSeen } } ∧
      (t.pair.lostSeen = true ↔ s.flag R.pairLinkUp = false ∨ s.fld R.pairStatePstate = psSafe)) ∧
    (s.pstate = psActive → s.flag R.pairLinkUp → s.fld R.pairStatePstate ≠ psSafe → ∃ t, exec .aliveInSilent s = .next t ∧
      t.flag R.pairStateAliveIn = false ∧ t.pstate = psActive ∧
      t.reports = s.reports ++ (if s.srcKnown 0x2D then [] else [⟨0x2D, 0, false⟩])) ∧
    (s.pstate = psActive → s.flag R.pairLinkUp = false → ∃ t, exec .aliveInSilent s = .next t ∧ t.flag R.pairStateAliveIn = false ∧
      t.pstate = psSolo ∧ t.flag R.pairStateTimemaster = true ∧ t.pair.handover = none ∧ t.pair.lostSeen = true ∧ ∃ ev ∈ t.events, ev.code = evPartnerLost) ∧
    (s.pstate = psActive ∨ s.pstate = psSolo → s.flag R.pairLinkUp → s.settled → ∃ t, exec .aliveInToggling s = .next t ∧
      t.flag R.pairStateAliveIn = true ∧ t.bit (R.fcolNowFault 0) 0x2D = false ∧
      FldsKept s t [R.pairStateAliveIn, R.fcolNowFault 0, R.fcolStatusOpen] ∧
      t = { s with regs := t.regs, pair := { s.pair with lostSeen := false } }) ∧
    (∀ lanes : BitVec 2, s.flag R.pairLinkUp → ∃ t, exec (.pairLinkLost lanes) s = .next t ∧ t.flag R.pairLinkUp = false ∧
      t.flag R.pairStateLink = false ∧ t.fld R.pairLinkLanes = lanes.toNat ∧ t.pair.statusGood = 0 ∧ t.flag R.timeStatusPairsync = false ∧
      t.fld R.pairStatePstate = 0 ∧ t.flag R.pairStatePfit = false ∧ (s.flag R.pairStateAliveIn → s.pstate = psActive →
        t.fld R.pairLinkLosses = min (s.fld R.pairLinkLosses + 1) (2 ^ R.pairLinkLosses.len - 1) ∧ t.pstate = psActive ∧
        t.pair.handover = none ∧ t.pair.waitOut = [] ∧ t.pair.inputParts = [] ∧ ∀ c < 8, t.fld (R.pairClassPending c) = 0) ∧
      (s.flag R.pairStateAliveIn → s.pstate = psStandby → t.pstate = psDetached ∧ t.flag R.pairStateFit = false ∧ t.book.running = none)) ∧
    (∀ lanes : BitVec 2, s.flag R.pairLinkUp = false → ∃ t, exec (.pairLinkLost lanes) s = .next t ∧ t.fld R.pairLinkLanes = lanes.toNat ∧
      FldsKept s t [R.pairLinkLanes] ∧ t = { s with regs := t.regs, pair := { s.pair with statusGood := 0 } }) ∧
    (∀ (lanes : BitVec 2) (r : StatusRec) (e : Option ElectInfo), s.flag R.pairLinkUp = false → 15 ≤ s.pair.statusGood → s.pstate = psSolo →
      s.acc.opened = false → s.flag R.pairStateAliveIn → s.flag R.pairStateTimemaster → r.state = psSyncing → s.fld R.pairStatePstate ≠ psSyncing →
      r.watch ≤ s.fld R.pairWatchWatch → ∃ t, exec (.pairLinkUp lanes r e) s = .next t ∧ t.flag R.pairLinkUp = true ∧ t.flag R.pairStateLink = true ∧
      t.fld R.pairLinkLanes = lanes.toNat ∧ t.pair.statusGood = 16 ∧ t.pstate = psActive ∧ t.fld R.pairStatePstate = psSyncing ∧
      t.flag R.pairStatePfit = r.fit ∧
      (∀ e', e = some e' → e'.pairLevel = s.pair.pairLevel → e'.busy = false → e'.books = [s.slotId 0, s.slotId 1] → t.pair.sweepDue = false ∧
        ∀ x ∈ linkParts ((imageEntries t.mirrorCells).length / 910) (imageEntries t.mirrorCells), ∃ q, (.link q (s.fld R.pairWatchWatch) (.mirror x.2 x.1)) ∈ t.out) ∧
      (∀ e' i b, e = some e' → e'.pairLevel = s.pair.pairLevel → i < 2 → (s.slot i).img = some b → e'.books.getD i 0 ≠ b.identity →
        t.pair.sweepDue = true ∧ ∃ q, (.link q (s.fld R.pairWatchWatch) (.bookRec i b.identity)) ∈ t.out)) ∧
    (∀ (lanes : BitVec 2) (r : StatusRec) (e : Option ElectInfo), s.flag R.pairLinkUp = true ∨ s.pair.statusGood < 15 →
      exec (.pairLinkUp lanes r e) s = .next s) ∧
    (∀ (lanes : BitVec 2) (r : StatusRec) (e : Option ElectInfo), s.flag R.pairLinkUp = false → (s.isActive = false ∨ r.watch ≤ s.fld R.pairWatchWatch) →
      ∃ t, exec (.statusRecordRx lanes r e) s = .next t ∧ FldsOnly { s with pair := t.pair } t [R.pairWatchSeen, R.pairLinkLanes] ∧
      t.fld R.pairWatchSeen = max r.watch (s.fld R.pairWatchSeen) % 2 ^ R.pairWatchSeen.len ∧ t.fld R.pairLinkLanes = lanes.toNat ∧
      t.pair = { s.pair with statusGood := min 16 (s.pair.statusGood + 1), elect := e.orElse fun _ => s.pair.elect }) ∧
    (∀ (lanes : BitVec 2) (r : StatusRec) (e : Option ElectInfo), s.flag R.pairLinkUp → s.pstate = psActive → s.flag R.pairStateAliveIn →
      s.acc.opened = false → s.pair.lagging = false → s.fld R.pairStatePstate = psStandby → r.state = psStandby → r.fault = false →
      r.timeMaster = s.time.pMaster → r.watch ≤ s.fld R.pairWatchWatch → ∃ t, exec (.statusRecordRx lanes r e) s = .next t ∧ t.pstate = psActive ∧
      t.flag R.pairStatePfit = r.fit ∧ t.flag R.pairStatePpreferred = r.preferred ∧ t.fld R.pairLinkLanes = lanes.toNat ∧
      t.fld R.pairWatchSeen = max r.watch (s.fld R.pairWatchSeen) % 2 ^ R.pairWatchSeen.len ∧
      FldsKept s t [R.pairStatePfit, R.pairStatePpreferred, R.pairWatchSeen, R.pairLinkLanes] ∧ t.mem = s.mem ∧ t.out = s.out ∧
      t.pair.statusGood = min 16 (s.pair.statusGood + 1)) ∧
    (∀ (lanes : BitVec 2) (r : StatusRec) (e : Option ElectInfo), s.isActive → s.fld R.pairWatchWatch < r.watch → r.watch < 2 ^ 32 →
      s.flag R.pairLinkUp = false → ∃ t, exec (.statusRecordRx lanes r e) s = .next t ∧ t.pstate = psSyncing ∧ t.book.running = none ∧
      t.flag R.stnSafeStopped = true ∧ t.fld R.fldStatusClosed = 0 ∧ t.fld R.pairTakeWatch = r.watch ∧ t.flag R.pairTakeRole = false ∧
      t.fld R.pairWatchSeen = max r.watch (s.fld R.pairWatchSeen) ∧ ∃ ev ∈ t.events, ev.code = evWatchYield) ∧
    (s.bin.runs.isSome → s.pstate = psStart → s.pair.testsDone = none → s.bootMode < 2 → s.flag R.fcolStatusSafe = false →
      s.flag R.fcolEscBlocked = false → (s.flag R.pairFenceValid ∨ (s.flag R.pairLinkUp ∧ (s.fld R.pairStatePstate = psActive ∨ s.fld R.pairStatePstate = psSolo))) → ∃ t,
      exec .startupTestsComplete s = .next t ∧ t.pstate = psSyncing ∧ t.pair.testsDone = some (s.tb 3) ∧ t.flag R.pairStateFit = s.electFit ∧ t.mem = s.mem) ∧
    (s.bin.runs.isSome → s.pstate = psStart → s.pair.testsDone = none → s.bootMode < 2 → s.flag R.fcolStatusSafe = false → s.flag R.fcolEscBlocked → ∃ t,
      exec .startupTestsComplete s = .next t ∧ t.pstate = psSafe ∧ t.pair.testsDone = some (s.tb 3) ∧ t.fld R.fldStatusClosed = 0) ∧
    (s.pstate ≠ psStart ∨ s.pair.testsDone ≠ none → exec .startupTestsComplete s = .next s) ∧
    (∀ d : Nat, s.pair.testsDone = some d → s.pstate = psStart → s.flag R.pairStateAliveIn → s.flag R.pairLinkUp = false → ∃ t,
      exec .partnerWaitExpiry s = .next t ∧ t.pstate = psDetached ∧ t.events.getLast?.map (·.code) = some evPairLinkDown ∧ t.mem = s.mem ∧
      (s.tbInc 3 ≠ 0 → s.tbFix 3 < 2 ^ 96 → d + s.fld R.pairCfgPwait * 1000000000 + 16 < 2 ^ 64 → d + s.fld R.pairCfgPwait * 1000000000 ≤ t.tb 3)) ∧
    (s.flag R.pairFenceValid → exec .fenceInValid s = .next s) ∧
    (s.flag R.pairFenceValid = false → ∃ t, exec .fenceInValid s = .next t ∧ t.flag R.pairFenceValid = true ∧ t.flag R.pairFenceInP = true ∧
      t.flag R.pairFenceInN = true ∧ ((s.isActive ∨ s.pstate = psSafe ∨ s.pstate = psStart) → t.fld R.fldStatusClosed = 0 ∧ t.flag R.fldStatusOpenline = true) ∧
      (s.isActive → s.flag R.pairFenceOut = false ∨ (∀ t0, s.pair.fenceOutAt = some t0 → t0 + 50000 < s.tb 3) → t.pstate = psSyncing ∧ t.flag R.pairFenceFenced = true ∧ t.flag R.stnSafeStopped = true ∧
        t.book.running = none ∧ ∃ ev ∈ t.events, ev.code = evFenced) ∧
      (∀ t0, s.isActive → s.flag R.pairFenceOut → s.pair.fenceOutAt = some t0 → s.tb 3 ≤ t0 + 50000 →
        (s.slotB = false → t.pstate = s.pstate ∧ t.pair.fenceWin = true ∧ t.flag R.pairFenceOut = true) ∧
        (s.slotB → t.pstate = psSyncing ∧ t.flag R.pairFenceOut = false ∧ t.flag R.pairFenceFenced = true))) ∧
    (∀ p : Bool, ∃ t, exec (.fenceInMismatch p) s = .next t ∧ t.flag R.pairFenceInP = p ∧ t.flag R.pairFenceInN = !p ∧ t.flag R.pairFenceValid = false ∧
      t.flag R.pairFenceMismatch = true ∧ FldsKept s t [R.pairFenceInP, R.pairFenceInN, R.pairFenceValid, R.pairFenceMismatch] ∧
      t = { s with regs := t.regs, reports := s.reports ++ [⟨0x2B, 0, false⟩] }) ∧
    (∃ t, exec .fenceInCleared s = .next t ∧ t.flag R.pairFenceInP = false ∧ t.flag R.pairFenceInN = false ∧ t.flag R.pairFenceValid = false ∧
      t.bit (R.fcolNowFault 0) 0x2B = false ∧ (s.flag R.fcolStatusSafe = false → s.inReset 21 = false → t.flag R.fldStatusOpenline = false) ∧
      (s.isActive → s.pair.fenceWin → t.pair.fenceWin = false ∧ t.flag R.stnSafeStopped = false) ∧
      (s.pair.fenceWin = false → FldsOnly s t [R.pairFenceInP, R.pairFenceInN, R.pairFenceValid, R.fcolNowFault 0, R.fcolStatusOpen, R.fldStatusOpenline])) ∧
    (∀ seq : BitVec 16, ∃ t, exec (.pairRecordBadCheck seq) s = .next t ∧ t = { s with out := s.out ++ [.askAgain seq.toNat], pair := t.pair } ∧
      t.pair = { s.pair with statusGood := if s.flag R.pairLinkUp then s.pair.statusGood else 0 }) ∧
    (∀ (seq : BitVec 16) (q w : Nat) (r : PairRec), s.pair.sent.find? (fun x => x.1 == seq.toNat) = some (q, w, r) → ∃ t,
      exec (.pairRecordResendRequest seq) s = .next t ∧ t.fld R.pairLinkRetry = min (s.fld R.pairLinkRetry + 1) (2 ^ R.pairLinkRetry.len - 1) ∧
      FldsKept s t [R.pairLinkRetry] ∧ q = seq.toNat ∧
      t = { s with regs := t.regs, out := s.out ++ [.link q w r], reports := s.reports ++ [⟨0x29, seq.toNat, false⟩] }) ∧
    (∀ seq : BitVec 16, (∀ x ∈ s.pair.sent, x.1 ≠ seq.toNat) → ∃ t, exec (.pairRecordResendRequest seq) s = .next t ∧
      t = { s with reports := s.reports ++ [⟨0x29, seq.toNat, false⟩] })

/-- R205, R278, R279, R284 to R296, R299, R308, R313, R320, R338, R340, R348, R543: the records of the pair: what any of them says by its Watch
number, acknowledgements, Relay, Forward, Input, Commit, Command, Mirror and Book records, the end of a sweep, and a cycle recomputed in a
catch-up. A follower puts the grains of a whole Input or Commit record in place and acknowledges it. -/
def Obligations.PairRecordsAreApplied : Prop :=
  ∀ s : State,
    (∀ e : GrainEntry, let t := s.putEntry none e
      t = { s with mem := t.mem } ∧ (∀ (i : Nat) (w : W64), e.words[i]? = some w → e.words.length ≤ 0x80000 → t.rd64 (e.addr + 8 * i) = w ∧
        (e.both → t.rd64 (e.addr + 0x400000 + 8 * i) = w)) ∧
      ∀ a, (a < e.addr ∨ e.addr + 8 * e.words.length ≤ a) → (e.both = false ∨ a < e.addr + 0x400000 ∨ e.addr + 0x400000 + 8 * e.words.length ≤ a) →
        t.byte a = s.byte a) ∧
    (∀ r : PairRec, (s.pair.lineSafe = false ∨ linkStops r = false → s.sentRec (s.linkSend r) r ∧
        s.linkSend r = { s with out := (s.linkSend r).out, pair := { s.pair with txSeq := (s.linkSend r).pair.txSeq, sent := (s.linkSend r).pair.sent } }) ∧
      (s.pair.lineSafe = true → linkStops r = true → s.linkSend r = s)) ∧
    ∀ l : LinkIn, let u := s.linkRx l
    (s.isActive = false ∨ l.watch.toNat ≤ s.fld R.pairWatchWatch → FldsOnly s u [R.pairWatchSeen] ∧
      u.fld R.pairWatchSeen = max l.watch.toNat (s.fld R.pairWatchSeen)) ∧
    (s.isActive → s.fld R.pairWatchWatch < l.watch.toNat → u.pstate = psSyncing ∧ u.book.running = none ∧ u.flag R.stnSafeStopped = true ∧
      u.fld R.fldStatusClosed = 0 ∧ u.fld R.pairWatchSeen = max l.watch.toNat (s.fld R.pairWatchSeen) ∧ u.fld R.pairTakeWatch = l.watch.toNat ∧
      u.flag R.pairTakeRole = false ∧ ∃ ev ∈ u.events, ev.code = evWatchYield) ∧
    (∀ (c : Fin 8) (wake : Nat), ∃ t, exec (.ackRecordRx l (.input c wake)) s = .next t ∧
      (t.flag (R.pairClassInputOk c.val) = true ↔ u.flag (R.pairClassInputOk c.val) = true ∨ (u.cls c.val).execWake = some wake) ∧
      t.cls c.val = { u.cls c.val with inputDue := (u.cls c.val).inputDue && (u.cls c.val).inputWake != wake } ∧ (∀ d, d ≠ c.val → t.cls d = u.cls d) ∧
      t.pair.waitOut = ((u.pair.waitOut.map fun x => if x.cls = c.val ∧ x.inWake = wake then { x with inputOk := true } else x).filter
        fun x => !(x.cls == c.val && x.inputOk && x.commitOk)) ∧ t.mem = u.mem ∧ t.lanes = u.lanes ∧
      ((∀ x ∈ u.pair.waitOut, x.cls ≠ c.val) → FldsKept u t [R.pairClassInputOk c.val] ∧ t = { u with regs := t.regs, classes := t.classes })) ∧
    (∀ (c : Fin 8) (wake : Nat), wake < 2 ^ 48 → ∃ t, exec (.ackRecordRx l (.commit c wake)) s = .next t ∧ t.fld (R.pairClassAcked c.val) = wake ∧
      t.flag (R.pairClassValid c.val) = true ∧ t.fld (R.pairClassPending c.val) = u.fld (R.pairClassPending c.val) - 1 ∧
      t.pair.waitOut = ((u.pair.waitOut.map fun x => if x.cls = c.val ∧ x.wake = wake then { x with commitOk := true } else x).filter
        fun x => !(x.cls == c.val && x.inputOk && x.commitOk)) ∧ t.mem = u.mem ∧ t.classes = u.classes ∧
      (∀ x ∈ u.pair.waitOut, x.cls = c.val → x.wake = wake → x.inputOk → u.tb 2 ≤ x.pubAt + u.fld R.pairCfgStrictWait * 1000 →
        u.flag R.stnSafeStopped = false → ∀ f ∈ x.frames, u.ringOn (ringOf f.station) → (.station (ringOf f.station) f) ∈ t.out)) ∧
    (∀ (client tally t0 : Nat) (m : MirCmd), u.pair.mirrors.find? (fun m => m.client == client && m.tally == tally && !m.fixed) = some m → m.pair.isSome →
      bodyTimed m.body → ∃ t, exec (.ackRecordRx l (.command client tally t0)) s = .next t ∧
      (∃ x ∈ t.pair.mirrors, x.client = client ∧ x.tally = tally ∧ x.fixed ∧ x.body = m.body ∧ x.effect % 500000 = 0 ∧ t0 + 100000 ≤ x.effect ∧
        x.effect < t0 + 600000) ∧ t.mem = u.mem ∧ t.lanes = u.lanes ∧
      (u.mirrored → ∃ e, (.link u.pair.txSeq (u.fld R.pairWatchWatch) (.command client tally m.body e)) ∈ t.out)) ∧
    (∀ client tally t0 : Nat, u.pair.mirrors.find? (fun m => m.client == client && m.tally == tally && !m.fixed && m.pair.isSome) = none →
      exec (.ackRecordRx l (.command client tally t0)) s = .next u) ∧
    exec (.ackRecordRx l .mirror) s = .next u ∧
    (∀ (h : Handover) (seq : Nat), u.pair.handover = some h → ∃ t, exec (.ackRecordRx l (.notice seq)) s = .next t ∧
      t = { u with pair := { u.pair with handover := some { h with acked := h.acked || (h.phase == 2 && !h.newActive && seq == h.atSeq) } } }) ∧
    (∀ seq : Nat, u.pair.handover = none → exec (.ackRecordRx l (.notice seq)) s = .next u) ∧
    (∀ (r : Fin 2) (f : StnFrame), u.takesWake (u.stnClass f.station) f.wake → (u.isActive = false ∨ f.watch ≤ u.fld R.pairWatchWatch) → ∃ t,
      exec (.relayRecordRx l r f) s = .next t ∧ t.out = u.out ++ (if u.flag R.stnSafeStopped = false ∧ u.ringOn r.val then [.station r.val f] else []) ∧
      t.fld R.pairWatchSeen = max f.watch (u.fld R.pairWatchSeen) % 2 ^ R.pairWatchSeen.len ∧ FldsKept u t [R.pairWatchSeen] ∧ t.mem = u.mem ∧
      (f.typ = 1 → u.isFollower → f.wake < mget 0 t.pair.relayed (u.stnClass f.station))) ∧
    (∀ (r : Fin 2) (f : StnFrame), u.takesWake (u.stnClass f.station) f.wake = false → (u.isActive = false ∨ f.watch ≤ u.fld R.pairWatchWatch) → ∃ t,
      exec (.relayRecordRx l r f) s = .next t ∧ FldsOnly u t [R.pairWatchSeen] ∧
      t.fld R.pairWatchSeen = max f.watch (u.fld R.pairWatchSeen) % 2 ^ R.pairWatchSeen.len) ∧
    (∀ (c w : Nat), u.takesWake c w = true ↔ u.isFollower ∨ (u.pair.newActive ∧ ∃ h ∈ u.pair.held, h.cls = c ∧ h.wake ≤ w)) ∧
    (∀ (r : Fin 2) (f : StnFrame) (t0 : Nat), u.flag R.pairLinkUp → (u.fld R.pairStatePstate = psStandby ∨ u.fld R.pairStatePstate = psSyncing) →
      u.pstate ≠ psDetached → exec (.forwardRecordRx l r f t0) s = .next (u.stnRx r.val false f t0)) ∧
    (∀ (r : Fin 2) (f : StnFrame) (t0 : Nat), u.flag R.pairLinkUp = false → exec (.forwardRecordRx l r f t0) s = .next u) ∧
    (∀ (c : Fin 8) (wake : BitVec 48) (noexec : Bool) (es : List GrainEntry), u.isFollower → ∃ t, exec (.inputRecordRx l c wake noexec false es) s = .next t ∧
      mget [] t.pair.inputParts c.val = mget [] u.pair.inputParts c.val ++ es ∧ (∀ d, d ≠ c.val → mget [] t.pair.inputParts d = mget [] u.pair.inputParts d) ∧
      t = { u with pair := { u.pair with inputParts := t.pair.inputParts } }) ∧
    (∀ (c : Fin 8) (wake : BitVec 48) (noexec : Bool) (es : List GrainEntry), u.isFollower → let all := mget [] u.pair.inputParts c.val ++ es
      ∃ t, exec (.inputRecordRx l c wake noexec true es) s = .next t ∧ t.fld (R.bookTcWakeWake c.val) = wake.toNat ∧
      t.mem = (all.foldl (fun s e => s.putEntry none e) u).mem ∧
      t.out.getLast? = some (.link u.pair.txSeq (u.fld R.pairWatchWatch) (.ack 0 c.val wake.toNat)) ∧ (t.cls c.val).begun = true ∧
      (t.cls c.val).modeTo = none ∧ ((u.cls c.val).modeTo = none → (u.cls c.val).mode ≠ 3 → (t.cls c.val).mode = (u.cls c.val).mode) ∧
      (∀ m, (u.cls c.val).modeTo = some m → (t.cls c.val).mode = m) ∧ mget [] t.pair.inputParts c.val = [] ∧
      (∃ x, t.pair.held = u.pair.held ++ [x] ∧ x.cls = c.val ∧ x.wake = wake.toNat ∧ x.start = (u.cls c.val).start ∧ x.noexec = noexec ∧ x.grains = all) ∧
      t.pstate = u.pstate ∧
      (∀ (x : StationCfg) (sig : Nat) (e : GrainEntry), u.ringBook.any (fun b => b.stations == [x]) → x.num < 256 →
        (u.putInput c.val all).stnSig x.num 0 1 = some sig →
        all.find? (fun e => e.both && e.addr == quadAddr (sig / 4)) = some e → let w := e.words.getD (2 * (sig % 4)) 0
        t.fld (R.stnStState x.num) = getBits w 0 3 ∧ t.flag (R.stnStSafeheld x.num) = w.getLsbD 5 ∧ t.fld (R.stnStMissed x.num) = getBits w 7 8)) ∧
    (∀ (c : Fin 8) (wake : BitVec 48) (noexec last : Bool) (es : List GrainEntry), u.isFollower = false →
      exec (.inputRecordRx l c wake noexec last es) s = .next u) ∧
    (∀ (c : Fin 8) (wake : BitVec 48) (turn late : Bool) (es : List GrainEntry), u.takesWake c.val wake.toNat → ∃ t,
      exec (.commitRecordRx l c wake turn late false es) s = .next t ∧ mget [] t.pair.commitParts c.val = mget [] u.pair.commitParts c.val ++ es ∧
      t = { u with pair := { u.pair with commitParts := t.pair.commitParts } }) ∧
    (∀ (c : Fin 8) (wake : BitVec 48) (late : Bool) (es : List GrainEntry), u.takesWake c.val wake.toNat → let all := mget [] u.pair.commitParts c.val ++ es
      ∃ t, exec (.commitRecordRx l c wake false late true es) s = .next t ∧ t.fld (R.pairClassAcked c.val) = wake.toNat ∧
      t.flag (R.pairClassValid c.val) = true ∧ t.mem = (all.foldl (fun s e => s.putEntry none e) u).mem ∧
      (.link u.pair.txSeq (u.fld R.pairWatchWatch) (.ack 1 c.val wake.toNat)) ∈ t.out ∧
      mget [] t.pair.commitParts c.val = [] ∧ t.pair.held = (u.pair.held.filter fun h => !(h.cls == c.val && decide (h.wake ≤ wake.toNat))) ∧
      (t.pair.newActive = true ↔ u.pair.newActive = true ∧ t.pair.held ≠ [])) ∧
    (∀ (c : Fin 8) (wake : BitVec 48) (turn late last : Bool) (es : List GrainEntry), u.takesWake c.val wake.toNat = false →
      exec (.commitRecordRx l c wake turn late last es) s = .next u) ∧
    (∀ (client tally op : BitVec 16) (b : MirBody) (ps : List Nat), u.isFollower → ∃ t, exec (.commandRecordRx l client tally op b ps 0) s = .next t ∧
      (∃ m, t.pair.mirrors = (u.pair.mirrors.filter fun x => !(x.client == client.toNat && x.tally == tally.toNat)) ++ [m] ∧ m.client = client.toNat ∧
        m.tally = tally.toNat ∧ m.op = op.toNat ∧ m.body = b ∧ m.pair = none ∧ m.fixed ∧ m.effect = (if bodyTimed b then tickAtOrAfter (u.tb 2 + 100000) else 0)) ∧
      t.out.getLast? = some (.link u.pair.txSeq (u.fld R.pairWatchWatch) (.ack 2 client.toNat tally.toNat)) ∧ t.mem = u.mem ∧ t.lanes = u.lanes ∧
      (∀ m, b = .mode m → t.flag R.bookModePending = true ∧ t.book.pendMode = some m)) ∧
    (∀ (client tally op : BitVec 16) (b : MirBody) (ps : List Nat) (t0 : Nat), u.isFollower → t0 ≠ 0 →
      let own := fun (m : MirCmd) => m.client == client.toNat && m.tally == tally.toNat
      ∃ t, exec (.commandRecordRx l client tally op b ps t0) s = .next t ∧ u.sentRec t (.ack 2 client.toNat tally.toNat) ∧
      (∀ m ∈ u.pair.mirrors, own m → bodyTimed m.body = false ∨ m.done = false → { m with fixed := true, done := false, effect := t0 } ∈ t.pair.mirrors) ∧
      ((∃ m ∈ u.pair.mirrors, own m ∧ bodyTimed m.body = false) → u.flag R.bookTurnPending →
        t.flag R.bookTurnArmed = true ∧ t.fld R.bookTurnInstant = t0 / 500000 % 2 ^ R.bookTurnInstant.len) ∧
      ((∀ m ∈ u.pair.mirrors, own m → bodyTimed m.body) ∨ u.flag R.bookTurnPending = false → t.regs = u.regs) ∧
      t = { u with regs := t.regs, out := t.out,
                   pair := { u.pair with mirrors := t.pair.mirrors, txSeq := t.pair.txSeq, sent := t.pair.sent } }) ∧
    (∀ (client tally op : BitVec 16) (b : MirBody) (ps : List Nat) (t0 : Nat), u.isFollower = false →
      exec (.commandRecordRx l client tally op b ps t0) s = .next u) ∧
    (∀ es : List GrainEntry, u.pstate = psSyncing → ∃ t, exec (.mirrorRecordRx l es) s = .next t ∧ t.mem = (es.foldl (fun s e => s.putEntry none e) u).mem ∧
      u.sentRec t (.ack 3 0 0) ∧
      t = { u with mem := t.mem, out := t.out, pair := { u.pair with sweepBegun := true, txSeq := t.pair.txSeq, sent := t.pair.sent } }) ∧
    (∀ es : List GrainEntry, u.pstate ≠ psSyncing → exec (.mirrorRecordRx l es) s = .next u) ∧
    (∀ (i : Fin 2) (load : Bool) (b : Book), u.isFollower → u.slotState i.val ≠ 4 → u.slotState i.val ≠ 5 →
      (∃ t, exec (.bookRecordRx l i load false b) s = .next t ∧ t.slotState i.val = 1 ∧ t.slotOnline i.val = false ∧ t = { u with regs := t.regs }) ∧
      (∃ t, exec (.bookRecordRx l i load true b) s = .next t ∧ t.slotState i.val = 2 ∧ (t.slot i.val).img = some b ∧ (t.slot i.val).both = load ∧
        (t.slot i.val).own = none ∧ t.mem = u.mem)) ∧
    (∀ (i : Fin 2) (load last : Bool) (b : Book), u.isFollower = false ∨ u.slotState i.val = 4 ∨ u.slotState i.val = 5 →
      exec (.bookRecordRx l i load last b) s = .next u) ∧
    (∀ x : SweepEnd, s.pstate = psSyncing → ∃ t, exec (.mirrorSweepDone x) s = .next t ∧ t.fld R.dirPagePageIn = x.pageIn.toNat ∧
      t.fld R.dirPagePageOut = x.pageOut.toNat ∧ t.fld R.bookModeMode = x.mode.val ∧ t.fld R.bookModeHeld = x.held.toNat ∧
      (∀ c < 8, (t.cls c).mode = (x.modes.getD c 1).val) ∧ t.pair.sweepEnded = true ∧ t.pair.cfgCopied = true ∧ t.bin.pairCfg = x.cfg ∧
      (s.flag R.pairLinkUp = false → t.pstate = psSyncing) ∧
      (∀ b, (s.slot x.running.val).img = some b → s.book.running = none → x.books.getD x.running.val 0 = b.identity → t.book.running = some x.running.val)) ∧
    (∀ x : SweepEnd, s.pstate ≠ psSyncing → exec (.mirrorSweepDone x) s = .next s) ∧
    ((s.trySync.pstate = psStandby ∧ s.pstate ≠ psStandby) ↔ (s.pstate = psSyncing ∧ s.pair.sweepEnded ∧ s.pair.cfgCopied ∧ s.flag R.pairLinkUp ∧
      ∀ c ∈ s.usedClasses, s.pair.sweepCommits.testBit c)) ∧
    (∀ c : Fin 8, s.pair.catchUp.testBit c.val → (s.cls c.val).inFlight → (s.cls c.val).complete → s.heldOf c.val = [] → ∃ t,
      exec (.catchUpDone c) s = .next t ∧ t.front c.val 0 = (!s.front c.val 0) ∧ (t.cls c.val).inFlight = false ∧ t.pair.catchUp.testBit c.val = false ∧
      t.pstate = s.pstate ∧ t.out = s.out) ∧
    (∀ c : Fin 8, s.pair.catchUp.testBit c.val = false → exec (.catchUpDone c) s = .next s)

/-- R274, R278 to R281, R285, R289 to R291, R297, R298, R307 to R310, R316, R317, R319, R320, R341, R576, R581, R585, R631: takeover at a Handover notice, orderly handover from its request to
the last step of the crossfade, leaving and lagging, EJECT_N, Reclaim, Exercise, announcements of the Watch number, a Strict wait that expires. The
CAUSE of a handover that the new active knows only from the request is a free value (DESIGN CHOICE, assumption 5). -/
def Obligations.RolesAreHandedOverAndTaken : Prop :=
  ∀ s : State,
    let notBegun := fun cause => (⟨cause, 1, 0, false, 0, 0, false⟩ : Handover)
    (∀ l : LinkIn, let u := s.noticeRx l
      ((s.linkRx l).sentRec u (.ack 4 0 l.seq.toNat) ∧
        u = { s.linkRx l with out := u.out, pair := { (s.linkRx l).pair with txSeq := u.pair.txSeq, sent := u.pair.sent } }) ∧
      (∀ w : Nat, u.pstate = psStandby → u.flag R.pairStateFit → u.flag R.pairFenceValid = false → u.nextWatch = some w → ∃ t,
        exec (.handoverNoticeRx l) s = .next t ∧ t.pstate = psActive ∧
        t.fld R.pairWatchWatch = w ∧ t.pair.storedWatch = w ∧ u.fld R.pairWatchWatch < w ∧ u.fld R.pairWatchSeen < w ∧ t.fld R.pairTakeCause = 3 ∧
        t.flag R.pairTakeRole = true ∧ t.fld R.pairTakeWatch = w ∧ t.flag R.pairFenceOut = true ∧ t.flag R.stnSafeRelay = false ∧
        (∃ e ∈ t.events, e.code = evRoleChanged) ∧ (u.mayClose → t.fld R.fldStatusClosed = 15)) ∧
      (u.pstate ≠ psStandby ∨ u.flag R.pairStateFit = false ∨ u.flag R.pairFenceValid → exec (.handoverNoticeRx l) s = .next u) ∧
      (u.isActive → ∃ t, exec (.leaveNoticeRx l) s = .next t ∧ t.pstate = psSolo ∧ t.pair.leaveSeen = true ∧ t.mem = u.mem ∧
        (u.partner ≠ psStandby → t.pair.waitOut = [])) ∧
      (u.isActive = false → exec (.leaveNoticeRx l) s = .next u) ∧
      (u.pstate = psStandby → u.flag R.pairStateFit → ∃ t h, exec (.handoverRequestRx l) s = .next t ∧ h.phase = 1 ∧ h.newActive = true ∧
        h.acked = false ∧ u.sentRec t (.notice 4 0) ∧
        t = { u with free := u.free + 1, out := t.out, pair := { u.pair with handover := some h, txSeq := t.pair.txSeq, sent := t.pair.sent } } ∧
        (∀ x, u.pair.handover = some x → h.cause = x.cause) ∧ (u.pair.handover = none → 4 ≤ h.cause ∧ h.cause ≤ 6)) ∧
      (u.pstate ≠ psStandby ∨ u.flag R.pairStateFit = false → exec (.handoverRequestRx l) s = .next u) ∧
      (∀ h : Handover, u.pair.handover = some h → u.isActive → h.phase = 1 → h.newActive = false → ∃ t, ∃ H : Nat, exec (.handoverReadyRx l) s = .next t ∧
        H % 500000 = 0 ∧ u.tb 2 + 100000 ≤ H ∧ h.notBefore ≤ H ∧ H < max (u.tb 2 + 100000) h.notBefore + 500000 ∧ u.sentRec t (.notice 6 (H / 500000)) ∧
        t = { u with out := t.out,
                     pair := { u.pair with handover := some { h with phase := 2, hAt := H, atSeq := u.pair.txSeq }, txSeq := t.pair.txSeq, sent := t.pair.sent } }) ∧
      (u.pair.handover = none → exec (.handoverReadyRx l) s = .next u) ∧
      (∀ (h : Handover) (ticks : BitVec 48), u.pair.handover = some h → h.newActive → u.pstate = psStandby → ∃ t, exec (.handoverAtRx l ticks) s = .next t ∧
        t = { u with pair := { u.pair with handover := some { h with phase := 2, hAt := ticks.toNat * 500000, acked := true } } }) ∧
      (∀ ticks : BitVec 48, u.pair.handover = none → exec (.handoverAtRx l ticks) s = .next u) ∧
      (u.pstate = psStandby → ∃ t, exec (.lagNoticeRx l) s = .next t ∧ t.pstate = psSyncing ∧ t.flag R.pairStateFit = false ∧ t.book.running = none ∧
        (∃ e ∈ t.events, e.code = evWakeLag) ∧ t.pair.sweepEnded = false ∧ t.pair.reclaimFrom = none) ∧
      (u.pstate ≠ psStandby → exec (.lagNoticeRx l) s = .next u) ∧
      (u.mayHandOver → ∃ t, exec (.reclaimNoticeRx l) s = .next t ∧ u.sentRec t (.notice 3 0) ∧
        t = { u with out := t.out, pair := { u.pair with handover := some (notBegun 7), deferred := none, txSeq := t.pair.txSeq, sent := t.pair.sent } }) ∧
      (u.isActive → u.mayHandOver = false → ∃ t, exec (.reclaimNoticeRx l) s = .next t ∧ t.pair = { u.pair with deferred := some (7, u.tb 3) } ∧
        Raised u t evHandoverDeferred ∧ t.regs = u.regs) ∧
      (u.isActive = false → exec (.reclaimNoticeRx l) s = .next u)) ∧
    (s.mayHandOver = true ↔ (s.isActive ∧ s.flag R.pairLinkUp ∧ s.partner = psStandby ∧ s.flag R.pairStatePfit ∧ s.book.turn = none ∧ s.book.pendMode = none)) ∧
    (s.mayHandOver → (∃ t, exec .yieldPress s = .next t ∧ s.sentRec t (.notice 3 0) ∧
        t = { s with out := t.out, pair := { s.pair with handover := some (notBegun 5), deferred := none, txSeq := t.pair.txSeq, sent := t.pair.sent } }) ∧
      (∃ t, exec .ejectNAssert s = .next t ∧ s.sentRec t (.notice 3 0) ∧
        t = { s with out := t.out, pair := { s.pair with handover := some (notBegun 6), deferred := none, eject := true, txSeq := t.pair.txSeq, sent := t.pair.sent } }) ∧
      (∀ cause t0, s.pair.deferred = some (cause, t0) → ∃ t, exec .handoverRetry s = .next t ∧ s.sentRec t (.notice 3 0) ∧
        t = { s with tbs := t.tbs, out := t.out,
                     pair := { s.pair with handover := some (notBegun cause), deferred := none, txSeq := t.pair.txSeq, sent := t.pair.sent } } ∧
        (s.tbInc 3 ≠ 0 → s.tbFix 3 < 2 ^ 96 → t0 + 10000000016 < 2 ^ 64 → t0 + 10000000000 ≤ t.tb 3))) ∧
    (s.isActive → s.mayHandOver = false → (∃ t, exec .yieldPress s = .next t ∧ t.pair = { s.pair with deferred := some (5, s.tb 3) } ∧
        Raised s t evHandoverDeferred ∧ t.regs = s.regs) ∧
      (∃ t, exec .ejectNAssert s = .next t ∧ t.pair = { s.pair with eject := true, deferred := some (6, s.tb 3) } ∧ t.regs = s.regs ∧
        t.events.map (·.code) = s.events.map (·.code) ++ [evEjectUnsafe, evHandoverDeferred])) ∧
    (s.isActive = false → exec .yieldPress s = .next s) ∧
    (s.pstate = psStandby → s.field.xfade = none → ∃ t, exec .ejectNAssert s = .next t ∧ t.pstate = psDetached ∧ t.pair.eject = true ∧
      t.book.running = none ∧ (.link s.pair.txSeq (s.fld R.pairWatchWatch) (.notice 2 0)) ∈ t.out) ∧
    (s.isActive = false → s.pstate ≠ psStandby ∨ s.field.xfade ≠ none → exec .ejectNAssert s = .next { s with pair := { s.pair with eject := true } }) ∧
    (s.pstate = psDetached → s.flag R.pairLinkUp → s.fld R.pairStatePstate = psActive ∨ s.fld R.pairStatePstate = psSolo → ∃ t,
      exec .ejectNDeassert s = .next t ∧ t.pstate = psSyncing ∧ t.pair.eject = false) ∧
    (s.pstate ≠ psDetached ∨ s.flag R.pairLinkUp = false → exec .ejectNDeassert s = .next { s with pair := { s.pair with eject := false } }) ∧
    (∀ h : Handover, s.pair.handover = some h → s.isActive → h.phase = 2 → h.acked = false → ∃ t, exec .handoverAtAckTimeout s = .next t ∧
      t.pair = { s.pair with handover := none, deferred := some (h.cause, t.tb 3) } ∧ Raised s t evHandoverDeferred ∧ t.regs = s.regs ∧
      (s.tbInc 2 ≠ 0 → s.tbFix 2 < 2 ^ 96 → h.hAt < 2 ^ 63 → h.hAt - 50000 ≤ t.tb 2)) ∧
    (∀ h : Handover, s.pair.handover = some h → h.acked → exec .handoverAtAckTimeout s = .next s) ∧
    (∀ x, s.pair.deferred = some x → s.isActive = false → exec .handoverRetry s = .next { s with pair := { s.pair with deferred := none } }) ∧
    (∀ (h : Handover) (w : Nat), s.pair.handover = some h → h.phase = 2 → h.acked → s.flag R.pairLinkUp → h.newActive → s.pstate = psStandby →
      s.flag R.pairFenceValid = false → s.nextWatch = some w → h.cause < 16 → ∃ t, exec .handoverInstant s = .next t ∧ t.pstate = psActive ∧ t.fld R.pairWatchWatch = w ∧
      t.fld R.pairTakeCause = h.cause ∧ t.flag R.pairTakeRole = true ∧ t.field.xfade = some (h.hAt, true) ∧ t.flag R.fldStatusXfade = true ∧
      (∀ n < 2, (t.canOf n).wait = true) ∧ t.pair.handover = none ∧ t.pair.newActive = (!s.pair.held.isEmpty) ∧
      (h.cause = 7 → s.flag R.pairStatePreferred → t.flag R.pairStateTimemaster = true) ∧
      (s.tbInc 2 ≠ 0 → s.tbFix 2 < 2 ^ 96 → h.hAt < 2 ^ 63 → h.hAt ≤ t.tb 2)) ∧
    (∀ h : Handover, s.pair.handover = some h → h.phase = 2 → h.acked → s.flag R.pairLinkUp → h.newActive = false → s.isActive → ∃ t,
      exec .handoverInstant s = .next t ∧ t.pstate = psStandby ∧ t.field.xfade = some (h.hAt, false) ∧ t.pair.handover = none ∧
      t.pair.gaveCause = some h.cause ∧ (t.pair.oldActive = true ↔ ∃ c < 8, (s.cls c).inFlight ∨ (s.cls c).commitDue) ∧
      (h.cause = 7 → t.flag R.pairStateTimemaster = false) ∧ t.flag R.stnSafeRelay = true ∧ (∀ n < 2, t.fld (R.canStatusMode n) ≤ 2)) ∧
    (∀ h : Handover, s.pair.handover = some h → h.phase ≠ 2 ∨ h.acked = false → exec .handoverInstant s = .next s) ∧
    (∀ (j : Fin 21) (at_ : Nat) (new : Bool), s.field.xfade = some (at_, new) → j.val < 20 → ∃ t, exec (.crossfadeStep j) s = .next t ∧
      (∀ k < 4, t.ao k = { s.ao k with part := if new then j.val else 20 - j.val }) ∧ t = { s with tbs := t.tbs, field := { s.field with ao := t.field.ao } }) ∧
    (∀ at_ : Nat, s.field.xfade = some (at_, true) → ∃ t, exec (.crossfadeStep 20) s = .next t ∧ t.field.xfade = none ∧ t.flag R.fldStatusXfade = false ∧
      (∀ k < 4, (t.ao k).part = 20 ∧ t.fld (R.fldAoCmd k) = (s.ao k).cmd % 2 ^ (R.fldAoCmd k).len) ∧ t.pair = s.pair) ∧
    (∀ at_ : Nat, s.field.xfade = some (at_, false) → ∃ t, exec (.crossfadeStep 20) s = .next t ∧ t.field.xfade = none ∧ t.fld R.fldStatusClosed = 0 ∧
      (s.pair.eject → s.pstate = psStandby → t.pstate = psDetached ∧ (.link s.pair.txSeq (s.fld R.pairWatchWatch) (.notice 2 0)) ∈ t.out) ∧
      (s.pair.eject = false ∨ s.pstate ≠ psStandby → t.pair = s.pair)) ∧
    (∀ j : Fin 21, s.field.xfade = none → exec (.crossfadeStep j) s = .next s) ∧
    ((s.canOf 0).wait ∨ (s.canOf 1).wait → ∃ t, exec .canNormalAfterH s = .next t ∧ ∀ n < 2, t.flag (R.canStatusYielded n) = false ∧ (t.canOf n).wait = false ∧
      t.fld (R.canStatusMode n) = (if s.fld (R.canStatusMode n) < 2 then s.fld (R.canStatusMode n)
        else if s.isActive ∧ s.flag R.pairFenceValid = false ∧ s.flag R.fcolStatusSafe = false then 3 else 2)) ∧
    ((s.canOf 0).wait = false ∧ (s.canOf 1).wait = false → exec .canNormalAfterH s = .next s) ∧
    (∀ t0 : Nat, s.pair.reclaimFrom = some t0 → s.pstate = psStandby → s.flag R.pairStateFit → s.flag R.pairStatePreferred → s.flag R.pairLinkUp → ∃ t,
      exec .reclaimTimeExpiry s = .next t ∧
      s.sentRec t (.notice 7 0) ∧
      t = { s with tbs := t.tbs, out := t.out,
                   pair := { s.pair with handover := some ⟨7, 0, 0, false, 0, 0, true⟩, reclaimFrom := none, txSeq := t.pair.txSeq, sent := t.pair.sent } } ∧
      (s.tbInc 3 ≠ 0 → s.tbFix 3 < 2 ^ 96 → t0 < 2 ^ 63 → t0 + s.fld R.pairCfgReclaim * 60000000000 ≤ t.tb 3)) ∧
    (s.pair.reclaimFrom = none → exec .reclaimTimeExpiry s = .next s) ∧
    (∀ t0 n : Nat, s.pair.exerciseFrom = some (t0, n) → s.isActive → s.fld R.pairCfgExercise ≠ 0 → ∃ t, exec .exerciseIntervalExpiry s = .next t ∧
      t.pair = { s.pair with exerciseFrom := some (t0, n + 1) } ∧ Raised s t evExerciseDue ∧ t.regs = s.regs) ∧
    (s.pair.exerciseFrom = none ∨ s.fld R.pairCfgExercise = 0 → exec .exerciseIntervalExpiry s = .next s) ∧
    (∀ u : Nat, s.pair.announceUntil = some u → s.isActive → s.tb 3 < u → ∃ t, exec .watchAnnounceRepeat s = .next t ∧ t = { s with tbs := t.tbs, out := t.out } ∧
      (s.tbInc 3 ≠ 0 → s.tbFix 3 < 2 ^ 96 → u < 2 ^ 63 → ∃ k, k * 500000 < u ∧ u ≤ t.tb 3 + k * 500000 ∧ s.tb 3 < u - k * 500000 ∧ u - k * 500000 ≤ s.tb 3 + 500000) ∧
      (∀ (r : Nat) (toB : Bool), r < 2 → s.flag R.stnSafeStopped = false → s.ringOn r → ∃ f, (.station r f) ∈ t.out ∧ f.typ = 4 ∧ f.all ∧ f.towardB = toB ∧
        f.watch = s.fld R.pairWatchWatch)) ∧
    (∀ u : Nat, s.pair.announceUntil = some u → (s.isActive = false ∨ u ≤ s.tb 3) →
      exec .watchAnnounceRepeat s = .next { s with pair := { s.pair with announceUntil := none } }) ∧
    (∀ (c : Fin 8) (x : WaitOut), (s.pair.waitOut.find? fun x => x.cls == c.val) = some x → ∃ t, exec (.strictWaitExpiry c) s = .next t ∧
      t.pair = { s.pair with waitOut := s.pair.waitOut.filter fun y => y != x } ∧ t.out = s.out ∧ t.mem = s.mem ∧
      ∀ f ∈ x.frames, f.station < 256 → (∀ g ∈ x.frames, g.station < 256) →
        t.fld (R.stnStUndelivered f.station) = min (s.fld (R.stnStUndelivered f.station) + 1) (2 ^ (R.stnStUndelivered f.station).len - 1)) ∧
    (∀ c : Fin 8, (∀ x ∈ s.pair.waitOut, x.cls ≠ c.val) → exec (.strictWaitExpiry c) s = .next s)

/-! ### Station rings -/

/-- R326, R327, R330, R332 to R338, R341, R344 to R346, R350, R351, R354: frames of the station rings as they are received, at the module's own port or in a Forward record; sampling
instants and cutoffs; CONFIG and SAFE frames; transceivers. Commands at an instant run TB2 to it (DESIGN CHOICE, assumption 6). -/
def Obligations.StationFramesSamplesAndCutoffs : Prop :=
  ∀ s : State,
    (∀ (r : Fin 2) (f : StnFrame) (t0 : Nat) (i : Instr), (i = .stationInputFrameRx r f t0 ∨ i = .stationAckRx r f t0 ∨ i = .stationJoinRx r f t0) →
      let st := f.station
      let v := if s.isFollower ∧ s.flag R.pairLinkUp then s.linkSend (.forward r.val f) else s
      let sound := f.etypeOk ∧ f.vlan = false
      let known := fun x => s.stnCfg st = some x ∧ f.ver = 1 ∧ f.pair = s.pairNum ∧ ringOf st = r.val ∧ (s.isActive → f.watch ≤ s.fld R.pairWatchWatch)
      (s.tbInc 2 ≠ 0 → s.tbFix 2 < 2 ^ 96 → t0 + 16 < 2 ^ 64 → ∀ t, exec i s = .next t → t0 ≤ t.tb 2) ∧
      (s.ringOn r.val = false → ∃ t, exec i s = .next t ∧ t = { s with tbs := t.tbs }) ∧
      (s.ringOn r.val → mget 0 s.stn.capture r.val = 0 →
        (sound → f.checkOk = false → ∃ t, exec i s = .next t ∧ FldsKept s t [R.stnRingCntCrcerr r.val] ∧
          t = { v with tbs := t.tbs, regs := t.regs } ∧
          t.fld (R.stnRingCntCrcerr r.val) = min (s.fld (R.stnRingCntCrcerr r.val) + 1) (2 ^ (R.stnRingCntCrcerr r.val).len - 1)) ∧
        (¬ sound ∨ (f.checkOk ∧ (s.stnCfg st = none ∨ f.ver ≠ 1 ∨ (f.typ ≠ 2 ∧ f.typ ≠ 6 ∧ f.typ ≠ 7) ∨ f.pair ≠ s.pairNum ∨ ringOf st ≠ r.val)) →
          ∃ t, exec i s = .next t ∧ FldsKept s t [R.stnRingCntForeign r.val] ∧ t = { v with tbs := t.tbs, regs := t.regs } ∧
          t.fld (R.stnRingCntForeign r.val) = min (s.fld (R.stnRingCntForeign r.val) + 1) (2 ^ (R.stnRingCntForeign r.val).len - 1)) ∧
        (∀ x, sound → f.checkOk → known x → f.typ = 6 → ∃ t, exec i s = .next t ∧ FldsKept s t [R.pairWatchSeen] ∧ t.mem = s.mem ∧ t.out = v.out ∧ t.pair = v.pair ∧
          ((s.stnOf st).awaiting = some f.wake → t.stnOf st = { s.stnOf st with awaiting := none, undelLast := false }) ∧
          ((s.stnOf st).awaiting ≠ some f.wake → t.stn = s.stn)) ∧
        (∀ x, sound → f.checkOk → known x → st < 256 → (f.typ = 2 ∨ f.typ = 7) → f.aux / 2 ^ 8 % 256 ≠ x.cfgGen → ∃ t, exec i s = .next t ∧
          t.fld (R.stnStCfgGen st) = f.aux / 2 ^ 8 % 256 ∧ t.fld (R.stnStState st) = (if s.fld (R.stnStState st) = 0 then 0 else 2) ∧ t.mem = s.mem ∧
          (s.isActive → s.flag R.stnSafeStopped = false → s.fld (R.stnStState st) ≠ 0 → ∃ g, (.station r.val g) ∈ t.out ∧ g.typ = 5 ∧ g.station = st)) ∧
        (∀ x, sound → f.checkOk → known x → f.typ = 7 → f.aux / 2 ^ 8 % 256 = x.cfgGen → ∃ t, exec i s = .next t ∧ FldsKept s t [R.pairWatchSeen] ∧
          t.mem = s.mem ∧ t.stn = s.stn) ∧
        (∀ x, sound → f.checkOk → known x → f.typ = 2 → f.aux / 2 ^ 8 % 256 = x.cfgGen → s.matchLatch st f.time = none →
          (s.stnOf st).skewAt ≠ some f.time → ∃ t, exec i s = .next t ∧
          t.fld (R.stnRingCntSkew r.val) = min (s.fld (R.stnRingCntSkew r.val) + 1) (2 ^ (R.stnRingCntSkew r.val).len - 1) ∧
          FldsKept s t [R.stnRingCntSkew r.val, R.pairWatchSeen] ∧ t.mem = s.mem ∧ t.stnOf st = { s.stnOf st with skewAt := some f.time } ∧
          ∀ k, k ≠ st → t.stnOf k = s.stnOf k) ∧
        (∀ x, sound → f.checkOk → known x → f.typ = 2 → f.aux / 2 ^ 8 % 256 = x.cfgGen → s.matchLatch st f.time = none →
          (s.stnOf st).skewAt = some f.time → ∃ t, exec i s = .next t ∧ FldsKept s t [R.pairWatchSeen] ∧ t.mem = s.mem ∧ t.stn = s.stn) ∧
        (∀ x inst stamp, sound → f.checkOk → known x → f.typ = 2 → f.aux / 2 ^ 8 % 256 = x.cfgGen → s.matchLatch st f.time = some (inst, stamp) →
          inst + s.sampleOff r.val ≤ s.tb 2 + s.cutoffLead r.val → s.tbFix 2 < 2 ^ 96 → s.tbInc 2 ≠ 0 → s.tb 2 ≤ t0 → t0 + 16 < 2 ^ 64 → ∃ t,
          exec i s = .next t ∧ t.fld (R.stnRingCntLate r.val) = min (s.fld (R.stnRingCntLate r.val) + 1) (2 ^ (R.stnRingCntLate r.val).len - 1) ∧
          FldsKept s t [R.stnRingCntLate r.val, R.pairWatchSeen] ∧ t.mem = s.mem ∧ t.stn = s.stn) ∧
        (∀ x inst stamp sig, sound → f.checkOk → known x → f.typ = 2 → f.aux / 2 ^ 8 % 256 = x.cfgGen → s.matchLatch st f.time = some (inst, stamp) →
          t0 ≤ s.tb 2 → s.tb 2 + s.cutoffLead r.val < inst + s.sampleOff r.val → (s.stnOf st).sample = none → f.nseg = 1 → f.seg = 0 → f.first = 1 →
          f.count = 1 → x.num = st → x.ni = 1 → f.time = inst → s.stnSig st 1 1 = some sig → sig < 0x40000 → s.dirOk sig → (s.dirEntry sig).typ ≠ 0 →
          (s.dirEntry sig).owner = 10 → ∃ t, exec i s = .next t ∧ (t.stnOf st).whole = true ∧ (t.stnOf st).viaA = (!s.slotB) ∧ (t.stnOf st).viaB = s.slotB ∧
          (let e := s.dirEntry sig
            let a := recAddr (!s.front e.cls e.kind) sig
            (t.recAt a).value = canonical e.typ (f.values.getD 0 0) ∧ (t.recAt a).qual = writtenQual (writtenQual (f.quals.getD 0 0)) ∧
            (t.recAt a).stamp = stamp % 2 ^ 48 ∧ ∀ b, b < a ∨ a + 16 ≤ b → t.byte b = s.byte b)))) ∧
    (∀ (r : Fin 2) (start : Nat) (b : Book), s.ringBook = some b → (b.stations.any fun x => ringOf x.num == r.val && s.stnBegins x.num start) = true → ∃ t stamp,
      exec (.stationSamplingInstant r start) s = .next t ∧
      mget [] t.stn.latch r.val = ((start - s.sampleOff r.val, stamp) :: mget [] s.stn.latch r.val).take 64 ∧
      t = { s with tbs := t.tbs, stn := { s.stn with latch := t.stn.latch } } ∧ stamp = t.stampNow ∧
      (s.tbInc 2 ≠ 0 → s.tbFix 2 < 2 ^ 96 → start + 16 < 2 ^ 64 → start - s.sampleOff r.val ≤ t.tb 2)) ∧
    (∀ (r : Fin 2) (start : Nat), s.ringBook = none → exec (.stationSamplingInstant r start) s = .next s ∧ exec (.stationCutoff r start) s = .next s) ∧
    (∀ (r : Fin 2) (start : Nat) (b : Book) (x : StationCfg), s.ringBook = some b →
      (b.stations.filter fun x => ringOf x.num == r.val && s.stnBegins x.num start) = [x] → x.num < 256 → (∀ y ∈ b.stations, y.num < 256) →
      let st := x.num
      let inst := start - s.sampleOff r.val
      let old := s.fld (R.stnStState st)
      let heard := (s.stnOf st).whole && (s.stnOf st).genOk && (match (s.stnOf st).sample with | some p => p.time == inst | none => false)
      let missed := min (s.fld (R.stnStMissed st) + 1) (2 ^ (R.stnStMissed st).len - 1)
      let held := s.flag (R.stnStSafeheld st)
      ∃ t, exec (.stationCutoff r start) s = .next t ∧ (t.stnOf st).sample = none ∧ (t.stnOf st).whole = false ∧
        (old ≠ 0 → t.fld (R.stnStMissed st) = if heard then 0 else missed) ∧
        (old = 0 → t.fld (R.stnStState st) = 0) ∧
        (heard = true → (old = 3 ∨ old = 6) → t.fld (R.stnStState st) = old) ∧
        (heard = true → (old = 1 ∨ old = 2 ∨ old = 4 ∨ old = 5) → held = false → t.fld (R.stnStState st) = 3) ∧
        (heard = true → (old = 1 ∨ old = 2 ∨ old = 4 ∨ old = 5) → held = true →
          t.fld (R.stnStState st) = if s.flag (R.stnStRelease st) then 6 else 3) ∧
        (heard = false → (old = 3 ∨ old = 6) → t.fld (R.stnStState st) = (if x.stale < missed then 5 else 4) ∧
          t.fld (R.stnSt1Losses st) = min (s.fld (R.stnSt1Losses st) + 1) (2 ^ (R.stnSt1Losses st).len - 1) ∧
          (s.isActive → ∃ e ∈ t.events, e.code = evStationLost ∧ e.data.head? = some (BitVec.ofNat 8 st))) ∧
        (heard = false → old = 4 → t.fld (R.stnStState st) = if x.stale < missed then 5 else 4) ∧
        (heard = false → (old = 1 ∨ old = 2 ∨ old = 5) → t.fld (R.stnStState st) = old) ∧
        (∀ k, k ≠ st → k < 256 → t.fld (R.stnStState k) = s.fld (R.stnStState k)) ∧
        (∀ y ∈ b.stations, ringOf y.num = r.val → (t.stnOf y.num).statusWord = t.statusWord y.num) ∧
        t.fld (R.stnRingPresent r.val) =
          (b.stations.countP fun y => ringOf y.num == r.val && t.fld (R.stnStState y.num) == 3) % 2 ^ (R.stnRingPresent r.val).len) ∧
    (∀ (st : Fin 256) (x : StationCfg), s.fld (R.stnStState st.val) = 2 → s.isActive → s.stnCfg st.val = some x → s.flag R.stnSafeStopped = false → s.ringOn (ringOf st.val) →
      ∃ t g, exec (.configRepeat st) s = .next t ∧ (.station (ringOf st.val) g) ∈ t.out ∧ g.typ = 5 ∧ g.station = st.val ∧ g.watch = s.fld R.pairWatchWatch ∧
      t.stn = s.stn ∧ t.mem = s.mem) ∧
    (∀ st : Fin 256, s.fld (R.stnStState st.val) ≠ 2 → exec (.configRepeat st) s = .next s) ∧
    (s.flag R.stnSafeSafeTx → s.flag R.stnSafeStopped = false → ∃ t, exec .safeFrameRepeat s = .next t ∧
      t = { s with out := s.out ++ (s.stn.safeSet.filter fun f => s.ringOn (ringOf f.station)).map fun f => .station (ringOf f.station) f }) ∧
    (s.flag R.stnSafeSafeTx = false ∨ s.flag R.stnSafeStopped → exec .safeFrameRepeat s = .next s) ∧
    (∃ t, exec .safeSetRebuild s = .next t ∧ t.fld R.stnSafeSafeWatch = s.fld R.pairWatchWatch ∧ FldsKept s t [R.stnSafeSafeWatch] ∧
      t = { s with regs := t.regs, stn := { s.stn with safeSet := t.stn.safeSet } } ∧ (∀ f ∈ t.stn.safeSet, f.typ = 3 ∧ f.watch = s.fld R.pairWatchWatch) ∧
      t.stn.safeSet.map (·.station) = (s.ringBook.elim [] fun b => b.stations.map (·.num))) ∧
    (∀ (p : Fin 4) (x : Sfp), sfpOk x = false → ∃ t, exec (.sfpInsert p x) s = .next t ∧ mget none t.stn.sfp p.val = some x ∧
      t = { s with stn := { s.stn with sfp := t.stn.sfp }, reports := s.reports ++ [⟨0x2F + p.val, x.status.toNat, false⟩] }) ∧
    (∀ (p : Fin 4) (x : Sfp), sfpOk x → 2 ≤ p.val ∨ s.ringBook = none → ∃ t, exec (.sfpInsert p x) s = .next t ∧ mget none t.stn.sfp p.val = some x ∧
      t = { s with stn := { s.stn with sfp := t.stn.sfp } }) ∧
    (∀ (p : Fin 4) (x : Sfp) (b : Book), sfpOk x → p.val < 2 → s.ringBook = some b → ∃ t, exec (.sfpInsert p x) s = .next t ∧ mget none t.stn.sfp p.val = some x ∧
      (∀ r < 2, t.flag (R.stnRingRateBad r) = t.rateBad r b) ∧ t.mem = s.mem ∧ t.stn = { s.stn with sfp := t.stn.sfp })

/-! ### The plant fabric -/

/-- R358 to R375, R381 to R385, R388 to R390, R393: adjacencies, the link-state database, routes and trees, soundings, announcements and transit. A frame that carries a Watch
number above that of an active module is the subject of the pair's statements. -/
def Obligations.FabricFramesRoutesAndSoundings : Prop :=
  ∀ (s : State) (p : Fin 2),
    let q := p.val + 2
    let quiet := fun (w : Nat) => s.isActive → w ≤ s.fld R.pairWatchWatch
    let seen := [R.pairWatchSeen]
    (s.fabTakes q → ∃ t w, exec (.helloSend p) s = .next t ∧ t = { s with out := s.out ++ [.fabric 1 q ([32, 0xFFFF, s.fabOwn, s.fabWatch] ++ w)] } ∧
      w.take 4 = [s.pair.serial, q, s.pstate, s.fld (R.fabPortCost q)] ∧
      (s.fld (R.fabPortNaddr q) ≠ 0 → w.drop 4 = [s.fld (R.fabPortNaddr q), s.fld (R.fabPortNport q)]) ∧
      (s.fld (R.fabPortNaddr q) = 0 → w.drop 4 = [0xFFFF, 0xFF])) ∧
    (s.fabTakes q = false → exec (.helloSend p) s = .next s ∧ (∀ h, exec (.helloRx p h) s = .next s) ∧ (∀ a n l, exec (.lsrRx p a n l) s = .next s) ∧
      (∀ f late t0, exec (.soundingFrameRx p f late t0) s = .next s) ∧ (∀ a w n, exec (.announceRx p a w n) s = .next s) ∧
      ∀ f full, exec (.fabricTransitFrameRx p f full) s = .next s) ∧
    (∀ h : Hello, s.fabTakes q → quiet h.watch →
      let mine := h.heard = s.fabOwn ∧ h.heardPort = q
      ∃ t, exec (.helloRx p h) s = .next t ∧ t.fld (R.fabPortNaddr q) = h.src % 2 ^ 16 ∧ t.fld (R.fabPortNport q) = h.port % 2 ^ 8 ∧
        mget 0 t.fab.helloAt q = s.tb 3 ∧ t.mem = s.mem ∧
        (s.fld (R.fabPortAdj q) = 2 → mine → t.fld (R.fabPortAdj q) = 3 ∧ Raised s t evFabAdjUp ∧ t.fab.seq = s.fab.seq + 1) ∧
        (s.fld (R.fabPortAdj q) = 3 → ¬ mine → t.fld (R.fabPortAdj q) = 2 ∧ Raised s t evFabAdjDown ∧ t.fab.seq = s.fab.seq + 1) ∧
        ((s.fld (R.fabPortAdj q) = 2 ∧ ¬ mine) ∨ (s.fld (R.fabPortAdj q) = 3 ∧ mine) → FldsKept s t ([R.fabPortNaddr q, R.fabPortNport q] ++ seen) ∧
          t.out = s.out ∧ t.events = s.events)) ∧
    (2 ≤ s.fld (R.fabPortAdj q) → ∃ t, exec (.adjHelloTimeout p) s = .next t ∧ t.fld (R.fabPortAdj q) = 2 ∧ t.mem = s.mem ∧
      (s.fld (R.fabPortAdj q) = 3 → Raised s t evFabAdjDown) ∧ (s.fld (R.fabPortAdj q) ≠ 3 → t.events = s.events) ∧
      (s.tbInc 3 ≠ 0 → s.tbFix 3 < 2 ^ 96 → mget 0 s.fab.helloAt q < 2 ^ 63 → mget 0 s.fab.helloAt q + 350000000 ≤ t.tb 3)) ∧
    (s.fld (R.fabPortAdj q) < 2 → exec (.adjHelloTimeout p) s = .next s) ∧
    (∀ r10 : Bool, s.flag (R.fabPortLink q) = false → s.portOn q →
      let cost := match s.fab.cfg with | some c => (if q = 2 then c.cost2 else c.cost3) | none => if r10 then 10 else 100
      ∃ t, exec (.fabricPortLinkUp p r10) s = .next t ∧ t.flag (R.fabPortLink q) = true ∧
      t.fld (R.fabPortAdj q) = (if s.flag R.fabCtrlMacsec then 1 else 2) ∧ mget 0 t.fab.upAt q = s.tb 3 ∧
      t.fld (R.fabPortCost q) = cost % 2 ^ (R.fabPortCost q).len ∧ FldsKept s t [R.fabPortLink q, R.fabPortCost q, R.fabPortAdj q, R.fabDbNodes] ∧
      (s.fld (R.fabPortCost q) = cost ∨ s.flag R.fabCtrlJoined = false → t = { s with regs := t.regs, fab := { s.fab with upAt := t.fab.upAt } }) ∧
      (s.fld (R.fabPortCost q) ≠ cost → s.flag R.fabCtrlJoined → t.fab.seq = s.fab.seq + 1 ∧ t.fab.lastOrig = s.tb 3)) ∧
    (∀ r10 : Bool, s.flag (R.fabPortLink q) → exec (.fabricPortLinkUp p r10) s = .next s) ∧
    (∃ t, exec (.fabricPortLinkDown p) s = .next t ∧ t.flag (R.fabPortLink q) = false ∧ t.flag (R.fabPortSecured q) = false ∧ t.fld (R.fabPortAdj q) = 0 ∧
      t.fld (R.fabPortNaddr q) = 0 ∧ t.fld (R.fabPortNport q) = 0 ∧ (s.fld (R.fabPortAdj q) = 3 → Raised s t evFabAdjDown) ∧
      (s.fld (R.fabPortAdj q) ≠ 3 → t.events = s.events) ∧ t.mem = s.mem) ∧
    (∀ cak : Fin 2, s.fld (R.fabPortAdj q) = 1 → s.keyOk (1 + cak.val) → ∃ t, exec (.mkaSecured p cak) s = .next t ∧
      t.flag (R.fabPortSecured q) = true ∧ t.fld (R.fabPortAdj q) = 2 ∧ mget 0 t.fab.sak q = 1 ∧
      FldsKept s t [R.fabPortSecured q, R.fabPortAdj q] ∧ t = { s with regs := t.regs, fab := { s.fab with sak := t.fab.sak } }) ∧
    (∀ cak : Fin 2, s.keyOk (1 + cak.val) = false ∨ s.fld (R.fabPortAdj q) ≠ 1 → exec (.mkaSecured p cak) s = .next s) ∧
    (s.fld (R.fabPortAdj q) = 1 → ∃ t, exec (.macsecTimeout p) s = .next t ∧ Raised s t evFabMacsecFail ∧ t.regs = s.regs ∧ t.fab = s.fab ∧ t.mem = s.mem) ∧
    (s.fld (R.fabPortAdj q) ≠ 1 → exec (.macsecTimeout p) s = .next s) ∧
    (s.flag (R.fabPortSecured q) → ∃ t, exec (.sakRekey p) s = .next t ∧ mget 0 t.fab.sak q = mget 0 s.fab.sak q + 1 ∧
      t = { s with fab := { s.fab with sak := t.fab.sak } }) ∧
    (s.flag (R.fabPortSecured q) = false → exec (.sakRekey p) s = .next s) ∧
    (∀ (src : BitVec 16) (hops : Nat) (l : Lsr), s.fabTakes q → quiet l.watch →
      let a := src.toNat
      (a = s.fabOwn → l.serial ≠ s.pair.serial → ∃ t, exec (.lsrRx p src hops l) s = .next t ∧ t.flag R.fabAddrConflict = true ∧ t.flag R.fabCtrlJoined = false ∧
        Raised s t evFabAddrConflict ∧ t.fab.db = s.fab.db) ∧
      (a = s.fabOwn → l.serial = s.pair.serial → s.fab.seq ≤ l.seq → ∃ t x, exec (.lsrRx p src hops l) s = .next t ∧ t.fab.seq = l.seq + 1 ∧
        mget none t.fab.db a = some x ∧ x.l.seq = l.seq + 1 ∧ x.l.serial = s.pair.serial ∧ x.l.state = s.pstate) ∧
      (a ≠ s.fabOwn → (∀ x, mget none s.fab.db a = some x → x.l.seq < l.seq ∧ x.l.serial = l.serial) → s.fab.db.length < 8448 → ∃ t,
        exec (.lsrRx p src hops l) s = .next t ∧ mget none t.fab.db a = some ⟨l, s.tb 3⟩ ∧ (∀ b, b ≠ a → mget none t.fab.db b = mget none s.fab.db b) ∧
        t.fab.dirty = some (s.fab.dirty.getD (s.tb 3)) ∧ t.fld R.fabDbNodes = t.fab.db.length % 2 ^ 14 ∧ t.events = s.events ∧
        t.out = s.out ++ (if hops = 0 then [] else (s.fabUp.filter fun r => r != q).map fun r => .fabric 2 r ([hops - 1, 0xFFFF, a, l.watch] ++ lsrWords l))) ∧
      (∀ x, a ≠ s.fabOwn → mget none s.fab.db a = some x → l.seq ≤ x.l.seq → x.l.serial = l.serial → ∃ t, exec (.lsrRx p src hops l) s = .next t ∧
        t.fab.db = s.fab.db ∧ t.out = s.out ∧ t.events = s.events) ∧
      (∀ x, a ≠ s.fabOwn → mget none s.fab.db a = some x → x.l.serial ≠ l.serial → ∃ t, exec (.lsrRx p src hops l) s = .next t ∧ Raised s t evFabAddrConflict) ∧
      (a ≠ s.fabOwn → mget none s.fab.db a = none → 8448 ≤ s.fab.db.length → s.fab.fullAt = none → ∃ t, exec (.lsrRx p src hops l) s = .next t ∧
        t.fab.db = s.fab.db ∧ Raised s t evFabDbFull ∧ t.fab.fullAt = some (s.tb 3))) ∧
    (s.flag R.fabCtrlJoined → s.fab.lastOrig + 1800000000000 ≤ s.tb 3 ∨ mget none s.fab.db s.fabOwn = none → ∃ t x, exec .lsrOriginate s = .next t ∧
      t.fab.seq = s.fab.seq + 1 ∧ t.fab.lastOrig = s.tb 3 ∧ mget none t.fab.db s.fabOwn = some x ∧ x.l.seq = s.fab.seq + 1 ∧ x.l.serial = s.pair.serial ∧
      x.l.state = s.pstate ∧ x.l.adj.map (·.addr) = (s.fabUp.map fun r => s.fld (R.fabPortNaddr r)) ∧
      t.out = s.out ++ s.fabUp.map fun r => .fabric 2 r ([32, 0xFFFF, s.fabOwn, x.l.watch] ++ lsrWords x.l)) ∧
    (s.flag R.fabCtrlJoined = false → exec .lsrOriginate s = .next s) ∧
    (∀ (src : BitVec 16) (x : LsrHeld), mget none s.fab.db src.toNat = some x → ∃ t, exec (.lsrAgeExpiry src) s = .next t ∧ mget none t.fab.db src.toNat = none ∧
      (∀ b, b ≠ src.toNat → mget none t.fab.db b = mget none s.fab.db b) ∧ t.fab.dirty.isSome ∧ t.out = s.out ∧ t.mem = s.mem) ∧
    (∀ src : BitVec 16, mget none s.fab.db src.toNat = none → exec (.lsrAgeExpiry src) s = .next s) ∧
    (∀ t0 : Nat, s.fab.dirty = some t0 → ∃ t, exec .routeRecompute s = .next t ∧ t.fab.dirty = none ∧ t.fab.routes = s.routesFrom (s.tree s.fabOwn) ∧
      t.fld R.fabDbSpfRuns = min (s.fld R.fabDbSpfRuns + 1) (2 ^ R.fabDbSpfRuns.len - 1) ∧ t.fab.db = s.fab.db ∧ t.mem = s.mem ∧ t.out = s.out ∧
      (s.tbInc 3 ≠ 0 → s.tbFix 3 < 2 ^ 96 → t0 + 20000016 < 2 ^ 64 → t0 + 20000000 ≤ t.tb 3)) ∧
    (s.fab.dirty = none → exec .routeRecompute s = .next s) ∧
    (∀ root : Nat, (∃ n ∈ s.tree root, n.addr = root ∧ n.cost = 0 ∧ n.hops = 0) ∧
      (∀ n ∈ s.tree root, n.hops = 0 ∨ ∃ v ∈ s.tree root, ∃ a ∈ s.linksOf v.addr, n.addr = a.addr ∧ n.par = v.addr ∧ n.parPort = a.lport ∧ n.myPort = a.nport ∧
        n.cost = v.cost + a.cost ∧ n.hops = v.hops + 1) ∧
      (∀ n ∈ s.tree root, n.hops ≤ 31) ∧ ((s.tree root).Pairwise fun x y => x.addr ≠ y.addr ∧ x.cost ≤ y.cost) ∧
      (∀ v ∈ s.tree root, ∀ a ∈ s.linksOf v.addr, ∀ n ∈ s.tree root, v.hops < 31 → n.addr = a.addr → n.cost ≤ v.cost + a.cost)) ∧
    (∀ (f : SoundSeg) (late : Bool) (t0 : Nat), s.fabTakes q → quiet f.watch →
      (mget none s.fab.trees (f.src / 16 * 64 + f.index) = none → ∃ t, exec (.soundingFrameRx p f late t0) s = .next t ∧ t.out = s.out ∧ t.mem = s.mem ∧
        FldsKept s t seen ∧ t.fab.subs = s.fab.subs) ∧
      (∀ e, mget none s.fab.trees (f.src / 16 * 64 + f.index) = some e → e.arrive ≠ q → ∃ t, exec (.soundingFrameRx p f late t0) s = .next t ∧ t.out = s.out ∧
        t.mem = s.mem ∧ FldsKept s t seen ∧ t.fab.subs = s.fab.subs) ∧
      (∀ e, mget none s.fab.trees (f.src / 16 * 64 + f.index) = some e → e.arrive = q → e.loc = false → f.hops ≠ 0 → ∃ t w,
        exec (.soundingFrameRx p f late t0) s = .next t ∧
        t.out = s.out ++ e.out.map (fun r => .fabric 3 r ([f.hops - 1, 0xFFFF, f.src, f.watch] ++ w)) ∧
        w.take 9 = [f.index, f.seg, f.nseg, f.first, f.recs.length, f.epoch, f.wake, f.interval, f.layout] ∧ t.mem = s.mem ∧ FldsKept s t seen ∧
        t.fab.subs = s.fab.subs) ∧
      (∀ e, mget none s.fab.trees (f.src / 16 * 64 + f.index) = some e → e.arrive = q → e.loc = false → f.hops = 0 → ∃ t,
        exec (.soundingFrameRx p f late t0) s = .next t ∧ t.out = s.out ∧ t.mem = s.mem ∧
        t.fld (R.fabPortCntHops q) = min (s.fld (R.fabPortCntHops q) + 1) (2 ^ (R.fabPortCntHops q).len - 1)) ∧
      (∀ e b u, mget none s.fab.trees (f.src / 16 * 64 + f.index) = some e → e.arrive = q → e.loc → s.runBook = some b →
        (b.subs.filter fun u => u.pair == f.src / 16 && u.sidx == f.index) = [u] → ∃ t, exec (.soundingFrameRx p f late t0) s = .next t ∧
        (f.layout ≠ u.layout → (s.sub u.idx).missAt = none → Raised s t evSoundingMismatch ∧ t.mem = s.mem ∧ (t.sub u.idx).last = (s.sub u.idx).last) ∧
        (f.layout = u.layout → f.nseg = 1 → f.seg = 0 → (s.sub u.idx).cur = none → late = false →
          (t.sub u.idx).last = (if subAccepts (t.fabHi (f.src / 16)) (s.sub u.idx).last (f.watch, f.epoch, f.wake)
            then some (f.watch, f.epoch, f.wake) else (s.sub u.idx).last) ∧
          (subAccepts (t.fabHi (f.src / 16)) (s.sub u.idx).last (f.watch, f.epoch, f.wake) →
            (t.sub u.idx).at2 = some (t.tb 2) ∧ (t.sub u.idx).level = 0 ∧ (t.sub u.idx).interval = f.interval) ∧
          (subAccepts (t.fabHi (f.src / 16)) (s.sub u.idx).last (f.watch, f.epoch, f.wake) = false → t.mem = s.mem)))) ∧
    (∀ (hi : Nat) (last : Nat × Nat × Nat) (x : Nat × Nat × Nat), subAccepts hi (some last) x = true ↔
      (hi ≤ x.1 ∧ (x.1 ≠ last.1 ∨ x.2.1 ≠ last.2.1 ∨ last.2.2 < x.2.2))) ∧
    (∀ (c : Fin 8) (start w : Nat) (b : Book) (u : SubSounding), s.runBook = some b → (b.subs.filter fun u => s.subClass u.idx == some c.val) = [u] →
      (s.sub u.idx).at2 = some w → ∃ t, exec (.soundingAgeCheck c start) s = .next t ∧
      (let iv := (s.sub u.idx).interval * 1000
        let level := if (u.stale + 1) * iv + 2000000 < start - w then 2 else if iv + 2000000 < start - w then 1 else 0
        (t.sub u.idx).level = level ∧ (t.sub u.idx).last = (s.sub u.idx).last ∧
        ((s.sub u.idx).level < level → Raised s t evSoundingLost) ∧ (level ≤ (s.sub u.idx).level → t.events = s.events) ∧
        ((s.sub u.idx).quals = [] → t.mem = s.mem))) ∧
    (∀ (c : Fin 8) (start : Nat), s.runBook = none → exec (.soundingAgeCheck c start) s = .next s) ∧
    (∀ (src : BitVec 16) (watch : BitVec 32) (hops : Nat), s.fabTakes q → quiet watch.toNat → ∃ t, exec (.announceRx p src watch hops) s = .next t ∧
      (src.toNat % 16 ≤ 2 → mget 0 t.fab.hi src.toNat = max watch.toNat (mget 0 s.fab.hi src.toNat)) ∧ t.mem = s.mem ∧ FldsKept s t seen ∧
      (s.fabHi (src.toNat / 16) < watch.toNat → t.out = s.out ++ (if hops = 0 then [] else (s.fabUp.filter fun r => r != q).map fun r =>
        .fabric 6 r [hops - 1, 0xFFFF, src.toNat, watch.toNat])) ∧
      (watch.toNat ≤ s.fabHi (src.toNat / 16) → t.out = s.out)) ∧
    (∀ (f : FabFrame) (full : Bool), s.fabTakes q → f.etypeOk → f.verOk →
      (full → ∃ t, exec (.fabricTransitFrameRx p f full) s = .next t ∧ FldsOnly s t [R.fabPortCntDropped q] ∧
        t.fld (R.fabPortCntDropped q) = min (s.fld (R.fabPortCntDropped q) + 1) (2 ^ (R.fabPortCntDropped q).len - 1)) ∧
      (full = false → f.checkOk = false → ∃ t, exec (.fabricTransitFrameRx p f full) s = .next t ∧ FldsOnly s t [R.fabPortCntCrcerr q] ∧
        t.fld (R.fabPortCntCrcerr q) = min (s.fld (R.fabPortCntCrcerr q) + 1) (2 ^ (R.fabPortCntCrcerr q).len - 1)) ∧
      (full = false → f.checkOk → (f.typ = 4 ∨ f.typ = 5) → quiet f.watch → s.fabMine f.dst = false → f.dst ≠ 0xFFFF →
        (f.dst % 16 < 3 ∨ f.dst % 16 = 15) → f.dst ≠ s.pairNum * 16 →
        (f.hops = 0 → ∃ t, exec (.fabricTransitFrameRx p f full) s = .next t ∧ t.out = s.out ∧
          t.fld (R.fabPortCntHops q) = min (s.fld (R.fabPortCntHops q) + 1) (2 ^ (R.fabPortCntHops q).len - 1)) ∧
        (f.hops ≠ 0 → s.routeTo f.dst = none → ∃ t, exec (.fabricTransitFrameRx p f full) s = .next t ∧ t.out = s.out ∧
          t.fld (R.fabPortCntUnreach q) = min (s.fld (R.fabPortCntUnreach q) + 1) (2 ^ (R.fabPortCntUnreach q).len - 1)) ∧
        (∀ r, f.hops ≠ 0 → s.routeTo f.dst = some r → ∃ t, exec (.fabricTransitFrameRx p f full) s = .next t ∧
          t.out = s.out ++ [.fabric f.typ r ([f.hops - 1, f.dst, f.src, f.watch] ++ f.payload)] ∧ FldsKept s t seen ∧ t.mem = s.mem)) ∧
      (full = false → f.checkOk → quiet f.watch → (f.typ = 4 ∨ f.typ = 5) → s.fabMine f.dst = false → f.dst = 0xFFFF → ∃ t,
        exec (.fabricTransitFrameRx p f full) s = .next t ∧ t.out = s.out ∧
        t.fld (R.fabPortCntUnreach q) = min (s.fld (R.fabPortCntUnreach q) + 1) (2 ^ (R.fabPortCntUnreach q).len - 1)))

/-! ### Time -/

/-- R400 to R402, R404 to R408, R410, R412 to R419, R601, R607: PTP messages, stamps and time-outs; TB2 following TB0; the bases of a module that follows the time master;
pulse outputs and inputs. A correction that no rule sizes, the offset that remains after R414 and NEXT of a one-shot are free values (DESIGN CHOICE, assumption 5); an edge
at an instant runs its base to it (DESIGN CHOICE, assumption 6). -/
def Obligations.TimeMessagesPulsesAndCaptures : Prop :=
  ∀ s : State,
    (∀ (m : Fin 16) (k : Fin 4) (v : W64), s.reaches m (R.timeTpoCfg k.val) → s.flag (R.timeTpoCfgEn k.val) = false →
      let b := getBits v 0 2
      let w := getBits v 8 32
      let p := s.fld (R.timeTpoPeriodPeriod k.val)
      let st := s.fld (R.timeTpoStartStart k.val)
      let now := s.tb b
      let good := 8 ≤ w ∧ (p = 0 ∨ (1000 ≤ p ∧ w + 8 < p)) ∧ (p = 0 → now + 1000 ≤ st)
      (getBits v 2 1 = 0 → ∃ t, exec (.tpoCfgWrite m k v) s = .next t ∧ t.bus.err = false ∧ t.flag (R.timeTpoCfgEn k.val) = false ∧
        t.fld (R.timeTpoCfgBase k.val) = b ∧ t.fld (R.timeTpoCfgPol k.val) = getBits v 3 1 ∧ t.fld (R.timeTpoCfgWidth k.val) = w ∧
        FldsKept s t [R.timeTpoCfgBase k.val, R.timeTpoCfgPol k.val, R.timeTpoCfgWidth k.val]) ∧
      (getBits v 2 1 = 1 → good → ∃ t, exec (.tpoCfgWrite m k v) s = .next t ∧ t.bus.err = false ∧ t.flag (R.timeTpoCfgEn k.val) = true ∧
        t.fld (R.timeTpoCfgBase k.val) = b ∧ t.fld (R.timeTpoCfgPol k.val) = getBits v 3 1 ∧ t.fld (R.timeTpoCfgWidth k.val) = w ∧
        t.fld (R.timeTpoCfgMissed k.val) = 0 ∧ (now + 1000 ≤ st → t.fld (R.timeTpoNextNext k.val) = st) ∧
        (st < now + 1000 → now + 1000 + p < 2 ^ 64 → ∃ n, t.fld (R.timeTpoNextNext k.val) = st + n * p ∧ now + 1000 ≤ st + n * p ∧ st + n * p < now + 1000 + p) ∧
        FldsKept s t [R.timeTpoCfgBase k.val, R.timeTpoCfgPol k.val, R.timeTpoCfgWidth k.val, R.timeTpoCfgEn k.val, R.timeTpoCfgMissed k.val,
          R.timeTpoNextNext k.val]) ∧
      (getBits v 2 1 = 1 → ¬ good → ∃ t, exec (.tpoCfgWrite m k v) s = .next t ∧ t.bus.err = true ∧ t.flag (R.timeTpoCfgEn k.val) = false)) ∧
    (∀ (m : Fin 16) (k : Fin 4) (v : W64), s.reaches m (R.timeTpoCfg k.val) → s.flag (R.timeTpoCfgEn k.val) →
      let same := getBits v 0 2 = s.fld (R.timeTpoCfgBase k.val) ∧ getBits v 3 1 = s.fld (R.timeTpoCfgPol k.val) ∧ getBits v 8 32 = s.fld (R.timeTpoCfgWidth k.val)
      ∃ t, exec (.tpoCfgWrite m k v) s = .next t ∧ (t.bus.err = true ↔ ¬ same) ∧ t.fld (R.timeTpoCfgBase k.val) = s.fld (R.timeTpoCfgBase k.val) ∧
        t.fld (R.timeTpoCfgWidth k.val) = s.fld (R.timeTpoCfgWidth k.val) ∧ t.flag (R.timeTpoCfgEn k.val) = (getBits v 2 1 == 1)) ∧
    (∀ k : Fin 4, s.flag (R.timeTpoCfgEn k.val) → s.flag (R.timeTpoCfgActive k.val) = false →
      let b := s.fld (R.timeTpoCfgBase k.val)
      let next := s.fld (R.timeTpoNextNext k.val)
      ∃ t, exec (.tpoLeadingEdge k) s = .next t ∧ t.flag (R.timeTpoCfgActive k.val) = true ∧ t.out = s.out ++ [.pulse k.val (!s.flag (R.timeTpoCfgPol k.val))] ∧
        mget none t.time.trail k.val = some (t.tb b + s.fld (R.timeTpoCfgWidth k.val)) ∧
        (s.fld (R.timeTpoPeriodPeriod k.val) ≠ 0 → t.fld (R.timeTpoNextNext k.val) = (next + s.fld (R.timeTpoPeriodPeriod k.val)) % 2 ^ 64) ∧
        FldsKept s t [R.timeTpoCfgActive k.val, R.timeTpoNextNext k.val] ∧ t.mem = s.mem ∧
        (s.tbInc b ≠ 0 → s.tbFix b < 2 ^ 96 → next + 16 < 2 ^ 64 → next ≤ t.tb b)) ∧
    (∀ k : Fin 4, s.flag (R.timeTpoCfgEn k.val) = false ∨ s.flag (R.timeTpoCfgActive k.val) → exec (.tpoLeadingEdge k) s = .next s) ∧
    (∀ (k : Fin 4) (at_ : Nat), mget none s.time.trail k.val = some at_ → ∃ t, exec (.tpoTrailingEdge k) s = .next t ∧ t.flag (R.timeTpoCfgActive k.val) = false ∧
      t.out = s.out ++ [.pulse k.val (s.flag (R.timeTpoCfgPol k.val))] ∧ mget none t.time.trail k.val = none ∧ t.mem = s.mem ∧
      (s.fld (R.timeTpoPeriodPeriod k.val) = 0 → t.flag (R.timeTpoCfgEn k.val) = false ∧ t.fld (R.timeTpoNextNext k.val) = 0) ∧
      (s.fld (R.timeTpoPeriodPeriod k.val) ≠ 0 → FldsKept s t [R.timeTpoCfgActive k.val])) ∧
    (∀ k : Fin 4, mget none s.time.trail k.val = none → exec (.tpoTrailingEdge k) s = .next s) ∧
    (∀ (i : Fin 2) (rising : Bool), let e := s.fld (R.timeTpiCtlEdge i.val)
      let takes := s.tpiWired i.val ∧ (if rising then e % 2 = 1 else 2 ≤ e)
      let soon := ∃ t0, mget none s.time.tpiLast i.val = some t0 ∧ s.tb 3 < t0 + 1000
      let up := min (s.fld (R.timeTpiCtlMissed i.val) + 1) (2 ^ (R.timeTpiCtlMissed i.val).len - 1)
      (¬ takes → exec (.tpiEdge i rising) s = .next s) ∧
      (takes → soon → ∃ t, exec (.tpiEdge i rising) s = .next t ∧ FldsOnly s t [R.timeTpiCtlMissed i.val] ∧ t.fld (R.timeTpiCtlMissed i.val) = up) ∧
      (takes → ¬ soon → ∃ t, exec (.tpiEdge i rising) s = .next t ∧ (∀ n < 4, t.fld (R.timeTpiTbNs i.val n) = s.tb n % 2 ^ 64) ∧
        t.flag (R.timeTpiCtlLast i.val) = rising ∧ t.fld (R.timeTpiCtlCount i.val) = (s.fld (R.timeTpiCtlCount i.val) + 1) % 2 ^ 32 ∧
        mget none t.time.tpiLast i.val = some (s.tb 3) ∧
        (s.qFree 245 = 0 → t.fld (R.timeTpiCtlMissed i.val) = up) ∧
        (s.qFree 245 ≠ 0 → t.fld (R.timeTpiCtlMissed i.val) = s.fld (R.timeTpiCtlMissed i.val) ∧
          t.fld (R.qmgrQIdxPi 245) = (s.fld (R.qmgrQIdxPi 245) + 1) % 2 ^ 32 ∧
          mget 0 t.mail.qmem (s.qKey 245 (s.fld (R.qmgrQIdxPi 245)) 0) = BitVec.ofNat 64 (i.val + if rising then 256 else 0) ∧
          (∀ n < 4, mget 0 t.mail.qmem (s.qKey 245 (s.fld (R.qmgrQIdxPi 245)) (n + 1)) = BitVec.ofNat 64 (s.tb n))) ∧ t.mem = s.mem)) ∧
    (∀ (p : Fin 4) (domB : Bool) (off : Int), let d := if domB then 1 else 0
      (∀ i : Instr, (i = .ptpSyncRx p domB off ∨ i = .ptpMessageRx p (.followUp (if domB then 1 else 0) off)) →
      ((p.val < 2 ∨ s.ptpOn p.val d = false ∨ (s.ptp p.val d).slave = false) → exec i s = .next s) ∧
      (2 ≤ p.val → s.ptpOn p.val d → (s.ptp p.val d).slave → ∃ t, exec i s = .next t ∧ t.ptp p.val d = { s.ptp p.val d with off := off, fresh := false } ∧ t.mem = s.mem ∧
        (s.flag R.pairStateTimemaster = false → t.regs = s.regs ∧ t.tbs = s.tbs ∧ t.events = s.events) ∧
        (s.flag R.pairStateTimemaster → (s.ptp p.val d).fresh = false → (s.domState d = 1 ∨ s.domState d = 2) → 100000 < off.natAbs →
          (t.tbFix d : Int) = ((s.tbFix d : Int) - off * 2 ^ 32) % 2 ^ 96 ∧ Raised s t evTimeStepped ∧ mget 0 t.time.locked d = 0) ∧
        (s.flag R.pairStateTimemaster → (s.ptp p.val d).fresh = false → (s.domState d = 1 ∨ s.domState d = 2) → off.natAbs ≤ 100000 →
          t.tbs = s.tbs ∧ incOk d (t.tbInc d) ∧ mget 0 t.time.locked d = (if off.natAbs ≤ 1000 then min 16 (mget 0 s.time.locked d + 1) else 0) ∧
          t.domState d = (if off.natAbs ≤ 1000 ∧ 15 ≤ mget 0 s.time.locked d then 2 else s.domState d) ∧
          (off.natAbs ≤ 1000 → 15 ≤ mget 0 s.time.locked d → s.domState d = 1 → t.domValid d = true ∧ Raised s t evTimeLocked))))) ∧
    (∀ (p : Fin 4) (domB : Bool), let d := if domB then 1 else 0
      let q := if p.val = 2 then 3 else 2
      ((s.ptp p.val d).slave = false → exec (.ptpAnnounceTimeout p domB) s = .next s) ∧
      (2 ≤ p.val → (s.ptp p.val d).slave → (s.ptp q d).best = none → ∃ t, exec (.ptpAnnounceTimeout p domB) s = .next t ∧ (t.ptp p.val d).slave = false ∧
        (t.ptp q d).slave = false ∧ (t.ptp p.val d).best = none ∧ t.domState d = (if s.domValid d then 3 else 0) ∧ mget 0 t.time.locked d = 0 ∧
        t.tbs = s.tbs ∧ t.mem = s.mem)) ∧
    (∀ p : Fin 4, exec (.ptpMessageRx p .management) s = .next s ∧ (∀ d, exec (.ptpMessageRx p (.pdelayResp d)) s = .next s) ∧
      (∀ d : Fin 3, s.ptpOn p.val d.val → s.ptpP2p p.val d.val → 2 ≤ p.val ∨ s.ringTalks → ∃ t, exec (.ptpMessageRx p (.pdelayReq d)) s = .next t ∧
        t = { s with out := s.out ++ [.ptp p.val 3 [s.domNumber d.val]] }) ∧
      (∀ d : Fin 3, s.ptpOn p.val d.val = false ∨ s.ptpP2p p.val d.val = false ∨ (p.val < 2 ∧ s.ringTalks = false) →
        exec (.ptpMessageRx p (.pdelayReq d)) s = .next s) ∧
      (∀ d : Fin 3, 2 ≤ p.val → s.ptpOn p.val d.val → s.ptpP2p p.val d.val = false → (s.ptp p.val d.val).slave = false → ∃ t,
        exec (.ptpMessageRx p (.delayReq d)) s = .next t ∧ t = { s with out := s.out ++ [.ptp p.val 9 [s.domNumber d.val]] }) ∧
      (∀ d : Fin 3, p.val < 2 ∨ s.ptpOn p.val d.val = false ∨ s.ptpP2p p.val d.val → exec (.ptpMessageRx p (.delayReq d)) s = .next s) ∧
      (∀ d : Fin 3, (s.ptpOn p.val d.val = true ↔ (p.val < 2 ∧ d.val = 2) ∨ (2 ≤ p.val ∧ (d.val = 0 ∨ (d.val = 1 ∧ 2 ≤ s.ptpProfile p.val))))) ∧
      (∀ (d : Fin 3) (data : List Nat) (utc : Option (BitVec 16)), p.val < 2 ∨ s.ptpOn p.val d.val = false → exec (.ptpMessageRx p (.announce d data utc)) s = .next s) ∧
      (∀ (d : Fin 3) (data : List Nat) (utc : BitVec 16), 2 ≤ p.val → s.ptpOn p.val d.val → dataLess data s.ownData → (s.ptp (if p.val = 2 then 3 else 2) d.val).best = none →
        ∃ t, exec (.ptpMessageRx p (.announce d data (some utc))) s = .next t ∧ (t.ptp p.val d.val).slave = true ∧ (t.ptp p.val d.val).best = some data ∧
        (t.ptp (if p.val = 2 then 3 else 2) d.val).slave = false ∧
        (d.val = 0 → t.fld R.timeStatusUtcOffset = utc.toNat ∧ t.flag R.timeStatusUtcValid = true) ∧ (d.val = 1 → t.regs = s.regs) ∧ t.mem = s.mem)) ∧
    (∀ (p : Fin 4) (d : Fin 3) (ann : Bool),
      (2 ≤ p.val → s.ptpOn p.val d.val → (s.ptp p.val d.val).slave = false → let q := s.ptp (if p.val = 2 then 3 else 2) d.val
        ∃ t data, exec (.ptpMasterSendInterval p d ann) s = .next t ∧ t = { s with out := s.out ++
          [if ann then .ptp p.val 11 ([s.domNumber d.val] ++ data) else .ptp p.val 0 [s.domNumber d.val, s.tb d.val]] } ∧
        (q.slave = false → data = s.ownData ++ [0xA0, s.fld R.timeStatusUtcOffset]) ∧
        (∀ b, q.slave → q.best = some b → data = b ++ [s.fld R.timeStatusUtcOffset])) ∧
      (p.val < 2 → s.ringTalks → ∃ t, exec (.ptpMasterSendInterval p 2 ann) s = .next t ∧ t = { s with out := s.out ++
        [if ann then .ptp p.val 11 [s.time.cfg.domR, 0, if s.flag R.pairStateTimemaster then 1 else 2] else .ptp p.val 0 [s.time.cfg.domR, s.tb 2]] }) ∧
      ((p.val < 2 ∧ (d.val ≠ 2 ∨ s.ringTalks = false)) ∨ (2 ≤ p.val ∧ (s.ptpOn p.val d.val = false ∨ (s.ptp p.val d.val).slave)) → exec (.ptpMasterSendInterval p d ann) s = .next s)) ∧
    (∀ (p : Fin 4) (d : Fin 3) (typ : BitVec 4) (seq : BitVec 16) (t0 : Nat),
      (s.fld (R.portPtpStamp p.val) ≠ 2 → exec (.ptpEgressStamp p d typ seq t0) s = .next s) ∧
      ((followUpOf typ.toNat = some 8 ↔ typ = 0) ∧ (followUpOf typ.toNat = some 10 ↔ typ = 3)) ∧
      (s.fld (R.portPtpStamp p.val) = 2 → s.qFree 244 = 0 → ∃ t, exec (.ptpEgressStamp p d typ seq t0) s = .next t ∧ t.out = s.out ∧
        t.fld (R.portPtpLost p.val) = min (s.fld (R.portPtpLost p.val) + 1) (2 ^ (R.portPtpLost p.val).len - 1)) ∧
      (s.fld (R.portPtpStamp p.val) = 2 → s.qFree 244 ≠ 0 → ∃ t, exec (.ptpEgressStamp p d typ seq t0) s = .next t ∧
        (∀ k, followUpOf typ.toNat = some k → t.out.getLast? = some (.ptp p.val k [seq.toNat, t0 + s.fld (R.portPtpLatEgr p.val) / 2 ^ 16])) ∧ t.mem = s.mem ∧
        mget 0 t.mail.qmem (s.qKey 244 (s.fld (R.qmgrQIdxPi 244)) 1) = BitVec.ofNat 64 (t0 + s.fld (R.portPtpLatEgr p.val) / 2 ^ 16))) ∧
    (let follows := s.flag R.timeCtrlTb2Follow ∧ s.flag R.timeStatusTb0Valid ∧ s.flag R.pairStateTimemaster
      let d := (s.tb 0 : Int) - s.tb 2
      ∃ t, exec .tb2FollowUpdate s = .next t ∧ t.tbs = s.tbs ∧ t.mem = s.mem ∧
        (¬ follows → t.flag R.timeCtrlSlewing = false ∧ t.flag R.timeCtrlBlocked = false ∧ FldsKept s t [R.timeCtrlSlewing, R.timeCtrlBlocked]) ∧
        (follows → s.time.cfg.window * 1000000000 < d.natAbs → t.flag R.timeCtrlBlocked = true ∧ t.flag R.timeCtrlSlewing = false ∧ t.tbInc 2 = s.tbInc 2 ∧
          (s.flag R.timeCtrlBlocked = false → Raised s t evTb2Blocked) ∧ (s.flag R.timeCtrlBlocked → t.events = s.events)) ∧
        (follows → d.natAbs ≤ s.time.cfg.window * 1000000000 → t.flag R.timeCtrlBlocked = false ∧ incOk 2 (t.tbInc 2) ∧
          t.flag R.timeCtrlSlewing = decide (1000 < d.natAbs) ∧ (1000 < d.natAbs → 0 < d → s.tbInc 0 ≤ incNominal → s.tbInc 0 < t.tbInc 2) ∧
          (1000 < d.natAbs → d < 0 → incNominal ≤ s.tbInc 0 → t.tbInc 2 < s.tbInc 0))) ∧
    (∀ tb0 tb1 tb2 inc3 : Nat, (s.flag R.pairLinkUp = false ∨ s.flag R.pairStateTimemaster → exec (.pairTimeSync tb0 tb1 tb2 inc3) s = .next s) ∧
      (s.flag R.pairLinkUp → s.flag R.pairStateTimemaster = false → 20 ≤ tb0 → 20 ≤ tb1 → 20 ≤ tb2 → tb0 < 2 ^ 63 → tb1 < 2 ^ 63 → tb2 < 2 ^ 63 → ∃ t,
        exec (.pairTimeSync tb0 tb1 tb2 inc3) s = .next t ∧ t.flag R.timeStatusPairsync = true ∧ incOk 3 (t.tbInc 3) ∧ (incOk 3 inc3 → t.tbInc 3 = inc3) ∧
        tb0 ≤ t.tb 0 + 20 ∧ t.tb 0 ≤ tb0 + 20 ∧ tb1 ≤ t.tb 1 + 20 ∧ t.tb 1 ≤ tb1 + 20 ∧ t.tb 3 = s.tb 3 ∧
        (s.fld R.bookModeMode = 0 → tb2 ≤ t.tb 2 + 20 ∧ t.tb 2 ≤ tb2 + 20) ∧
        (s.fld R.bookModeMode ≠ 0 → t.tb 2 = s.tb 2 ∧ incOk 2 (t.tbInc 2)) ∧ t.mem = s.mem)) ∧
    (∀ (pl : Bool) (t0 : Nat), s.time.holdAt = some t0 → s.flag R.pairStateTimemaster → s.domState 0 = 3 → pl → ∃ t,
      exec (.timeMasterHoldoverExpiry pl) s = .next t ∧ t.flag R.pairStateTimemaster = false ∧ Raised s t evTimeMasterChanged ∧ FldsKept s t [R.pairStateTimemaster] ∧
      (s.tbInc 3 ≠ 0 → s.tbFix 3 < 2 ^ 96 → t0 + 10000000016 < 2 ^ 64 → t0 + 10000000000 ≤ t.tb 3)) ∧
    (∀ pl : Bool, s.time.holdAt = none ∨ pl = false → exec (.timeMasterHoldoverExpiry pl) s = .next s)

/-! ### The field island and the cabinet bus -/

/-- R558 to R561, R565 to R567, R570 to R573, R576, R578, R601: link frames of the field island, link loss and the hold, the open line, conversions and the values written for a
start, commands applied and read-backs judged, the trim. Fewer conversions than the filter takes are used as they are (DESIGN CHOICE, assumption 22); the layout of
Q228 is a free value (DESIGN CHOICE, assumption 5). -/
def Obligations.FieldIslandInputsAndOutputs : Prop :=
  ∀ s : State,
    let ticks := s.tbInc 2 ≠ 0 ∧ s.tbFix 2 < 2 ^ 96
    (∀ (ok : Bool) (mv : BitVec 16) (t0 : Nat), ∃ t w, exec (.fieldLinkFrameRx ok mv t0) s = .next t ∧
      t.out = s.out ++ [.field ([t0, s.fld R.fldStatusClosed] ++ w) ([0, 1, 2, 3].map s.stageDrive)] ∧ w.length = 12 ∧ w.drop 8 = [0, 1, 2, 3].map (fun k => s.fld (R.fldAoCmd k)) ∧
      (ok = false → t.field = { s.field with good := 0 } ∧ t.regs = s.regs) ∧
      (ok → t.field.good = min (s.field.good + 1) 16 ∧ t.field.lastRx = t0 ∧ t.fld R.fldStatusStoreMv = mv.toNat ∧
        t.flag R.fldStatusLink = (s.flag R.fldStatusLink || decide (15 ≤ s.field.good)) ∧ FldsKept s t [R.fldStatusStoreMv, R.fldStatusLink]) ∧
      t.mem = s.mem ∧ (ticks → t0 + 16 < 2 ^ 64 → t0 ≤ t.tb 2)) ∧
    (s.flag R.fldStatusLink → ∃ t, exec .fieldLinkLoss s = .next t ∧ t.flag R.fldStatusLink = false ∧ t.field.good = 0 ∧ t.field.conv = [] ∧
      t.fld R.fldStatusLinkloss = min (s.fld R.fldStatusLinkloss + 1) (2 ^ R.fldStatusLinkloss.len - 1) ∧ FldsKept s t [R.fldStatusLink, R.fldStatusLinkloss] ∧
      t.field.holdUntil = some (t.tb 3 - (t.tb 2 - s.field.lastRx) + s.field.hold) ∧ t.reports = s.reports ++ [⟨0x34, 0, false⟩] ∧ t.mem = s.mem ∧
      (ticks → s.field.lastRx < 2 ^ 63 → s.field.lastRx + 300000 ≤ t.tb 2)) ∧
    (s.flag R.fldStatusLink = false → exec .fieldLinkLoss s = .next s) ∧
    (∀ u : Nat, s.field.holdUntil = some u → ∃ t, exec (.islandHoldExpiry none) s = .next t ∧ t.fld R.fldStatusClosed = 0 ∧ t.flag R.fldStatusXfade = false ∧
      t.field.xfade = none ∧ FldsKept s t [R.fldStatusClosed, R.fldStatusXfade] ∧ t.mem = s.mem ∧ t.out = s.out ∧
      (s.tbInc 3 ≠ 0 → s.tbFix 3 < 2 ^ 96 → u + 16 < 2 ^ 64 → u ≤ t.tb 3)) ∧
    (s.field.holdUntil = none → exec (.islandHoldExpiry none) s = .next s) ∧
    (∀ k : Fin 4, mget none s.time.held k.val ≠ none → ∃ t, exec (.islandHoldExpiry (some k)) s = .next t ∧ mget none t.time.held k.val = none ∧
      mget false t.time.driven k.val = false ∧ t = { s with tbs := t.tbs, time := { s.time with held := t.time.held, driven := t.time.driven } }) ∧
    (∀ k : Fin 4, mget none s.time.held k.val = none → exec (.islandHoldExpiry (some k)) s = .next s) ∧
    ((s.openCause ↔ (s.flag R.fcolStatusSafe ∨ s.flag R.pairFenceValid ∨ s.inReset 21)) ∧
      (s.openCause → ∃ t, exec .openLineAssert s = .next t ∧ t.flag R.fldStatusOpenline = true ∧ t.fld R.fldStatusClosed = 0 ∧ t.flag R.fldStatusXfade = false ∧
        FldsKept s t [R.fldStatusOpenline, R.fldStatusClosed, R.fldStatusXfade] ∧ t = { s with regs := t.regs, field := t.field }) ∧
      (s.openCause = false → exec .openLineAssert s = .next s)) ∧
    (s.field.firstDue → ∃ t, exec .fldFirstSwitchCommand s = .next t ∧ t.field.firstDue = false ∧ t.fld R.fldStatusClosed = 0 ∧
      FldsKept s t [R.fldStatusClosed, R.fldStatusXfade] ∧ t = { s with regs := t.regs, field := t.field }) ∧
    (s.field.firstDue = false → exec .fldFirstSwitchCommand s = .next s) ∧
    (∃ t, exec .fieldStoreReady s = .next t ∧ FldsOnly s t [R.fldStatusReady] ∧ t.flag R.fldStatusReady = true) ∧
    (∀ (t0 : Nat) (ai ao : List (BitVec 28 × Bool)), t0 % 1000000 = 0 → s.flag R.fldStatusLink → s.flag R.fldStatusReady → ∃ t,
      exec (.aiConversionEnd t0 ai ao) s = .next t ∧ (∀ k < 8, ∀ i sh, ai[k]? = some (i, sh) → t.fld (R.fldAiCurrent k) = i.toNat ∧
        t.flag (R.fldAiOpen k) = decide (i.toNat < 500000) ∧ t.flag (R.fldAiShort k) = sh ∧ t.flag (R.fldAiOver k) = decide (24000000 ≤ i.toNat) ∧
        t.flag (R.fldAiLoop k) = s.loopOn k ∧ mget [] t.field.conv k = (⟨t0, t.stampNow, i.toNat, sh⟩ :: mget [] s.field.conv k).take 64) ∧
      (∀ k < 4, ∀ rb lim, ao[k]? = some (rb, lim) → t.fld (R.fldAoReadback k) = rb.toNat ∧ (t.ao k).limit = lim ∧ t.fld (R.fldAoCmd k) = s.fld (R.fldAoCmd k) ∧
        ∀ i < 3,
          (mget none (t.ao k).since i = if s.aoJudged k t0 ∧ t.aoCond k i then some ((mget none (s.ao k).since i).getD t0) else none) ∧
          (mget 0 (t.ao k).miss i = if s.aoJudged k t0 ∧ t.aoCond k i then 0 else min 2 (mget 0 (s.ao k).miss i + 1))) ∧
      t.mem = s.mem ∧ t.reports = s.reports ∧ (ticks → t0 + 16 < 2 ^ 64 → t0 ≤ t.tb 2)) ∧
    (∀ (t0 : Nat) (ai ao : List (BitVec 28 × Bool)), t0 % 1000000 ≠ 0 ∨ s.flag R.fldStatusLink = false ∨ s.flag R.fldStatusReady = false →
      exec (.aiConversionEnd t0 ai ao) s = .next s) ∧
    (∀ (us : List AiConv) (namur : Bool), us ≠ [] →
      let n := us.length
      let sum := us.foldl (fun a u => a + u.cur) 0
      ((∃ u ∈ us, u.short) → (aiJudge us namur).1 = 0 ∧ (aiJudge us namur).2.testBit 1) ∧
      ((∀ u ∈ us, u.short = false) → (∃ u ∈ us, 24000000 ≤ u.cur) → (aiJudge us namur).1 = 0 ∧ (aiJudge us namur).2.testBit 2) ∧
      ((∀ u ∈ us, u.short = false ∧ u.cur < 24000000) → 500000 * n ≤ sum → namur = false → aiJudge us namur = (4, 0)) ∧
      ((∀ u ∈ us, u.short = false ∧ u.cur < 24000000) → namur → 3800000 * n ≤ sum → sum ≤ 20500000 * n → aiJudge us namur = (4, 0)) ∧
      ((∀ u ∈ us, u.short = false ∧ u.cur < 24000000) → namur → sum ≤ 3600000 * n → (aiJudge us namur).1 = 0 ∧ (aiJudge us namur).2.testBit 3) ∧
      ((∀ u ∈ us, u.short = false ∧ u.cur < 24000000) → namur → 21000000 * n ≤ sum → (aiJudge us namur).1 = 0 ∧ (aiJudge us namur).2.testBit 4)) ∧
    (∀ (c : Fin 8) (start k sig : Nat), s.book.running.isSome → (s.isActive ∨ s.isFollower) → k < 8 → s.fieldSig k 0 1 = some sig →
      (∀ j < 8, j ≠ k → s.fieldSig j 0 1 = none) → (∀ j < 8, s.fieldSig j 1 1 = none) → (∀ j < 4, s.fieldSig j 2 1 = none ∧ s.fieldSig j 3 1 = none) →
      sig < 0x40000 → (s.dirEntry sig).cls = c.val → s.dirOk sig → (s.dirEntry sig).typ ≠ 0 → (s.dirEntry sig).owner = 8 → (s.dirEntry sig).kind = 1 →
      let cfg := ((s.fieldCfg c.val).bind fun f => f.ai[k]?).getD ⟨false, true, 1⟩
      let us := ((mget [] s.field.conv k).filter fun u => decide (u.at2 + 500000 ≤ start)).take (max 1 cfg.filter)
      let a := recAddr (!s.front c.val 1) sig
      ∃ t, exec (.aiValueWrite c start) s = .next t ∧ (∀ b, b < a ∨ a + 16 ≤ b → t.byte b = s.byte b) ∧ t.regs = s.regs ∧
        (s.flag R.fldStatusLink → s.flag R.fldStatusReady → us ≠ [] → (t.recAt a).qual = (aiJudge us cfg.namur).1 ∧
          (t.recAt a).value = canonical (s.dirEntry sig).typ (meanAmps (us.foldl (fun x u => x + u.cur) 0) us.length) ∧
          (t.recAt a).stamp = (us.head?.elim 0 (·.stamp)) % 2 ^ 48) ∧
        (s.flag R.fldStatusLink = false → (t.recAt a).qual = 0)) ∧
    (∀ (c : Fin 8) (start : Nat), s.book.running = none → exec (.aiValueWrite c start) s = .next s) ∧
    (∀ k : Fin 4, (s.ao k.val).due → s.field.xfade = none → (∀ x, s.field.trim = some x → x.1 ≠ k.val) → ∃ t, exec (.aoApply k) s = .next t ∧
      t.fld (R.fldAoCmd k.val) = (s.ao k.val).cmd % 2 ^ 28 ∧ (t.ao k.val).due = false ∧ (t.ao k.val).part = 20 ∧
      (∀ j < 4, t.bit R.fldStatusClosed j = (s.bit R.fldStatusClosed j || (decide (j = k.val) && s.isActive && s.mayClose))) ∧
      FldsKept s t [R.fldAoCmd k.val, R.fldStatusClosed] ∧ (∀ j, j ≠ k.val → t.ao j = s.ao j) ∧ t.mem = s.mem) ∧
    (∀ k : Fin 4, (s.ao k.val).due = false ∨ s.field.xfade.isSome → exec (.aoApply k) s = .next s) ∧
    (∀ k : Fin 4,
      let now := fun i : Nat => if i = 0 then R.fldAoFlagsOpen k.val else if i = 1 then R.fldAoFlagsCompliance k.val else R.fldAoFlagsStage k.val
      let latch := fun i : Nat => if i = 0 then R.fldAoFlagsOpenL k.val else if i = 1 then R.fldAoFlagsComplL k.val else R.fldAoFlagsStageL k.val
      let lasts := fun i : Nat => (mget none (s.ao k.val).since i).any fun u => decide (u + 2000000 ≤ s.tb 2)
      ∃ t, exec (.aoReadbackJudge k) s = .next t ∧ (∀ i < 3,
        t.flag (now i) = (if s.flag (now i) then decide (mget 0 (s.ao k.val).miss i < 2) else lasts i) ∧
        t.flag (latch i) = (s.flag (latch i) || (!s.flag (now i) && lasts i))) ∧
        t.reports = s.reports ++ ([0, 1, 2].filter fun i => !s.flag (now i) && lasts i).map (fun i =>
          if i = 0 then ⟨0x36, k.val, false⟩ else if i = 1 then ⟨0x36, k.val + 256, false⟩ else ⟨0x35, k.val, false⟩) ∧
        FldsKept s t ([0, 1, 2].map now ++ [0, 1, 2].map latch) ∧ t.mem = s.mem ∧ t.field = s.field ∧
        ((∃ i < 3, s.flag (now i)) → (∀ i < 3, t.flag (now i) = false) → t.events.getLast?.map (·.code) = some 0x0A04)) ∧
    (∀ (k v u : Nat), s.field.trim = some (k, v, u) → ∃ t, exec .fieldTrimTimeout s = .next t ∧ t = { s with tbs := t.tbs, field := { s.field with trim := none } } ∧
      (s.tbInc 3 ≠ 0 → s.tbFix 3 < 2 ^ 96 → u < 2 ^ 63 → u + 600000000000 ≤ t.tb 3)) ∧
    (s.field.trim = none → exec .fieldTrimTimeout s = .next s)

/-- R581 to R585, R587, R588, R590: the cabinet bus: CANn_CTRL, rate detection, periodic transmission, reception into objects and FIFOs, WATCH frames, fault confinement, bus
idle. The counters that ISO 11898-1 leaves after a bus event are an operand. -/
def Obligations.CabinetBusChannels : Prop :=
  ∀ (s : State) (n : Fin 2),
    let st := fun (t : State) (c : CanConf) => t.fld (R.canStatusTec n.val) = c.tec.toNat ∧ t.fld (R.canStatusRec n.val) = c.rec_.toNat ∧
      t.fld (R.canStatusErrstate n.val) = c.err.val
    let talks := s.fld (R.canStatusMode n.val) = 3 ∧ s.fld (R.canStatusErrstate n.val) ≠ 2
    (∀ (m : Fin 16) (v : W64), s.reaches m (R.canCtrlNominal n.val) → ∃ t, exec (.canCtrlWrite m n v) s = .next t ∧
      (t.bus.err = true ↔ (4 < getBits v 0 3 ∨ 4 < getBits v 3 3)) ∧
      t.fld (R.canCtrlNominal n.val) = (if 4 < getBits v 0 3 then s.fld (R.canCtrlNominal n.val) else getBits v 0 3) ∧
      t.fld (R.canCtrlData n.val) = (if 4 < getBits v 3 3 then s.fld (R.canCtrlData n.val) else getBits v 3 3) ∧
      t.fld (R.canCtrlAutoRec n.val) = getBits v 6 1 ∧ t.fld (R.canCtrlWatchEn n.val) = getBits v 7 1 ∧ t.fld (R.canCtrlWatchId n.val) = getBits v 8 11 ∧
      (t.canOf n.val).nomDue = ((s.canOf n.val).nomDue || decide (t.fld (R.canCtrlNominal n.val) ≠ s.fld (R.canCtrlNominal n.val))) ∧
      (t.canOf n.val).dataDue = ((s.canOf n.val).dataDue || decide (t.fld (R.canCtrlData n.val) ≠ s.fld (R.canCtrlData n.val))) ∧
      t.fld (R.canStatusMode n.val) = s.fld (R.canStatusMode n.val) ∧ FldsKept s t [R.canCtrlNominal n.val, R.canCtrlData n.val, R.canCtrlAutoRec n.val,
        R.canCtrlWatchEn n.val, R.canCtrlWatchId n.val] ∧ t.mem = s.mem) ∧
    (s.fld (R.canStatusMode n.val) = 1 → ∃ t, exec (.canRateProbe n) s = .next t ∧ (t.canOf n.val).probe = (s.canOf n.val).probe % 4 + 1 ∧
      (t.canOf n.val).streak = 0 ∧ t = { s with can := t.can }) ∧
    (s.fld (R.canStatusMode n.val) ≠ 1 → exec (.canRateProbe n) s = .next s) ∧
    (∀ (k : Fin 256) (t0 : Nat) (sent : Bool) (conf : Option CanConf), let p := s.fld (R.canObj1Period n.val k.val)
      let goes := talks ∧ s.flag (R.canObjEn n.val k.val) ∧ s.flag (R.canObjTx n.val k.val) ∧ p ≠ 0 ∧ t0 % (p * 1000000) = 0
      (¬ goes → exec (.canPeriodicTx n k t0 sent conf) s = .next s) ∧
      (goes → ∃ t, exec (.canPeriodicTx n k t0 sent conf) s = .next t ∧ t.mem = s.mem ∧
        (sent = false → t.out = s.out ∧ (t.canOf n.val).pend = ((s.canOf n.val).pend.filter fun j => j != k.val) ++ [k.val]) ∧
        (sent → t.out = s.out ++ [.can n.val (s.fld (R.canObjId n.val k.val)) (s.flag (R.canObjIde n.val k.val)) (s.flag (R.canObjFdf n.val k.val)) (s.canBytes n.val k.val)] ∧
          (t.canOf n.val).pend = ((s.canOf n.val).pend.filter fun j => j != k.val) ∧ t.flag (R.canObj1New n.val k.val) = true ∧
          t.fld (R.canObj1Count n.val k.val) = (s.fld (R.canObj1Count n.val k.val) + 1) % 2 ^ 32 ∧
          t.fld (R.canCntTxok n.val) = min (s.fld (R.canCntTxok n.val) + 1) (2 ^ 16 - 1)) ∧
        (∀ c, conf = some c → st t c) ∧ (s.tbInc 2 ≠ 0 → s.tbFix 2 < 2 ^ 96 → t0 + 16 < 2 ^ 64 → t0 ≤ t.tb 2))) ∧
    (∀ (conf : Option CanConf), s.fld (R.canStatusMode n.val) ≠ 0 → ∃ t, exec (.canFrameRx n none conf) s = .next t ∧ (t.canOf n.val).streak = 0 ∧
      (∀ c, conf = some c → st t c ∧
        t.fld (R.canCntErrors n.val) = min (s.fld (R.canCntErrors n.val) + c.errors) (2 ^ 16 - 1) ∧
        (c.err.val ≠ s.fld (R.canStatusErrstate n.val) → Raised s t (if c.err.val = 1 then 0x0B01 else if c.err.val = 2 then 0x0B02 else 0x0B03)) ∧
        (c.err.val = s.fld (R.canStatusErrstate n.val) → t.events = s.events)) ∧
      (conf = none → t.regs = s.regs) ∧ t.mem = s.mem) ∧
    (∀ (f : Option CanRx) (conf : Option CanConf), s.fld (R.canStatusMode n.val) = 0 → exec (.canFrameRx n f conf) s = .next s) ∧
    (∀ f : CanRx, 2 ≤ s.fld (R.canStatusMode n.val) → ∃ t, exec (.canFrameRx n (some f) none) s = .next t ∧
      t.fld (R.canCntRxok n.val) = min (s.fld (R.canCntRxok n.val) + 1) (2 ^ 16 - 1) ∧ t.fld (R.canStatusMode n.val) = s.fld (R.canStatusMode n.val) ∧
      (∀ k < 256,
        let mine := s.flag (R.canObjEn n.val k) ∧ s.flag (R.canObjTx n.val k) = false ∧ s.fld (R.canObjId n.val k) = f.id ∧ s.flag (R.canObjIde n.val k) = f.ide ∧ s.flag (R.canObjFdf n.val k) = f.fdf
        (mine → t.flag (R.canObj1New n.val k) = true ∧ t.fld (R.canObj1Count n.val k) = (s.fld (R.canObj1Count n.val k) + 1) % 2 ^ 32 ∧
          ∀ i < 8, t.reg (Machine.canObjData n.val k i) = BitVec.ofNat 64 (ofLe ((((f.data ++ List.replicate 64 0).take 64).drop (8 * i)).take 8))) ∧
        (¬ mine → t.flag (R.canObj1New n.val k) = s.flag (R.canObj1New n.val k) ∧ t.fld (R.canObj1Count n.val k) = s.fld (R.canObj1Count n.val k) ∧
          ∀ i < 8, t.reg (Machine.canObjData n.val k i) = s.reg (Machine.canObjData n.val k i))) ∧
      (∀ i, s.canFilter n.val f = some i → (s.fld (R.canFlt0Action n.val i) = 1 ∨ s.fld (R.canFlt0Action n.val i) = 2) →
        let q := s.fld (R.canFlt0Action n.val i) - 1
        let l := mget [] (s.canOf n.val).fifo q
        (l.length < 64 → mget [] (t.canOf n.val).fifo q = l ++ [⟨f, i, s.tb 0⟩]) ∧
        (64 ≤ l.length → mget [] (t.canOf n.val).fifo q = l ∧ (mget none (s.canOf n.val).ovfAt q = none → Raised s t 0x0B04))) ∧
      (s.canFilter n.val f = none → t.can = s.can) ∧ t.mem = s.mem) ∧
    (∀ f : CanRx, s.fld (R.canStatusMode n.val) = 1 → ∃ t, exec (.canFrameRx n (some f) none) s = .next t ∧
      ((s.canOf n.val).streak = 0 → t.fld (R.canStatusMode n.val) = 1 ∧ (t.canOf n.val).streak = 1) ∧
      (1 ≤ (s.canOf n.val).streak → t.fld (R.canStatusRate n.val) = (s.canOf n.val).probe % 8 ∧ 2 ≤ t.fld (R.canStatusMode n.val) ∧
        ∃ e ∈ t.events, e.code = 0x0B00)) ∧
    (∀ (f : CanRx) (i : Nat), s.canFilter n.val f = some i → i < 64 ∧ s.fld (R.canFlt0Action n.val i) ≠ 0 ∧ s.flag (R.canFlt0Ide n.val i) = f.ide ∧
      f.id &&& s.fld (R.canFlt1Mask n.val i) = s.fld (R.canFlt0Match n.val i) &&& s.fld (R.canFlt1Mask n.val i)) ∧
    (∀ (f : Fin 2) (e : CanEntry) (rest : List CanEntry), mget [] (s.canOf n.val).fifo f.val = e :: rest → let q := 224 + 2 * n.val + f.val
      (s.qFree q < (canEntries e).length → exec (.canFifoMove n f) s = .next s) ∧
      ((canEntries e).length ≤ s.qFree q → s.qUsed q ≤ s.qSize q → s.fld (R.qmgrQCfgLog2size q) ≤ 16 → ∃ t, exec (.canFifoMove n f) s = .next t ∧
        mget [] (t.canOf n.val).fifo f.val = rest ∧
        t.fld (R.qmgrQIdxPi q) = (s.fld (R.qmgrQIdxPi q) + (if 48 < e.f.data.length then 2 else 1)) % 2 ^ 32 ∧ t.mem = s.mem)) ∧
    (∀ f : Fin 2, mget [] (s.canOf n.val).fifo f.val = [] → exec (.canFifoMove n f) s = .next s) ∧
    (∀ conf : Option CanConf, talks → s.flag (R.canCtrlWatchEn n.val) → ∃ t, exec (.canWatchSend n conf) s = .next t ∧
      t.out = s.out ++ [.can n.val (s.fld (R.canCtrlWatchId n.val)) false false (beBytes 2 s.pairNum ++ beBytes 4 (s.fld R.pairWatchWatch) ++
        beBytes 1 (s.fld R.pairStateSlot) ++ beBytes 1 s.pstate)] ∧ (t.canOf n.val).watchAt = (s.canOf n.val).watchAt + 1000000000 ∧
      t.fld (R.canCntTxok n.val) = min (s.fld (R.canCntTxok n.val) + 1) (2 ^ 16 - 1) ∧ (∀ c, conf = some c → st t c) ∧ t.mem = s.mem) ∧
    (∀ conf : Option CanConf, ¬ talks ∨ s.flag (R.canCtrlWatchEn n.val) = false → exec (.canWatchSend n conf) s = .next s) ∧
    (∀ (pair : BitVec 16) (watch : BitVec 32) (slot state : BitVec 8), 2 ≤ s.fld (R.canStatusMode n.val) → ∃ t,
      exec (.canWatchRx n pair watch slot state) s = .next t ∧ t.fld (R.canCntRxok n.val) = min (s.fld (R.canCntRxok n.val) + 1) (2 ^ 16 - 1) ∧
      (pair.toNat = s.pairNum → t.fld (R.canStatusSeen n.val) = max watch.toNat (s.fld (R.canStatusSeen n.val))) ∧
      (pair.toNat = s.pairNum → s.fld R.pairWatchWatch < watch.toNat → t.fld (R.canStatusMode n.val) = 2 ∧ t.flag (R.canStatusYielded n.val) = true ∧
        (t.canOf n.val).pend = [] ∧ t.events.getLast?.map (·.code) = some 0x0B05) ∧
      (pair.toNat ≠ s.pairNum ∨ watch.toNat ≤ s.fld R.pairWatchWatch → t.fld (R.canStatusMode n.val) = s.fld (R.canStatusMode n.val) ∧
        t.flag (R.canStatusYielded n.val) = s.flag (R.canStatusYielded n.val)) ∧ t.pair = s.pair ∧ t.mem = s.mem) ∧
    (s.fld (R.canStatusErrstate n.val) = 2 → (s.flag (R.canCtrlAutoRec n.val) ∨ (s.canOf n.val).recovering) → ∃ t, exec (.canBusOffRecovery n) s = .next t ∧
      t.fld (R.canStatusErrstate n.val) = 0 ∧ t.fld (R.canStatusTec n.val) = 0 ∧ t.fld (R.canStatusRec n.val) = 0 ∧ (t.canOf n.val).recovering = false ∧
      Raised s t 0x0B03 ∧ FldsKept s t [R.canStatusErrstate n.val, R.canStatusTec n.val, R.canStatusRec n.val] ∧ t.mem = s.mem) ∧
    (s.fld (R.canStatusErrstate n.val) ≠ 2 ∨ (s.flag (R.canCtrlAutoRec n.val) = false ∧ (s.canOf n.val).recovering = false) → exec (.canBusOffRecovery n) s = .next s) ∧
    (let x := s.canOf n.val
      let nom := s.fld (R.canCtrlNominal n.val)
      ∃ t, exec (.canBusIdle n) s = .next t ∧ t.mem = s.mem ∧ (t.canOf n.val).nomDue = false ∧ (t.canOf n.val).dataDue = false ∧
        (x.nomDue → nom = 0 → t.fld (R.canStatusMode n.val) = 1 ∧ t.fld (R.canStatusRate n.val) = 0 ∧ (t.canOf n.val).probe = 1) ∧
        (x.nomDue ∨ x.dataDue → nom ≠ 0 → t.fld (R.canStatusRate n.val) = nom ∧ 2 ≤ t.fld (R.canStatusMode n.val)) ∧
        (x.nomDue ∨ x.dataDue → t.fld (R.canStatusErrstate n.val) = 0 ∧ t.fld (R.canStatusTec n.val) = 0 ∧ t.fld (R.canStatusRec n.val) = 0) ∧
        (x.nomDue = false → x.dataDue = false → talks → (t.canOf n.val).pend = [] ∧ t.out = s.out ++ x.pend.map fun k =>
          .can n.val (s.fld (R.canObjId n.val k)) (s.flag (R.canObjIde n.val k)) (s.flag (R.canObjFdf n.val k)) (s.canBytes n.val k)) ∧
        (x.nomDue = false → x.dataDue = false → ¬ talks → t = s))
end

