-- ==== Sys2Proof/Laws/Maps.lean ====
section
/-! SUPPORT. What reading a sparse table gives after each of its operations, and that each operation keeps the canonical form. -/

namespace Sys2Proof.Machine

variable {α : Type}

theorem mget_mdel_same (d : α) (m : NMap α) (k : Nat) : mget d (mdel m k) k = d := by
  induction m with
  | nil => rfl
  | cons e m ih => obtain ⟨a, v⟩ := e; by_cases h : a = k <;> simp [mdel, mget, h, ih]

theorem mget_mdel_ne (d : α) (m : NMap α) {k j : Nat} (h : j ≠ k) : mget d (mdel m k) j = mget d m j := by
  induction m with
  | nil => rfl
  | cons e m ih =>
    obtain ⟨a, v⟩ := e
    by_cases ha : a = k
    · subst ha; simp [mdel, mget, ih, Ne.symm h]
    · simp [mdel, mget, ha, ih]

theorem mget_mins_same (d : α) (m : NMap α) (k : Nat) (v : α) (h : ∀ e ∈ m, e.1 ≠ k) : mget d (mins m k v) k = v := by
  induction m with
  | nil => simp [mins, mget]
  | cons e m ih =>
    obtain ⟨a, w⟩ := e
    have ha : a ≠ k := h (a, w) (by simp)
    by_cases hk : k < a
    · simp [mins, mget, hk]
    · simp [mins, mget, hk, ha, ih fun e he => h e (by simp [he])]

theorem mget_mins_ne (d : α) (m : NMap α) {k j : Nat} (v : α) (h : j ≠ k) : mget d (mins m k v) j = mget d m j := by
  induction m with
  | nil => simp [mins, mget, Ne.symm h]
  | cons e m ih =>
    obtain ⟨a, w⟩ := e
    by_cases hk : k < a <;> simp [mins, mget, hk, Ne.symm h, ih]

theorem mem_mdel_key {m : NMap α} {k : Nat} {e : Nat × α} (h : e ∈ mdel m k) : e ∈ m ∧ e.1 ≠ k := by
  induction m with
  | nil => simp [mdel] at h
  | cons f m ih =>
    obtain ⟨a, v⟩ := f
    by_cases ha : a = k
    · simp only [mdel, if_pos ha] at h; have := ih h; simp [this.1, this.2]
    · simp only [mdel, if_neg ha, List.mem_cons] at h
      rcases h with rfl | h
      · simp [ha]
      · have := ih h; simp [this.1, this.2]

/-- What is written is what is read. -/
@[simp] theorem mget_mput_same [DecidableEq α] (d : α) (m : NMap α) (k : Nat) (v : α) : mget d (mput d m k v) k = v := by
  unfold mput
  split
  · next h => rw [mget_mdel_same, h]
  · exact mget_mins_same d _ k v fun e he => (mem_mdel_key he).2

/-- A write at one key leaves every other. -/
theorem mget_mput_ne [DecidableEq α] (d d' : α) (m : NMap α) {k j : Nat} (v : α) (h : j ≠ k) :
    mget d' (mput d m k v) j = mget d' m j := by
  unfold mput
  split
  · exact mget_mdel_ne d' m h
  · rw [mget_mins_ne d' _ v h, mget_mdel_ne d' m h]

theorem mget_mput [DecidableEq α] (d : α) (m : NMap α) (k j : Nat) (v : α) :
    mget d (mput d m k v) j = if j = k then v else mget d m j := by
  split
  · next h => rw [h, mget_mput_same]
  · next h => exact mget_mput_ne d d m v h

@[simp] theorem mget_nil (d : α) (k : Nat) : mget d [] k = d := rfl

theorem mget_mmod_same [DecidableEq α] (d : α) (m : NMap α) (k : Nat) (f : α → α) :
    mget d (mmod d m k f) k = f (mget d m k) := mget_mput_same d m k _

theorem mget_mmod_ne [DecidableEq α] (d : α) (m : NMap α) {k j : Nat} (f : α → α) (h : j ≠ k) :
    mget d (mmod d m k f) j = mget d m j := mget_mput_ne d d m _ h

/-! ### The canonical form -/

/-- Keys strictly rising, as a proposition. -/
theorem mrising_iff (b : Nat) (m : NMap α) : mrising b m = true ↔ (∀ e ∈ m, b < e.1) ∧ m.Pairwise fun x y => x.1 < y.1 := by
  induction m generalizing b with
  | nil => simp [mrising]
  | cons e m ih =>
    obtain ⟨a, v⟩ := e
    simp only [mrising, Bool.and_eq_true, decide_eq_true_eq, ih, List.mem_cons, forall_eq_or_imp, List.pairwise_cons]
    constructor
    · rintro ⟨h, h1, h2⟩; exact ⟨⟨h, fun e he => lt_trans h (h1 e he)⟩, h1, h2⟩
    · rintro ⟨⟨h, _⟩, h1, h2⟩; exact ⟨h, h1, h2⟩

/-- The canonical form in one line: keys rise, no entry is what an unlisted key reads as. -/
theorem mwfBy_iff [DecidableEq α] (d : Nat → α) (m : NMap α) :
    mwfBy d m = true ↔ (m.Pairwise fun x y => x.1 < y.1) ∧ ∀ e ∈ m, e.2 ≠ d e.1 := by
  cases m with
  | nil => simp [mwfBy]
  | cons e m =>
    obtain ⟨a, v⟩ := e
    simp only [mwfBy, Bool.and_eq_true, mrising_iff, List.pairwise_cons, List.all_eq_true, decide_eq_true_eq]

theorem pairwise_mdel {m : NMap α} (k : Nat) (h : m.Pairwise fun x y => x.1 < y.1) :
    (mdel m k).Pairwise fun x y => x.1 < y.1 := by
  induction m with
  | nil => simp [mdel]
  | cons e m ih =>
    obtain ⟨a, v⟩ := e
    rw [List.pairwise_cons] at h
    by_cases ha : a = k
    · simp only [mdel, if_pos ha]; exact ih h.2
    · simp only [mdel, if_neg ha, List.pairwise_cons]
      exact ⟨fun e he => h.1 e (mem_mdel_key he).1, ih h.2⟩

theorem mem_mins {m : NMap α} {k : Nat} {v : α} {e : Nat × α} (h : e ∈ mins m k v) : e = (k, v) ∨ e ∈ m := by
  induction m with
  | nil => simpa [mins] using h
  | cons f m ih =>
    obtain ⟨a, w⟩ := f
    by_cases hk : k < a
    · simp only [mins, if_pos hk, List.mem_cons] at h; simp only [List.mem_cons]; exact h
    · simp only [mins, if_neg hk, List.mem_cons] at h
      rcases h with rfl | h
      · simp
      · rcases ih h with h | h <;> simp [h]

theorem pairwise_mins {m : NMap α} {k : Nat} (v : α) (hk : ∀ e ∈ m, e.1 ≠ k) (h : m.Pairwise fun x y => x.1 < y.1) :
    (mins m k v).Pairwise fun x y => x.1 < y.1 := by
  induction m with
  | nil => simp [mins]
  | cons e m ih =>
    obtain ⟨a, w⟩ := e
    rw [List.pairwise_cons] at h
    have ha : a ≠ k := hk (a, w) (by simp)
    by_cases hlt : k < a
    · simp only [mins, if_pos hlt, List.pairwise_cons, List.mem_cons, forall_eq_or_imp]
      exact ⟨⟨hlt, fun e he => lt_trans hlt (h.1 e he)⟩, h.1, h.2⟩
    · simp only [mins, if_neg hlt, List.pairwise_cons]
      refine ⟨fun e he => ?_, ih (fun e he => hk e (by simp [he])) h.2⟩
      rcases mem_mins he with rfl | he
      · show a < k; omega
      · exact h.1 e he

/-- A write keeps the canonical form. -/
theorem mwfBy_mput [DecidableEq α] (d : Nat → α) {m : NMap α} (k : Nat) (v : α) (h : mwfBy d m = true) :
    mwfBy d (mput (d k) m k v) = true := by
  rw [mwfBy_iff] at *
  unfold mput
  split
  · exact ⟨pairwise_mdel k h.1, fun e he => h.2 e (mem_mdel_key he).1⟩
  · next hv =>
    refine ⟨pairwise_mins v (fun e he => (mem_mdel_key he).2) (pairwise_mdel k h.1), fun e he => ?_⟩
    rcases mem_mins he with rfl | he
    · exact hv
    · exact h.2 e (mem_mdel_key he).1

/-- Dropping entries keeps the canonical form. -/
theorem mwfBy_filter [DecidableEq α] (d : Nat → α) {m : NMap α} (p : Nat × α → Bool) (h : mwfBy d m = true) :
    mwfBy d (m.filter p) = true := by
  rw [mwfBy_iff] at *
  exact ⟨h.1.filter p, fun e he => h.2 e (List.mem_of_mem_filter he)⟩

/-- Two canonical tables that read alike are equal. -/
theorem mwfBy_ext [DecidableEq α] (d : Nat → α) {m n : NMap α} (hm : mwfBy d m = true) (hn : mwfBy d n = true)
    (h : ∀ k, mget (d k) m k = mget (d k) n k) : m = n := by
  rw [mwfBy_iff] at hm hn
  induction m generalizing n with
  | nil =>
    cases n with
    | nil => rfl
    | cons f n =>
      obtain ⟨b, w⟩ := f
      exact absurd (by simpa [mget] using (h b).symm) (hn.2 (b, w) (by simp))
  | cons e m ih =>
    obtain ⟨a, v⟩ := e
    have low : ∀ {c : Nat} {l : NMap α}, (∀ e ∈ l, c < e.1) → mget (d c) l c = d c := by
      intro c l hl
      induction l with
      | nil => rfl
      | cons g l ihl =>
        obtain ⟨x, y⟩ := g
        have : c < x := hl (x, y) (by simp)
        rw [mget, if_neg (by omega)]
        exact ihl fun e he => hl e (by simp [he])
    have hm1 := hm.1
    rw [List.pairwise_cons] at hm1
    cases n with
    | nil => exact absurd (by simpa [mget] using h a) (hm.2 (a, v) (by simp))
    | cons f n =>
      obtain ⟨b, w⟩ := f
      have hn1 := hn.1
      rw [List.pairwise_cons] at hn1
      have hab : a = b := by
        rcases lt_trichotomy a b with hlt | heq | hgt
        · have h1 := h a
          rw [mget, if_pos rfl, low (l := (b, w) :: n)] at h1
          · exact absurd h1 (hm.2 (a, v) (by simp))
          · intro e he
            rcases List.mem_cons.1 he with rfl | he
            · exact hlt
            · exact lt_trans hlt (hn1.1 e he)
        · exact heq
        · have h1 := h b
          rw [mget.eq_def (d b) ((b, w) :: n) b] at h1
          simp only [if_true] at h1
          rw [low (l := (a, v) :: m)] at h1
          · exact absurd h1.symm (hn.2 (b, w) (by simp))
          · intro e he
            rcases List.mem_cons.1 he with rfl | he
            · exact hgt
            · exact lt_trans hgt (hm1.1 e he)
      subst hab
      have hvw : v = w := by simpa [mget] using h a
      subst hvw
      congr 1
      refine ih ⟨hm1.2, fun e he => hm.2 e (by simp [he])⟩ ⟨hn1.2, fun e he => hn.2 e (by simp [he])⟩ fun k => ?_
      by_cases hk : k = a
      · subst hk
        rw [low fun e he => hm1.1 e he, low fun e he => hn1.1 e he]
      · have := h k
        rwa [mget, mget, if_neg (Ne.symm hk), if_neg (Ne.symm hk)] at this

end Sys2Proof.Machine
end

