-- ==== Sys2Proof/Laws/Regs.lean ====
section
/-! SUPPORT. Register fields: what a field reads as after a write of it, of another field of its register, of another register. -/

namespace Sys2Proof.Machine

theorem getBits_lt (w : W64) (lo len : Nat) : getBits w lo len < 2 ^ len := Nat.mod_lt _ (by positivity)

/-- A word split at a field. -/
theorem getBits_split (n lo len : Nat) :
    n = n % 2 ^ lo + n / 2 ^ lo % 2 ^ len * 2 ^ lo + n / 2 ^ (lo + len) * 2 ^ (lo + len) := by
  have h1 := Nat.div_add_mod n (2 ^ lo)
  have h2 := Nat.div_add_mod (n / 2 ^ lo) (2 ^ len)
  rw [Nat.div_div_eq_div_mul, ← pow_add] at h2
  calc n = 2 ^ lo * (2 ^ len * (n / 2 ^ (lo + len)) + n / 2 ^ lo % 2 ^ len) + n % 2 ^ lo := by rw [h2, h1]
    _ = _ := by rw [pow_add]; ring

/-- The number that a field write leaves. -/
theorem putBits_toNat (w : W64) {lo len : Nat} (v : Nat) (h : lo + len ≤ 64) :
    (putBits w lo len v).toNat =
      w.toNat % 2 ^ lo + v % 2 ^ len * 2 ^ lo + w.toNat / 2 ^ (lo + len) * 2 ^ (lo + len) := by
  have hs := getBits_split w.toNat lo len
  have hv : v % 2 ^ len < 2 ^ len := Nat.mod_lt _ (by positivity)
  have hlo : w.toNat % 2 ^ lo < 2 ^ lo := Nat.mod_lt _ (by positivity)
  have hq : w.toNat / 2 ^ (lo + len) < 2 ^ (64 - (lo + len)) := by
    rw [Nat.div_lt_iff_lt_mul (by positivity), ← pow_add]
    have : 64 - (lo + len) + (lo + len) = 64 := by omega
    rw [this]; exact w.isLt
  have key : w.toNat % 2 ^ lo + v % 2 ^ len * 2 ^ lo + w.toNat / 2 ^ (lo + len) * 2 ^ (lo + len) < 2 ^ 64 := by
    have e1 : w.toNat % 2 ^ lo + v % 2 ^ len * 2 ^ lo < 2 ^ (lo + len) := by
      rw [pow_add]
      calc w.toNat % 2 ^ lo + v % 2 ^ len * 2 ^ lo < 2 ^ lo + v % 2 ^ len * 2 ^ lo := by omega
        _ = (v % 2 ^ len + 1) * 2 ^ lo := by ring
        _ ≤ 2 ^ len * 2 ^ lo := Nat.mul_le_mul_right _ hv
        _ = 2 ^ lo * 2 ^ len := by ring
    have e2 : (w.toNat / 2 ^ (lo + len) + 1) * 2 ^ (lo + len) ≤ 2 ^ 64 := by
      calc (w.toNat / 2 ^ (lo + len) + 1) * 2 ^ (lo + len) ≤ 2 ^ (64 - (lo + len)) * 2 ^ (lo + len) := Nat.mul_le_mul_right _ hq
        _ = 2 ^ 64 := by rw [← pow_add]; congr 1; omega
    calc _ < 2 ^ (lo + len) + w.toNat / 2 ^ (lo + len) * 2 ^ (lo + len) := by omega
      _ = (w.toNat / 2 ^ (lo + len) + 1) * 2 ^ (lo + len) := by ring
      _ ≤ 2 ^ 64 := e2
  unfold putBits getBits
  rw [BitVec.toNat_ofNat]
  have hsub : w.toNat - w.toNat / 2 ^ lo % 2 ^ len * 2 ^ lo = w.toNat % 2 ^ lo + w.toNat / 2 ^ (lo + len) * 2 ^ (lo + len) := by omega
  rw [hsub, Nat.mod_eq_of_lt]
  · omega
  · omega

/-- A field reads as the value written, modulo its width. -/
theorem getBits_putBits_same (w : W64) {lo len : Nat} (v : Nat) (h : lo + len ≤ 64) :
    getBits (putBits w lo len v) lo len = v % 2 ^ len := by
  have hv : v % 2 ^ len < 2 ^ len := Nat.mod_lt _ (by positivity)
  have hlo : w.toNat % 2 ^ lo < 2 ^ lo := Nat.mod_lt _ (by positivity)
  unfold getBits
  rw [putBits_toNat w v h]
  have e : w.toNat % 2 ^ lo + v % 2 ^ len * 2 ^ lo + w.toNat / 2 ^ (lo + len) * 2 ^ (lo + len) =
      w.toNat % 2 ^ lo + 2 ^ lo * (v % 2 ^ len + 2 ^ len * (w.toNat / 2 ^ (lo + len))) := by rw [pow_add]; ring
  rw [e, Nat.add_mul_div_left _ _ (by positivity), Nat.div_eq_of_lt hlo, Nat.zero_add, Nat.add_mul_mod_self_left, Nat.mod_mod]

theorem getBits_testBit (w : W64) (lo len i : Nat) :
    (getBits w lo len).testBit i = (decide (i < len) && w.toNat.testBit (lo + i)) := by
  unfold getBits
  rw [Nat.testBit_mod_two_pow, Nat.testBit_div_two_pow, Nat.add_comm]

/-- The bits of a word after a field write. -/
theorem putBits_testBit (w : W64) {lo len : Nat} (v : Nat) (h : lo + len ≤ 64) (i : Nat) :
    (putBits w lo len v).toNat.testBit i =
      if lo ≤ i ∧ i < lo + len then v.testBit (i - lo) else w.toNat.testBit i := by
  rw [putBits_toNat w v h]
  have hv : v % 2 ^ len < 2 ^ len := Nat.mod_lt _ (by positivity)
  have hlo : w.toNat % 2 ^ lo < 2 ^ lo := Nat.mod_lt _ (by positivity)
  have e : w.toNat % 2 ^ lo + v % 2 ^ len * 2 ^ lo + w.toNat / 2 ^ (lo + len) * 2 ^ (lo + len) =
      2 ^ lo * (2 ^ len * (w.toNat / 2 ^ (lo + len)) + v % 2 ^ len) + w.toNat % 2 ^ lo := by rw [pow_add]; ring
  rw [e, Nat.testBit_two_pow_mul_add _ hlo]
  split
  · next hi => rw [if_neg (by omega), Nat.testBit_mod_two_pow]; simp [hi]
  · next hi =>
    rw [Nat.testBit_two_pow_mul_add _ hv]
    split
    · next h2 => rw [if_pos (by omega), Nat.testBit_mod_two_pow]; simp [h2]
    · next h2 => rw [if_neg (by omega), Nat.testBit_div_two_pow]; congr 1; omega

/-- A write of a field leaves a field that shares no bit with it. -/
theorem getBits_putBits_ne (w : W64) {lo len lo' len' : Nat} (v : Nat) (h : lo + len ≤ 64)
    (hd : lo + len ≤ lo' ∨ lo' + len' ≤ lo) : getBits (putBits w lo len v) lo' len' = getBits w lo' len' := by
  apply Nat.eq_of_testBit_eq
  intro i
  rw [getBits_testBit, getBits_testBit, putBits_testBit w v h]
  by_cases hi : i < len'
  · rw [if_neg (by omega)]
  · simp [hi]

/-! ### Registers of the state -/

@[simp] theorem State.reg_setReg_same (s : State) (a : Nat) (w : W64) : (s.setReg a w).reg a = w := by
  simp [State.reg, State.setReg]

theorem State.reg_setReg_ne (s : State) {a b : Nat} (w : W64) (h : b ≠ a) : (s.setReg a w).reg b = s.reg b :=
  mget_mput_ne _ _ _ _ h

theorem State.reg_setFld_ne (s : State) {f : Fld} {b : Nat} (v : Nat) (h : b ≠ f.addr) : (s.setFld f v).reg b = s.reg b :=
  State.reg_setReg_ne _ _ h

/-- A field of a register reads as written, modulo its width. -/
theorem State.fld_setFld_same (s : State) {f : Fld} (v : Nat) (h : f.lo + f.len ≤ 64) : (s.setFld f v).fld f = v % 2 ^ f.len := by
  simp only [State.fld, State.setFld, State.reg_setReg_same]
  exact getBits_putBits_same _ v h

/-- Another field, of the same register or of another one, keeps its value. -/
theorem State.fld_setFld_ne (s : State) {f g : Fld} (v : Nat) (h : f.lo + f.len ≤ 64)
    (hd : g.addr ≠ f.addr ∨ f.lo + f.len ≤ g.lo ∨ g.lo + g.len ≤ f.lo) : (s.setFld f v).fld g = s.fld g := by
  by_cases ha : g.addr = f.addr
  · simp only [State.fld, State.setFld, ha, State.reg_setReg_same]
    exact getBits_putBits_ne _ v h (by tauto)
  · simp only [State.fld, State.reg_setFld_ne s v ha]

theorem State.fld_lt (s : State) (f : Fld) : s.fld f < 2 ^ f.len := getBits_lt _ _ _

theorem State.flag_setFlag_same (s : State) {f : Fld} (b : Bool) (h : f.lo + f.len ≤ 64) (h0 : 0 < f.len) :
    (s.setFlag f b).flag f = b := by
  simp only [State.flag, State.setFlag, State.fld_setFld_same s _ h]
  have : 2 ≤ 2 ^ f.len := by simpa using Nat.pow_le_pow_right (n := 2) (by omega) h0
  cases b
  · simp
  · simp [Nat.mod_eq_of_lt (show 1 < 2 ^ f.len by omega)]

theorem State.fld_setFlag_ne (s : State) {f g : Fld} (b : Bool) (h : f.lo + f.len ≤ 64)
    (hd : g.addr ≠ f.addr ∨ f.lo + f.len ≤ g.lo ∨ g.lo + g.len ≤ f.lo) : (s.setFlag f b).fld g = s.fld g :=
  State.fld_setFld_ne s _ h hd

/-- A counter never exceeds the largest value of its field (R17). -/
theorem State.fld_addSat (s : State) {f : Fld} (n : Nat) (h : f.lo + f.len ≤ 64) :
    (s.addSat f n).fld f = min (s.fld f + n) (2 ^ f.len - 1) := by
  rw [State.addSat, State.fld_setFld_same s _ h, Nat.mod_eq_of_lt]
  have : 0 < 2 ^ f.len := by positivity
  omega

end Sys2Proof.Machine
end

