-- ==== Sys2Proof/Laws/State.lean ====
section
/-! SUPPORT. Each basic operation of the state changes one field and leaves every other: one lemma per field per operation. -/

namespace Sys2Proof.Machine

/-! ### `State.setReg` -/

@[simp] theorem State.setReg_pending (s : State) (a : Nat) (w : W64) : (s.setReg a w).pending = s.pending := rfl
@[simp] theorem State.setReg_free (s : State) (a : Nat) (w : W64) : (s.setReg a w).free = s.free := rfl
@[simp] theorem State.setReg_bus (s : State) (a : Nat) (w : W64) : (s.setReg a w).bus = s.bus := rfl
@[simp] theorem State.setReg_out (s : State) (a : Nat) (w : W64) : (s.setReg a w).out = s.out := rfl
@[simp] theorem State.setReg_mem (s : State) (a : Nat) (w : W64) : (s.setReg a w).mem = s.mem := rfl
@[simp] theorem State.setReg_tbs (s : State) (a : Nat) (w : W64) : (s.setReg a w).tbs = s.tbs := rfl
@[simp] theorem State.setReg_lanes (s : State) (a : Nat) (w : W64) : (s.setReg a w).lanes = s.lanes := rfl
@[simp] theorem State.setReg_classes (s : State) (a : Nat) (w : W64) : (s.setReg a w).classes = s.classes := rfl
@[simp] theorem State.setReg_flipStop (s : State) (a : Nat) (w : W64) : (s.setReg a w).flipStop = s.flipStop := rfl
@[simp] theorem State.setReg_book (s : State) (a : Nat) (w : W64) : (s.setReg a w).book = s.book := rfl
@[simp] theorem State.setReg_events (s : State) (a : Nat) (w : W64) : (s.setReg a w).events = s.events := rfl
@[simp] theorem State.setReg_reports (s : State) (a : Nat) (w : W64) : (s.setReg a w).reports = s.reports := rfl
@[simp] theorem State.setReg_mail (s : State) (a : Nat) (w : W64) : (s.setReg a w).mail = s.mail := rfl
@[simp] theorem State.setReg_pair (s : State) (a : Nat) (w : W64) : (s.setReg a w).pair = s.pair := rfl
@[simp] theorem State.setReg_stn (s : State) (a : Nat) (w : W64) : (s.setReg a w).stn = s.stn := rfl
@[simp] theorem State.setReg_acc (s : State) (a : Nat) (w : W64) : (s.setReg a w).acc = s.acc := rfl
@[simp] theorem State.setReg_time (s : State) (a : Nat) (w : W64) : (s.setReg a w).time = s.time := rfl
@[simp] theorem State.setReg_log (s : State) (a : Nat) (w : W64) : (s.setReg a w).log = s.log := rfl
@[simp] theorem State.setReg_fcol (s : State) (a : Nat) (w : W64) : (s.setReg a w).fcol = s.fcol := rfl
@[simp] theorem State.setReg_field (s : State) (a : Nat) (w : W64) : (s.setReg a w).field = s.field := rfl
@[simp] theorem State.setReg_can (s : State) (a : Nat) (w : W64) : (s.setReg a w).can = s.can := rfl
@[simp] theorem State.setReg_fab (s : State) (a : Nat) (w : W64) : (s.setReg a w).fab = s.fab := rfl
@[simp] theorem State.setReg_bin (s : State) (a : Nat) (w : W64) : (s.setReg a w).bin = s.bin := rfl
@[simp] theorem State.setReg_rst (s : State) (a : Nat) (w : W64) : (s.setReg a w).rst = s.rst := rfl

/-! ### `State.setFld` -/

@[simp] theorem State.setFld_pending (s : State) (f : Fld) (v : Nat) : (s.setFld f v).pending = s.pending := rfl
@[simp] theorem State.setFld_free (s : State) (f : Fld) (v : Nat) : (s.setFld f v).free = s.free := rfl
@[simp] theorem State.setFld_bus (s : State) (f : Fld) (v : Nat) : (s.setFld f v).bus = s.bus := rfl
@[simp] theorem State.setFld_out (s : State) (f : Fld) (v : Nat) : (s.setFld f v).out = s.out := rfl
@[simp] theorem State.setFld_mem (s : State) (f : Fld) (v : Nat) : (s.setFld f v).mem = s.mem := rfl
@[simp] theorem State.setFld_tbs (s : State) (f : Fld) (v : Nat) : (s.setFld f v).tbs = s.tbs := rfl
@[simp] theorem State.setFld_lanes (s : State) (f : Fld) (v : Nat) : (s.setFld f v).lanes = s.lanes := rfl
@[simp] theorem State.setFld_classes (s : State) (f : Fld) (v : Nat) : (s.setFld f v).classes = s.classes := rfl
@[simp] theorem State.setFld_flipStop (s : State) (f : Fld) (v : Nat) : (s.setFld f v).flipStop = s.flipStop := rfl
@[simp] theorem State.setFld_book (s : State) (f : Fld) (v : Nat) : (s.setFld f v).book = s.book := rfl
@[simp] theorem State.setFld_events (s : State) (f : Fld) (v : Nat) : (s.setFld f v).events = s.events := rfl
@[simp] theorem State.setFld_reports (s : State) (f : Fld) (v : Nat) : (s.setFld f v).reports = s.reports := rfl
@[simp] theorem State.setFld_mail (s : State) (f : Fld) (v : Nat) : (s.setFld f v).mail = s.mail := rfl
@[simp] theorem State.setFld_pair (s : State) (f : Fld) (v : Nat) : (s.setFld f v).pair = s.pair := rfl
@[simp] theorem State.setFld_stn (s : State) (f : Fld) (v : Nat) : (s.setFld f v).stn = s.stn := rfl
@[simp] theorem State.setFld_acc (s : State) (f : Fld) (v : Nat) : (s.setFld f v).acc = s.acc := rfl
@[simp] theorem State.setFld_time (s : State) (f : Fld) (v : Nat) : (s.setFld f v).time = s.time := rfl
@[simp] theorem State.setFld_log (s : State) (f : Fld) (v : Nat) : (s.setFld f v).log = s.log := rfl
@[simp] theorem State.setFld_fcol (s : State) (f : Fld) (v : Nat) : (s.setFld f v).fcol = s.fcol := rfl
@[simp] theorem State.setFld_field (s : State) (f : Fld) (v : Nat) : (s.setFld f v).field = s.field := rfl
@[simp] theorem State.setFld_can (s : State) (f : Fld) (v : Nat) : (s.setFld f v).can = s.can := rfl
@[simp] theorem State.setFld_fab (s : State) (f : Fld) (v : Nat) : (s.setFld f v).fab = s.fab := rfl
@[simp] theorem State.setFld_bin (s : State) (f : Fld) (v : Nat) : (s.setFld f v).bin = s.bin := rfl
@[simp] theorem State.setFld_rst (s : State) (f : Fld) (v : Nat) : (s.setFld f v).rst = s.rst := rfl

/-! ### `State.setFlag` -/

@[simp] theorem State.setFlag_pending (s : State) (f : Fld) (b : Bool) : (s.setFlag f b).pending = s.pending := rfl
@[simp] theorem State.setFlag_free (s : State) (f : Fld) (b : Bool) : (s.setFlag f b).free = s.free := rfl
@[simp] theorem State.setFlag_bus (s : State) (f : Fld) (b : Bool) : (s.setFlag f b).bus = s.bus := rfl
@[simp] theorem State.setFlag_out (s : State) (f : Fld) (b : Bool) : (s.setFlag f b).out = s.out := rfl
@[simp] theorem State.setFlag_mem (s : State) (f : Fld) (b : Bool) : (s.setFlag f b).mem = s.mem := rfl
@[simp] theorem State.setFlag_tbs (s : State) (f : Fld) (b : Bool) : (s.setFlag f b).tbs = s.tbs := rfl
@[simp] theorem State.setFlag_lanes (s : State) (f : Fld) (b : Bool) : (s.setFlag f b).lanes = s.lanes := rfl
@[simp] theorem State.setFlag_classes (s : State) (f : Fld) (b : Bool) : (s.setFlag f b).classes = s.classes := rfl
@[simp] theorem State.setFlag_flipStop (s : State) (f : Fld) (b : Bool) : (s.setFlag f b).flipStop = s.flipStop := rfl
@[simp] theorem State.setFlag_book (s : State) (f : Fld) (b : Bool) : (s.setFlag f b).book = s.book := rfl
@[simp] theorem State.setFlag_events (s : State) (f : Fld) (b : Bool) : (s.setFlag f b).events = s.events := rfl
@[simp] theorem State.setFlag_reports (s : State) (f : Fld) (b : Bool) : (s.setFlag f b).reports = s.reports := rfl
@[simp] theorem State.setFlag_mail (s : State) (f : Fld) (b : Bool) : (s.setFlag f b).mail = s.mail := rfl
@[simp] theorem State.setFlag_pair (s : State) (f : Fld) (b : Bool) : (s.setFlag f b).pair = s.pair := rfl
@[simp] theorem State.setFlag_stn (s : State) (f : Fld) (b : Bool) : (s.setFlag f b).stn = s.stn := rfl
@[simp] theorem State.setFlag_acc (s : State) (f : Fld) (b : Bool) : (s.setFlag f b).acc = s.acc := rfl
@[simp] theorem State.setFlag_time (s : State) (f : Fld) (b : Bool) : (s.setFlag f b).time = s.time := rfl
@[simp] theorem State.setFlag_log (s : State) (f : Fld) (b : Bool) : (s.setFlag f b).log = s.log := rfl
@[simp] theorem State.setFlag_fcol (s : State) (f : Fld) (b : Bool) : (s.setFlag f b).fcol = s.fcol := rfl
@[simp] theorem State.setFlag_field (s : State) (f : Fld) (b : Bool) : (s.setFlag f b).field = s.field := rfl
@[simp] theorem State.setFlag_can (s : State) (f : Fld) (b : Bool) : (s.setFlag f b).can = s.can := rfl
@[simp] theorem State.setFlag_fab (s : State) (f : Fld) (b : Bool) : (s.setFlag f b).fab = s.fab := rfl
@[simp] theorem State.setFlag_bin (s : State) (f : Fld) (b : Bool) : (s.setFlag f b).bin = s.bin := rfl
@[simp] theorem State.setFlag_rst (s : State) (f : Fld) (b : Bool) : (s.setFlag f b).rst = s.rst := rfl

/-! ### `State.addSat` -/

@[simp] theorem State.addSat_pending (s : State) (f : Fld) (n : Nat) : (s.addSat f n).pending = s.pending := rfl
@[simp] theorem State.addSat_free (s : State) (f : Fld) (n : Nat) : (s.addSat f n).free = s.free := rfl
@[simp] theorem State.addSat_bus (s : State) (f : Fld) (n : Nat) : (s.addSat f n).bus = s.bus := rfl
@[simp] theorem State.addSat_out (s : State) (f : Fld) (n : Nat) : (s.addSat f n).out = s.out := rfl
@[simp] theorem State.addSat_mem (s : State) (f : Fld) (n : Nat) : (s.addSat f n).mem = s.mem := rfl
@[simp] theorem State.addSat_tbs (s : State) (f : Fld) (n : Nat) : (s.addSat f n).tbs = s.tbs := rfl
@[simp] theorem State.addSat_lanes (s : State) (f : Fld) (n : Nat) : (s.addSat f n).lanes = s.lanes := rfl
@[simp] theorem State.addSat_classes (s : State) (f : Fld) (n : Nat) : (s.addSat f n).classes = s.classes := rfl
@[simp] theorem State.addSat_flipStop (s : State) (f : Fld) (n : Nat) : (s.addSat f n).flipStop = s.flipStop := rfl
@[simp] theorem State.addSat_book (s : State) (f : Fld) (n : Nat) : (s.addSat f n).book = s.book := rfl
@[simp] theorem State.addSat_events (s : State) (f : Fld) (n : Nat) : (s.addSat f n).events = s.events := rfl
@[simp] theorem State.addSat_reports (s : State) (f : Fld) (n : Nat) : (s.addSat f n).reports = s.reports := rfl
@[simp] theorem State.addSat_mail (s : State) (f : Fld) (n : Nat) : (s.addSat f n).mail = s.mail := rfl
@[simp] theorem State.addSat_pair (s : State) (f : Fld) (n : Nat) : (s.addSat f n).pair = s.pair := rfl
@[simp] theorem State.addSat_stn (s : State) (f : Fld) (n : Nat) : (s.addSat f n).stn = s.stn := rfl
@[simp] theorem State.addSat_acc (s : State) (f : Fld) (n : Nat) : (s.addSat f n).acc = s.acc := rfl
@[simp] theorem State.addSat_time (s : State) (f : Fld) (n : Nat) : (s.addSat f n).time = s.time := rfl
@[simp] theorem State.addSat_log (s : State) (f : Fld) (n : Nat) : (s.addSat f n).log = s.log := rfl
@[simp] theorem State.addSat_fcol (s : State) (f : Fld) (n : Nat) : (s.addSat f n).fcol = s.fcol := rfl
@[simp] theorem State.addSat_field (s : State) (f : Fld) (n : Nat) : (s.addSat f n).field = s.field := rfl
@[simp] theorem State.addSat_can (s : State) (f : Fld) (n : Nat) : (s.addSat f n).can = s.can := rfl
@[simp] theorem State.addSat_fab (s : State) (f : Fld) (n : Nat) : (s.addSat f n).fab = s.fab := rfl
@[simp] theorem State.addSat_bin (s : State) (f : Fld) (n : Nat) : (s.addSat f n).bin = s.bin := rfl
@[simp] theorem State.addSat_rst (s : State) (f : Fld) (n : Nat) : (s.addSat f n).rst = s.rst := rfl

/-! ### `State.incSat` -/

@[simp] theorem State.incSat_pending (s : State) (f : Fld) : (s.incSat f).pending = s.pending := rfl
@[simp] theorem State.incSat_free (s : State) (f : Fld) : (s.incSat f).free = s.free := rfl
@[simp] theorem State.incSat_bus (s : State) (f : Fld) : (s.incSat f).bus = s.bus := rfl
@[simp] theorem State.incSat_out (s : State) (f : Fld) : (s.incSat f).out = s.out := rfl
@[simp] theorem State.incSat_mem (s : State) (f : Fld) : (s.incSat f).mem = s.mem := rfl
@[simp] theorem State.incSat_tbs (s : State) (f : Fld) : (s.incSat f).tbs = s.tbs := rfl
@[simp] theorem State.incSat_lanes (s : State) (f : Fld) : (s.incSat f).lanes = s.lanes := rfl
@[simp] theorem State.incSat_classes (s : State) (f : Fld) : (s.incSat f).classes = s.classes := rfl
@[simp] theorem State.incSat_flipStop (s : State) (f : Fld) : (s.incSat f).flipStop = s.flipStop := rfl
@[simp] theorem State.incSat_book (s : State) (f : Fld) : (s.incSat f).book = s.book := rfl
@[simp] theorem State.incSat_events (s : State) (f : Fld) : (s.incSat f).events = s.events := rfl
@[simp] theorem State.incSat_reports (s : State) (f : Fld) : (s.incSat f).reports = s.reports := rfl
@[simp] theorem State.incSat_mail (s : State) (f : Fld) : (s.incSat f).mail = s.mail := rfl
@[simp] theorem State.incSat_pair (s : State) (f : Fld) : (s.incSat f).pair = s.pair := rfl
@[simp] theorem State.incSat_stn (s : State) (f : Fld) : (s.incSat f).stn = s.stn := rfl
@[simp] theorem State.incSat_acc (s : State) (f : Fld) : (s.incSat f).acc = s.acc := rfl
@[simp] theorem State.incSat_time (s : State) (f : Fld) : (s.incSat f).time = s.time := rfl
@[simp] theorem State.incSat_log (s : State) (f : Fld) : (s.incSat f).log = s.log := rfl
@[simp] theorem State.incSat_fcol (s : State) (f : Fld) : (s.incSat f).fcol = s.fcol := rfl
@[simp] theorem State.incSat_field (s : State) (f : Fld) : (s.incSat f).field = s.field := rfl
@[simp] theorem State.incSat_can (s : State) (f : Fld) : (s.incSat f).can = s.can := rfl
@[simp] theorem State.incSat_fab (s : State) (f : Fld) : (s.incSat f).fab = s.fab := rfl
@[simp] theorem State.incSat_bin (s : State) (f : Fld) : (s.incSat f).bin = s.bin := rfl
@[simp] theorem State.incSat_rst (s : State) (f : Fld) : (s.incSat f).rst = s.rst := rfl

/-! ### `State.incMod` -/

@[simp] theorem State.incMod_pending (s : State) (f : Fld) : (s.incMod f).pending = s.pending := rfl
@[simp] theorem State.incMod_free (s : State) (f : Fld) : (s.incMod f).free = s.free := rfl
@[simp] theorem State.incMod_bus (s : State) (f : Fld) : (s.incMod f).bus = s.bus := rfl
@[simp] theorem State.incMod_out (s : State) (f : Fld) : (s.incMod f).out = s.out := rfl
@[simp] theorem State.incMod_mem (s : State) (f : Fld) : (s.incMod f).mem = s.mem := rfl
@[simp] theorem State.incMod_tbs (s : State) (f : Fld) : (s.incMod f).tbs = s.tbs := rfl
@[simp] theorem State.incMod_lanes (s : State) (f : Fld) : (s.incMod f).lanes = s.lanes := rfl
@[simp] theorem State.incMod_classes (s : State) (f : Fld) : (s.incMod f).classes = s.classes := rfl
@[simp] theorem State.incMod_flipStop (s : State) (f : Fld) : (s.incMod f).flipStop = s.flipStop := rfl
@[simp] theorem State.incMod_book (s : State) (f : Fld) : (s.incMod f).book = s.book := rfl
@[simp] theorem State.incMod_events (s : State) (f : Fld) : (s.incMod f).events = s.events := rfl
@[simp] theorem State.incMod_reports (s : State) (f : Fld) : (s.incMod f).reports = s.reports := rfl
@[simp] theorem State.incMod_mail (s : State) (f : Fld) : (s.incMod f).mail = s.mail := rfl
@[simp] theorem State.incMod_pair (s : State) (f : Fld) : (s.incMod f).pair = s.pair := rfl
@[simp] theorem State.incMod_stn (s : State) (f : Fld) : (s.incMod f).stn = s.stn := rfl
@[simp] theorem State.incMod_acc (s : State) (f : Fld) : (s.incMod f).acc = s.acc := rfl
@[simp] theorem State.incMod_time (s : State) (f : Fld) : (s.incMod f).time = s.time := rfl
@[simp] theorem State.incMod_log (s : State) (f : Fld) : (s.incMod f).log = s.log := rfl
@[simp] theorem State.incMod_fcol (s : State) (f : Fld) : (s.incMod f).fcol = s.fcol := rfl
@[simp] theorem State.incMod_field (s : State) (f : Fld) : (s.incMod f).field = s.field := rfl
@[simp] theorem State.incMod_can (s : State) (f : Fld) : (s.incMod f).can = s.can := rfl
@[simp] theorem State.incMod_fab (s : State) (f : Fld) : (s.incMod f).fab = s.fab := rfl
@[simp] theorem State.incMod_bin (s : State) (f : Fld) : (s.incMod f).bin = s.bin := rfl
@[simp] theorem State.incMod_rst (s : State) (f : Fld) : (s.incMod f).rst = s.rst := rfl

/-! ### `State.setBit` -/

@[simp] theorem State.setBit_pending (s : State) (f : Fld) (i : Nat) (b : Bool) : (s.setBit f i b).pending = s.pending := rfl
@[simp] theorem State.setBit_free (s : State) (f : Fld) (i : Nat) (b : Bool) : (s.setBit f i b).free = s.free := rfl
@[simp] theorem State.setBit_bus (s : State) (f : Fld) (i : Nat) (b : Bool) : (s.setBit f i b).bus = s.bus := rfl
@[simp] theorem State.setBit_out (s : State) (f : Fld) (i : Nat) (b : Bool) : (s.setBit f i b).out = s.out := rfl
@[simp] theorem State.setBit_mem (s : State) (f : Fld) (i : Nat) (b : Bool) : (s.setBit f i b).mem = s.mem := rfl
@[simp] theorem State.setBit_tbs (s : State) (f : Fld) (i : Nat) (b : Bool) : (s.setBit f i b).tbs = s.tbs := rfl
@[simp] theorem State.setBit_lanes (s : State) (f : Fld) (i : Nat) (b : Bool) : (s.setBit f i b).lanes = s.lanes := rfl
@[simp] theorem State.setBit_classes (s : State) (f : Fld) (i : Nat) (b : Bool) : (s.setBit f i b).classes = s.classes := rfl
@[simp] theorem State.setBit_flipStop (s : State) (f : Fld) (i : Nat) (b : Bool) : (s.setBit f i b).flipStop = s.flipStop := rfl
@[simp] theorem State.setBit_book (s : State) (f : Fld) (i : Nat) (b : Bool) : (s.setBit f i b).book = s.book := rfl
@[simp] theorem State.setBit_events (s : State) (f : Fld) (i : Nat) (b : Bool) : (s.setBit f i b).events = s.events := rfl
@[simp] theorem State.setBit_reports (s : State) (f : Fld) (i : Nat) (b : Bool) : (s.setBit f i b).reports = s.reports := rfl
@[simp] theorem State.setBit_mail (s : State) (f : Fld) (i : Nat) (b : Bool) : (s.setBit f i b).mail = s.mail := rfl
@[simp] theorem State.setBit_pair (s : State) (f : Fld) (i : Nat) (b : Bool) : (s.setBit f i b).pair = s.pair := rfl
@[simp] theorem State.setBit_stn (s : State) (f : Fld) (i : Nat) (b : Bool) : (s.setBit f i b).stn = s.stn := rfl
@[simp] theorem State.setBit_acc (s : State) (f : Fld) (i : Nat) (b : Bool) : (s.setBit f i b).acc = s.acc := rfl
@[simp] theorem State.setBit_time (s : State) (f : Fld) (i : Nat) (b : Bool) : (s.setBit f i b).time = s.time := rfl
@[simp] theorem State.setBit_log (s : State) (f : Fld) (i : Nat) (b : Bool) : (s.setBit f i b).log = s.log := rfl
@[simp] theorem State.setBit_fcol (s : State) (f : Fld) (i : Nat) (b : Bool) : (s.setBit f i b).fcol = s.fcol := rfl
@[simp] theorem State.setBit_field (s : State) (f : Fld) (i : Nat) (b : Bool) : (s.setBit f i b).field = s.field := rfl
@[simp] theorem State.setBit_can (s : State) (f : Fld) (i : Nat) (b : Bool) : (s.setBit f i b).can = s.can := rfl
@[simp] theorem State.setBit_fab (s : State) (f : Fld) (i : Nat) (b : Bool) : (s.setBit f i b).fab = s.fab := rfl
@[simp] theorem State.setBit_bin (s : State) (f : Fld) (i : Nat) (b : Bool) : (s.setBit f i b).bin = s.bin := rfl
@[simp] theorem State.setBit_rst (s : State) (f : Fld) (i : Nat) (b : Bool) : (s.setBit f i b).rst = s.rst := rfl

/-! ### `State.setByte` -/

@[simp] theorem State.setByte_pending (s : State) (a : Nat) (b : Byte) : (s.setByte a b).pending = s.pending := rfl
@[simp] theorem State.setByte_free (s : State) (a : Nat) (b : Byte) : (s.setByte a b).free = s.free := rfl
@[simp] theorem State.setByte_bus (s : State) (a : Nat) (b : Byte) : (s.setByte a b).bus = s.bus := rfl
@[simp] theorem State.setByte_out (s : State) (a : Nat) (b : Byte) : (s.setByte a b).out = s.out := rfl
@[simp] theorem State.setByte_regs (s : State) (a : Nat) (b : Byte) : (s.setByte a b).regs = s.regs := rfl
@[simp] theorem State.setByte_tbs (s : State) (a : Nat) (b : Byte) : (s.setByte a b).tbs = s.tbs := rfl
@[simp] theorem State.setByte_lanes (s : State) (a : Nat) (b : Byte) : (s.setByte a b).lanes = s.lanes := rfl
@[simp] theorem State.setByte_classes (s : State) (a : Nat) (b : Byte) : (s.setByte a b).classes = s.classes := rfl
@[simp] theorem State.setByte_flipStop (s : State) (a : Nat) (b : Byte) : (s.setByte a b).flipStop = s.flipStop := rfl
@[simp] theorem State.setByte_book (s : State) (a : Nat) (b : Byte) : (s.setByte a b).book = s.book := rfl
@[simp] theorem State.setByte_events (s : State) (a : Nat) (b : Byte) : (s.setByte a b).events = s.events := rfl
@[simp] theorem State.setByte_reports (s : State) (a : Nat) (b : Byte) : (s.setByte a b).reports = s.reports := rfl
@[simp] theorem State.setByte_mail (s : State) (a : Nat) (b : Byte) : (s.setByte a b).mail = s.mail := rfl
@[simp] theorem State.setByte_pair (s : State) (a : Nat) (b : Byte) : (s.setByte a b).pair = s.pair := rfl
@[simp] theorem State.setByte_stn (s : State) (a : Nat) (b : Byte) : (s.setByte a b).stn = s.stn := rfl
@[simp] theorem State.setByte_acc (s : State) (a : Nat) (b : Byte) : (s.setByte a b).acc = s.acc := rfl
@[simp] theorem State.setByte_time (s : State) (a : Nat) (b : Byte) : (s.setByte a b).time = s.time := rfl
@[simp] theorem State.setByte_log (s : State) (a : Nat) (b : Byte) : (s.setByte a b).log = s.log := rfl
@[simp] theorem State.setByte_fcol (s : State) (a : Nat) (b : Byte) : (s.setByte a b).fcol = s.fcol := rfl
@[simp] theorem State.setByte_field (s : State) (a : Nat) (b : Byte) : (s.setByte a b).field = s.field := rfl
@[simp] theorem State.setByte_can (s : State) (a : Nat) (b : Byte) : (s.setByte a b).can = s.can := rfl
@[simp] theorem State.setByte_fab (s : State) (a : Nat) (b : Byte) : (s.setByte a b).fab = s.fab := rfl
@[simp] theorem State.setByte_bin (s : State) (a : Nat) (b : Byte) : (s.setByte a b).bin = s.bin := rfl
@[simp] theorem State.setByte_rst (s : State) (a : Nat) (b : Byte) : (s.setByte a b).rst = s.rst := rfl

/-! ### `State.clearRange` -/

@[simp] theorem State.clearRange_pending (s : State) (a b : Nat) : (s.clearRange a b).pending = s.pending := rfl
@[simp] theorem State.clearRange_free (s : State) (a b : Nat) : (s.clearRange a b).free = s.free := rfl
@[simp] theorem State.clearRange_bus (s : State) (a b : Nat) : (s.clearRange a b).bus = s.bus := rfl
@[simp] theorem State.clearRange_out (s : State) (a b : Nat) : (s.clearRange a b).out = s.out := rfl
@[simp] theorem State.clearRange_regs (s : State) (a b : Nat) : (s.clearRange a b).regs = s.regs := rfl
@[simp] theorem State.clearRange_tbs (s : State) (a b : Nat) : (s.clearRange a b).tbs = s.tbs := rfl
@[simp] theorem State.clearRange_lanes (s : State) (a b : Nat) : (s.clearRange a b).lanes = s.lanes := rfl
@[simp] theorem State.clearRange_classes (s : State) (a b : Nat) : (s.clearRange a b).classes = s.classes := rfl
@[simp] theorem State.clearRange_flipStop (s : State) (a b : Nat) : (s.clearRange a b).flipStop = s.flipStop := rfl
@[simp] theorem State.clearRange_book (s : State) (a b : Nat) : (s.clearRange a b).book = s.book := rfl
@[simp] theorem State.clearRange_events (s : State) (a b : Nat) : (s.clearRange a b).events = s.events := rfl
@[simp] theorem State.clearRange_reports (s : State) (a b : Nat) : (s.clearRange a b).reports = s.reports := rfl
@[simp] theorem State.clearRange_mail (s : State) (a b : Nat) : (s.clearRange a b).mail = s.mail := rfl
@[simp] theorem State.clearRange_pair (s : State) (a b : Nat) : (s.clearRange a b).pair = s.pair := rfl
@[simp] theorem State.clearRange_stn (s : State) (a b : Nat) : (s.clearRange a b).stn = s.stn := rfl
@[simp] theorem State.clearRange_acc (s : State) (a b : Nat) : (s.clearRange a b).acc = s.acc := rfl
@[simp] theorem State.clearRange_time (s : State) (a b : Nat) : (s.clearRange a b).time = s.time := rfl
@[simp] theorem State.clearRange_log (s : State) (a b : Nat) : (s.clearRange a b).log = s.log := rfl
@[simp] theorem State.clearRange_fcol (s : State) (a b : Nat) : (s.clearRange a b).fcol = s.fcol := rfl
@[simp] theorem State.clearRange_field (s : State) (a b : Nat) : (s.clearRange a b).field = s.field := rfl
@[simp] theorem State.clearRange_can (s : State) (a b : Nat) : (s.clearRange a b).can = s.can := rfl
@[simp] theorem State.clearRange_fab (s : State) (a b : Nat) : (s.clearRange a b).fab = s.fab := rfl
@[simp] theorem State.clearRange_bin (s : State) (a b : Nat) : (s.clearRange a b).bin = s.bin := rfl
@[simp] theorem State.clearRange_rst (s : State) (a b : Nat) : (s.clearRange a b).rst = s.rst := rfl

/-! ### `State.setTbFix` -/

@[simp] theorem State.setTbFix_pending (s : State) (k v : Nat) : (s.setTbFix k v).pending = s.pending := rfl
@[simp] theorem State.setTbFix_free (s : State) (k v : Nat) : (s.setTbFix k v).free = s.free := rfl
@[simp] theorem State.setTbFix_bus (s : State) (k v : Nat) : (s.setTbFix k v).bus = s.bus := rfl
@[simp] theorem State.setTbFix_out (s : State) (k v : Nat) : (s.setTbFix k v).out = s.out := rfl
@[simp] theorem State.setTbFix_regs (s : State) (k v : Nat) : (s.setTbFix k v).regs = s.regs := rfl
@[simp] theorem State.setTbFix_mem (s : State) (k v : Nat) : (s.setTbFix k v).mem = s.mem := rfl
@[simp] theorem State.setTbFix_lanes (s : State) (k v : Nat) : (s.setTbFix k v).lanes = s.lanes := rfl
@[simp] theorem State.setTbFix_classes (s : State) (k v : Nat) : (s.setTbFix k v).classes = s.classes := rfl
@[simp] theorem State.setTbFix_flipStop (s : State) (k v : Nat) : (s.setTbFix k v).flipStop = s.flipStop := rfl
@[simp] theorem State.setTbFix_book (s : State) (k v : Nat) : (s.setTbFix k v).book = s.book := rfl
@[simp] theorem State.setTbFix_events (s : State) (k v : Nat) : (s.setTbFix k v).events = s.events := rfl
@[simp] theorem State.setTbFix_reports (s : State) (k v : Nat) : (s.setTbFix k v).reports = s.reports := rfl
@[simp] theorem State.setTbFix_mail (s : State) (k v : Nat) : (s.setTbFix k v).mail = s.mail := rfl
@[simp] theorem State.setTbFix_pair (s : State) (k v : Nat) : (s.setTbFix k v).pair = s.pair := rfl
@[simp] theorem State.setTbFix_stn (s : State) (k v : Nat) : (s.setTbFix k v).stn = s.stn := rfl
@[simp] theorem State.setTbFix_acc (s : State) (k v : Nat) : (s.setTbFix k v).acc = s.acc := rfl
@[simp] theorem State.setTbFix_time (s : State) (k v : Nat) : (s.setTbFix k v).time = s.time := rfl
@[simp] theorem State.setTbFix_log (s : State) (k v : Nat) : (s.setTbFix k v).log = s.log := rfl
@[simp] theorem State.setTbFix_fcol (s : State) (k v : Nat) : (s.setTbFix k v).fcol = s.fcol := rfl
@[simp] theorem State.setTbFix_field (s : State) (k v : Nat) : (s.setTbFix k v).field = s.field := rfl
@[simp] theorem State.setTbFix_can (s : State) (k v : Nat) : (s.setTbFix k v).can = s.can := rfl
@[simp] theorem State.setTbFix_fab (s : State) (k v : Nat) : (s.setTbFix k v).fab = s.fab := rfl
@[simp] theorem State.setTbFix_bin (s : State) (k v : Nat) : (s.setTbFix k v).bin = s.bin := rfl
@[simp] theorem State.setTbFix_rst (s : State) (k v : Nat) : (s.setTbFix k v).rst = s.rst := rfl

/-! ### `State.ticks` -/

@[simp] theorem State.ticks_pending (s : State) (n : Nat) : (s.ticks n).pending = s.pending := by simp only [State.ticks, State.setTbFix_pending]
@[simp] theorem State.ticks_free (s : State) (n : Nat) : (s.ticks n).free = s.free := by simp only [State.ticks, State.setTbFix_free]
@[simp] theorem State.ticks_bus (s : State) (n : Nat) : (s.ticks n).bus = s.bus := by simp only [State.ticks, State.setTbFix_bus]
@[simp] theorem State.ticks_out (s : State) (n : Nat) : (s.ticks n).out = s.out := by simp only [State.ticks, State.setTbFix_out]
@[simp] theorem State.ticks_regs (s : State) (n : Nat) : (s.ticks n).regs = s.regs := by simp only [State.ticks, State.setTbFix_regs]
@[simp] theorem State.ticks_mem (s : State) (n : Nat) : (s.ticks n).mem = s.mem := by simp only [State.ticks, State.setTbFix_mem]
@[simp] theorem State.ticks_lanes (s : State) (n : Nat) : (s.ticks n).lanes = s.lanes := by simp only [State.ticks, State.setTbFix_lanes]
@[simp] theorem State.ticks_classes (s : State) (n : Nat) : (s.ticks n).classes = s.classes := by simp only [State.ticks, State.setTbFix_classes]
@[simp] theorem State.ticks_flipStop (s : State) (n : Nat) : (s.ticks n).flipStop = s.flipStop := by simp only [State.ticks, State.setTbFix_flipStop]
@[simp] theorem State.ticks_book (s : State) (n : Nat) : (s.ticks n).book = s.book := by simp only [State.ticks, State.setTbFix_book]
@[simp] theorem State.ticks_events (s : State) (n : Nat) : (s.ticks n).events = s.events := by simp only [State.ticks, State.setTbFix_events]
@[simp] theorem State.ticks_reports (s : State) (n : Nat) : (s.ticks n).reports = s.reports := by simp only [State.ticks, State.setTbFix_reports]
@[simp] theorem State.ticks_mail (s : State) (n : Nat) : (s.ticks n).mail = s.mail := by simp only [State.ticks, State.setTbFix_mail]
@[simp] theorem State.ticks_pair (s : State) (n : Nat) : (s.ticks n).pair = s.pair := by simp only [State.ticks, State.setTbFix_pair]
@[simp] theorem State.ticks_stn (s : State) (n : Nat) : (s.ticks n).stn = s.stn := by simp only [State.ticks, State.setTbFix_stn]
@[simp] theorem State.ticks_acc (s : State) (n : Nat) : (s.ticks n).acc = s.acc := by simp only [State.ticks, State.setTbFix_acc]
@[simp] theorem State.ticks_time (s : State) (n : Nat) : (s.ticks n).time = s.time := by simp only [State.ticks, State.setTbFix_time]
@[simp] theorem State.ticks_log (s : State) (n : Nat) : (s.ticks n).log = s.log := by simp only [State.ticks, State.setTbFix_log]
@[simp] theorem State.ticks_fcol (s : State) (n : Nat) : (s.ticks n).fcol = s.fcol := by simp only [State.ticks, State.setTbFix_fcol]
@[simp] theorem State.ticks_field (s : State) (n : Nat) : (s.ticks n).field = s.field := by simp only [State.ticks, State.setTbFix_field]
@[simp] theorem State.ticks_can (s : State) (n : Nat) : (s.ticks n).can = s.can := by simp only [State.ticks, State.setTbFix_can]
@[simp] theorem State.ticks_fab (s : State) (n : Nat) : (s.ticks n).fab = s.fab := by simp only [State.ticks, State.setTbFix_fab]
@[simp] theorem State.ticks_bin (s : State) (n : Nat) : (s.ticks n).bin = s.bin := by simp only [State.ticks, State.setTbFix_bin]
@[simp] theorem State.ticks_rst (s : State) (n : Nat) : (s.ticks n).rst = s.rst := by simp only [State.ticks, State.setTbFix_rst]

/-! ### `State.to2` -/

@[simp] theorem State.to2_pending (s : State) (t : Nat) : (s.to2 t).pending = s.pending := State.ticks_pending _ _
@[simp] theorem State.to2_free (s : State) (t : Nat) : (s.to2 t).free = s.free := State.ticks_free _ _
@[simp] theorem State.to2_bus (s : State) (t : Nat) : (s.to2 t).bus = s.bus := State.ticks_bus _ _
@[simp] theorem State.to2_out (s : State) (t : Nat) : (s.to2 t).out = s.out := State.ticks_out _ _
@[simp] theorem State.to2_regs (s : State) (t : Nat) : (s.to2 t).regs = s.regs := State.ticks_regs _ _
@[simp] theorem State.to2_mem (s : State) (t : Nat) : (s.to2 t).mem = s.mem := State.ticks_mem _ _
@[simp] theorem State.to2_lanes (s : State) (t : Nat) : (s.to2 t).lanes = s.lanes := State.ticks_lanes _ _
@[simp] theorem State.to2_classes (s : State) (t : Nat) : (s.to2 t).classes = s.classes := State.ticks_classes _ _
@[simp] theorem State.to2_flipStop (s : State) (t : Nat) : (s.to2 t).flipStop = s.flipStop := State.ticks_flipStop _ _
@[simp] theorem State.to2_book (s : State) (t : Nat) : (s.to2 t).book = s.book := State.ticks_book _ _
@[simp] theorem State.to2_events (s : State) (t : Nat) : (s.to2 t).events = s.events := State.ticks_events _ _
@[simp] theorem State.to2_reports (s : State) (t : Nat) : (s.to2 t).reports = s.reports := State.ticks_reports _ _
@[simp] theorem State.to2_mail (s : State) (t : Nat) : (s.to2 t).mail = s.mail := State.ticks_mail _ _
@[simp] theorem State.to2_pair (s : State) (t : Nat) : (s.to2 t).pair = s.pair := State.ticks_pair _ _
@[simp] theorem State.to2_stn (s : State) (t : Nat) : (s.to2 t).stn = s.stn := State.ticks_stn _ _
@[simp] theorem State.to2_acc (s : State) (t : Nat) : (s.to2 t).acc = s.acc := State.ticks_acc _ _
@[simp] theorem State.to2_time (s : State) (t : Nat) : (s.to2 t).time = s.time := State.ticks_time _ _
@[simp] theorem State.to2_log (s : State) (t : Nat) : (s.to2 t).log = s.log := State.ticks_log _ _
@[simp] theorem State.to2_fcol (s : State) (t : Nat) : (s.to2 t).fcol = s.fcol := State.ticks_fcol _ _
@[simp] theorem State.to2_field (s : State) (t : Nat) : (s.to2 t).field = s.field := State.ticks_field _ _
@[simp] theorem State.to2_can (s : State) (t : Nat) : (s.to2 t).can = s.can := State.ticks_can _ _
@[simp] theorem State.to2_fab (s : State) (t : Nat) : (s.to2 t).fab = s.fab := State.ticks_fab _ _
@[simp] theorem State.to2_bin (s : State) (t : Nat) : (s.to2 t).bin = s.bin := State.ticks_bin _ _
@[simp] theorem State.to2_rst (s : State) (t : Nat) : (s.to2 t).rst = s.rst := State.ticks_rst _ _

/-! ### `State.to3` -/

@[simp] theorem State.to3_pending (s : State) (t : Nat) : (s.to3 t).pending = s.pending := State.ticks_pending _ _
@[simp] theorem State.to3_free (s : State) (t : Nat) : (s.to3 t).free = s.free := State.ticks_free _ _
@[simp] theorem State.to3_bus (s : State) (t : Nat) : (s.to3 t).bus = s.bus := State.ticks_bus _ _
@[simp] theorem State.to3_out (s : State) (t : Nat) : (s.to3 t).out = s.out := State.ticks_out _ _
@[simp] theorem State.to3_regs (s : State) (t : Nat) : (s.to3 t).regs = s.regs := State.ticks_regs _ _
@[simp] theorem State.to3_mem (s : State) (t : Nat) : (s.to3 t).mem = s.mem := State.ticks_mem _ _
@[simp] theorem State.to3_lanes (s : State) (t : Nat) : (s.to3 t).lanes = s.lanes := State.ticks_lanes _ _
@[simp] theorem State.to3_classes (s : State) (t : Nat) : (s.to3 t).classes = s.classes := State.ticks_classes _ _
@[simp] theorem State.to3_flipStop (s : State) (t : Nat) : (s.to3 t).flipStop = s.flipStop := State.ticks_flipStop _ _
@[simp] theorem State.to3_book (s : State) (t : Nat) : (s.to3 t).book = s.book := State.ticks_book _ _
@[simp] theorem State.to3_events (s : State) (t : Nat) : (s.to3 t).events = s.events := State.ticks_events _ _
@[simp] theorem State.to3_reports (s : State) (t : Nat) : (s.to3 t).reports = s.reports := State.ticks_reports _ _
@[simp] theorem State.to3_mail (s : State) (t : Nat) : (s.to3 t).mail = s.mail := State.ticks_mail _ _
@[simp] theorem State.to3_pair (s : State) (t : Nat) : (s.to3 t).pair = s.pair := State.ticks_pair _ _
@[simp] theorem State.to3_stn (s : State) (t : Nat) : (s.to3 t).stn = s.stn := State.ticks_stn _ _
@[simp] theorem State.to3_acc (s : State) (t : Nat) : (s.to3 t).acc = s.acc := State.ticks_acc _ _
@[simp] theorem State.to3_time (s : State) (t : Nat) : (s.to3 t).time = s.time := State.ticks_time _ _
@[simp] theorem State.to3_log (s : State) (t : Nat) : (s.to3 t).log = s.log := State.ticks_log _ _
@[simp] theorem State.to3_fcol (s : State) (t : Nat) : (s.to3 t).fcol = s.fcol := State.ticks_fcol _ _
@[simp] theorem State.to3_field (s : State) (t : Nat) : (s.to3 t).field = s.field := State.ticks_field _ _
@[simp] theorem State.to3_can (s : State) (t : Nat) : (s.to3 t).can = s.can := State.ticks_can _ _
@[simp] theorem State.to3_fab (s : State) (t : Nat) : (s.to3 t).fab = s.fab := State.ticks_fab _ _
@[simp] theorem State.to3_bin (s : State) (t : Nat) : (s.to3 t).bin = s.bin := State.ticks_bin _ _
@[simp] theorem State.to3_rst (s : State) (t : Nat) : (s.to3 t).rst = s.rst := State.ticks_rst _ _

/-! ### `State.emit` -/

@[simp] theorem State.emit_pending (s : State) (o : Output) : (s.emit o).pending = s.pending := rfl
@[simp] theorem State.emit_free (s : State) (o : Output) : (s.emit o).free = s.free := rfl
@[simp] theorem State.emit_bus (s : State) (o : Output) : (s.emit o).bus = s.bus := rfl
@[simp] theorem State.emit_regs (s : State) (o : Output) : (s.emit o).regs = s.regs := rfl
@[simp] theorem State.emit_mem (s : State) (o : Output) : (s.emit o).mem = s.mem := rfl
@[simp] theorem State.emit_tbs (s : State) (o : Output) : (s.emit o).tbs = s.tbs := rfl
@[simp] theorem State.emit_lanes (s : State) (o : Output) : (s.emit o).lanes = s.lanes := rfl
@[simp] theorem State.emit_classes (s : State) (o : Output) : (s.emit o).classes = s.classes := rfl
@[simp] theorem State.emit_flipStop (s : State) (o : Output) : (s.emit o).flipStop = s.flipStop := rfl
@[simp] theorem State.emit_book (s : State) (o : Output) : (s.emit o).book = s.book := rfl
@[simp] theorem State.emit_events (s : State) (o : Output) : (s.emit o).events = s.events := rfl
@[simp] theorem State.emit_reports (s : State) (o : Output) : (s.emit o).reports = s.reports := rfl
@[simp] theorem State.emit_mail (s : State) (o : Output) : (s.emit o).mail = s.mail := rfl
@[simp] theorem State.emit_pair (s : State) (o : Output) : (s.emit o).pair = s.pair := rfl
@[simp] theorem State.emit_stn (s : State) (o : Output) : (s.emit o).stn = s.stn := rfl
@[simp] theorem State.emit_acc (s : State) (o : Output) : (s.emit o).acc = s.acc := rfl
@[simp] theorem State.emit_time (s : State) (o : Output) : (s.emit o).time = s.time := rfl
@[simp] theorem State.emit_log (s : State) (o : Output) : (s.emit o).log = s.log := rfl
@[simp] theorem State.emit_fcol (s : State) (o : Output) : (s.emit o).fcol = s.fcol := rfl
@[simp] theorem State.emit_field (s : State) (o : Output) : (s.emit o).field = s.field := rfl
@[simp] theorem State.emit_can (s : State) (o : Output) : (s.emit o).can = s.can := rfl
@[simp] theorem State.emit_fab (s : State) (o : Output) : (s.emit o).fab = s.fab := rfl
@[simp] theorem State.emit_bin (s : State) (o : Output) : (s.emit o).bin = s.bin := rfl
@[simp] theorem State.emit_rst (s : State) (o : Output) : (s.emit o).rst = s.rst := rfl

/-! ### `State.emits` -/

@[simp] theorem State.emits_pending (s : State) (os : List Output) : (s.emits os).pending = s.pending := rfl
@[simp] theorem State.emits_free (s : State) (os : List Output) : (s.emits os).free = s.free := rfl
@[simp] theorem State.emits_bus (s : State) (os : List Output) : (s.emits os).bus = s.bus := rfl
@[simp] theorem State.emits_regs (s : State) (os : List Output) : (s.emits os).regs = s.regs := rfl
@[simp] theorem State.emits_mem (s : State) (os : List Output) : (s.emits os).mem = s.mem := rfl
@[simp] theorem State.emits_tbs (s : State) (os : List Output) : (s.emits os).tbs = s.tbs := rfl
@[simp] theorem State.emits_lanes (s : State) (os : List Output) : (s.emits os).lanes = s.lanes := rfl
@[simp] theorem State.emits_classes (s : State) (os : List Output) : (s.emits os).classes = s.classes := rfl
@[simp] theorem State.emits_flipStop (s : State) (os : List Output) : (s.emits os).flipStop = s.flipStop := rfl
@[simp] theorem State.emits_book (s : State) (os : List Output) : (s.emits os).book = s.book := rfl
@[simp] theorem State.emits_events (s : State) (os : List Output) : (s.emits os).events = s.events := rfl
@[simp] theorem State.emits_reports (s : State) (os : List Output) : (s.emits os).reports = s.reports := rfl
@[simp] theorem State.emits_mail (s : State) (os : List Output) : (s.emits os).mail = s.mail := rfl
@[simp] theorem State.emits_pair (s : State) (os : List Output) : (s.emits os).pair = s.pair := rfl
@[simp] theorem State.emits_stn (s : State) (os : List Output) : (s.emits os).stn = s.stn := rfl
@[simp] theorem State.emits_acc (s : State) (os : List Output) : (s.emits os).acc = s.acc := rfl
@[simp] theorem State.emits_time (s : State) (os : List Output) : (s.emits os).time = s.time := rfl
@[simp] theorem State.emits_log (s : State) (os : List Output) : (s.emits os).log = s.log := rfl
@[simp] theorem State.emits_fcol (s : State) (os : List Output) : (s.emits os).fcol = s.fcol := rfl
@[simp] theorem State.emits_field (s : State) (os : List Output) : (s.emits os).field = s.field := rfl
@[simp] theorem State.emits_can (s : State) (os : List Output) : (s.emits os).can = s.can := rfl
@[simp] theorem State.emits_fab (s : State) (os : List Output) : (s.emits os).fab = s.fab := rfl
@[simp] theorem State.emits_bin (s : State) (os : List Output) : (s.emits os).bin = s.bin := rfl
@[simp] theorem State.emits_rst (s : State) (os : List Output) : (s.emits os).rst = s.rst := rfl

/-! ### `State.setPend` -/

@[simp] theorem State.setPend_pending (s : State) (v : Nat) (b : Bool) : (s.setPend v b).pending = s.pending := rfl
@[simp] theorem State.setPend_free (s : State) (v : Nat) (b : Bool) : (s.setPend v b).free = s.free := rfl
@[simp] theorem State.setPend_bus (s : State) (v : Nat) (b : Bool) : (s.setPend v b).bus = s.bus := rfl
@[simp] theorem State.setPend_out (s : State) (v : Nat) (b : Bool) : (s.setPend v b).out = s.out := rfl
@[simp] theorem State.setPend_regs (s : State) (v : Nat) (b : Bool) : (s.setPend v b).regs = s.regs := rfl
@[simp] theorem State.setPend_mem (s : State) (v : Nat) (b : Bool) : (s.setPend v b).mem = s.mem := rfl
@[simp] theorem State.setPend_tbs (s : State) (v : Nat) (b : Bool) : (s.setPend v b).tbs = s.tbs := rfl
@[simp] theorem State.setPend_lanes (s : State) (v : Nat) (b : Bool) : (s.setPend v b).lanes = s.lanes := rfl
@[simp] theorem State.setPend_classes (s : State) (v : Nat) (b : Bool) : (s.setPend v b).classes = s.classes := rfl
@[simp] theorem State.setPend_flipStop (s : State) (v : Nat) (b : Bool) : (s.setPend v b).flipStop = s.flipStop := rfl
@[simp] theorem State.setPend_book (s : State) (v : Nat) (b : Bool) : (s.setPend v b).book = s.book := rfl
@[simp] theorem State.setPend_events (s : State) (v : Nat) (b : Bool) : (s.setPend v b).events = s.events := rfl
@[simp] theorem State.setPend_reports (s : State) (v : Nat) (b : Bool) : (s.setPend v b).reports = s.reports := rfl
@[simp] theorem State.setPend_pair (s : State) (v : Nat) (b : Bool) : (s.setPend v b).pair = s.pair := rfl
@[simp] theorem State.setPend_stn (s : State) (v : Nat) (b : Bool) : (s.setPend v b).stn = s.stn := rfl
@[simp] theorem State.setPend_acc (s : State) (v : Nat) (b : Bool) : (s.setPend v b).acc = s.acc := rfl
@[simp] theorem State.setPend_time (s : State) (v : Nat) (b : Bool) : (s.setPend v b).time = s.time := rfl
@[simp] theorem State.setPend_log (s : State) (v : Nat) (b : Bool) : (s.setPend v b).log = s.log := rfl
@[simp] theorem State.setPend_fcol (s : State) (v : Nat) (b : Bool) : (s.setPend v b).fcol = s.fcol := rfl
@[simp] theorem State.setPend_field (s : State) (v : Nat) (b : Bool) : (s.setPend v b).field = s.field := rfl
@[simp] theorem State.setPend_can (s : State) (v : Nat) (b : Bool) : (s.setPend v b).can = s.can := rfl
@[simp] theorem State.setPend_fab (s : State) (v : Nat) (b : Bool) : (s.setPend v b).fab = s.fab := rfl
@[simp] theorem State.setPend_bin (s : State) (v : Nat) (b : Bool) : (s.setPend v b).bin = s.bin := rfl
@[simp] theorem State.setPend_rst (s : State) (v : Nat) (b : Bool) : (s.setPend v b).rst = s.rst := rfl

/-! ### `State.report` -/

@[simp] theorem State.report_pending (s : State) (src detail : Nat) : (s.report src detail).pending = s.pending := rfl
@[simp] theorem State.report_free (s : State) (src detail : Nat) : (s.report src detail).free = s.free := rfl
@[simp] theorem State.report_bus (s : State) (src detail : Nat) : (s.report src detail).bus = s.bus := rfl
@[simp] theorem State.report_out (s : State) (src detail : Nat) : (s.report src detail).out = s.out := rfl
@[simp] theorem State.report_regs (s : State) (src detail : Nat) : (s.report src detail).regs = s.regs := rfl
@[simp] theorem State.report_mem (s : State) (src detail : Nat) : (s.report src detail).mem = s.mem := rfl
@[simp] theorem State.report_tbs (s : State) (src detail : Nat) : (s.report src detail).tbs = s.tbs := rfl
@[simp] theorem State.report_lanes (s : State) (src detail : Nat) : (s.report src detail).lanes = s.lanes := rfl
@[simp] theorem State.report_classes (s : State) (src detail : Nat) : (s.report src detail).classes = s.classes := rfl
@[simp] theorem State.report_flipStop (s : State) (src detail : Nat) : (s.report src detail).flipStop = s.flipStop := rfl
@[simp] theorem State.report_book (s : State) (src detail : Nat) : (s.report src detail).book = s.book := rfl
@[simp] theorem State.report_events (s : State) (src detail : Nat) : (s.report src detail).events = s.events := rfl
@[simp] theorem State.report_mail (s : State) (src detail : Nat) : (s.report src detail).mail = s.mail := rfl
@[simp] theorem State.report_pair (s : State) (src detail : Nat) : (s.report src detail).pair = s.pair := rfl
@[simp] theorem State.report_stn (s : State) (src detail : Nat) : (s.report src detail).stn = s.stn := rfl
@[simp] theorem State.report_acc (s : State) (src detail : Nat) : (s.report src detail).acc = s.acc := rfl
@[simp] theorem State.report_time (s : State) (src detail : Nat) : (s.report src detail).time = s.time := rfl
@[simp] theorem State.report_log (s : State) (src detail : Nat) : (s.report src detail).log = s.log := rfl
@[simp] theorem State.report_fcol (s : State) (src detail : Nat) : (s.report src detail).fcol = s.fcol := rfl
@[simp] theorem State.report_field (s : State) (src detail : Nat) : (s.report src detail).field = s.field := rfl
@[simp] theorem State.report_can (s : State) (src detail : Nat) : (s.report src detail).can = s.can := rfl
@[simp] theorem State.report_fab (s : State) (src detail : Nat) : (s.report src detail).fab = s.fab := rfl
@[simp] theorem State.report_bin (s : State) (src detail : Nat) : (s.report src detail).bin = s.bin := rfl
@[simp] theorem State.report_rst (s : State) (src detail : Nat) : (s.report src detail).rst = s.rst := rfl

/-! ### `State.reply` -/

@[simp] theorem State.reply_pending (s : State) (err : Bool) (data : W64) : (s.reply err data).pending = s.pending := rfl
@[simp] theorem State.reply_free (s : State) (err : Bool) (data : W64) : (s.reply err data).free = s.free := rfl
@[simp] theorem State.reply_out (s : State) (err : Bool) (data : W64) : (s.reply err data).out = s.out := rfl
@[simp] theorem State.reply_regs (s : State) (err : Bool) (data : W64) : (s.reply err data).regs = s.regs := rfl
@[simp] theorem State.reply_mem (s : State) (err : Bool) (data : W64) : (s.reply err data).mem = s.mem := rfl
@[simp] theorem State.reply_tbs (s : State) (err : Bool) (data : W64) : (s.reply err data).tbs = s.tbs := rfl
@[simp] theorem State.reply_lanes (s : State) (err : Bool) (data : W64) : (s.reply err data).lanes = s.lanes := rfl
@[simp] theorem State.reply_classes (s : State) (err : Bool) (data : W64) : (s.reply err data).classes = s.classes := rfl
@[simp] theorem State.reply_flipStop (s : State) (err : Bool) (data : W64) : (s.reply err data).flipStop = s.flipStop := rfl
@[simp] theorem State.reply_book (s : State) (err : Bool) (data : W64) : (s.reply err data).book = s.book := rfl
@[simp] theorem State.reply_events (s : State) (err : Bool) (data : W64) : (s.reply err data).events = s.events := rfl
@[simp] theorem State.reply_reports (s : State) (err : Bool) (data : W64) : (s.reply err data).reports = s.reports := rfl
@[simp] theorem State.reply_mail (s : State) (err : Bool) (data : W64) : (s.reply err data).mail = s.mail := rfl
@[simp] theorem State.reply_pair (s : State) (err : Bool) (data : W64) : (s.reply err data).pair = s.pair := rfl
@[simp] theorem State.reply_stn (s : State) (err : Bool) (data : W64) : (s.reply err data).stn = s.stn := rfl
@[simp] theorem State.reply_acc (s : State) (err : Bool) (data : W64) : (s.reply err data).acc = s.acc := rfl
@[simp] theorem State.reply_time (s : State) (err : Bool) (data : W64) : (s.reply err data).time = s.time := rfl
@[simp] theorem State.reply_log (s : State) (err : Bool) (data : W64) : (s.reply err data).log = s.log := rfl
@[simp] theorem State.reply_fcol (s : State) (err : Bool) (data : W64) : (s.reply err data).fcol = s.fcol := rfl
@[simp] theorem State.reply_field (s : State) (err : Bool) (data : W64) : (s.reply err data).field = s.field := rfl
@[simp] theorem State.reply_can (s : State) (err : Bool) (data : W64) : (s.reply err data).can = s.can := rfl
@[simp] theorem State.reply_fab (s : State) (err : Bool) (data : W64) : (s.reply err data).fab = s.fab := rfl
@[simp] theorem State.reply_bin (s : State) (err : Bool) (data : W64) : (s.reply err data).bin = s.bin := rfl
@[simp] theorem State.reply_rst (s : State) (err : Bool) (data : W64) : (s.reply err data).rst = s.rst := rfl

/-! ### `State.nextFree` -/

@[simp] theorem State.nextFree_pending (s : State) : (s.nextFree).pending = s.pending := rfl
@[simp] theorem State.nextFree_bus (s : State) : (s.nextFree).bus = s.bus := rfl
@[simp] theorem State.nextFree_out (s : State) : (s.nextFree).out = s.out := rfl
@[simp] theorem State.nextFree_regs (s : State) : (s.nextFree).regs = s.regs := rfl
@[simp] theorem State.nextFree_mem (s : State) : (s.nextFree).mem = s.mem := rfl
@[simp] theorem State.nextFree_tbs (s : State) : (s.nextFree).tbs = s.tbs := rfl
@[simp] theorem State.nextFree_lanes (s : State) : (s.nextFree).lanes = s.lanes := rfl
@[simp] theorem State.nextFree_classes (s : State) : (s.nextFree).classes = s.classes := rfl
@[simp] theorem State.nextFree_flipStop (s : State) : (s.nextFree).flipStop = s.flipStop := rfl
@[simp] theorem State.nextFree_book (s : State) : (s.nextFree).book = s.book := rfl
@[simp] theorem State.nextFree_events (s : State) : (s.nextFree).events = s.events := rfl
@[simp] theorem State.nextFree_reports (s : State) : (s.nextFree).reports = s.reports := rfl
@[simp] theorem State.nextFree_mail (s : State) : (s.nextFree).mail = s.mail := rfl
@[simp] theorem State.nextFree_pair (s : State) : (s.nextFree).pair = s.pair := rfl
@[simp] theorem State.nextFree_stn (s : State) : (s.nextFree).stn = s.stn := rfl
@[simp] theorem State.nextFree_acc (s : State) : (s.nextFree).acc = s.acc := rfl
@[simp] theorem State.nextFree_time (s : State) : (s.nextFree).time = s.time := rfl
@[simp] theorem State.nextFree_log (s : State) : (s.nextFree).log = s.log := rfl
@[simp] theorem State.nextFree_fcol (s : State) : (s.nextFree).fcol = s.fcol := rfl
@[simp] theorem State.nextFree_field (s : State) : (s.nextFree).field = s.field := rfl
@[simp] theorem State.nextFree_can (s : State) : (s.nextFree).can = s.can := rfl
@[simp] theorem State.nextFree_fab (s : State) : (s.nextFree).fab = s.fab := rfl
@[simp] theorem State.nextFree_bin (s : State) : (s.nextFree).bin = s.bin := rfl
@[simp] theorem State.nextFree_rst (s : State) : (s.nextFree).rst = s.rst := rfl

/-! ### `State.modLane` -/

@[simp] theorem State.modLane_pending (s : State) (l : Nat) (f : LaneSt → LaneSt) : (s.modLane l f).pending = s.pending := rfl
@[simp] theorem State.modLane_free (s : State) (l : Nat) (f : LaneSt → LaneSt) : (s.modLane l f).free = s.free := rfl
@[simp] theorem State.modLane_bus (s : State) (l : Nat) (f : LaneSt → LaneSt) : (s.modLane l f).bus = s.bus := rfl
@[simp] theorem State.modLane_out (s : State) (l : Nat) (f : LaneSt → LaneSt) : (s.modLane l f).out = s.out := rfl
@[simp] theorem State.modLane_regs (s : State) (l : Nat) (f : LaneSt → LaneSt) : (s.modLane l f).regs = s.regs := rfl
@[simp] theorem State.modLane_mem (s : State) (l : Nat) (f : LaneSt → LaneSt) : (s.modLane l f).mem = s.mem := rfl
@[simp] theorem State.modLane_tbs (s : State) (l : Nat) (f : LaneSt → LaneSt) : (s.modLane l f).tbs = s.tbs := rfl
@[simp] theorem State.modLane_classes (s : State) (l : Nat) (f : LaneSt → LaneSt) : (s.modLane l f).classes = s.classes := rfl
@[simp] theorem State.modLane_flipStop (s : State) (l : Nat) (f : LaneSt → LaneSt) : (s.modLane l f).flipStop = s.flipStop := rfl
@[simp] theorem State.modLane_book (s : State) (l : Nat) (f : LaneSt → LaneSt) : (s.modLane l f).book = s.book := rfl
@[simp] theorem State.modLane_events (s : State) (l : Nat) (f : LaneSt → LaneSt) : (s.modLane l f).events = s.events := rfl
@[simp] theorem State.modLane_reports (s : State) (l : Nat) (f : LaneSt → LaneSt) : (s.modLane l f).reports = s.reports := rfl
@[simp] theorem State.modLane_mail (s : State) (l : Nat) (f : LaneSt → LaneSt) : (s.modLane l f).mail = s.mail := rfl
@[simp] theorem State.modLane_pair (s : State) (l : Nat) (f : LaneSt → LaneSt) : (s.modLane l f).pair = s.pair := rfl
@[simp] theorem State.modLane_stn (s : State) (l : Nat) (f : LaneSt → LaneSt) : (s.modLane l f).stn = s.stn := rfl
@[simp] theorem State.modLane_acc (s : State) (l : Nat) (f : LaneSt → LaneSt) : (s.modLane l f).acc = s.acc := rfl
@[simp] theorem State.modLane_time (s : State) (l : Nat) (f : LaneSt → LaneSt) : (s.modLane l f).time = s.time := rfl
@[simp] theorem State.modLane_log (s : State) (l : Nat) (f : LaneSt → LaneSt) : (s.modLane l f).log = s.log := rfl
@[simp] theorem State.modLane_fcol (s : State) (l : Nat) (f : LaneSt → LaneSt) : (s.modLane l f).fcol = s.fcol := rfl
@[simp] theorem State.modLane_field (s : State) (l : Nat) (f : LaneSt → LaneSt) : (s.modLane l f).field = s.field := rfl
@[simp] theorem State.modLane_can (s : State) (l : Nat) (f : LaneSt → LaneSt) : (s.modLane l f).can = s.can := rfl
@[simp] theorem State.modLane_fab (s : State) (l : Nat) (f : LaneSt → LaneSt) : (s.modLane l f).fab = s.fab := rfl
@[simp] theorem State.modLane_bin (s : State) (l : Nat) (f : LaneSt → LaneSt) : (s.modLane l f).bin = s.bin := rfl
@[simp] theorem State.modLane_rst (s : State) (l : Nat) (f : LaneSt → LaneSt) : (s.modLane l f).rst = s.rst := rfl

/-! ### `State.modCls` -/

@[simp] theorem State.modCls_pending (s : State) (c : Nat) (f : ClassSt → ClassSt) : (s.modCls c f).pending = s.pending := rfl
@[simp] theorem State.modCls_free (s : State) (c : Nat) (f : ClassSt → ClassSt) : (s.modCls c f).free = s.free := rfl
@[simp] theorem State.modCls_bus (s : State) (c : Nat) (f : ClassSt → ClassSt) : (s.modCls c f).bus = s.bus := rfl
@[simp] theorem State.modCls_out (s : State) (c : Nat) (f : ClassSt → ClassSt) : (s.modCls c f).out = s.out := rfl
@[simp] theorem State.modCls_regs (s : State) (c : Nat) (f : ClassSt → ClassSt) : (s.modCls c f).regs = s.regs := rfl
@[simp] theorem State.modCls_mem (s : State) (c : Nat) (f : ClassSt → ClassSt) : (s.modCls c f).mem = s.mem := rfl
@[simp] theorem State.modCls_tbs (s : State) (c : Nat) (f : ClassSt → ClassSt) : (s.modCls c f).tbs = s.tbs := rfl
@[simp] theorem State.modCls_lanes (s : State) (c : Nat) (f : ClassSt → ClassSt) : (s.modCls c f).lanes = s.lanes := rfl
@[simp] theorem State.modCls_flipStop (s : State) (c : Nat) (f : ClassSt → ClassSt) : (s.modCls c f).flipStop = s.flipStop := rfl
@[simp] theorem State.modCls_book (s : State) (c : Nat) (f : ClassSt → ClassSt) : (s.modCls c f).book = s.book := rfl
@[simp] theorem State.modCls_events (s : State) (c : Nat) (f : ClassSt → ClassSt) : (s.modCls c f).events = s.events := rfl
@[simp] theorem State.modCls_reports (s : State) (c : Nat) (f : ClassSt → ClassSt) : (s.modCls c f).reports = s.reports := rfl
@[simp] theorem State.modCls_mail (s : State) (c : Nat) (f : ClassSt → ClassSt) : (s.modCls c f).mail = s.mail := rfl
@[simp] theorem State.modCls_pair (s : State) (c : Nat) (f : ClassSt → ClassSt) : (s.modCls c f).pair = s.pair := rfl
@[simp] theorem State.modCls_stn (s : State) (c : Nat) (f : ClassSt → ClassSt) : (s.modCls c f).stn = s.stn := rfl
@[simp] theorem State.modCls_acc (s : State) (c : Nat) (f : ClassSt → ClassSt) : (s.modCls c f).acc = s.acc := rfl
@[simp] theorem State.modCls_time (s : State) (c : Nat) (f : ClassSt → ClassSt) : (s.modCls c f).time = s.time := rfl
@[simp] theorem State.modCls_log (s : State) (c : Nat) (f : ClassSt → ClassSt) : (s.modCls c f).log = s.log := rfl
@[simp] theorem State.modCls_fcol (s : State) (c : Nat) (f : ClassSt → ClassSt) : (s.modCls c f).fcol = s.fcol := rfl
@[simp] theorem State.modCls_field (s : State) (c : Nat) (f : ClassSt → ClassSt) : (s.modCls c f).field = s.field := rfl
@[simp] theorem State.modCls_can (s : State) (c : Nat) (f : ClassSt → ClassSt) : (s.modCls c f).can = s.can := rfl
@[simp] theorem State.modCls_fab (s : State) (c : Nat) (f : ClassSt → ClassSt) : (s.modCls c f).fab = s.fab := rfl
@[simp] theorem State.modCls_bin (s : State) (c : Nat) (f : ClassSt → ClassSt) : (s.modCls c f).bin = s.bin := rfl
@[simp] theorem State.modCls_rst (s : State) (c : Nat) (f : ClassSt → ClassSt) : (s.modCls c f).rst = s.rst := rfl

/-! ### What the operations set -/

@[simp] theorem State.emit_out (s : State) (o : Output) : (s.emit o).out = s.out ++ [o] := rfl

@[simp] theorem State.emits_out (s : State) (os : List Output) : (s.emits os).out = s.out ++ os := rfl

@[simp] theorem State.report_reports (s : State) (src detail : Nat) :
    (s.report src detail).reports = s.reports ++ [⟨src, detail, false⟩] := rfl

@[simp] theorem State.reply_bus (s : State) (err : Bool) (data : W64) : (s.reply err data).bus = ⟨err, data⟩ := rfl

@[simp] theorem State.nextFree_free (s : State) : s.nextFree.free = s.free + 1 := rfl

@[simp] theorem State.lane_modLane_same (s : State) (l : Nat) (f : LaneSt → LaneSt) : (s.modLane l f).lane l = f (s.lane l) :=
  mget_mmod_same _ _ _ _

theorem State.lane_modLane_ne (s : State) {l k : Nat} (f : LaneSt → LaneSt) (h : k ≠ l) : (s.modLane l f).lane k = s.lane k :=
  mget_mmod_ne _ _ _ h

@[simp] theorem State.cls_modCls_same (s : State) (c : Nat) (f : ClassSt → ClassSt) : (s.modCls c f).cls c = f (s.cls c) :=
  mget_mmod_same _ _ _ _

theorem State.cls_modCls_ne (s : State) {c k : Nat} (f : ClassSt → ClassSt) (h : k ≠ c) : (s.modCls c f).cls k = s.cls k :=
  mget_mmod_ne _ _ _ h

end Sys2Proof.Machine
end

