-- ==== Sys2Proof/Laws/Mbox.lean ====
section
/-! SUPPORT. What the taking of a mailbox command changes, and that a command whose turn has come is executed and answered. -/

namespace Sys2Proof.Machine

/-- Two states that differ in nothing but the queue memory and its indices, MSI-X messages, and what is sent. -/
structure QueueOnly (s t : State) : Prop where
  pending : t.pending = s.pending
  free : t.free = s.free
  bus : t.bus = s.bus
  mem : t.mem = s.mem
  tbs : t.tbs = s.tbs
  lanes : t.lanes = s.lanes
  classes : t.classes = s.classes
  flipStop : t.flipStop = s.flipStop
  book : t.book = s.book
  events : t.events = s.events
  reports : t.reports = s.reports
  pair : t.pair = s.pair
  stn : t.stn = s.stn
  acc : t.acc = s.acc
  time : t.time = s.time
  log : t.log = s.log
  fcol : t.fcol = s.fcol
  field : t.field = s.field
  can : t.can = s.can
  fab : t.fab = s.fab
  bin : t.bin = s.bin
  rst : t.rst = s.rst
  binds : t.mail.binds = s.mail.binds
  bulk : t.mail.bulk = s.mail.bulk
  reg : ∀ a, a < 0xb1000 ∨ 0xb2000 ≤ a → t.reg a = s.reg a

theorem QueueOnly.refl (s : State) : QueueOnly s s := by
  constructor <;> first | rfl | (intros; rfl)

theorem QueueOnly.trans {s t u : State} (h : QueueOnly s t) (k : QueueOnly t u) : QueueOnly s u := by
  constructor
  case reg => intro a ha; rw [k.reg a ha, h.reg a ha]
  all_goals first
    | exact k.pending.trans h.pending | exact k.free.trans h.free | exact k.bus.trans h.bus | exact k.mem.trans h.mem
    | exact k.tbs.trans h.tbs | exact k.lanes.trans h.lanes | exact k.classes.trans h.classes | exact k.flipStop.trans h.flipStop
    | exact k.book.trans h.book | exact k.events.trans h.events | exact k.reports.trans h.reports | exact k.pair.trans h.pair
    | exact k.stn.trans h.stn | exact k.acc.trans h.acc | exact k.time.trans h.time | exact k.log.trans h.log
    | exact k.fcol.trans h.fcol | exact k.field.trans h.field | exact k.can.trans h.can | exact k.fab.trans h.fab
    | exact k.bin.trans h.bin | exact k.rst.trans h.rst | exact k.binds.trans h.binds | exact k.bulk.trans h.bulk

theorem QueueOnly.setFld (s : State) {f : Fld} (v : Nat) (h : 0xb1000 ≤ f.addr ∧ f.addr < 0xb2000) : QueueOnly s (s.setFld f v) := by
  constructor
  case reg => intro a ha; exact State.reg_setFld_ne _ _ (by omega)
  all_goals rfl

theorem QueueOnly.mail (s : State) (m : MailSt) (hb : m.binds = s.mail.binds) (hk : m.bulk = s.mail.bulk) :
    QueueOnly s { s with mail := m } := by
  constructor
  case binds => exact hb
  case bulk => exact hk
  case reg => intros; rfl
  all_goals rfl

theorem QueueOnly.emit (s : State) (o : Output) : QueueOnly s (s.emit o) := by
  constructor
  case reg => intros; rfl
  all_goals rfl

theorem QueueOnly.emits (s : State) (os : List Output) : QueueOnly s (s.emits os) := by
  constructor
  case reg => intros; rfl
  all_goals rfl

theorem idxCi_range {q : Nat} (hq : q < 256) : 0xb1000 ≤ (R.qmgrQIdxCi q).addr ∧ (R.qmgrQIdxCi q).addr < 0xb2000 := by
  simp only [R.qmgrQIdxCi]; omega

theorem idxPi_range {q : Nat} (hq : q < 256) : 0xb1000 ≤ (R.qmgrQIdxPi q).addr ∧ (R.qmgrQIdxPi q).addr < 0xb2000 := by
  simp only [R.qmgrQIdxPi]; omega

theorem QueueOnly.setCi (s : State) {q : Nat} (v : Nat) (hq : q < 256) : QueueOnly s (s.setFld (R.qmgrQIdxCi q) v) :=
  QueueOnly.setFld s v (idxCi_range hq)

theorem QueueOnly.setPi (s : State) {q : Nat} (v : Nat) (hq : q < 256) : QueueOnly s (s.setFld (R.qmgrQIdxPi q) v) :=
  QueueOnly.setFld s v (idxPi_range hq)

theorem QueueOnly.fullFlag (s : State) {q : Nat} (hq : q < 256) : QueueOnly s (s.qFullFlag q) :=
  QueueOnly.setFld _ _ (by simp only [R.qmgrQCfgFull]; omega)

theorem QueueOnly.setPend (s : State) (v : Nat) (b : Bool) : QueueOnly s (s.setPend v b) := QueueOnly.mail _ _ rfl rfl

theorem QueueOnly.vecPost (s : State) (v : Nat) : QueueOnly s (s.vecPost v) := by
  unfold State.vecPost
  split
  · exact ((QueueOnly.mail s { s.mail with vecLast := mput none s.mail.vecLast v (some (s.tb 3)) } rfl rfl).trans
      (QueueOnly.setPend _ v false)).trans (QueueOnly.emit _ (.msix v))
  · exact QueueOnly.setPend _ _ _

/-- The sessions are not touched. -/
def SameSess (s t : State) : Prop := t.mail.sess = s.mail.sess

theorem State.qNotify_queueOnly (s : State) (q : Nat) : QueueOnly s (s.qNotify q) := by
  unfold State.qNotify
  split
  · exact QueueOnly.refl _
  · exact QueueOnly.vecPost _ _
  · split
    · exact QueueOnly.refl _
    · split
      · exact ((QueueOnly.mail s { s.mail with vecLast := mput none s.mail.vecLast q (some (s.tb 3)) } rfl rfl).trans
          (QueueOnly.setPend _ q false)).trans (QueueOnly.emits _ _)
      · exact QueueOnly.setPend _ _ _

theorem State.vecPost_sess (s : State) (v : Nat) : (s.vecPost v).mail.sess = s.mail.sess := by
  unfold State.vecPost State.setPend State.emit; split <;> rfl

theorem State.qNotify_sess (s : State) (q : Nat) : (s.qNotify q).mail.sess = s.mail.sess := by
  unfold State.qNotify
  split
  · rfl
  · exact State.vecPost_sess _ _
  · split
    · rfl
    · split <;> rfl

theorem State.takeEntries_queueOnly (s : State) {q : Nat} (n : Nat) (hq : q < 256) : QueueOnly s (s.takeEntries q n) := by
  unfold State.takeEntries
  split
  · exact QueueOnly.refl _
  · have h1 := QueueOnly.setCi s (s.fld (R.qmgrQIdxCi q) + n) hq
    have h2 := QueueOnly.fullFlag (s.setFld (R.qmgrQIdxCi q) (s.fld (R.qmgrQIdxCi q) + n)) hq
    exact (h1.trans h2).trans (State.qNotify_queueOnly _ q)

theorem State.takeEntries_sess (s : State) (q n : Nat) : (s.takeEntries q n).mail.sess = s.mail.sess := by
  unfold State.takeEntries
  split
  · rfl
  · rw [State.qNotify_sess, State.qFullFlag, State.setFlag_mail, State.setFld_mail]

theorem State.ownSlots_queueOnly (s : State) (q i n : Nat) : QueueOnly s (s.ownSlots q i n) := by
  induction n generalizing s i with
  | zero => exact QueueOnly.refl _
  | succ n ih =>
    exact QueueOnly.trans (QueueOnly.mail s { s.mail with qmem := mput 0 s.mail.qmem (s.qKey q i 1) (putBits (mget 0 s.mail.qmem (s.qKey q i 1)) 0 1 1) }
      rfl rfl) (ih _ _)

theorem State.ownSlots_sess (s : State) (q i n : Nat) : (s.ownSlots q i n).mail.sess = s.mail.sess := by
  induction n generalizing s i with
  | zero => rfl
  | succ n ih => exact ih _ _

theorem State.consume_queueOnly (s : State) {q : Nat} (v : Nat) (hq : q < 64) : QueueOnly s (s.consume q v) := by
  unfold State.consume
  simp only [hq, if_true, show q ≠ 246 by omega, if_false]
  have hq2 : q < 256 := by omega
  have h1 := State.ownSlots_queueOnly s q (s.fld (R.qmgrQIdxCi q)) (min (sub32 v (s.fld (R.qmgrQIdxCi q))) 64)
  generalize s.ownSlots q (s.fld (R.qmgrQIdxCi q)) (min (sub32 v (s.fld (R.qmgrQIdxCi q))) 64) = u at h1
  exact (h1.trans (QueueOnly.setCi u v hq2)).trans (QueueOnly.fullFlag (u.setFld (R.qmgrQIdxCi q) v) hq2)

theorem State.consume_sess (s : State) {q : Nat} (v : Nat) (hq : q < 64) : (s.consume q v).mail.sess = s.mail.sess := by
  unfold State.consume
  simp only [hq, if_true, show q ≠ 246 by omega, if_false]
  rw [State.qFullFlag, State.setFlag_mail, State.setFld_mail, State.ownSlots_sess]

theorem State.mboxAck_queueOnly (s : State) {h : Hdr} (hp : h.pair < 32) : QueueOnly s (s.mboxAck h) := by
  unfold State.mboxAck
  dsimp only
  split
  · exact State.consume_queueOnly _ _ (by omega)
  · exact QueueOnly.refl _

theorem State.mboxAck_sess (s : State) {h : Hdr} (hp : h.pair < 32) : (s.mboxAck h).mail.sess = s.mail.sess := by
  unfold State.mboxAck
  dsimp only
  split
  · exact State.consume_sess _ _ (by omega)
  · rfl

theorem State.modSess_queueOnly (s : State) (p : Nat) (f : Session → Session) : QueueOnly s (s.modSess p f) := QueueOnly.mail _ _ rfl rfl

/-- Taking a command changes nothing but the queues and its session. -/
theorem State.taken_queueOnly (s : State) {h : Hdr} (hp : h.pair < 32) : QueueOnly s (s.taken h) :=
  ((State.mboxAck_queueOnly s hp).trans ((State.takeEntries_queueOnly _ _ (by omega)).trans (State.modSess_queueOnly _ _ _))).trans
    (State.modSess_queueOnly _ _ _)

@[simp] theorem State.sess_modSess_same (s : State) (p : Nat) (f : Session → Session) : (s.modSess p f).sess p = f (s.sess p) :=
  mget_mmod_same _ _ _ _

theorem State.sess_of_eq {s t : State} (h : t.mail.sess = s.mail.sess) (p : Nat) : t.sess p = s.sess p := by
  simp only [State.sess, h]

theorem State.isActive_of (s t : State) (h : QueueOnly s t) : t.isActive = s.isActive := by
  simp only [State.isActive, State.pstate, State.fld, h.reg R.pairStateState.addr (by decide)]

/-- The session of a command that has been taken. -/
theorem State.taken_sess (s : State) {h : Hdr} (hp : h.pair < 32) :
    (s.taken h).sess h.pair = { s.sess h.pair with lastRx := s.tb 3, next := ((s.sess h.pair).next + 1) % 65536 } := by
  have h0 : (s.mboxAck h).tb 3 = s.tb 3 := by
    simp only [State.tb, State.tbFix, (State.mboxAck_queueOnly s hp).tbs]
  have h1 : (((s.mboxAck h).takeEntries (2 * h.pair) (entriesOf h.len))).sess h.pair = s.sess h.pair := by
    rw [State.sess_of_eq (State.takeEntries_sess _ _ _), State.sess_of_eq (State.mboxAck_sess s hp)]
  show ((((s.mboxAck h).takeEntries (2 * h.pair) (entriesOf h.len)).modSess h.pair _).modSess h.pair _).sess h.pair = _
  rw [State.sess_modSess_same, State.sess_modSess_same, h1, h0]

/-- A command whose turn has come is executed on the state that its taking leaves, and answered as its execution says. -/
theorem State.mbox_ready {s : State} {h : Hdr} {op : Nat} {active : Bool} (body : State → State × Ans)
    (hr : s.mboxReady h op active = true)
    (room : ansEntries (body (s.taken h)).2 ≤ (s.mboxAck h).qFree (2 * h.pair + 1)) :
    s.mbox h op active body = (body (s.taken h)).1.mboxEnd h op (body (s.taken h)).2 := by
  simp only [State.mboxReady, Bool.and_eq_true, decide_eq_true_eq, beq_iff_eq, Bool.or_eq_true, Bool.not_eq_true'] at hr
  obtain ⟨⟨⟨⟨⟨⟨⟨⟨⟨⟨⟨⟨⟨⟨hserve, hpair⟩, hwhole⟩, hlen⟩, hbound⟩, hopen⟩, hwait⟩, hclient⟩, htally⟩, hposted⟩, hlevel⟩, hexp⟩, hact⟩, hrec⟩, hmost⟩ := hr
  have hq := State.mboxAck_queueOnly s hpair
  have hs : ∀ p, (s.mboxAck h).sess p = s.sess p := State.sess_of_eq (State.mboxAck_sess s hpair)
  have hs2 : ((s.mboxAck h).takeEntries (2 * h.pair) (entriesOf h.len)).sess h.pair = s.sess h.pair := by
    rw [State.sess_of_eq (State.takeEntries_sess _ _ _), hs]
  have hpost : s.mboxPost h (entriesOf h.len) = s := by
    unfold State.mboxPost
    simp [Nat.sub_eq_zero_of_le hposted, hbound]
  have htq := State.taken_queueOnly s hpair
  have hchk : (s.taken h).mboxChecks h op active = none := by
    unfold State.mboxChecks
    rw [if_neg, if_neg, if_neg, if_neg]
    · rw [State.isActive_of _ _ htq]
      rintro ⟨ha, hn⟩
      rcases hact with h1 | h1
      · rw [h1] at ha; exact absurd ha (by simp)
      · exact hn h1
    · rw [State.taken_sess s hpair]
      rintro (h1 | ⟨h1, h2⟩)
      · omega
      · rcases hexp with h3 | h3
        · omega
        · exact h2.elim (fun h => h h3.1) (fun h => h h3.2)
    · rintro (h1 | h1)
      · exact h1 hlen
      · exact h1 hwhole
    · rw [htq.bin]
      rintro ⟨h1, h2⟩
      rcases hrec with h3 | h3
      · rw [h3] at h1; exact absurd h1 (by simp)
      · exact h2 h3
  have hrun : (s.taken h).mboxRun h op active body = body (s.taken h) := by
    unfold State.mboxRun; rw [hchk]
  have htk : ((s.mboxAck h).mboxTake h (entriesOf h.len)).mboxNext h = s.taken h := rfl
  have hsess : ((s.mboxAck h).mboxTake h (entriesOf h.len)).sess h.pair =
      { s.sess h.pair with lastRx := (s.mboxAck h).tb 3 } := by
    show (((s.mboxAck h).takeEntries (2 * h.pair) (entriesOf h.len)).modSess h.pair _).sess h.pair = _
    rw [State.sess_modSess_same, hs2]
  unfold State.mbox State.mboxWith
  simp only [hwhole, if_true]
  rw [if_neg (by simp only [not_or, not_not, not_le]; exact ⟨hserve, hpair⟩), hpost, if_neg, if_neg]
  · rw [hsess]
    simp only [hopen, if_true]
    unfold State.mboxOpen
    rw [hsess]
    simp only [hclient, htally, ne_eq, not_true_eq_false, if_false, if_true, htk, hrun]
  · rw [not_lt]
    unfold State.mboxRoom
    rw [hsess]
    simp only [hopen, hclient, htally, ne_eq, not_true_eq_false, or_self, if_false, if_true, htk, hrun]
    exact max_le hmost room
  · simp only [not_or, not_not, not_lt]
    refine ⟨?_, hposted⟩
    simp [State.mboxTakes, hpair, hbound, Option.isNone_iff_eq_none.1 hwait]

/-- A command answered OK. -/
theorem State.mbox_ok {s u : State} {h : Hdr} {op : Nat} {active : Bool} {body : State → State × Ans} {r : List Byte}
    (hr : s.mboxReady h op active = true) (hb : body (s.taken h) = (u, okWith r)) (hf : s.mboxFits h r.length = true) :
    s.mbox h op active body = u.answered h op r := by
  have room : ansEntries (body (s.taken h)).2 ≤ (s.mboxAck h).qFree (2 * h.pair + 1) := by
    rw [hb]; exact of_decide_eq_true hf
  rw [State.mbox_ready body hr room, hb]
  rfl

end Sys2Proof.Machine
end

