-- ==== Sys2Proof/Laws/Answers.lean ====
section
/-! SUPPORT. A mailbox command whose body answers at once is answered so, and leaves what its body leaves. -/

namespace Sys2Proof.Machine

/-- A body that answers OK with a result. -/
theorem Answers.of {c : Instr} {s v : State} {h : Hdr} {op : Nat} {active : Bool} {body : State → State × Ans} {r : List Byte}
    (hc : exec c s = .next (s.mbox h op active body)) (hb : body (s.taken h) = (v, okWith r)) : Answers c s h op active v r := by
  intro hr hf
  rw [hc, State.mbox_ok hr hb hf]

/-- A body that answers at once with a status and a detail. -/
theorem AnswersWith.of {c : Instr} {s v : State} {h : Hdr} {op st d : Nat} {active : Bool} {body : State → State × Ans}
    (hc : exec c s = .next (s.mbox h op active body)) (hb : body (s.taken h) = (v, refuse st d)) : AnswersWith c s h op active v st d := by
  intro hr hf
  have room : ansEntries (body (s.taken h)).2 ≤ (s.mboxAck h).qFree (2 * h.pair + 1) := by
    rw [hb]; exact of_decide_eq_true hf
  rw [hc, State.mbox_ready body hr room, hb]
  rfl

end Sys2Proof.Machine
end

