-- ==== Sys2Proof/Laws/Words.lean ====
section
/-! SUPPORT. Every field of a lane instruction's word reads back as the operand it was formed from, format by format (R144, R145). -/

namespace Sys2Proof.Machine

theorem wordHead_lt {op : Nat} (_h : op < 256) (neg : Bool) (pr : BitVec 3) :
    wordHead op neg pr % 2 ^ 20 = 0 ∧ wordHead op neg pr / 2 ^ 24 = op ∧
      wordHead op neg pr / 2 ^ 20 % 8 = pr.toNat ∧ wordHead op neg pr / 2 ^ 23 % 2 = (if neg then 1 else 0) := by
  have := pr.isLt
  unfold wordHead
  cases neg <;> simp only [if_true, if_false, Bool.false_eq_true] <;> omega

section
variable {op : Nat} (hop : op < 256) (neg : Bool) (pr : BitVec 3)

theorem wordBits_ofNat (n lo len : Nat) (h : n < 2 ^ 32) : wordBits (BitVec.ofNat 32 n) lo len = n / 2 ^ lo % 2 ^ len := by
  rw [wordBits, BitVec.toNat_ofNat, Nat.mod_eq_of_lt h]

/-- Any word: OP, NOT and PRED of its head, and the bits below. -/
theorem word_fields (r : Nat) (hr : r < 2 ^ 20) (w : BitVec 32) (hw : w = BitVec.ofNat 32 (wordHead op neg pr + r)) (hop : op < 256) :
    wordBits w 24 8 = op ∧ wordBits w 20 3 = pr.toNat ∧ (wordBits w 23 1 == 1) = neg ∧
      ∀ lo len, lo + len ≤ 20 → wordBits w lo len = r / 2 ^ lo % 2 ^ len := by
  obtain ⟨h1, h2, h3, h4⟩ := wordHead_lt hop neg pr
  have hlt : wordHead op neg pr + r < 2 ^ 32 := by omega
  subst hw
  refine ⟨?_, ?_, ?_, fun lo len hl => ?_⟩
  · rw [wordBits_ofNat _ _ _ hlt]; omega
  · rw [wordBits_ofNat _ _ _ hlt]; omega
  · rw [wordBits_ofNat _ _ _ hlt]
    have : (wordHead op neg pr + r) / 2 ^ 23 % 2 ^ 1 = if neg then 1 else 0 := by omega
    rw [this]; cases neg <;> rfl
  · rw [wordBits_ofNat _ _ _ hlt]
    obtain ⟨q, hq⟩ : 2 ^ 20 ∣ wordHead op neg pr := Nat.dvd_of_mod_eq_zero h1
    apply Nat.eq_of_testBit_eq
    intro i
    rw [Nat.testBit_mod_two_pow, Nat.testBit_mod_two_pow, Nat.testBit_div_two_pow, Nat.testBit_div_two_pow, hq,
      Nat.testBit_two_pow_mul_add _ hr]
    by_cases hi : i < len
    · rw [if_pos (by omega)]
    · simp [hi]

end

section
variable {op : Nat} (hop : op < 256) (neg : Bool) (pr : BitVec 3)
include hop

/-- The fields of a format R word. -/
theorem wordR_fields (d a b : BitVec 6) :
    let w := wordR op neg pr d a b
    wordBits w 24 8 = op ∧ wordBits w 20 3 = pr.toNat ∧ (wordBits w 23 1 == 1) = neg ∧
      wordBits w 14 6 = d.toNat ∧ wordBits w 8 6 = a.toNat ∧ wordBits w 2 6 = b.toNat := by
  have hd := d.isLt; have ha := a.isLt; have hb := b.isLt
  have h := word_fields neg pr (d.toNat * 2 ^ 14 + a.toNat * 2 ^ 8 + b.toNat * 2 ^ 2) (by omega) (wordR op neg pr d a b)
    (by simp only [wordR, Nat.add_assoc]) hop
  refine ⟨h.1, h.2.1, h.2.2.1, ?_, ?_, ?_⟩ <;> rw [h.2.2.2 _ _ (by omega)] <;> omega

/-- The fields of a format C word. -/
theorem wordC_fields (t : BitVec 3) (a b : BitVec 6) :
    let w := wordC op neg pr t a b
    wordBits w 24 8 = op ∧ wordBits w 20 3 = pr.toNat ∧ (wordBits w 23 1 == 1) = neg ∧
      wordBits w 14 3 = t.toNat ∧ wordBits w 8 6 = a.toNat ∧ wordBits w 2 6 = b.toNat ∧
      wordBits w 8 3 = a.toNat % 8 ∧ wordBits w 2 3 = b.toNat % 8 := by
  have hd := t.isLt; have ha := a.isLt; have hb := b.isLt
  have h := word_fields neg pr (t.toNat * 2 ^ 14 + a.toNat * 2 ^ 8 + b.toNat * 2 ^ 2) (by omega) (wordC op neg pr t a b)
    (by simp only [wordC, Nat.add_assoc]) hop
  refine ⟨h.1, h.2.1, h.2.2.1, ?_, ?_, ?_, ?_, ?_⟩ <;> rw [h.2.2.2 _ _ (by omega)] <;> omega

/-- The fields of a format I word. -/
theorem wordI_fields (d : BitVec 6) (imm : BitVec 14) :
    let w := wordI op neg pr d imm
    wordBits w 24 8 = op ∧ wordBits w 20 3 = pr.toNat ∧ (wordBits w 23 1 == 1) = neg ∧
      wordBits w 14 6 = d.toNat ∧ wordBits w 0 14 = imm.toNat := by
  have hd := d.isLt; have ha := imm.isLt
  have h := word_fields neg pr (d.toNat * 2 ^ 14 + imm.toNat) (by omega) (wordI op neg pr d imm)
    (by simp only [wordI, Nat.add_assoc]) hop
  refine ⟨h.1, h.2.1, h.2.2.1, ?_, ?_⟩ <;> rw [h.2.2.2 _ _ (by omega)] <;> omega

/-- The fields of a format M word. -/
theorem wordM_fields (d : BitVec 6) (x : BitVec 12) :
    let w := wordM op neg pr d x
    wordBits w 24 8 = op ∧ wordBits w 20 3 = pr.toNat ∧ (wordBits w 23 1 == 1) = neg ∧
      wordBits w 14 6 = d.toNat ∧ wordBits w 0 12 = x.toNat := by
  have hd := d.isLt; have ha := x.isLt
  have h := word_fields neg pr (d.toNat * 2 ^ 14 + x.toNat) (by omega) (wordM op neg pr d x)
    (by simp only [wordM, Nat.add_assoc]) hop
  refine ⟨h.1, h.2.1, h.2.2.1, ?_, ?_⟩ <;> rw [h.2.2.2 _ _ (by omega)] <;> omega

/-- The fields of a format S word. -/
theorem wordS_fields (d a : BitVec 6) (conn : BitVec 8) :
    let w := wordS op neg pr d a conn
    wordBits w 24 8 = op ∧ wordBits w 20 3 = pr.toNat ∧ (wordBits w 23 1 == 1) = neg ∧
      wordBits w 14 6 = d.toNat ∧ wordBits w 14 3 = d.toNat % 8 ∧ wordBits w 8 6 = a.toNat ∧ wordBits w 0 8 = conn.toNat := by
  have hd := d.isLt; have ha := a.isLt; have hc := conn.isLt
  have h := word_fields neg pr (d.toNat * 2 ^ 14 + a.toNat * 2 ^ 8 + conn.toNat) (by omega) (wordS op neg pr d a conn)
    (by simp only [wordS, Nat.add_assoc]) hop
  refine ⟨h.1, h.2.1, h.2.2.1, ?_, ?_, ?_, ?_⟩ <;> rw [h.2.2.2 _ _ (by omega)] <;> omega

end

end Sys2Proof.Machine
end

