-- ==== Sys2Proof/Laws/Lanes.lean ====
section
/-! SUPPORT. What one issue of a lane instruction does, by what the instruction's effect is: a register written, a predicate written, a frame word
written, a store queued, nothing. -/

namespace Sys2Proof.Machine

theorem Engine.xr_setX (e : Engine) (n k : Nat) (v : W64) : (e.setX n v).xr k = if k = n then v else e.xr k := by
  simp only [Engine.xr, Engine.setX, mget_mput]

theorem Engine.pr_setP (e : Engine) {n k : Nat} (b : Bool) (hn : n < 8) (hk : k < 8) :
    (e.setP n b).pr k = if k = n ∧ n ≠ 0 then b else e.pr k := by
  have h : ∀ (p : BitVec 8) (b : Bool) (n k : Fin 8),
      (n.val ≠ 0 → ((k.val == 0) || (if b then p ||| (1#8 <<< n.val) else p &&& ~~~(1#8 <<< n.val)).getLsbD k.val) =
        (if k = n ∧ n.val ≠ 0 then b else ((k.val == 0) || p.getLsbD k.val))) := by
    intro p b n k hn0
    have hk := k.isLt
    have hn := n.isLt
    have key : (1#8 <<< n.val).getLsbD k.val = decide (k.val = n.val) := by
      revert n k; decide
    cases b
    · simp only [Bool.false_eq_true, if_false, BitVec.getLsbD_and, BitVec.getLsbD_not, hk, decide_true, Bool.true_and, key]
      by_cases hkn : k = n
      · subst hkn; simp [hn0]
      · have : k.val ≠ n.val := fun h => hkn (Fin.ext h)
        simp [hkn, this]
    · simp only [if_true, BitVec.getLsbD_or, key]
      by_cases hkn : k = n
      · subst hkn; simp [hn0]
      · have : k.val ≠ n.val := fun h => hkn (Fin.ext h)
        simp [hkn, this]
  unfold Engine.setP Engine.pr
  by_cases hn0 : n = 0
  · simp [hn0]
  · have := h e.p b ⟨n, hn⟩ ⟨k, hk⟩ hn0
    simp only [hn0, if_false]
    simpa [Fin.ext_iff] using this

theorem Engine.fold1_eq (w : Nat) (e : Engine) (o : W64) :
    e.fold1 w o = { e with sig := (e.fold1 w o).sig, folds := (e.fold1 w o).folds, extra := (e.fold1 w o).extra } := by
  unfold Engine.fold1; split <;> rfl

theorem Engine.folds_eq (w : Nat) (os : List W64) (e : Engine) :
    ∃ sg n x, os.foldl (Engine.fold1 w) e = { e with sig := sg, folds := n, extra := x } := by
  induction os generalizing e with
  | nil => exact ⟨_, _, _, rfl⟩
  | cons o os ih =>
    obtain ⟨sg, n, x, h⟩ := ih (e.fold1 w o)
    exact ⟨sg, n, x, by rw [List.foldl_cons, h, Engine.fold1_eq w e o]⟩

/-- The folds of an issue touch only the signature, its count and the words of the window that follows. -/
theorem Engine.foldN_eq (e : Engine) (w : Nat) (o : W64) (n : Nat) :
    e.foldN w o n = { e with sig := (e.foldN w o n).sig, folds := (e.foldN w o n).folds, extra := (e.foldN w o n).extra } :=
  by
  obtain ⟨sg, n', x, h⟩ := Engine.folds_eq w (o :: List.replicate (n - 1) 0) e
  have h' : e.foldN w o n = { e with sig := sg, folds := n', extra := x } := h
  rw [h']

/-- The engine that one issue leaves: its effect, the signature and the counts. -/
theorem State.issueOn_engine (s : State) (l : LaneSt) (e : Engine) (busy : Bool) (w : BitVec 32) :
    (s.issueOn l e busy w).1 = { l.apply e (s.issueOn l e busy w).2 with
      sig := (s.issueOn l e busy w).1.sig, folds := (s.issueOn l e busy w).1.folds, extra := (s.issueOn l e busy w).1.extra,
      issued := (l.apply e (s.issueOn l e busy w).2).issued + 1 } := by
  unfold State.issueOn
  dsimp only
  split
  · rw [Engine.foldN_eq]
  · rfl

theorem State.issueOn_effect (s : State) (l : LaneSt) (e : Engine) (busy : Bool) (w : BitVec 32) :
    (s.issueOn l e busy w).2 = if (e.pr (wordBits w 20 3) != (wordBits w 23 1 == 1)) = true then s.effect l e w else {} := rfl

theorem LaneSt.apply_issued (l : LaneSt) (e : Engine) (f : Effect) : (l.apply e f).issued = e.issued := by
  unfold LaneSt.apply LaneSt.putWord Engine.setX Engine.setP
  obtain ⟨xw, pw, fw, st, oof, free⟩ := f
  rcases xw with _ | ⟨n, v⟩ <;> rcases pw with _ | ⟨m, b⟩ <;> rcases fw with _ | ⟨w, u⟩ <;> dsimp only <;>
    (repeat' split) <;> rfl

/-! ### The state after one issue -/

theorem retire_range (l : Nat) : (R.laneRetireRetired l).lo + (R.laneRetireRetired l).len ≤ 64 := by simp [R.laneRetireRetired]

theorem State.setFld_eq (s : State) (f : Fld) (v : Nat) : s.setFld f v = { s with regs := (s.setFld f v).regs } := by
  unfold State.setFld State.setReg; rfl

theorem State.dbgStat_lanes (s : State) (l : Nat) : (s.dbgStat l).lanes = s.lanes := by
  unfold State.dbgStat; dsimp only; rw [State.setFlag_lanes, State.setFld_lanes]

theorem State.dbgStat_eq (s : State) (l : Nat) : s.dbgStat l = { s with regs := (s.dbgStat l).regs } := by
  unfold State.dbgStat State.setFlag
  dsimp only
  generalize hA : s.setFld (R.laneDbgstatDepth l) (s.lane l).dbgQ.length = A
  rw [State.setFld_eq A]
  have : A = { s with regs := A.regs } := by rw [← hA]; exact State.setFld_eq _ _ _
  dsimp only
  generalize (A.setFld (R.laneDbgstatPending l) (if ((s.lane l).dbgQ.length != 0) = true then 1 else 0)).regs = B
  rw [this]

theorem State.dbgStat_reg (s : State) (l a : Nat) (h : a ≠ (R.laneDbgstat l).addr) : (s.dbgStat l).reg a = s.reg a := by
  unfold State.dbgStat State.setFlag
  dsimp only
  rw [State.reg_setFld_ne _ _ (show a ≠ (R.laneDbgstatPending l).addr from h), State.reg_setFld_ne _ _ (show a ≠ (R.laneDbgstatDepth l).addr from h)]

/-- Only registers and lanes differ. -/
def RegLane (s t : State) : Prop := t = { s with regs := t.regs, lanes := t.lanes }

theorem RegLane.trans {s t u : State} (h : RegLane s t) (k : RegLane t u) : RegLane s u := by
  obtain ⟨r, l, rfl⟩ : ∃ r l, t = { s with regs := r, lanes := l } := ⟨_, _, h⟩
  obtain ⟨r', l', rfl⟩ : ∃ r' l', u = { s with regs := r', lanes := l' } := ⟨_, _, k⟩
  rfl

theorem State.setFld_regLane (s : State) (f : Fld) (v : Nat) : RegLane s (s.setFld f v) := by
  unfold RegLane State.setFld State.setReg; rfl

theorem State.modLane_regLane (s : State) (l : Nat) (f : LaneSt → LaneSt) : RegLane s (s.modLane l f) := by
  unfold RegLane State.modLane; rfl

theorem State.dbgStat_regLane (s : State) (l : Nat) : RegLane s (s.dbgStat l) := by
  unfold State.dbgStat State.setFlag
  exact (State.setFld_regLane _ _ _).trans (State.setFld_regLane _ _ _)

theorem State.dbgStat_lane (s : State) (l k : Nat) : (s.dbgStat l).lane k = s.lane k := by
  unfold State.lane; rw [State.dbgStat_lanes]

theorem State.incMod_lane (s : State) (f : Fld) (k : Nat) : (s.incMod f).lane k = s.lane k := by
  unfold State.lane; rw [State.incMod_lanes]

/-- What one issue makes of the lane. -/
def LaneSt.onIssue (ln : LaneSt) (m c : Engine) (q : List DbgEntry) (f : Effect) : LaneSt :=
  { ln with
    main := m, chk := c, dbgQ := q
    dirty := match f.fw, ln.scan with
      | some (wd, _), some sc => (match ln.line (sc.frame + wd / 8) with | some lnn => mput 0 ln.dirty lnn (sc.cls + 1) | none => ln.dirty)
      | _, _ => ln.dirty
    storeQ := match f.st with | some st => ln.storeQ ++ [st] | none => ln.storeQ
    scan := ln.scan.map fun sc => { sc with pc := (sc.pc + 1) % 65536 } }

/-- One issue that uses no free value and stays inside the frame. -/
theorem State.laneIssueGo_form (s : State) (l : Nat) (w : BitVec 32)
    (hfree : (s.issueOn (s.lane l) (s.lane l).main (s.flag (R.laneStateBusy l)) w).2.free = false)
    (hoof : (s.issueOn (s.lane l) (s.lane l).main (s.flag (R.laneStateBusy l)) w).2.oof = false) :
    ∃ c q cq, s.laneIssueGo l w = ((s.modLane l fun ln =>
      { ln with
        main := (s.issueOn (s.lane l) (s.lane l).main (s.flag (R.laneStateBusy l)) w).1, chk := c, dbgQ := q
        dirty := ((s.lane l).onIssue Engine.init Engine.init [] (s.issueOn (s.lane l) (s.lane l).main (s.flag (R.laneStateBusy l)) w).2).dirty
        storeQ := match (s.issueOn (s.lane l) (s.lane l).main (s.flag (R.laneStateBusy l)) w).2.st with | some st => ln.storeQ ++ [st] | none => ln.storeQ
        chkQ := cq
        scan := ln.scan.map fun sc => { sc with pc := (sc.pc + 1) % 65536 } }).incMod (R.laneRetireRetired l)).dbgStat l := by
  unfold State.laneIssueGo
  dsimp only
  simp only [hfree, hoof, Bool.false_eq_true, if_false]
  exact ⟨_, _, _, rfl⟩

/-- One issue that queues no store, uses no free value and stays inside the frame: only the lane moves on. -/
theorem State.laneIssueGo_only (s : State) (l : Fin 8) (w : BitVec 32)
    (hfree : (s.issueOn (s.lane l.val) (s.lane l.val).main (s.flag (R.laneStateBusy l.val)) w).2.free = false)
    (hoof : (s.issueOn (s.lane l.val) (s.lane l.val).main (s.flag (R.laneStateBusy l.val)) w).2.oof = false) :
    LaneOnly s (s.laneIssueGo l.val w) l := by
  obtain ⟨c, q, cq, e⟩ := State.laneIssueGo_form s l.val w hfree hoof
  rw [e]
  refine ⟨?_, fun k hk => ?_, fun a h1 h2 => ?_, ?_⟩
  · exact ((State.modLane_regLane _ _ _).trans (State.setFld_regLane _ _ _)).trans (State.dbgStat_regLane _ _)
  · rw [State.dbgStat_lane, State.incMod_lane, State.lane_modLane_ne _ _ hk]
  · rw [State.dbgStat_reg _ _ _ h2, State.incMod, State.reg_setFld_ne _ _ h1, State.reg, State.modLane_regs]; rfl
  · have hne : (R.laneRetireRetired l.val).addr ≠ (R.laneDbgstat l.val).addr := by simp only [R.laneRetireRetired, R.laneDbgstat]; omega
    rw [State.fld, State.dbgStat_reg _ _ _ hne, ← State.fld, State.incMod, State.fld_setFld_same _ _ (retire_range _), State.fld, State.reg, State.modLane_regs]
    rfl

/-- The lane after one issue. -/
theorem State.laneIssueGo_lane (s : State) (l : Nat) (w : BitVec 32)
    (hfree : (s.issueOn (s.lane l) (s.lane l).main (s.flag (R.laneStateBusy l)) w).2.free = false)
    (hoof : (s.issueOn (s.lane l) (s.lane l).main (s.flag (R.laneStateBusy l)) w).2.oof = false) :
    ((s.laneIssueGo l w).lane l).main = (s.issueOn (s.lane l) (s.lane l).main (s.flag (R.laneStateBusy l)) w).1 ∧
    ((s.laneIssueGo l w).lane l).scan = (s.lane l).scan.map Scan.on ∧
    ((s.laneIssueGo l w).lane l).storeQ =
      (match (s.issueOn (s.lane l) (s.lane l).main (s.flag (R.laneStateBusy l)) w).2.st with
        | some st => (s.lane l).storeQ ++ [st] | none => (s.lane l).storeQ) ∧
    ((s.laneIssueGo l w).lane l).rest = { (s.lane l).rest with
      storeQ := ((s.laneIssueGo l w).lane l).storeQ, dirty := ((s.laneIssueGo l w).lane l).dirty } ∧
    ((s.issueOn (s.lane l) (s.lane l).main (s.flag (R.laneStateBusy l)) w).2.fw = none →
      ((s.laneIssueGo l w).lane l).dirty = (s.lane l).dirty) := by
  obtain ⟨c, q, cq, e⟩ := State.laneIssueGo_form s l w hfree hoof
  rw [e, State.dbgStat_lane, State.incMod_lane, State.lane_modLane_same]
  refine ⟨rfl, rfl, rfl, rfl, fun h => ?_⟩
  show LaneSt.dirty (LaneSt.onIssue _ Engine.init Engine.init [] _) = _
  unfold LaneSt.onIssue
  rw [h]

/-- An instruction that issues where it is due: no debugger record of a replay comes before it. -/
theorem State.laneIssue_goes {s : State} {l : Fin 8} {w : BitVec 32} (h : s.laneGoes l = true) (hd : s.laneDue l.val w = true) :
    s.laneIssue l.val w =
      if wordBits w 24 8 = 1 ∧ ((s.lane l.val).main.pr (wordBits w 20 3) != (wordBits w 23 1 == 1)) = true then
        (s.laneIssueGo l.val w).endScanGo l.val else s.laneIssueGo l.val w := by
  simp only [State.laneGoes, Bool.and_eq_true, Bool.not_eq_true', Option.isNone_iff_eq_none] at h
  obtain ⟨⟨h1, h2⟩, h3⟩ := h
  have hr : s.replayDebug l.val = s := by unfold State.replayDebug; rw [h3]
  unfold State.laneIssue State.issueNow
  simp only [h1, h2, hd, Bool.false_eq_true, Bool.true_eq_false, or_self, if_false, hr]

/-- A word that is not due is not issued (R126). -/
theorem State.laneIssue_notDue {s : State} {l : Nat} {w : BitVec 32} (hd : s.laneDue l w = false) : s.laneIssue l w = s := by
  unfold State.laneIssue; rw [if_pos (.inr (.inr hd))]

theorem State.laneTakes_iff {s : State} {l : Fin 8} {neg : Bool} {pr : BitVec 3} (h : s.laneTakes l neg pr = true) :
    s.laneGoes l = true ∧ ((s.lane l.val).main.pr pr.toNat != neg) = true := by
  simpa only [State.laneTakes, Bool.and_eq_true, State.laneP] using h

/-- An instruction whose effect is one register write. -/
theorem State.laneIssue_writes {s : State} {l : Fin 8} {neg : Bool} {pr : BitVec 3} {w : BitVec 32} {d : BitVec 6} {v : W64}
    (h : s.laneTakes l neg pr = true) (hd : s.laneDue l.val w = true) (hp : wordBits w 20 3 = pr.toNat) (hn : (wordBits w 23 1 == 1) = neg) (h1 : wordBits w 24 8 ≠ 1)
    (he : s.effect (s.lane l.val) (s.lane l.val).main w = { xw := some (d.toNat, v) }) :
    LaneWrites s (s.laneIssue l.val w) l d v := by
  obtain ⟨hg, ht⟩ := State.laneTakes_iff h
  rw [State.laneIssue_goes hg hd, if_neg (fun hh => h1 hh.1)]
  have hf : (s.issueOn (s.lane l.val) (s.lane l.val).main (s.flag (R.laneStateBusy l.val)) w).2 = { xw := some (d.toNat, v) } := by
    rw [State.issueOn_effect, hp, hn, if_pos ht, he]
  have hl := State.laneIssueGo_lane s l.val w (by rw [hf]) (by rw [hf])
  have hm := State.issueOn_engine s (s.lane l.val) (s.lane l.val).main (s.flag (R.laneStateBusy l.val)) w
  rw [hf] at hl hm
  have ha : (s.lane l.val).apply (s.lane l.val).main { xw := some (d.toNat, v) } = (s.lane l.val).main.setX d.toNat v := rfl
  rw [ha] at hm
  obtain ⟨l1, l2, l5, l6, l7⟩ := hl
  refine ⟨State.laneIssueGo_only s l w (by rw [hf]) (by rw [hf]), ?_, l2, ?_, fun n => ?_⟩
  · rw [l6, l7 rfl, l5]; rfl
  · rw [Engine.went, l1, hm]; rfl
  · show ((s.laneIssueGo l.val w).lane l.val).main.xr n.toNat = _
    rw [l1, hm]
    show ((s.lane l.val).main.setX d.toNat v).xr n.toNat = _
    rw [Engine.xr_setX]
    simp only [BitVec.toNat_inj, State.laneX]

/-- An instruction whose effect is one predicate write. -/
theorem State.laneIssue_decides {s : State} {l : Fin 8} {neg : Bool} {pr : BitVec 3} {w : BitVec 32} {p : BitVec 3} {b : Bool}
    (h : s.laneTakes l neg pr = true) (hd : s.laneDue l.val w = true) (hp : wordBits w 20 3 = pr.toNat) (hn : (wordBits w 23 1 == 1) = neg) (h1 : wordBits w 24 8 ≠ 1)
    (he : s.effect (s.lane l.val) (s.lane l.val).main w = { pw := some (p.toNat, b) }) :
    LaneDecides s (s.laneIssue l.val w) l p b := by
  obtain ⟨hg, ht⟩ := State.laneTakes_iff h
  rw [State.laneIssue_goes hg hd, if_neg (fun hh => h1 hh.1)]
  have hf : (s.issueOn (s.lane l.val) (s.lane l.val).main (s.flag (R.laneStateBusy l.val)) w).2 = { pw := some (p.toNat, b) } := by
    rw [State.issueOn_effect, hp, hn, if_pos ht, he]
  have hl := State.laneIssueGo_lane s l.val w (by rw [hf]) (by rw [hf])
  have hm := State.issueOn_engine s (s.lane l.val) (s.lane l.val).main (s.flag (R.laneStateBusy l.val)) w
  rw [hf] at hl hm
  have ha : (s.lane l.val).apply (s.lane l.val).main { pw := some (p.toNat, b) } = (s.lane l.val).main.setP p.toNat b := rfl
  rw [ha] at hm
  obtain ⟨l1, l2, l5, l6, l7⟩ := hl
  have hs : (s.lane l.val).main.setP p.toNat b = { (s.lane l.val).main with p := ((s.lane l.val).main.setP p.toNat b).p } := by
    unfold Engine.setP; split <;> rfl
  refine ⟨State.laneIssueGo_only s l w (by rw [hf]) (by rw [hf]), ?_, l2, ?_, fun n => ?_⟩
  · rw [l6, l7 rfl, l5]; rfl
  · rw [Engine.went, l1, hm, hs]
  · show ((s.laneIssueGo l.val w).lane l.val).main.pr n.toNat = _
    rw [l1, hm]
    show ((s.lane l.val).main.setP p.toNat b).pr n.toNat = _
    rw [Engine.pr_setP _ _ p.isLt n.isLt]
    have : (p.toNat ≠ 0) = (p ≠ 0) := by simp [← BitVec.toNat_inj]
    simp only [BitVec.toNat_inj, State.laneP, this]

/-- A result of the register instructions. -/
theorem State.effect_alu {s : State} {l : LaneSt} {e : Engine} {w : BitVec 32} {v : W64}
    (h : aluX (wordBits w 24 8) (e.xr (wordBits w 14 6)) (e.xr (wordBits w 8 6)) (e.xr (wordBits w 2 6)) = some v) :
    s.effect l e w = { xw := some (wordBits w 14 6, v) } := by
  unfold State.effect; dsimp only; rw [h]

/-- A result of the predicate instructions. -/
theorem State.effect_pred {s : State} {l : LaneSt} {e : Engine} {w : BitVec 32} {b : Bool}
    (hx : aluX (wordBits w 24 8) (e.xr (wordBits w 14 6)) (e.xr (wordBits w 8 6)) (e.xr (wordBits w 2 6)) = none)
    (h : aluP (wordBits w 24 8) (e.xr (wordBits w 8 6)) (e.xr (wordBits w 2 6)) (e.pr (wordBits w 8 3)) (e.pr (wordBits w 2 3)) = some b) :
    s.effect l e w = { pw := some (wordBits w 14 3, b) } := by
  unfold State.effect; dsimp only; rw [hx]; dsimp only; rw [h]

/-- A register instruction of format R that takes effect. -/
theorem State.laneIssue_aluR {s : State} {l : Fin 8} {op : Nat} {neg : Bool} {pr : BitVec 3} {d a b : BitVec 6} {v : W64}
    (h : s.laneTakes l neg pr = true) (hd : s.laneDue l.val (wordR op neg pr d a b) = true) (hop : op < 256) (h1 : op ≠ 1)
    (hv : aluX op (s.laneX l d) (s.laneX l a) (s.laneX l b) = some v) :
    LaneWrites s (s.laneIssue l.val (wordR op neg pr d a b)) l d v := by
  obtain ⟨f1, f2, f3, f4, f5, f6⟩ := wordR_fields hop neg pr d a b
  have he := State.effect_alu (s := s) (l := s.lane l.val) (e := (s.lane l.val).main) (w := wordR op neg pr d a b) (v := v)
    (by rw [f1, f4, f5, f6]; exact hv)
  rw [f4] at he
  exact State.laneIssue_writes h hd f2 f3 (by rw [f1]; exact h1) he

/-- A predicate instruction of format C that takes effect. -/
theorem State.laneIssue_aluC {s : State} {l : Fin 8} {op : Nat} {neg : Bool} {pr t : BitVec 3} {a b : BitVec 6} {v : Bool}
    (h : s.laneTakes l neg pr = true) (hd : s.laneDue l.val (wordC op neg pr t a b) = true) (hop : op < 256) (h1 : op ≠ 1)
    (hx : ∀ x y z, aluX op x y z = none)
    (hv : aluP op (s.laneX l a) (s.laneX l b) ((s.lane l.val).main.pr (a.toNat % 8)) ((s.lane l.val).main.pr (b.toNat % 8)) = some v) :
    LaneDecides s (s.laneIssue l.val (wordC op neg pr t a b)) l t v := by
  obtain ⟨f1, f2, f3, f4, f5, f6, f7, f8⟩ := wordC_fields hop neg pr t a b
  have he := State.effect_pred (s := s) (l := s.lane l.val) (e := (s.lane l.val).main) (w := wordC op neg pr t a b) (b := v)
    (by rw [f1]; exact hx _ _ _) (by rw [f1, f5, f6, f7, f8]; exact hv)
  rw [f4] at he
  exact State.laneIssue_decides h hd f2 f3 (by rw [f1]; exact h1) he

end Sys2Proof.Machine
end

