-- ==== Sys2Proof/Machine/Link.lean ====
section
/-! DEFINITION. The bytes of a pair link record: header, entries, CHECK (R284, R285, R341). -/

namespace Sys2Proof.Machine

/-- KIND (R285). -/
def linkKind : PairRec → Nat
  | .status .. => 1
  | .input .. => 2
  | .commit .. => 3
  | .ack .. => 4
  | .command .. => 5
  | .relay .. => 6
  | .forward .. => 7
  | .mirror .. => 8
  | .notice .. => 9
  | .bookRec .. => 0xA
  | .bookResult .. => 0xA
  | .query .. => 0xB
  | .queryReply .. => 0xB

/-- CLASS (R284). -/
def linkClass : PairRec → Nat
  | .input c .. => c
  | .commit c .. => c
  | .ack bit c _ => if bit ≤ 1 then c else 0
  | _ => 0

/-- WAKE (R284, R285): of an Ack of a Notice the SEQ, of a Notice what its code gives; 0 where no Wake number applies. -/
def linkWake : PairRec → Nat
  | .input _ w .. => w
  | .commit _ w .. => w
  | .ack bit _ w => if bit = 2 then 0 else w
  | .notice _ w => w
  | _ => 0

/-- FLAGS (R285). -/
def linkFlags : PairRec → Nat
  | .status r => r.state + (if r.fit then 8 else 0) + (if r.preferred then 16 else 0) + (if r.timeMaster then 32 else 0) + (if r.fault then 64 else 0)
  | .ack bit .. => 2 ^ bit
  | .notice code _ => code
  | .input _ _ noexec last _ => (if last then 1 else 0) + (if noexec then 2 else 0)
  | .commit _ _ turn late skipped last _ => (if last then 1 else 0) + (if turn then 2 else 0) + (if late then 4 else 0) + (if skipped then 8 else 0)
  | .mirror _ last => if last then 1 else 0
  | .queryReply .. => 1
  | _ => 0

/-- The 72-byte entries of a record (R284). -/
def linkEntries : PairRec → List GrainEntry
  | .input _ _ _ _ es => es
  | .commit _ _ _ _ _ _ es => es
  | .mirror es _ => es
  | _ => []

/-- A frame as Relay and Forward records carry it: ring number, length, bytes in wire order, padded to 8 bytes (R341). -/
def State.framePayload (s : State) (r : Nat) (f : StnFrame) : List Byte :=
  let b := leBytes 2 r ++ leBytes 2 (s.frameBytes f).length ++ s.frameBytes f
  b ++ List.replicate ((8 - b.length % 8) % 8) 0

/-- The payload of a record; `none` where the manual gives its layout nowhere: Command, Book and Query records. -/
def State.linkPayload (s : State) : PairRec → Option (List Byte)
  | .status .. => some []
  | .ack .. => some []
  | .notice .. => some []
  | .relay r f => some (s.framePayload r f)
  | .forward r f => some (s.framePayload r f)
  | .input _ _ _ _ es => some (es.flatMap grainBytes)
  | .commit _ _ _ _ _ _ es => some (es.flatMap grainBytes)
  | .mirror es _ => some (es.flatMap grainBytes)
  | _ => none

/-- Bytes 0 to 23 of the header (R284). -/
def linkHead (seq watch len : Nat) (r : PairRec) : List Byte :=
  leBytes 1 (linkKind r) ++ leBytes 1 (linkClass r) ++ leBytes 2 seq ++ leBytes 4 watch ++ leBytes 6 (linkWake r) ++ leBytes 2 (linkFlags r) ++
    leBytes 4 (linkEntries r).length ++ leBytes 4 len

/-- A record as it stands on the link: header with CHECK over bytes 0 to 23 and the payload, then the payload (R284). -/
def State.linkBytes (s : State) (seq watch : Nat) (r : PairRec) : Option (List Byte) :=
  (s.linkPayload r).map fun p =>
    let h := linkHead seq watch p.length r
    h ++ leBytes 8 (crc64 (h ++ p)) ++ p

end Sys2Proof.Machine
end

