-- ==== Sys2Proof/Laws/Link.lean ====
section
/-! SUPPORT. What sending a record on the pair link can do, said once. -/

namespace Sys2Proof.Machine

/-- A record that the reaction on the class D lines stops (R432, R442) is not sent. -/
theorem State.linkSend_of_stopped {s : State} {r : PairRec} (h : (s.pair.lineSafe && linkStops r) = true) : s.linkSend r = s := by
  simp [State.linkSend, h]

/-- Any other record goes out once, with the next SEQ and the WATCH of the moment (R284). -/
theorem State.linkSend_out {s : State} {r : PairRec} (h : (s.pair.lineSafe && linkStops r) = false) :
    (s.linkSend r).out = s.out ++ [.link s.pair.txSeq (s.fld R.pairWatchWatch) r] := by
  simp only [State.linkSend, h]; rfl

/-- SEQ counts on by one for each record sent and wraps at 65,536 (R284). -/
theorem State.linkSend_txSeq {s : State} {r : PairRec} (h : (s.pair.lineSafe && linkStops r) = false) :
    (s.linkSend r).pair.txSeq = (s.pair.txSeq + 1) % 65536 := by
  simp only [State.linkSend, h]; rfl

/-- Sending touches the outputs, SEQ and the records kept for a resend, nothing else. -/
theorem State.linkSend_frame (s : State) (r : PairRec) :
    s.linkSend r = { s with out := (s.linkSend r).out, pair := { s.pair with txSeq := (s.linkSend r).pair.txSeq, sent := (s.linkSend r).pair.sent } } := by
  unfold State.linkSend; split <;> rfl

@[simp] theorem State.linkSend_regs (s : State) (r : PairRec) : (s.linkSend r).regs = s.regs := by rw [State.linkSend_frame]
@[simp] theorem State.linkSend_mem (s : State) (r : PairRec) : (s.linkSend r).mem = s.mem := by rw [State.linkSend_frame]
@[simp] theorem State.linkSend_lanes (s : State) (r : PairRec) : (s.linkSend r).lanes = s.lanes := by rw [State.linkSend_frame]
@[simp] theorem State.linkSend_classes (s : State) (r : PairRec) : (s.linkSend r).classes = s.classes := by rw [State.linkSend_frame]
@[simp] theorem State.linkSend_tbs (s : State) (r : PairRec) : (s.linkSend r).tbs = s.tbs := by rw [State.linkSend_frame]
@[simp] theorem State.linkSend_pending (s : State) (r : PairRec) : (s.linkSend r).pending = s.pending := by rw [State.linkSend_frame]

/-- The parts of a list of entries are the entries, in order: none is lost and none is sent twice (R287). -/
theorem linkParts_flat (n : Nat) (es : List GrainEntry) : (linkParts n es).flatMap Prod.snd = es := by
  induction n generalizing es with
  | zero => simp [linkParts]
  | succ n ih =>
    unfold linkParts
    split
    · simp
    · simp [ih]

/-- Every part but the last says that more follow, and the last carries END (R287). -/
theorem linkParts_end (n : Nat) (es : List GrainEntry) : ∃ ps es', linkParts n es = ps ++ [(true, es')] ∧ ∀ p ∈ ps, p.1 = false := by
  induction n generalizing es with
  | zero => exact ⟨[], es, rfl, by simp⟩
  | succ n ih =>
    unfold linkParts
    split
    · exact ⟨[], es, rfl, by simp⟩
    · obtain ⟨ps, es', h, hp⟩ := ih (es.drop 910)
      exact ⟨(false, es.take 910) :: ps, es', by rw [h]; rfl, by simpa using hp⟩

end Sys2Proof.Machine
end

