-- ==== Sys2Proof/Laws/Mem.lean ====
section
/-! SUPPORT. Memory: what is written is what is read, little-endian; every other byte keeps its value; every operation keeps the canonical
form. -/

namespace Sys2Proof.Machine

@[simp] theorem State.byte_setByte (s : State) (a c : Nat) (b : Byte) : (s.setByte a b).byte c = if c = a then b else s.byte c := by
  by_cases h : c = a
  · subst h; simp [State.byte, State.setByte]
  · simp only [State.byte, State.setByte, h, if_false]; exact mget_mput_ne _ _ _ _ h

/-- What a byte reads as after a run of bytes is written at `a`. -/
theorem State.byte_setBytes (s : State) (a c : Nat) (bs : List Byte) :
    (s.setBytes a bs).byte c = if a ≤ c ∧ c < a + bs.length then bs.getD (c - a) 0 else s.byte c := by
  induction bs generalizing s a with
  | nil => simp [State.setBytes, show ¬(a ≤ c ∧ c < a) by omega]
  | cons b bs ih =>
    rw [State.setBytes, ih, State.byte_setByte]
    rcases lt_trichotomy c a with h | h | h
    · simp only [List.length_cons, show ¬(a + 1 ≤ c ∧ c < a + 1 + bs.length) by omega, show ¬(a ≤ c ∧ c < a + (bs.length + 1)) by omega,
        show c ≠ a by omega, if_false]
    · subst h
      simp
    · have e : c - a = (c - (a + 1)) + 1 := by omega
      have p : (a + 1 ≤ c ∧ c < a + 1 + bs.length) ↔ (a ≤ c ∧ c < a + (b :: bs).length) := by simp only [List.length_cons]; omega
      simp only [p, e, List.getD_cons_succ, show c ≠ a by omega, if_false]

theorem State.bytes_eq (s : State) (n a : Nat) : s.bytes n a = (List.range n).map fun i => s.byte (a + i) := by
  induction n generalizing a with
  | zero => rfl
  | succ n ih =>
    rw [State.bytes, ih, List.range_succ_eq_map, List.map_cons, List.map_map]
    congr 1
    apply List.map_congr_left
    intro i _
    simp only [Function.comp_apply]; congr 1; omega

@[simp] theorem State.bytes_length (s : State) (n a : Nat) : (s.bytes n a).length = n := by simp [State.bytes_eq]

/-- A run of bytes reads back as written. -/
theorem State.bytes_setBytes_same (s : State) (a : Nat) (bs : List Byte) : (s.setBytes a bs).bytes bs.length a = bs := by
  rw [State.bytes_eq]
  apply List.ext_getElem
  · simp
  · intro i h1 h2
    simp only [List.getElem_map, List.getElem_range, State.byte_setBytes, List.getD_eq_getElem?_getD]
    rw [if_pos (by omega)]
    simp [h2]

/-- A run of bytes that shares no byte with what is written keeps its value. -/
theorem State.bytes_setBytes_ne (s : State) {a n c : Nat} {bs : List Byte} (h : c + n ≤ a ∨ a + bs.length ≤ c) :
    (s.setBytes a bs).bytes n c = s.bytes n c := by
  rw [State.bytes_eq, State.bytes_eq]
  apply List.map_congr_left
  intro i hi
  rw [List.mem_range] at hi
  rw [State.byte_setBytes, if_neg (by omega)]

@[simp] theorem leBytes_length (n v : Nat) : (leBytes n v).length = n := by
  induction n generalizing v with
  | zero => rfl
  | succ n ih => simp [leBytes, ih]

theorem ofLe_leBytes (n v : Nat) : ofLe (leBytes n v) = v % 256 ^ n := by
  induction n generalizing v with
  | zero => simp [leBytes, ofLe, Nat.mod_one]
  | succ n ih =>
    rw [leBytes, ofLe, ih, BitVec.toNat_ofNat, show (256 : Nat) ^ (n + 1) = 256 * 256 ^ n from Nat.pow_succ', Nat.mod_mul (x := v)]

/-- A number reads back as written, modulo its width (R15). -/
theorem State.readN_writeN_same (s : State) (n a v : Nat) : (s.writeN n a v).readN n a = v % 256 ^ n := by
  unfold State.readN State.writeN
  have := State.bytes_setBytes_same s a (leBytes n v)
  rw [leBytes_length] at this
  rw [this, ofLe_leBytes]

theorem State.readN_writeN_ne (s : State) {n m a c : Nat} (v : Nat) (h : c + m ≤ a ∨ a + n ≤ c) :
    (s.writeN n a v).readN m c = s.readN m c := by
  unfold State.readN State.writeN
  rw [State.bytes_setBytes_ne s (by rw [leBytes_length]; exact h)]

@[simp] theorem State.rd64_wr64_same (s : State) (a : Nat) (w : W64) : (s.wr64 a w).rd64 a = w := by
  unfold State.rd64 State.wr64
  rw [State.readN_writeN_same]
  apply BitVec.eq_of_toNat_eq
  have := w.isLt
  rw [BitVec.toNat_ofNat, show (256 : Nat) ^ 8 = 2 ^ 64 by norm_num, Nat.mod_mod, Nat.mod_eq_of_lt this]

theorem State.rd64_wr64_ne (s : State) {a c : Nat} (w : W64) (h : c + 8 ≤ a ∨ a + 8 ≤ c) : (s.wr64 a w).rd64 c = s.rd64 c := by
  unfold State.rd64 State.wr64
  rw [State.readN_writeN_ne s _ h]

/-- A cleared range reads as memory nothing has written; every other byte keeps its value. -/
theorem State.byte_clearRange (s : State) (a b c : Nat) :
    (s.clearRange a b).byte c = if a ≤ c ∧ c < b then memDefault c else s.byte c := by
  unfold State.byte State.clearRange
  dsimp only
  induction s.mem with
  | nil => split <;> rfl
  | cons e m ih =>
    obtain ⟨k, v⟩ := e
    by_cases hk : k < a ∨ b ≤ k
    · rw [List.filter_cons_of_pos (by simpa using hk), mget, mget, ih]
      by_cases hc : k = c
      · subst hc; simp [show ¬(a ≤ k ∧ k < b) by omega]
      · simp [hc]
    · rw [List.filter_cons_of_neg (by simpa using hk), ih, mget]
      by_cases hc : k = c
      · subst hc; simp [show a ≤ k ∧ k < b by omega]
      · simp [hc]

/-! ### The canonical form -/

theorem wf_setByte {s : State} (a : Nat) (b : Byte) (h : Memory.wf s.mem = true) : Memory.wf (s.setByte a b).mem = true :=
  mwfBy_mput _ a b h

theorem wf_setBytes {s : State} (a : Nat) (bs : List Byte) (h : Memory.wf s.mem = true) : Memory.wf (s.setBytes a bs).mem = true := by
  induction bs generalizing s a with
  | nil => exact h
  | cons b bs ih => exact ih (a + 1) (wf_setByte a b h)

theorem wf_writeN {s : State} (n a v : Nat) (h : Memory.wf s.mem = true) : Memory.wf (s.writeN n a v).mem = true := wf_setBytes a _ h

theorem wf_wr64 {s : State} (a : Nat) (w : W64) (h : Memory.wf s.mem = true) : Memory.wf (s.wr64 a w).mem = true := wf_writeN 8 a _ h

theorem wf_clearRange {s : State} (a b : Nat) (h : Memory.wf s.mem = true) : Memory.wf (s.clearRange a b).mem = true :=
  mwfBy_filter _ _ h

end Sys2Proof.Machine
end

