-- ==== Sys2Proof/Laws/Reach.lean ====
section
/-! SUPPORT. What a write with an action does when it reaches its register, and what the fields read as afterwards. -/

namespace Sys2Proof.Machine

/-- An access that reaches its register performs the action and is answered without an error. -/
theorem State.reach_eq {s : State} {m : Fin 16} {f : Fld} (h : s.reaches m f = true) (act : State → State) :
    s.reach m.val f act = (act s).reply false 0 := by
  simp only [State.reaches, Bool.and_eq_true, Option.isNone_iff_eq_none, Bool.not_eq_true'] at h
  unfold State.reach
  dsimp only
  rw [h.1]
  dsimp only
  rw [if_neg (by simp [h.2])]

theorem FldsKept.refl (s : State) (fs : List Fld) : FldsKept s s fs := fun _ _ => rfl

theorem FldsKept.trans {s t u : State} {fs gs : List Fld} (h : FldsKept s t fs) (k : FldsKept t u gs) : FldsKept s u (fs ++ gs) :=
  fun g hg => (k g fun f hf => hg f (by simp [hf])).trans (h g fun f hf => hg f (by simp [hf]))

theorem FldsKept.mono {s t : State} {fs gs : List Fld} (h : FldsKept s t fs) (k : ∀ f ∈ fs, f ∈ gs) : FldsKept s t gs :=
  fun g hg => h g fun f hf => hg f (k f hf)

theorem FldsOnly.refl (s : State) (fs : List Fld) : FldsOnly s s fs := ⟨rfl, FldsKept.refl s fs⟩

theorem FldsOnly.trans {s t u : State} {fs gs : List Fld} (h : FldsOnly s t fs) (k : FldsOnly t u gs) : FldsOnly s u (fs ++ gs) := by
  refine ⟨?_, h.2.trans k.2⟩
  obtain ⟨r, rfl⟩ : ∃ r, t = { s with regs := r } := ⟨_, h.1⟩
  obtain ⟨r', rfl⟩ : ∃ r', u = { s with regs := r' } := ⟨_, k.1⟩
  rfl

theorem FldsOnly.mono {s t : State} {fs gs : List Fld} (h : FldsOnly s t fs) (k : ∀ f ∈ fs, f ∈ gs) : FldsOnly s t gs :=
  ⟨h.1, h.2.mono k⟩

/-- A field write changes that field only. -/
theorem State.setFld_only (s : State) {f : Fld} (v : Nat) (h : f.lo + f.len ≤ 64) : FldsOnly s (s.setFld f v) [f] := by
  refine ⟨by unfold State.setFld State.setReg; rfl, fun g hg => ?_⟩
  have := hg f (by simp)
  exact State.fld_setFld_ne s v h this

theorem State.setFlag_only (s : State) {f : Fld} (b : Bool) (h : f.lo + f.len ≤ 64) : FldsOnly s (s.setFlag f b) [f] :=
  State.setFld_only s _ h

theorem State.addSat_only (s : State) {f : Fld} (n : Nat) (h : f.lo + f.len ≤ 64) : FldsOnly s (s.addSat f n) [f] :=
  State.setFld_only s _ h

theorem State.incSat_only (s : State) {f : Fld} (h : f.lo + f.len ≤ 64) : FldsOnly s (s.incSat f) [f] := State.addSat_only s 1 h

/-- A list of fields cleared: all of them read 0, and nothing else changes. -/
theorem State.clearThen_none (s : State) (fs : List Fld) (hr : ∀ f ∈ fs, f.lo + f.len ≤ 64) (hp : fs.Pairwise apart) :
    FldsOnly s (s.clearThen fs none) fs ∧ ∀ f ∈ fs, (s.clearThen fs none).fld f = 0 := by
  unfold State.clearThen
  dsimp only
  induction fs generalizing s with
  | nil => exact ⟨FldsOnly.refl _ _, by simp⟩
  | cons f fs ih =>
    rw [List.pairwise_cons] at hp
    have h := ih (s.setFld f 0) (fun g hg => hr g (by simp [hg])) hp.2
    have hf := hr f (by simp)
    refine ⟨(State.setFld_only s 0 hf).trans h.1, fun g hg => ?_⟩
    rcases List.mem_cons.1 hg with rfl | hg'
    · rw [List.foldl_cons, h.1.2 g fun k hk => ?_, State.fld_setFld_same s 0 hf, Nat.zero_mod]
      have := hp.1 k hk
      unfold apart at this ⊢
      omega
    · exact h.2 g hg'

/-- A clear that reaches its register. -/
theorem State.reach_cleared {s : State} {m : Fin 16} {f : Fld} (h : s.reaches m f = true) (fs : List Fld)
    (hr : ∀ f ∈ fs, f.lo + f.len ≤ 64) (hp : fs.Pairwise apart) : Cleared s (s.reach m.val f fun s => s.clearThen fs none) fs := by
  rw [State.reach_eq h]
  have k := State.clearThen_none s fs hr hp
  generalize s.clearThen fs none = t at k
  obtain ⟨⟨h1, h2⟩, h3⟩ := k
  obtain ⟨r, rfl⟩ : ∃ r, t = { s with regs := r } := ⟨_, h1⟩
  exact ⟨⟨rfl, h2⟩, h3⟩

/-- A write of one field that reaches its register. -/
theorem State.reach_setFld {s : State} {m : Fin 16} {f g : Fld} (h : s.reaches m f = true) (v : Nat) (hr : g.lo + g.len ≤ 64) :
    WroteOnly s (s.reach m.val f fun s => s.setFld g v) [g] ∧ (s.reach m.val f fun s => s.setFld g v).fld g = v % 2 ^ g.len := by
  rw [State.reach_eq h]
  have k := State.setFld_only s v hr
  have e := State.fld_setFld_same s v hr
  generalize s.setFld g v = t at k e
  obtain ⟨h1, h2⟩ := k
  obtain ⟨r, rfl⟩ : ∃ r, t = { s with regs := r } := ⟨_, h1⟩
  exact ⟨⟨rfl, h2⟩, e⟩

end Sys2Proof.Machine
end

