-- ==== Sys2Proof/Machine/Panel.lean ====
section
/-! DEFINITION. What the module shows at its front panel and drives at its carrier pins, read from the state: no command, and no part of a step. -/

namespace Sys2Proof.Machine

/-- What a lamp of the front panel shows (R618). -/
inductive Lamp where
  | off | green | greenFlash | amber | red | redFlash
  deriving DecidableEq, Repr

/-- The status display, with the strap fault of R605 (R526), and the lamps (R618). `mode` is absent in SAFE, where the module has no execution mode (R6); `code` is the code of the
newest event of the three kinds that R526 names, raised within the last 24 h of TB3. -/
structure FrontPanel where
  slotB : Bool
  pairState : Nat
  mode : Option Nat
  code : Option Nat
  strapFault : Bool
  pwr : Lamp
  role : Lamp
  flt : Lamp
  link : List Bool
  deriving DecidableEq, Repr

/-- Every rail is within ±5 % of its nominal value (R618). -/
def State.railsGood (s : State) : Bool :=
  (List.range 20).all fun k =>
    let mv := s.fld (R.sensRailMv k)
    let nom := s.fld (R.sensRailNominal k)
    decide (nom * 95 ≤ mv * 100) && decide (mv * 100 ≤ nom * 105)

/-- The ROLE lamp (R618). -/
def roleLamp (pstate : Nat) : Lamp :=
  if pstate = psActive ∨ pstate = psSolo then .green else if pstate = psStandby then .greenFlash
  else if pstate = psSyncing ∨ pstate = psDetached then .amber else .off

/-- The front panel (R526, R618). -/
def State.frontPanel (s : State) : FrontPanel :=
  { slotB := s.slotB
    pairState := s.pstate
    mode := if s.pstate = psSafe then none else some (s.fld R.bookModeMode)
    code := s.bin.shown.bind fun e => if s.tb 3 ≤ e.2 + 86400000000000 then some e.1 else none
    strapFault := s.rst.strapDone && !s.flag R.rstcStrapValid
    pwr := if s.railsGood then .green else .off
    role := roleLamp s.pstate
    flt := if s.pstate = psSafe then .red else if s.flag R.fcolFirst0Valid then .redFlash else .off
    link := [s.flag (R.stnRingPortUp 0), s.flag (R.stnRingPortUp 1), s.flag (R.fabPortLink 2), s.flag (R.fabPortLink 3)] }

/-- The levels of FENCE_OUT and FENCE_OUT_N at the carrier: opposite; in a module episode the drivers are disabled and the carrier's pull
resistors hold both lines inactive (R280, R600, R625, R626). -/
def State.fencePins (s : State) : Bool × Bool :=
  let asserted := s.flag R.pairFenceOut && s.rst.episode.isNone
  (asserted, !asserted)

/-! ### What the PCIe host reads (R511, R512) -/

/-- Identity in the configuration header: device, class code, subsystem; the vendor ID is Psidel's, whose number no rule states (DESIGN CHOICE,
assumption 45). -/
def State.pcieIds (s : State) : Nat × Nat × Nat := (0x9120, 0x088000, if s.slotB then 2 else 1)

/-- The ring pairs that are free, bit k for pair k. -/
def State.freePairs (s : State) : Nat := ((List.range 32).filter fun p => s.pairFree p).foldl (fun n p => n + 2 ^ p) 0

/-- The naturally aligned 64-bit word of BAR0 at an offset (R512). -/
def State.bar0 (s : State) (off : Nat) : W64 :=
  if off < 0x1000 then
    (if off % 16 = 0 then BitVec.ofNat 64 (s.fld (R.qmgrQIdxPi (off / 16)) + s.fld (R.qmgrQIdxCi (off / 16)) * 2 ^ 32) else 0)
  else if off < 0x2100 then
    let v := (off - 0x1000) / 16
    let e := mget (0, 0) s.mail.vecAddr v
    if off % 16 = 0 then e.1 else putBits e.2 32 32 (if mget true s.mail.vecMask v then 1 else 0)
  else if 0x3000 ≤ off ∧ off < 0x3028 then
    let k := (off - 0x3000) / 8
    BitVec.ofNat 64 (((List.range 64).filter fun i => mget false s.mail.vecPend (64 * k + i)).foldl (fun n i => n + 2 ^ i) 0)
  else if off = 0x4000 then BitVec.ofNat 64 s.pair.serial
  else if off = 0x4008 then BitVec.ofNat 64 (s.freePairs + s.pstate * 2 ^ 32)
  else 0

/-- The ring entry words of BAR2 at an 8-byte aligned offset (R512). -/
def State.bar2 (s : State) (off : Nat) : W64 := mget 0 s.mail.qmem (off / 8)

/-- SFP+ TX_DISABLE of P0 to P3: asserted in an episode of cold reach (R600). -/
def State.txDisable (s : State) : Bool := s.rst.episode == some true

/-- The level of ALIVE_OUT: it holds its level through a reset (R275, R600). -/
def State.alivePin (s : State) : Bool := s.pair.aliveOut

end Sys2Proof.Machine
end

