-- ==== Sys2Proof/WellFormed.lean ====
section
/-! DEFINITION. Which commands can be spelled: every number of an operand within the width of the field that carries it, every
list within its length. A command outside is one that no frame, entry, record or register access can carry. -/

namespace Sys2Proof

/-- A number fits a field of `w` bits. -/
def fits (w n : Nat) : Bool := decide (n < 2 ^ w)

/-- A signed number fits a two's complement field of `w` bits. -/
def fitsInt (w : Nat) (n : Int) : Bool := decide (-(2 ^ (w - 1) : Int) ≤ n) && decide (n < 2 ^ (w - 1))

/-- A header entry (R490, R495): 32 ring pairs, LEN at most 1,008, parameter offsets inside it. -/
def Hdr.wf (h : Hdr) : Bool :=
  decide (h.pair < 32) && fits 16 h.tally && fits 16 h.client && fits 8 h.level && fits 16 h.len && fits 32 h.ack &&
    h.offs.all fun o => decide (o ≤ 1008)

/-- A signal record (R46). -/
def Rec.wf (r : Rec) : Bool := fits 48 r.stamp && fits 8 r.qual && fits 8 r.flags

/-- A grain of a pair link record (R284). -/
def GrainEntry.wf (e : GrainEntry) : Bool := fits 48 e.addr && e.words.length == 8

/-- The entries of one record: LEN at most 65,520 (R284). -/
def grainsWf (es : List GrainEntry) : Bool := decide (72 * es.length ≤ 65520) && es.all (·.wf)

/-- A Status record (R285). -/
def StatusRec.wf (r : StatusRec) : Bool := fits 3 r.state && fits 32 r.watch

/-- What a module brings to an election (R277). -/
def ElectInfo.wf (e : ElectInfo) : Bool := fits 32 e.held && fits 64 e.serial && fits 32 e.watch && fits 8 e.pairLevel && fits 32 e.version &&
  e.books.length == 2 && e.books.all (fits 384)

/-- An Ack record (R285). -/
def PairAck.wf : PairAck → Bool
  | .input _ w => fits 48 w
  | .commit _ w => fits 48 w
  | .command c t at2 => fits 16 c && fits 16 t && fits 64 at2
  | .mirror => true
  | .notice seq => fits 16 seq

/-- A station ring frame (R327, R328). -/
def StnFrame.wf (f : StnFrame) : Bool :=
  fits 8 f.ver && fits 8 f.typ && fits 8 f.station && fits 12 f.pair && fits 8 f.seg && fits 8 f.nseg && fits 16 f.first &&
    fits 16 f.count && fits 32 f.watch && fits 48 f.wake && fits 64 f.time && fits 64 f.aux &&
    decide (f.values.length ≤ 175) && decide (f.quals.length ≤ 175) && f.quals.all (fits 8)

/-- A HELLO (R362, R366). -/
def Hello.wf (h : Hello) : Bool :=
  fits 16 h.src && fits 32 h.watch && fits 64 h.serial && fits 8 h.port && fits 8 h.state && fits 16 h.cost && fits 16 h.heard &&
    fits 8 h.heardPort

/-- An adjacency of an LSR (R368). -/
def LsrAdj.wf (a : LsrAdj) : Bool := fits 16 a.addr && fits 8 a.lport && fits 8 a.nport && fits 16 a.cost

/-- A link-state record (R368). -/
def Lsr.wf (l : Lsr) : Bool :=
  fits 32 l.seq && fits 16 l.age && fits 64 l.serial && fits 8 l.state && fits 32 l.watch && decide (l.adj.length ≤ 16) &&
    l.adj.all (·.wf) && decide (l.subs.length ≤ 256) && l.subs.all fun p => fits 12 p.1 && fits 6 p.2

/-- A segment of a sounding (R380). -/
def SoundSeg.wf (f : SoundSeg) : Bool :=
  fits 8 f.hops && fits 16 f.src && fits 32 f.watch && fits 6 f.index && fits 8 f.seg && fits 8 f.nseg && fits 16 f.first &&
    fits 16 f.epoch && fits 48 f.wake && fits 32 f.interval && fits 32 f.layout && decide (f.recs.length ≤ 88) && f.recs.all (·.wf)

/-- A fabric frame (R362): LEN at most 1,480. -/
def FabFrame.wf (f : FabFrame) : Bool :=
  fits 8 f.typ && fits 8 f.hops && fits 16 f.dst && fits 16 f.src && fits 32 f.watch && decide (f.payload.length ≤ 1480)

/-- A CAN frame (R580): at most 64 data bytes, 8 without FDF. -/
def CanRx.wf (f : CanRx) : Bool :=
  fits (if f.ide then 29 else 11) f.id && decide (f.data.length ≤ if f.fdf then 64 else 8)

/-- A settings block of a pulse output (R416). -/
def TpoProg.wf (p : TpoProg) : Bool := fits 64 p.start && fits 64 p.period && fits 2 p.base && fits 32 p.width

/-- An unlock token (R475). -/
def Token.wf (t : Token) : Bool := t.bytes.length == 160

/-- A bulk chunk (R504): at most 992 bytes. -/
def Chunk.wf (c : Chunk) : Bool := fits 32 c.id && fits 32 c.offset && fits 32 c.total && fits 32 c.crc && decide (c.data.length ≤ 992)

/-- A PTP message (R404, R405). -/
def PtpMsg.wf : PtpMsg → Bool
  | .announce _ data _ => data.all (fits 64)
  | .followUp _ off => fitsInt 64 off
  | _ => true

/-- A measurement (R527): twelve sensors and twenty rails. -/
def SensorSet.wf (m : SensorSet) : Bool := m.temps.length == 12 && m.rails.length == 20

/-- An address of a session's transport (R495): fabric address, IPv4 address and UDP port. -/
def Transport.wf : Transport → Bool
  | .pcie => true
  | .fabric a => fits 16 a
  | .service ip port => fits 32 ip && fits 16 port

/-- A mode command (R109). -/
def ModeCmd.wf : ModeCmd → Bool
  | .stop => true
  | .run _ => true
  | .hold m => fits 8 m
  | .step c => fits 8 c

/-- PAIR_CONFIG (R320, R322). -/
def PairCfg.wf (c : PairCfg) : Bool :=
  fits 8 c.strict && fits 16 c.strictWait && fits 16 c.reclaim && fits 16 c.exercise && fits 16 c.pwait && fits 64 c.serial

/-- FABRIC_CONFIG (R360, R394). -/
def FabricCfg.wf (c : FabricCfg) : Bool := fits 16 c.pair && fits 16 c.cost2 && fits 16 c.cost3

/-- TIME_CONFIG of a port (R423). -/
def PtpPortCfg.wf (c : PtpPortCfg) : Bool :=
  fits 8 c.profile && fits 8 c.encap && fits 32 c.latIn && fits 32 c.latEg && fits 32 c.asym && fitsInt 8 c.syncInt &&
    fitsInt 8 c.annInt

/-- TIME_CONFIG (R423). -/
def TimeCfg.wf (c : TimeCfg) : Bool :=
  fits 8 c.domA && fits 8 c.domB && fits 8 c.domR && decide (c.ports.length ≤ 4) && c.ports.all (·.wf) && fits 8 c.prio1 &&
    fits 8 c.prio2 && fits 32 c.window

/-- LOG_CONFIG (R556). -/
def LogCfg.wf (c : LogCfg) : Bool := fits 16 c.interval && fits 16 c.freeze

/-- MODULE_CONFIG (R518). -/
def ModuleCfg.wf (c : ModuleCfg) : Bool :=
  fits 8 c.window && fits 8 c.expert && fits 32 c.ipv4 && fits 8 c.prefix_ && fits 16 c.stnEtype && fits 16 c.fabEtype &&
    fits 16 c.dwell && fits 8 c.escLimit

/-- A CAN filter (R588). -/
def CanFilter.wf (f : CanFilter) : Bool := fits 29 f.mtch && fits 2 f.action && fits 29 f.mask

/-- CAN_CONFIG (R592). -/
def CanCfg.wf (c : CanCfg) : Bool :=
  fits 8 c.ch && fits 8 c.nominal && fits 8 c.data && fits 29 c.watchId && decide (c.filters.length ≤ 64) && c.filters.all (·.wf)

/-- CAN_OBJECT (R592). -/
def CanObjCfg.wf (c : CanObjCfg) : Bool := fits 8 c.ch && fits 16 c.obj && decide (c.data.length ≤ 8)

/-- What KEY_PROVISION carries (R470, R473). -/
def KeyItem.wf : KeyItem → Bool
  | .wrapped slot _ => fits 8 slot
  | .pub slot key _ => fits 8 slot && key.length == 12
  | .cert c => decide (c.length ≤ 126)

/-- ACCESS_CONFIG (R465): window numbers and register addresses. -/
def AccessCfg.wf (c : AccessCfg) : Bool :=
  c.wins.all (fun w => fits 8 w.1) && c.tables.all (fun w => fits 32 w.1) && c.aps.all fun w => fits 8 w.1

/-- The body of a Command record (R295). -/
def MirBody.wf : MirBody → Bool
  | .mode m => m.wf
  | .tune inst word _ => fits 32 inst && fits 16 word
  | .signalWrite sig qual _ => fits 32 sig && fits 8 qual
  | .forceSet sig qual _ => fits 32 sig && fits 8 qual
  | .forceRelease sig => fits 32 sig
  | .forceReleaseAll cls => cls.all (fits 8)
  | .bookTurn slot nb => fits 8 slot && nb.all (fits 64)
  | .pairConfig c => c.wf
  | .fabricConfig c => c.wf
  | .timeConfig c => c.wf
  | .timeSet tai utc => fits 64 tai && fitsInt 16 utc
  | .tb2Step t => t.all (fits 64)
  | .stationRelease st => fits 8 st
  | .stationReleaseAll r => r.all (fits 8)
  | .logConfig c => c.wf
  | .canConfig c => c.wf
  | .canObject c => c.wf
  | .canSend ch obj => fits 8 ch && fits 16 obj

/-- A Logbook record (R544). -/
def LogRec.wf (r : LogRec) : Bool :=
  fits 64 r.seq && fits 8 r.typ && fits 8 r.flags && fits 8 r.cls && fits 48 r.wake && fits 32 r.len && fits 64 r.at3 && fits 64 r.at0 &&
    r.body.all (fits 64) && r.gs.all (·.wf) && r.cmd.all (·.wf)

/-- What ends a sweep (R313): a mode for each class, both slots' identities. -/
def SweepEnd.wf (x : SweepEnd) : Bool := x.modes.length == 8 && x.books.length == 2 && x.cfg.wf

/-- A module's part of a command (R634). -/
def Query.wf : Query → Bool
  | .tpoProgram _ p => p.wf
  | .tpiConfig _ e => fits 2 e
  | _ => true

/-- A directory entry (R52). -/
def DirEntry.wf (e : DirEntry) : Bool :=
  fits 8 e.typ && fits 8 e.bind && fits 3 e.cls && fits 1 e.kind && fits 8 e.owner && fits 8 e.unit && fits 16 e.pos && fits 32 e.retslot

/-- A block list entry (R129). -/
def ListEntry.wf (e : ListEntry) : Bool := fits 19 e.frame && fits 10 e.grains && fits 16 e.code && fits 18 e.rsv

/-- A Book image (R200, R201, R324, R376, R377, R563): its header fields and the rows of its sections within their widths. -/
def Book.wf (b : Book) : Bool :=
  fits 32 b.image.length && fits 32 b.libRevision &&
    b.sched.classes.length == 8 &&
    b.sched.classes.all (fun c => fits 32 c.period && fits 32 c.offset && fits 32 c.margin && fits 8 c.lanes && fits 8 c.skip) &&
    b.dir.all (fun r => fits 18 r.sig && r.e.wf) &&
    b.code.all (fun l => decide (l.lane < 8) && l.words.all fun w => fits 16 w.1) &&
    b.lists.all (fun l => decide (l.lane < 8) && decide (l.cls < 8) && fits 19 l.base && l.entries.all (·.wf)) &&
    b.frames.all (fun f => fits 19 f.grain && f.words.length == 8) &&
    b.insts.all (fun i => fits 32 i.inst && decide (i.lane < 8) && decide (i.cls < 8) && fits 19 i.frame && fits 16 i.typ) &&
    b.retSigs.all (fun r => fits 18 r.sig && fits 14 r.slot) &&
    decide (b.rings.length ≤ 2) && b.stations.all (fun t => fits 8 t.num) &&
    b.pubs.all (fun p => fits 6 p.idx && decide (p.cls < 8)) && b.subs.all fun p => fits 8 p.idx && fits 12 p.pair && fits 6 p.sidx

/-- A command that can be spelled. The lane instructions and most register writes, records and pin events hold fields of fixed width and are
always well-formed. -/
def Instr.wf : Instr → Bool
  | .classNominalStart _ t => fits 64 t
  | .grainTransferDone _ grain _ _ => fits 19 grain
  | .lanePartComplete _ t => fits 64 t
  | .nominalPublication _ t => fits 64 t
  | .holdLimitExpiry _ t => fits 64 t
  | .effectInstant t => fits 64 t
  | .moduleStatus h => h.wf
  | .moduleConfig h c => h.wf && c.wf
  | .modeCmd h m => h.wf && m.wf
  | .moduleReset h _ => h.wf
  | .clientOpen h client level idle => h.wf && fits 16 client && fits 8 level && idle.all (fits 32)
  | .clientClose h => h.wf
  | .queueRead h q _ count => h.wf && fits 8 q && fits 16 count
  | .queueAdvance h q _ => h.wf && fits 8 q
  | .queueBind h q holdoff notify dest destRing => h.wf && fits 8 q && fits 16 holdoff && notify.all (fits 16) && fits 16 dest && fits 8 destRing
  | .eventRegister h q ranges => h.wf && fits 8 q && ranges.all (fun p => fits 16 p.1 && fits 16 p.2)
  | .queueRelease h q => h.wf && fits 8 q
  | .accessStatus h => h.wf
  | .accessConfig h c => h.wf && c.wf
  | .keyStatus h => h.wf
  | .keyIdentity h => h.wf
  | .keyProvision h k => h.wf && k.wf
  | .keyCommit h => h.wf
  | .debugChallenge h => h.wf
  | .debugUnlock h t _ => h.wf && t.wf
  | .debugClose h => h.wf
  | .sensorRead h => h.wf
  | .sensorConfig h limit => h.wf && fits 16 limit
  | .signalRead h first count => h.wf && fits 32 first && fits 16 count
  | .signalWrite h sig _ qual => h.wf && fits 32 sig && fits 8 qual
  | .directoryRead h first count => h.wf && fits 32 first && fits 16 count
  | .paramRead h inst first count => h.wf && fits 32 inst && fits 32 first && fits 16 count
  | .paramTune h inst word _ => h.wf && fits 32 inst && fits 16 word
  | .bookStatus h => h.wf
  | .bookLoad h i c b => h.wf && fits 8 i && c.wf && b.wf
  | .bookCheck h i => h.wf && fits 8 i
  | .bookReport h i => h.wf && fits 8 i
  | .bookTurn h i _ => h.wf && fits 8 i
  | .bookSelect h i => h.wf && fits 8 i
  | .bookErase h i => h.wf && fits 8 i
  | .turnArmingDone _ t => fits 64 t
  | .bulkChunk h for_ c => h.wf && (match for_ with | .book slot => fits 8 slot | _ => true) && c.wf
  | .forceList h first count => h.wf && fits 32 first && fits 16 count
  | .forceSet h sig qual _ => h.wf && fits 32 sig && fits 8 qual
  | .forceRelease h sig => h.wf && fits 32 sig
  | .forceReleaseAll h cls => h.wf && cls.all (fits 8)
  | .pairStatus h => h.wf
  | .pairHandover h _ => h.wf
  | .pairConfig h c => h.wf && c.wf
  | .pairTimes h => h.wf
  | .stationStatus h first count => h.wf && fits 32 first && fits 16 count
  | .ringStatus h r => h.wf && fits 8 r
  | .stationRelease h st => h.wf && fits 8 st
  | .stationReleaseAll h ring => h.wf && ring.all (fits 8)
  | .stationClear h _ n => h.wf && fits 16 n
  | .stationCapture h r _ count => h.wf && fits 8 r && fits 16 count
  | .fabricStatus h => h.wf
  | .fabricConfig h c => h.wf && c.wf
  | .fabricNodes h first count => h.wf && fits 32 first && fits 16 count
  | .fabricRoutes h first count => h.wf && fits 32 first && fits 16 count
  | .soundingStatus h => h.wf
  | .fabricClear h port => h.wf && port.all (fits 8)
  | .timeStatus h => h.wf
  | .timeConfig h c => h.wf && c.wf
  | .timeSet h _ utc => h.wf && fitsInt 16 utc
  | .tb2Step h _ => h.wf
  | .tpoProgram h _ _ p => h.wf && p.wf
  | .tpiConfig h _ _ edge => h.wf && fits 8 edge
  | .tpiRead h _ _ => h.wf
  | .faultStatus h _ => h.wf
  | .faultHistory h _ => h.wf
  | .faultClear h _ _ _ => h.wf
  | .eventlogStatus h => h.wf
  | .eventlogRead h _ count => h.wf && fits 16 count
  | .logStatus h => h.wf
  | .logConfig h c => h.wf && c.wf
  | .logFreeze h _ => h.wf
  | .logRelease h num => h.wf && fits 32 num
  | .logExport h win first last => h.wf && win.all (fits 32) && fits 32 first && fits 64 last
  | .logCheckpoint h => h.wf
  | .replayImport h c recs => h.wf && c.wf && recs.all (fun l => l.all (·.wf))
  | .replayStart h _ v stop _ => h.wf && fits 64 v && fits 64 stop
  | .replayStatus h => h.wf
  | .replayStop h => h.wf
  | .fieldStatus h _ => h.wf
  | .fieldTrim h k _ _ => h.wf && fits 16 k
  | .fieldClear h k => h.wf && fits 16 k
  | .canStatus h _ => h.wf
  | .canConfig h c => h.wf && c.wf
  | .canObject h c => h.wf && c.wf
  | .canSend h n k => h.wf && fits 16 n && fits 16 k
  | .canRead h n first count => h.wf && fits 16 n && fits 32 first && fits 16 count
  | .canRecover h n => h.wf && fits 16 n
  | .canClear h n => h.wf && fits 16 n
  | .updateStatus h => h.wf
  | .updateLoad h c _ => h.wf && c.wf
  | .updateActivate h => h.wf
  | .updateCommit h => h.wf
  | .updateRevert h => h.wf
  | .expertRead h _ colour width count => h.wf && fits 8 colour && fits 8 width && fits 16 count
  | .expertWrite h _ colour width ws => h.wf && fits 8 colour && fits 8 width && decide (ws.length ≤ 125)
  | .hostApertureAccess _ _ _ w => w.all (fun l => decide (l.length ≤ 256))
  | .mboxFrameRx via _ _ _ _ _ entries => via.wf && entries.all (fun e => decide (e.length ≤ 8))
  | .acfgViolClear _ occ => occ.all (fun x => fits 48 x.2.1 && fits 8 x.2.2.1 && fits 8 x.2.2.2.1)
  | .faultReportTaken n _ => fits 16 n
  | .acfgWindowCheck _ _ parity => parity.all (fits 8)
  | .pairLinkUp _ r e => r.wf && e.all (·.wf)
  | .statusRecordRx _ r e => r.wf && e.all (·.wf)
  | .ackRecordRx _ a => a.wf
  | .relayRecordRx _ _ f => f.wf
  | .forwardRecordRx _ _ f t => f.wf && fits 64 t
  | .inputRecordRx _ _ _ _ _ es => grainsWf es
  | .commitRecordRx _ _ _ _ _ _ es => grainsWf es
  | .commandRecordRx _ _ _ _ b params t => b.wf && params.all (fits 64) && fits 64 t
  | .mirrorRecordRx _ es => grainsWf es
  | .mirrorSweepDone x => x.wf
  | .bookRecordRx _ _ _ _ b => b.wf
  | .queryRecordRx _ q offs => q.wf && offs.all (fits 16)
  | .queryReplyRx _ _ status detail bytes => fits 16 status && fits 32 detail && decide (bytes.length ≤ 65520)
  | .stationSamplingInstant _ start => fits 64 start
  | .stationInputFrameRx _ f t => f.wf && fits 64 t
  | .stationCutoff _ start => fits 64 start
  | .stationAckRx _ f t => f.wf && fits 64 t
  | .stationJoinRx _ f t => f.wf && fits 64 t
  | .helloRx _ h => h.wf
  | .lsrRx _ _ hops l => fits 8 hops && l.wf
  | .soundingFrameRx _ f _ t => f.wf && fits 64 t
  | .soundingAgeCheck _ start => fits 64 start
  | .announceRx _ _ _ hops => fits 8 hops
  | .ptpSyncRx _ _ off => fitsInt 64 off
  | .ptpEgressStamp _ _ _ _ t => fits 64 t
  | .pairTimeSync tb0 tb1 tb2 inc3 => fits 96 tb0 && fits 96 tb1 && fits 96 tb2 && fits 64 inc3
  | .sensorSample m => m.wf
  | .firmwareBoot x => decide (x.lanes.length ≤ 8)
  | .checkpointBegin t => fits 64 t
  | .logStagingDrain n => fits 16 n
  | .fieldLinkFrameRx _ _ t => fits 64 t
  | .aiConversionEnd t ai ao => fits 64 t && decide (ai.length ≤ 8) && decide (ao.length ≤ 4)
  | .aiValueWrite _ start => fits 64 start
  | .canPeriodicTx _ _ t _ _ => fits 64 t
  | .canFrameRx _ f _ => f.all (·.wf)
  | .strapDecodeDone v ref => fits 64 v && fits 16 ref
  | .ptpMessageRx _ msg => msg.wf
  | .fabricTransitFrameRx _ f _ => f.wf
  | .nop .. | .endScan .. | .mov .. | .ldi .. | .ldk .. | .get .. | .iadd .. | .isub .. | .imul .. | .idiv .. | .irem ..
  | .ineg .. | .iabs .. | .imin .. | .imax .. | .isat32 .. | .iaddw .. | .isubw .. | .imulw .. | .andB .. | .orB ..
  | .xorB .. | .notB .. | .shl .. | .shr .. | .sar .. | .rol .. | .popc .. | .bnot .. | .boolOf .. | .qof .. | .ieq ..
  | .ilt .. | .ile .. | .ult .. | .feq .. | .flt .. | .fle .. | .fun .. | .tst .. | .pand .. | .por .. | .pnot ..
  | .pmov .. | .fadd .. | .fsub .. | .fmul .. | .fdiv .. | .fsqrt .. | .fma .. | .fmin .. | .fmax .. | .fabs ..
  | .fneg .. | .fclamp .. | .frint .. | .ftrunc .. | .ffloor .. | .fceil .. | .itof .. | .ftoi .. | .ftoin .. | .fexp ..
  | .fln .. | .fsin .. | .fcos .. | .fatan2 .. | .ldf .. | .stf .. | .ldfx .. | .stfx .. | .ldsv .. | .ldsm .. | .sts ..
  | .stsr .. | .tstc .. | .unassignedOpcode .. | .crossingCopyDone .. | .blockScanStart .. | .storeDrain ..
  | .frameWriteBack .. | .backfillDone .. | .retainSlotWrite .. | .bookVerifyDone .. | .turnInstant | .turnArmTimeout
  | .turnWork .. | .bulkTransferTimeout .. | .replayPublishCompare .. | .hostIndexWrite .. | .hostRingEntryWrite ..
  | .msixHoldoffExpiry .. | .clientIdleTimeout .. | .pcieLinkDownTimeout | .fabricMsgTransmit .. | .registerWrite ..
  | .dirOwnfltClear .. | .bookStatsClear .. | .laneOofClear .. | .cmpLock .. | .cmpInjArm .. | .cmpFaultClear ..
  | .laneDebugHalt .. | .laneDebugStep .. | .laneDebugResume .. | .laneDebugWrite .. | .laneDebugRead ..
  | .breakpointHit .. | .debugQueuePerform .. | .pairFenceMismatchClear .. | .pairLinkCntClear .. | .pairTakeClear ..
  | .stnLock .. | .stnRingCntClear .. | .stnStationCntClear .. | .fabLock .. | .fabPortCntClear .. | .timeSnap ..
  | .timeIncWrite .. | .timeStepWrite .. | .tpoCfgWrite .. | .tpiCntClear .. | .ptpLostClear .. | .fcolLock ..
  | .fcolAclear .. | .fcolTestStep .. | .fcolFirstClear .. | .acfgLock .. | .acfgLoad .. | .acfgTagWrite ..
  | .dbgGateClose .. | .dbgNewchal .. | .challengeExpiry | .qmgrLostClear .. | .hostLock .. | .hostCntClear ..
  | .hostLinkLostClear .. | .fldLinklossClear .. | .fldAoFlagsClear .. | .canCtrlWrite .. | .canCntClearReg ..
  | .canObjNewClear .. | .rstcSwrstWarm .. | .rstcSwrstCold .. | .rstcIslrstWrite .. | .rstcWdogKick ..
  | .rstcHoldWrite .. | .rstcCauseClear .. | .windowClose .. | .checkerLate .. | .laneStall .. | .spareSelfTest ..
  | .brokenReportPath .. | .classCResetTimeout | .escalationExpiry | .collectorCopyMismatch .. | .alwaysOnClockFault
  | .handshakeTimeout .. | .islandClockFault .. | .tb3CopyRx | .tb3CopyTimeout | .sramScrubPass .. | .dramScrubPass ..
  | .aliveOutToggle | .aliveInSilent | .aliveInToggling | .statusRecordSend | .pairLinkLost .. | .handoverNoticeRx ..
  | .leaveNoticeRx .. | .handoverRequestRx .. | .handoverReadyRx .. | .handoverAtRx .. | .lagNoticeRx .. | .reclaimNoticeRx ..
  | .queryReplyTimeout .. | .startupTestsComplete | .partnerWaitExpiry | .catchUpDone .. | .fenceInValid
  | .fenceInMismatch .. | .fenceInCleared | .strictWaitExpiry .. | .handoverAtAckTimeout | .handoverRetry
  | .handoverInstant | .crossfadeStep .. | .canNormalAfterH | .ejectNAssert | .ejectNDeassert | .yieldPress
  | .reclaimTimeExpiry | .exerciseIntervalExpiry | .configRepeat .. | .safeFrameRepeat | .safeSetRebuild | .sfpInsert ..
  | .helloSend .. | .adjHelloTimeout .. | .fabricPortLinkUp .. | .fabricPortLinkDown .. | .mkaSecured ..
  | .macsecTimeout .. | .sakRekey .. | .lsrOriginate | .lsrAgeExpiry .. | .routeRecompute | .ptpAnnounceTimeout ..
  | .tb2FollowUpdate | .timeMasterHoldoverExpiry .. | .tpoLeadingEdge .. | .tpoTrailingEdge .. | .tpiEdge ..
  | .binnacleWdogExpiry | .binnacleWdogReset | .eventLogWrite | .firmwareTrialTimeout | .checkpointReadDone
  | .fieldLinkLoss | .islandHoldExpiry .. | .openLineAssert | .fldFirstSwitchCommand | .aoApply .. | .aoReadbackJudge ..
  | .fieldStoreReady | .fieldTrimTimeout | .canRateProbe .. | .canFifoMove .. | .canWatchSend .. | .canWatchRx ..
  | .canBusOffRecovery .. | .powerOnResetAssert | .presentNDeassert | .carrierResetAssert | .resetSourceRelease ..
  | .islandRelease .. | .tapBypass .. | .tapIdcode | .tapSamplePreload .. | .tapExtest | .laneReset | .tapMemoryRead ..
  | .tapMemoryWrite .. | .watchAnnounceRepeat | .pairRecordBadCheck .. | .pairRecordResendRequest .. | .pcieLinkDown
  | .pcieLinkUp .. | .msixTableWrite .. | .ptpMasterSendInterval .. | .alwaysOnClockReturn | .faultConditionCleared ..
  | .canBusIdle .. | .bookPartnerResultRx .. => true

end Sys2Proof
end

