-- ==== Sys2Proof/Tests/Slice0.lean ====
section
/-! SUPPORT. Tests: well-formedness, words of lane instructions from the manual's encodings, small steps, and for every statement with
hypotheses a witness: a state and operands that meet the hypotheses of each of its clauses. -/

namespace Sys2Proof.Tests

open Sys2Proof Sys2Proof.Machine

/-! ### Small operands -/

def h0 : Hdr := ⟨1, 10, 77, 0, 0, 0, true, .service 5 5, 0, [0, 4, 8, 12]⟩
def ch0 : Chunk := ⟨9, 0, 3, crc32c [1, 2, 3], [1, 2, 3]⟩
def pc0 : PairCfg := ⟨2, 200, 10, true, 30, 120, 0⟩
def can0 : CanCfg := ⟨0, 1, 1, false, false, 0, [⟨0x10, false, 1, 0x7FF⟩]⟩
def obj0 : CanObjCfg := ⟨0, 0, 0, 0, [1]⟩

/-- The header of a firmware image of 100 bytes (R536): PAIR_LEVEL 1, VERSION 2, SECVER 3. -/
def fw0 : FwImage := ⟨leBytes 4 0x4B465743 ++ leBytes 2 1 ++ leBytes 2 1 ++ leBytes 4 2 ++ leBytes 4 3 ++ leBytes 4 100 ++ List.replicate 44 0, 100, true⟩

def tpo0 : TpoProg := ⟨1000000, 0, 3, false, 100, true⟩

/-- An unlock token (R475) of scope 1, its NOT_AFTER at 2^40. -/
def tokOf (keysel serial : Nat) (challenge : W64) : Token :=
  ⟨leBytes 4 0x4B444447 ++ leBytes 2 1 ++ leBytes 1 keysel ++ [1] ++ leBytes 8 serial ++ leBytes 8 challenge.toNat ++ leBytes 8 (2 ^ 40) ++
    List.replicate 128 0, true⟩

def tok0 : Token := tokOf 6 1 0
def st0 : StatusRec := ⟨2, true, false, false, false, 3⟩
def el0 : ElectInfo := ⟨true, true, false, 0, 2, 3, 1, 0, [0, 0], false⟩
def sf0 : StnFrame := ⟨true, false, true, 1, 2, 1, false, false, false, 0, 0, 1, 1, 1, 0, 0, 400000, 9 * 256, [3], [4]⟩
def he0 : Hello := ⟨0x31, 0, 5, 2, 1, 10, 0x10, 2⟩
def ls0 : Lsr := ⟨1, 3600, 5, 1, 0, [⟨0x10, 2, 3, 10⟩], [(1, 0)]⟩
def ss0 : SoundSeg := ⟨4, 0x30, 0, 1, 0, 1, 1, 0, 6, 1000, 77, [⟨5, 1, 4, 0⟩]⟩
def ff0 : FabFrame := ⟨true, true, true, 4, 3, 0x30, 0x40, 0, [1, 2]⟩
def se0 : SensorSet := ⟨List.replicate 12 320, List.replicate 20 1000, 24000, 900, 24000, 900, 0, 0⟩
def cr0 : CanRx := ⟨0x10, false, false, false, false, [1, 2]⟩
def sw0 : SweepEnd := ⟨[1, 2], 0, 0, 0, 1, 0, List.replicate 8 1, pc0⟩
def lr0 : LogRec := ⟨7, 1, 0, 0, 3, 40, 100, 100, [5], [], [], none⟩

/-- A Book image (R200, R201): PROGRAM_ID 7, REVISION 1, RMAP_ID 3, KEY_INDEX 0, one empty section of TYPE 2, a signature of zeros. -/
def img0 : List Byte :=
  leBytes 4 0x4B424348 ++ leBytes 2 1 ++ leBytes 2 0 ++ leBytes 8 7 ++ leBytes 4 1 ++ leBytes 4 240 ++ leBytes 8 3 ++ leBytes 2 1 ++
    List.replicate 94 0 ++ leBytes 2 2 ++ leBytes 2 0 ++ leBytes 4 144 ++ List.replicate 104 0

/-- A Book of one class on lane 0: two blocks, four stations and subscriptions as the witnesses need them. -/
def bk0 : Book where
  image := img0
  decryptBad := none
  plainBad := none
  libOk := true
  libRevision := 1
  sched := ⟨[⟨2, 0, 100, 1, 2⟩, ⟨4, 0, 200, 2, 2⟩] ++ List.replicate 6 ⟨0, 0, 0, 0, 0⟩, 50, true, none, []⟩
  dir := []
  code := [⟨0, [(0, 0x01000000), (1, 0)]⟩]
  lists := [⟨0, 0, 100, [⟨10, 2, 0, false, 0⟩]⟩]
  frames := [⟨10, [0x0001010700000005, 0x2000000000000010, 2, 3, 4, 5, 6, 7]⟩]
  insts := [⟨5, 0, 0, 10, 2, 0x1007, 4, 0⟩]
  cross := [⟨0, 0, [(16, 0)]⟩]
  retSigs := []
  retInsts := []
  rings := [⟨true, 100⟩, ⟨false, 50⟩]
  stations := [⟨1, 0, 1, 1, 1, 10, 20, 3, false, 9, []⟩]
  pubs := [⟨0, 0, 1, [0]⟩]
  subs := [⟨0, 3, 1, 77, 2⟩]
  field := ⟨[⟨true, true, 2⟩, ⟨false, false, 1⟩], [0, 1, 2, 3]⟩

/-! ### Small states -/

/-- The state with register fields set. -/
def withFlds (s : State) (l : List (Fld × Nat)) : State := l.foldl (fun s e => s.setFld e.1 e.2) s

/-- A step ended in a next state that passes a check. -/
def nextIs (o : Host.Outcome State Fault Refusal) (f : State → Bool) : Bool :=
  match o with
  | .next t => f t
  | _ => false

/-! ### WellFormed: a well-formed term of each kind, and an ill-formed one for each check -/

/-- Commands with small operands are well-formed. -/
theorem test_wf_accepts_1 : ∀ i ∈ ([
    .classNominalStart 0 0, .grainTransferDone 0 0 false false, .lanePartComplete 0 0, .nominalPublication 0 0, .holdLimitExpiry 0 0,
    .effectInstant 0, .moduleStatus h0, .moduleConfig h0 ModuleCfg.init, .modeCmd h0 .stop, .moduleReset h0 false, .clientOpen h0 0 0 none,
    .clientClose h0, .queueRead h0 0 0 0, .queueAdvance h0 0 0, .queueBind h0 0 0 [] 0 0, .eventRegister h0 0 [], .queueRelease h0 0,
    .accessStatus h0, .accessConfig h0 ⟨[], [], []⟩, .keyStatus h0, .keyIdentity h0, .keyProvision h0 (.cert []), .keyCommit h0,
    .debugChallenge h0, .debugUnlock h0 tok0 none, .debugClose h0, .sensorRead h0, .sensorConfig h0 0, .signalRead h0 0 0,
    .signalWrite h0 0 0 0, .directoryRead h0 0 0, .paramRead h0 0 0 0, .paramTune h0 0 0 0, .bookStatus h0, .bookLoad h0 0 ch0 bk0,
    .bookCheck h0 0, .bookReport h0 0, .bookTurn h0 0 none, .bookSelect h0 0, .bookErase h0 0, .turnArmingDone false 0,
    .bulkChunk h0 .update ch0, .forceList h0 0 0, .forceSet h0 0 0 0, .forceRelease h0 0, .forceReleaseAll h0 none, .pairStatus h0,
    .pairHandover h0 none, .pairConfig h0 pc0, .pairTimes h0, .stationStatus h0 0 0, .ringStatus h0 0, .stationRelease h0 0,
    .stationReleaseAll h0 none, .stationClear h0 false 0, .stationCapture h0 0 false 0, .fabricStatus h0, .fabricConfig h0 ⟨1, 10, 10⟩,
    .fabricNodes h0 0 0, .fabricRoutes h0 0 0, .soundingStatus h0, .fabricClear h0 none, .timeStatus h0, .timeConfig h0 timeCfgInit,
    .timeSet h0 0 0, .tb2Step h0 none, .tpoProgram h0 .own 0 tpo0, .tpiConfig h0 .own 0 0, .tpiRead h0 false 0, .faultStatus h0 .own,
    .faultHistory h0 false, .faultClear h0 .own false false, .eventlogStatus h0, .eventlogRead h0 0 0, .logStatus h0,
    .logConfig h0 ⟨10, 10⟩, .logFreeze h0 0, .logRelease h0 0, .logExport h0 none 0 0, .logCheckpoint h0, .replayImport h0 ch0 none,
    .replayStart h0 false 0 0 false, .replayStatus h0, .replayStop h0, .fieldStatus h0 .own, .fieldTrim h0 0 .drive4 0, .fieldClear h0 0,
    .canStatus h0 0, .canConfig h0 can0, .canObject h0 obj0, .canSend h0 0 0, .canRead h0 0 0 0, .canRecover h0 0, .canClear h0 0,
    .updateStatus h0, .updateLoad h0 ch0 false, .updateActivate h0, .updateCommit h0, .updateRevert h0, .expertRead h0 0 0 0 0,
    .expertWrite h0 0 0 0 [], .hostApertureAccess 0 0 0 none, .mboxFrameRx .pcie false 0 0 0 0 [], .acfgViolClear 0 none,
    .faultReportTaken 0 [], .acfgWindowCheck 0 0 none, .pairLinkUp 0 st0 none, .statusRecordRx 0 st0 none, .ackRecordRx ⟨0, 0⟩ .mirror,
    .relayRecordRx ⟨0, 0⟩ 0 sf0, .forwardRecordRx ⟨0, 0⟩ 0 sf0 0, .inputRecordRx ⟨0, 0⟩ 0 0 false false [],
    .commitRecordRx ⟨0, 0⟩ 0 0 false false false [], .commandRecordRx ⟨0, 0⟩ 0 0 0 (.mode .stop) [] 0, .mirrorRecordRx ⟨0, 0⟩ [],
    .mirrorSweepDone sw0, .bookRecordRx ⟨0, 0⟩ 0 false false bk0, .queryRecordRx ⟨0, 0⟩ .pairStatus [], .queryReplyRx ⟨0, 0⟩ 0 0 0 [],
    .stationSamplingInstant 0 0, .stationInputFrameRx 0 sf0 0, .stationCutoff 0 0, .stationAckRx 0 sf0 0, .stationJoinRx 0 sf0 0,
    .helloRx 0 he0, .lsrRx 0 0 0 ls0, .soundingFrameRx 0 ss0 false 0, .soundingAgeCheck 0 0, .announceRx 0 0 0 0, .ptpSyncRx 0 false 0,
    .ptpEgressStamp 0 0 0 0 0, .pairTimeSync 0 0 0 0, .sensorSample se0, .firmwareBoot ⟨1, [], []⟩, .checkpointBegin 0, .logStagingDrain 0,
    .fieldLinkFrameRx false 0 0, .aiConversionEnd 0 [] [], .aiValueWrite 0 0, .canPeriodicTx 0 0 0 false none, .canFrameRx 0 none none,
    .strapDecodeDone 0 0, .ptpMessageRx 0 .management, .fabricTransitFrameRx 0 ff0 false] : List Instr), i.wf = true := by decide +kernel

/-- One command for each check of `Instr.wf`, with the operand that the check refuses. -/
theorem test_wf_refuses_1 : ∀ i ∈ ([
    .classNominalStart 0 18446744073709551616, .grainTransferDone 0 524288 false false, .lanePartComplete 0 18446744073709551616,
    .nominalPublication 0 18446744073709551616, .holdLimitExpiry 0 18446744073709551616, .effectInstant 18446744073709551616,
    .moduleStatus { h0 with pair := 32 }, .moduleConfig { h0 with pair := 32 } ModuleCfg.init,
    .moduleConfig h0 { ModuleCfg.init with window := 256 }, .modeCmd { h0 with pair := 32 } .stop, .modeCmd h0 (.hold 256),
    .moduleReset { h0 with pair := 32 } false, .clientOpen { h0 with pair := 32 } 0 0 none, .clientOpen h0 65536 0 none,
    .clientOpen h0 0 256 none, .clientOpen h0 0 0 (some 4294967296), .clientClose { h0 with pair := 32 },
    .queueRead { h0 with pair := 32 } 0 0 0, .queueRead h0 256 0 0, .queueRead h0 0 0 65536, .queueAdvance { h0 with pair := 32 } 0 0,
    .queueAdvance h0 256 0, .queueBind { h0 with pair := 32 } 0 0 [] 0 0, .queueBind h0 256 0 [] 0 0, .queueBind h0 0 65536 [] 0 0,
    .queueBind h0 0 0 [65536] 0 0, .queueBind h0 0 0 [] 65536 0, .queueBind h0 0 0 [] 0 256, .eventRegister { h0 with pair := 32 } 0 [],
    .eventRegister h0 256 [], .queueRelease { h0 with pair := 32 } 0, .queueRelease h0 256, .accessStatus { h0 with pair := 32 },
    .accessConfig { h0 with pair := 32 } ⟨[], [], []⟩, .accessConfig h0 ⟨[(256, 0)], [], []⟩, .keyStatus { h0 with pair := 32 },
    .keyIdentity { h0 with pair := 32 }, .keyProvision { h0 with pair := 32 } (.cert []), .keyProvision h0 (.wrapped 256 true),
    .keyCommit { h0 with pair := 32 }, .debugChallenge { h0 with pair := 32 }, .debugUnlock { h0 with pair := 32 } tok0 none,
    .debugUnlock h0 { tok0 with bytes := [] } none, .debugClose { h0 with pair := 32 }, .sensorRead { h0 with pair := 32 },
    .sensorConfig { h0 with pair := 32 } 0, .sensorConfig h0 65536, .signalRead { h0 with pair := 32 } 0 0, .signalRead h0 4294967296 0,
    .signalRead h0 0 65536, .signalWrite { h0 with pair := 32 } 0 0 0, .signalWrite h0 4294967296 0 0, .signalWrite h0 0 0 256,
    .directoryRead { h0 with pair := 32 } 0 0, .directoryRead h0 4294967296 0, .directoryRead h0 0 65536,
    .paramRead { h0 with pair := 32 } 0 0 0, .paramRead h0 4294967296 0 0, .paramRead h0 0 4294967296 0, .paramRead h0 0 0 65536,
    .paramTune { h0 with pair := 32 } 0 0 0, .paramTune h0 4294967296 0 0, .paramTune h0 0 65536 0, .bookStatus { h0 with pair := 32 },
    .bookLoad { h0 with pair := 32 } 0 ch0 bk0, .bookLoad h0 256 ch0 bk0, .bookLoad h0 0 { ch0 with id := 2 ^ 32 } bk0,
    .bookLoad h0 0 ch0 { bk0 with libRevision := 2 ^ 32 }, .bookCheck { h0 with pair := 32 } 0, .bookCheck h0 256,
    .bookReport { h0 with pair := 32 } 0, .bookReport h0 256, .bookTurn { h0 with pair := 32 } 0 none, .bookTurn h0 256 none,
    .bookSelect { h0 with pair := 32 } 0, .bookSelect h0 256, .bookErase { h0 with pair := 32 } 0, .bookErase h0 256,
    .turnArmingDone false 18446744073709551616, .bulkChunk { h0 with pair := 32 } .update ch0,
    .bulkChunk h0 .update { ch0 with id := 2 ^ 32 }, .forceList { h0 with pair := 32 } 0 0, .forceList h0 4294967296 0,
    .forceList h0 0 65536, .forceSet { h0 with pair := 32 } 0 0 0, .forceSet h0 4294967296 0 0, .forceSet h0 0 256 0,
    .forceRelease { h0 with pair := 32 } 0, .forceRelease h0 4294967296, .forceReleaseAll { h0 with pair := 32 } none,
    .forceReleaseAll h0 (some 256), .pairStatus { h0 with pair := 32 }, .pairHandover { h0 with pair := 32 } none,
    .pairConfig { h0 with pair := 32 } pc0, .pairConfig h0 { pc0 with strict := 256 }, .pairTimes { h0 with pair := 32 },
    .stationStatus { h0 with pair := 32 } 0 0, .stationStatus h0 4294967296 0, .stationStatus h0 0 65536,
    .ringStatus { h0 with pair := 32 } 0, .ringStatus h0 256, .stationRelease { h0 with pair := 32 } 0, .stationRelease h0 256,
    .stationReleaseAll { h0 with pair := 32 } none, .stationReleaseAll h0 (some 256), .stationClear { h0 with pair := 32 } false 0,
    .stationClear h0 false 65536, .stationCapture { h0 with pair := 32 } 0 false 0, .stationCapture h0 256 false 0,
    .stationCapture h0 0 false 65536, .fabricStatus { h0 with pair := 32 }, .fabricConfig { h0 with pair := 32 } ⟨1, 10, 10⟩,
    .fabricConfig h0 ⟨65536, 10, 10⟩, .fabricNodes { h0 with pair := 32 } 0 0, .fabricNodes h0 4294967296 0, .fabricNodes h0 0 65536,
    .fabricRoutes { h0 with pair := 32 } 0 0, .fabricRoutes h0 4294967296 0, .fabricRoutes h0 0 65536,
    .soundingStatus { h0 with pair := 32 }, .fabricClear { h0 with pair := 32 } none, .fabricClear h0 (some 256),
    .timeStatus { h0 with pair := 32 }, .timeConfig { h0 with pair := 32 } timeCfgInit, .timeConfig h0 { timeCfgInit with domA := 256 },
    .timeSet { h0 with pair := 32 } 0 0, .timeSet h0 0 32768, .tb2Step { h0 with pair := 32 } none,
    .tpoProgram { h0 with pair := 32 } .own 0 tpo0, .tpoProgram h0 .own 0 { tpo0 with base := 4 }] : List Instr), i.wf = false := by decide +kernel

theorem test_wf_refuses_2 : ∀ i ∈ ([
    .tpiConfig { h0 with pair := 32 } .own 0 0, .tpiConfig h0 .own 0 256, .tpiRead { h0 with pair := 32 } false 0,
    .faultStatus { h0 with pair := 32 } .own, .faultHistory { h0 with pair := 32 } false,
    .faultClear { h0 with pair := 32 } .own false false, .eventlogStatus { h0 with pair := 32 }, .eventlogRead { h0 with pair := 32 } 0 0,
    .eventlogRead h0 0 65536, .logStatus { h0 with pair := 32 }, .logConfig { h0 with pair := 32 } ⟨10, 10⟩, .logConfig h0 ⟨65536, 10⟩,
    .logFreeze { h0 with pair := 32 } 0, .logRelease { h0 with pair := 32 } 0, .logRelease h0 4294967296,
    .logExport { h0 with pair := 32 } none 0 0, .logExport h0 (some 4294967296) 0 0, .logExport h0 none 4294967296 0,
    .logExport h0 none 0 18446744073709551616, .logCheckpoint { h0 with pair := 32 }, .replayImport { h0 with pair := 32 } ch0 none,
    .replayImport h0 { ch0 with id := 2 ^ 32 } none, .replayStart { h0 with pair := 32 } false 0 0 false,
    .replayStart h0 false 18446744073709551616 0 false, .replayStart h0 false 0 18446744073709551616 false,
    .replayStatus { h0 with pair := 32 }, .replayStop { h0 with pair := 32 }, .fieldStatus { h0 with pair := 32 } .own,
    .fieldTrim { h0 with pair := 32 } 0 .drive4 0, .fieldTrim h0 65536 .drive4 0, .fieldClear { h0 with pair := 32 } 0,
    .fieldClear h0 65536, .canStatus { h0 with pair := 32 } 0, .canConfig { h0 with pair := 32 } can0,
    .canConfig h0 { can0 with ch := 256 }, .canObject { h0 with pair := 32 } obj0, .canObject h0 { obj0 with ch := 256 },
    .canSend { h0 with pair := 32 } 0 0, .canSend h0 65536 0, .canSend h0 0 65536, .canRead { h0 with pair := 32 } 0 0 0,
    .canRead h0 65536 0 0, .canRead h0 0 4294967296 0, .canRead h0 0 0 65536, .canRecover { h0 with pair := 32 } 0, .canRecover h0 65536,
    .canClear { h0 with pair := 32 } 0, .canClear h0 65536, .updateStatus { h0 with pair := 32 },
    .updateLoad { h0 with pair := 32 } ch0 false, .updateLoad h0 { ch0 with id := 2 ^ 32 } false, .updateActivate { h0 with pair := 32 },
    .updateCommit { h0 with pair := 32 }, .updateRevert { h0 with pair := 32 }, .expertRead { h0 with pair := 32 } 0 0 0 0,
    .expertRead h0 0 256 0 0, .expertRead h0 0 0 256 0, .expertRead h0 0 0 0 65536, .expertWrite { h0 with pair := 32 } 0 0 0 [],
    .expertWrite h0 0 256 0 [], .expertWrite h0 0 0 256 [], .expertWrite h0 0 0 0 (List.replicate 126 0),
    .mboxFrameRx (.fabric 65536) false 0 0 0 0 [], .faultReportTaken 65536 [], .acfgWindowCheck 0 0 (some 256),
    .pairLinkUp 0 { st0 with state := 8 } none, .pairLinkUp 0 st0 (some { el0 with watch := 2 ^ 32 }),
    .statusRecordRx 0 { st0 with state := 8 } none, .statusRecordRx 0 st0 (some { el0 with watch := 2 ^ 32 }),
    .ackRecordRx ⟨0, 0⟩ (.notice 65536), .relayRecordRx ⟨0, 0⟩ 0 { sf0 with ver := 256 },
    .forwardRecordRx ⟨0, 0⟩ 0 { sf0 with ver := 256 } 0, .forwardRecordRx ⟨0, 0⟩ 0 sf0 18446744073709551616,
    .inputRecordRx ⟨0, 0⟩ 0 0 false false [⟨0, false, []⟩], .commitRecordRx ⟨0, 0⟩ 0 0 false false false [⟨0, false, []⟩],
    .commandRecordRx ⟨0, 0⟩ 0 0 0 (.mode (.hold 256)) [] 0, .commandRecordRx ⟨0, 0⟩ 0 0 0 (.mode .stop) [18446744073709551616] 0,
    .commandRecordRx ⟨0, 0⟩ 0 0 0 (.mode .stop) [] 18446744073709551616, .mirrorRecordRx ⟨0, 0⟩ [⟨0, false, []⟩],
    .mirrorSweepDone { sw0 with modes := [] }, .bookRecordRx ⟨0, 0⟩ 0 false false { bk0 with libRevision := 2 ^ 32 },
    .queryRecordRx ⟨0, 0⟩ (.tpiConfig 0 4) [], .queryRecordRx ⟨0, 0⟩ .pairStatus [65536], .queryReplyRx ⟨0, 0⟩ 0 65536 0 [],
    .queryReplyRx ⟨0, 0⟩ 0 0 4294967296 [], .queryReplyRx ⟨0, 0⟩ 0 0 0 (List.replicate 65521 0),
    .stationSamplingInstant 0 18446744073709551616, .stationInputFrameRx 0 { sf0 with ver := 256 } 0,
    .stationInputFrameRx 0 sf0 18446744073709551616, .stationCutoff 0 18446744073709551616, .stationAckRx 0 { sf0 with ver := 256 } 0,
    .stationAckRx 0 sf0 18446744073709551616, .stationJoinRx 0 { sf0 with ver := 256 } 0, .stationJoinRx 0 sf0 18446744073709551616,
    .helloRx 0 { he0 with src := 65536 }, .lsrRx 0 0 256 ls0, .lsrRx 0 0 0 { ls0 with seq := 2 ^ 32 },
    .soundingFrameRx 0 { ss0 with hops := 256 } false 0, .soundingFrameRx 0 ss0 false 18446744073709551616,
    .soundingAgeCheck 0 18446744073709551616, .announceRx 0 0 0 256, .ptpSyncRx 0 false 9223372036854775808,
    .ptpEgressStamp 0 0 0 0 18446744073709551616, .pairTimeSync 79228162514264337593543950336 0 0 0,
    .pairTimeSync 0 79228162514264337593543950336 0 0, .pairTimeSync 0 0 79228162514264337593543950336 0,
    .pairTimeSync 0 0 0 18446744073709551616, .sensorSample { se0 with temps := [] }, .checkpointBegin 18446744073709551616,
    .logStagingDrain 65536, .fieldLinkFrameRx false 0 18446744073709551616, .aiConversionEnd 18446744073709551616 [] [],
    .aiConversionEnd 0 (List.replicate 9 (0, false)) [], .aiConversionEnd 0 [] (List.replicate 5 (0, false)),
    .aiValueWrite 0 18446744073709551616, .canPeriodicTx 0 0 18446744073709551616 false none,
    .canFrameRx 0 (some { cr0 with id := 2048 }) none, .strapDecodeDone 18446744073709551616 0, .strapDecodeDone 0 65536,
    .ptpMessageRx 0 (.followUp 0 (2 ^ 63)), .fabricTransitFrameRx 0 { ff0 with typ := 256 } false, .eventRegister h0 64 [(65536, 0)],
    .eventRegister h0 64 [(0, 65536)], .bulkChunk h0 (.book 256) ch0, .replayImport h0 ch0 (some [{ lr0 with typ := 256 }]),
    .hostApertureAccess 0 0 0 (some (List.replicate 257 0)), .mboxFrameRx .pcie false 0 0 0 0 [List.replicate 9 0],
    .acfgViolClear 0 (some (0, 2 ^ 48, 0, 0, false)), .acfgViolClear 0 (some (0, 0, 256, 0, false)),
    .acfgViolClear 0 (some (0, 0, 0, 256, false))] : List Instr), i.wf = false := by decide +kernel

theorem test_wf_refuses_3 : ∀ i ∈ ([
    .firmwareBoot ⟨1, [], List.replicate 9 (0, 0)⟩] : List Instr), i.wf = false := by decide +kernel

/-- The checks of each operand type. -/
theorem test_wf_operands :
    h0.wf = true ∧ (∀ h ∈ [{ h0 with tally := 65536 }, { h0 with client := 65536 }, { h0 with level := 256 }, { h0 with len := 65536 },
      { h0 with ack := 2 ^ 32 }, { h0 with offs := [1009] }], h.wf = false) ∧
    (∀ r ∈ ([⟨0, 2 ^ 48, 4, 0⟩, ⟨0, 0, 256, 0⟩, ⟨0, 0, 4, 256⟩] : List Rec), r.wf = false) ∧ Rec.wf ⟨0, 1, 4, 0⟩ = true ∧
    (∀ e ∈ ([⟨2 ^ 48, false, List.replicate 8 0⟩, ⟨0, false, []⟩] : List GrainEntry), e.wf = false) ∧
    grainsWf [⟨0x800000, true, List.replicate 8 0⟩] = true ∧ grainsWf (List.replicate 911 ⟨0, false, List.replicate 8 0⟩) = false ∧
    st0.wf = true ∧ { st0 with watch := 2 ^ 32 }.wf = false ∧
    el0.wf = true ∧ (∀ e ∈ [{ el0 with held := 2 ^ 32 }, { el0 with serial := 2 ^ 64 }, { el0 with watch := 2 ^ 32 },
      { el0 with pairLevel := 256 }, { el0 with version := 2 ^ 32 }, { el0 with books := [0] },
      { el0 with books := [0, 2 ^ 384] }], e.wf = false) ∧
    (∀ a ∈ ([.input 0 (2 ^ 48), .commit 0 (2 ^ 48), .command 65536 0 0, .command 0 65536 0, .command 0 0 (2 ^ 64)] : List PairAck), a.wf = false) ∧
    sf0.wf = true ∧ (∀ f ∈ [{ sf0 with typ := 256 }, { sf0 with station := 256 }, { sf0 with pair := 4096 }, { sf0 with seg := 256 },
      { sf0 with nseg := 256 }, { sf0 with first := 65536 }, { sf0 with count := 65536 }, { sf0 with watch := 2 ^ 32 },
      { sf0 with wake := 2 ^ 48 }, { sf0 with time := 2 ^ 64 }, { sf0 with aux := 2 ^ 64 }, { sf0 with values := List.replicate 176 0 },
      { sf0 with quals := List.replicate 176 0 }, { sf0 with quals := [256] }], f.wf = false) ∧
    he0.wf = true ∧ (∀ x ∈ [{ he0 with watch := 2 ^ 32 }, { he0 with serial := 2 ^ 64 }, { he0 with port := 256 }, { he0 with state := 256 },
      { he0 with cost := 65536 }, { he0 with heard := 65536 }, { he0 with heardPort := 256 }], x.wf = false) ∧
    ls0.wf = true ∧ (∀ l ∈ [{ ls0 with age := 65536 }, { ls0 with serial := 2 ^ 64 }, { ls0 with state := 256 }, { ls0 with watch := 2 ^ 32 },
      { ls0 with adj := List.replicate 17 ⟨1, 2, 3, 4⟩ }, { ls0 with adj := [⟨65536, 2, 3, 4⟩] }, { ls0 with adj := [⟨1, 256, 3, 4⟩] },
      { ls0 with adj := [⟨1, 2, 256, 4⟩] }, { ls0 with adj := [⟨1, 2, 3, 65536⟩] }, { ls0 with subs := List.replicate 257 (1, 0) },
      { ls0 with subs := [(4096, 0)] }, { ls0 with subs := [(1, 64)] }], l.wf = false) := by decide +kernel

@[inherit_doc test_wf_operands]
theorem test_wf_frames :
    ss0.wf = true ∧ (∀ f ∈ [{ ss0 with src := 65536 }, { ss0 with watch := 2 ^ 32 }, { ss0 with index := 64 }, { ss0 with seg := 256 },
      { ss0 with nseg := 256 }, { ss0 with first := 65536 }, { ss0 with epoch := 65536 }, { ss0 with wake := 2 ^ 48 },
      { ss0 with interval := 2 ^ 32 }, { ss0 with layout := 2 ^ 32 }, { ss0 with recs := List.replicate 89 ⟨0, 0, 0, 0⟩ },
      { ss0 with recs := [⟨0, 2 ^ 48, 0, 0⟩] }], f.wf = false) ∧
    ff0.wf = true ∧ (∀ f ∈ [{ ff0 with hops := 256 }, { ff0 with dst := 65536 }, { ff0 with src := 65536 }, { ff0 with watch := 2 ^ 32 },
      { ff0 with payload := List.replicate 1481 0 }], f.wf = false) ∧
    cr0.wf = true ∧ { cr0 with ide := true, id := 2 ^ 29 }.wf = false ∧ { cr0 with data := List.replicate 9 0 }.wf = false ∧
    { cr0 with fdf := true, data := List.replicate 64 0 }.wf = true ∧ { cr0 with fdf := true, data := List.replicate 65 0 }.wf = false ∧
    (∀ p ∈ [{ tpo0 with start := 2 ^ 64 }, { tpo0 with period := 2 ^ 64 }, { tpo0 with width := 2 ^ 32 }], p.wf = false) ∧ tpo0.wf = true ∧
    { tok0 with bytes := List.replicate 159 0 }.wf = false ∧ tok0.wf = true ∧
    (∀ c ∈ [{ ch0 with offset := 2 ^ 32 }, { ch0 with total := 2 ^ 32 }, { ch0 with crc := 2 ^ 32 }, { ch0 with data := List.replicate 993 0 }], c.wf = false) ∧ ch0.wf = true ∧
    PtpMsg.wf (.announce 0 [2 ^ 64] none) = false ∧ PtpMsg.wf (.followUp 0 (-(2 ^ 63))) = true ∧
    { se0 with rails := [] }.wf = false ∧ se0.wf = true ∧ Transport.wf (.service (2 ^ 32) 0) = false ∧ Transport.wf (.service 0 65536) = false ∧
    ModeCmd.wf (.step 256) = false ∧
    (∀ c ∈ [{ pc0 with strictWait := 65536 }, { pc0 with reclaim := 65536 }, { pc0 with exercise := 65536 }, { pc0 with pwait := 65536 },
      { pc0 with serial := 2 ^ 64 }], c.wf = false) ∧ pc0.wf = true ∧
    (∀ c ∈ ([⟨1, 65536, 10⟩, ⟨1, 10, 65536⟩] : List FabricCfg), c.wf = false) ∧
    (∀ p ∈ ([⟨256, 0, true, 0, 0, 0, 0, 0⟩, ⟨0, 256, true, 0, 0, 0, 0, 0⟩, ⟨0, 0, true, 2 ^ 32, 0, 0, 0, 0⟩, ⟨0, 0, true, 0, 2 ^ 32, 0, 0, 0⟩,
      ⟨0, 0, true, 0, 0, 2 ^ 32, 0, 0⟩, ⟨0, 0, true, 0, 0, 0, 128, 0⟩, ⟨0, 0, true, 0, 0, 0, 0, -129⟩] : List PtpPortCfg), p.wf = false) ∧
    (∀ c ∈ [{ timeCfgInit with domB := 256 }, { timeCfgInit with domR := 256 }, { timeCfgInit with ports := List.replicate 5 ⟨0, 0, true, 0, 0, 0, 0, 0⟩ },
      { timeCfgInit with ports := [⟨256, 0, true, 0, 0, 0, 0, 0⟩] }, { timeCfgInit with prio1 := 256 }, { timeCfgInit with prio2 := 256 },
      { timeCfgInit with window := 2 ^ 32 }], c.wf = false) ∧ timeCfgInit.wf = true ∧ LogCfg.wf ⟨10, 65536⟩ = false ∧
    (∀ c ∈ [{ ModuleCfg.init with expert := 256 }, { ModuleCfg.init with ipv4 := 2 ^ 32 }, { ModuleCfg.init with prefix_ := 256 },
      { ModuleCfg.init with stnEtype := 65536 }, { ModuleCfg.init with fabEtype := 65536 }, { ModuleCfg.init with dwell := 65536 },
      { ModuleCfg.init with escLimit := 256 }], c.wf = false) ∧ ModuleCfg.init.wf = true := by decide +kernel

@[inherit_doc test_wf_operands]
theorem test_wf_configurations :
    (∀ c ∈ [{ can0 with nominal := 256 }, { can0 with data := 256 }, { can0 with watchId := 2 ^ 29 },
      { can0 with filters := List.replicate 65 ⟨0, false, 0, 0⟩ }, { can0 with filters := [⟨2 ^ 29, false, 0, 0⟩] },
      { can0 with filters := [⟨0, false, 4, 0⟩] }, { can0 with filters := [⟨0, false, 0, 2 ^ 29⟩] }], c.wf = false) ∧ can0.wf = true ∧
    { obj0 with obj := 65536 }.wf = false ∧ { obj0 with data := List.replicate 9 0 }.wf = false ∧ obj0.wf = true ∧
    KeyItem.wf (.pub 256 (List.replicate 12 0) true) = false ∧ KeyItem.wf (.pub 4 [] true) = false ∧
    KeyItem.wf (.pub 4 (List.replicate 12 0) true) = true ∧ KeyItem.wf (.cert (List.replicate 127 0)) = false ∧
    AccessCfg.wf ⟨[], [(2 ^ 32, 0)], []⟩ = false ∧ AccessCfg.wf ⟨[], [], [(256, 0, 0)]⟩ = false ∧
    (∀ b ∈ ([.tune (2 ^ 32) 0 0, .tune 0 65536 0, .signalWrite (2 ^ 32) 0 0, .signalWrite 0 256 0, .forceSet (2 ^ 32) 0 0, .forceSet 0 256 0,
      .forceRelease (2 ^ 32), .forceReleaseAll (some 256), .bookTurn 256 none, .bookTurn 0 (some (2 ^ 64)), .pairConfig { pc0 with strict := 256 },
      .fabricConfig ⟨65536, 1, 1⟩, .timeConfig { timeCfgInit with domA := 256 }, .timeSet (2 ^ 64) 0, .timeSet 0 32768, .tb2Step (some (2 ^ 64)),
      .stationRelease 256, .stationReleaseAll (some 256), .logConfig ⟨65536, 0⟩, .canConfig { can0 with ch := 256 },
      .canObject { obj0 with ch := 256 }, .canSend 256 0, .canSend 0 65536] : List MirBody), b.wf = false) ∧
    (∀ r ∈ [{ lr0 with seq := 2 ^ 64 }, { lr0 with flags := 256 }, { lr0 with cls := 256 }, { lr0 with wake := 2 ^ 48 }, { lr0 with len := 2 ^ 32 },
      { lr0 with at3 := 2 ^ 64 }, { lr0 with at0 := 2 ^ 64 }, { lr0 with body := [2 ^ 64] }, { lr0 with gs := [⟨0, false, []⟩] },
      { lr0 with cmd := some (.canSend 256 0) }], r.wf = false) ∧ lr0.wf = true ∧
    { sw0 with books := [] }.wf = false ∧ { sw0 with cfg := { pc0 with strict := 256 } }.wf = false ∧ sw0.wf = true ∧
    Query.wf (.tpoProgram 0 { tpo0 with base := 4 }) = false := by decide +kernel

@[inherit_doc test_wf_operands]
theorem test_wf_book :
    bk0.wf = true ∧ (∀ b ∈ [{ bk0 with libRevision := 2 ^ 32 }, { bk0 with sched := { bk0.sched with classes := [] } },
      { bk0 with sched := { bk0.sched with classes := List.replicate 8 ⟨2 ^ 32, 0, 0, 0, 0⟩ } },
      { bk0 with sched := { bk0.sched with classes := List.replicate 8 ⟨0, 2 ^ 32, 0, 0, 0⟩ } },
      { bk0 with sched := { bk0.sched with classes := List.replicate 8 ⟨0, 0, 2 ^ 32, 0, 0⟩ } },
      { bk0 with sched := { bk0.sched with classes := List.replicate 8 ⟨0, 0, 0, 256, 0⟩ } },
      { bk0 with sched := { bk0.sched with classes := List.replicate 8 ⟨0, 0, 0, 0, 256⟩ } },
      { bk0 with dir := [⟨2 ^ 18, ⟨1, 0, 0, 0, false, false, 0, 0, 0, 0, 0, 0⟩⟩] }, { bk0 with dir := [⟨0, ⟨256, 0, 0, 0, false, false, 0, 0, 0, 0, 0, 0⟩⟩] },
      { bk0 with dir := [⟨0, ⟨0, 256, 0, 0, false, false, 0, 0, 0, 0, 0, 0⟩⟩] }, { bk0 with dir := [⟨0, ⟨0, 0, 8, 0, false, false, 0, 0, 0, 0, 0, 0⟩⟩] },
      { bk0 with dir := [⟨0, ⟨0, 0, 0, 2, false, false, 0, 0, 0, 0, 0, 0⟩⟩] }, { bk0 with dir := [⟨0, ⟨0, 0, 0, 0, false, false, 256, 0, 0, 0, 0, 0⟩⟩] },
      { bk0 with dir := [⟨0, ⟨0, 0, 0, 0, false, false, 0, 0, 0, 256, 0, 0⟩⟩] }, { bk0 with dir := [⟨0, ⟨0, 0, 0, 0, false, false, 0, 0, 0, 0, 65536, 0⟩⟩] },
      { bk0 with dir := [⟨0, ⟨0, 0, 0, 0, false, false, 0, 0, 0, 0, 0, 2 ^ 32⟩⟩] }, { bk0 with code := [⟨8, []⟩] }, { bk0 with code := [⟨0, [(65536, 0)]⟩] },
      { bk0 with lists := [⟨8, 0, 0, []⟩] }, { bk0 with lists := [⟨0, 8, 0, []⟩] }, { bk0 with lists := [⟨0, 0, 2 ^ 19, []⟩] },
      { bk0 with lists := [⟨0, 0, 0, [⟨2 ^ 19, 1, 0, false, 0⟩]⟩] }, { bk0 with lists := [⟨0, 0, 0, [⟨0, 1024, 0, false, 0⟩]⟩] },
      { bk0 with lists := [⟨0, 0, 0, [⟨0, 1, 65536, false, 0⟩]⟩] }, { bk0 with lists := [⟨0, 0, 0, [⟨0, 1, 0, false, 2 ^ 18⟩]⟩] },
      { bk0 with frames := [⟨2 ^ 19, List.replicate 8 0⟩] }, { bk0 with frames := [⟨0, []⟩] }, { bk0 with insts := [⟨2 ^ 32, 0, 0, 0, 1, 0, 0, 0⟩] },
      { bk0 with insts := [⟨0, 8, 0, 0, 1, 0, 0, 0⟩] }, { bk0 with insts := [⟨0, 0, 8, 0, 1, 0, 0, 0⟩] },
      { bk0 with insts := [⟨0, 0, 0, 2 ^ 19, 1, 0, 0, 0⟩] }, { bk0 with insts := [⟨0, 0, 0, 0, 1, 65536, 0, 0⟩] },
      { bk0 with retSigs := [⟨2 ^ 18, 0⟩] }, { bk0 with retSigs := [⟨0, 2 ^ 14⟩] }, { bk0 with rings := List.replicate 3 ⟨true, 1⟩ },
      { bk0 with stations := [⟨256, 0, 1, 1, 1, 10, 20, 3, false, 9, []⟩] }, { bk0 with pubs := [⟨64, 0, 1, []⟩] }, { bk0 with pubs := [⟨0, 8, 1, []⟩] },
      { bk0 with subs := [⟨256, 0, 0, 0, 0⟩] }, { bk0 with subs := [⟨0, 4096, 0, 0, 0⟩] }, { bk0 with subs := [⟨0, 0, 64, 0, 0⟩] }],
      b.wf = false) := by decide +kernel

/-! ### Words of lane instructions (R144 to R154) -/

/-- The words of the manual's listing of a low-pass block ("Block Engine code format and instruction set"), each with the instruction its listing names. -/
theorem test_listing_words :
  decodeLaneWord 0 0x05004002#32 = .get 0 false 0 1 2 ∧ decodeLaneWord 0 0x60008003#32 = .ldf 0 false 0 2 3 ∧
  decodeLaneWord 0 0x70010000#32 = .ldsv 0 false 0 4 0 ∧ decodeLaneWord 0 0x71014000#32 = .ldsm 0 false 0 5 0 ∧
  decodeLaneWord 0 0x2B018500#32 = .qof 0 false 0 6 5 ∧ decodeLaneWord 0 0x4001C204#32 = .fadd 0 false 0 7 2 1 ∧
  decodeLaneWord 0 0x4301C11C#32 = .fdiv 0 false 0 7 1 7 ∧ decodeLaneWord 0 0x4102040C#32 = .fsub 0 false 0 8 4 3 ∧
  decodeLaneWord 0 0x45028720#32 = .fma 0 false 0 10 7 8 ∧ decodeLaneWord 0 0x38004900#32 = .tst 0 false 0 1 9 ∧
  decodeLaneWord 0 0x02128400#32 = .mov 0 false 1 10 4 ∧ decodeLaneWord 0 0x61228004#32 = .stf 0 false 2 10 4 ∧
  decodeLaneWord 0 0x02A28300#32 = .mov 0 true 2 10 3 ∧ decodeLaneWord 0 0x72028601#32 = .sts 0 false 0 10 6 1 ∧
  decodeLaneWord 0 0x01000000#32 = .endScan 0 false 0 := by decide +kernel

/-- A word of each format, written field by field from R144, and unassigned opcodes (R141). -/
theorem test_format_words :
    decodeLaneWord 3 (0b00010000#8 ++ 0b1#1 ++ 0b101#3 ++ 0b111111#6 ++ 0b000001#6 ++ 0b100000#6 ++ 0b00#2) = .iadd 3 true 5 63 1 32 ∧
    decodeLaneWord 3 (0b00110001#8 ++ 0b0#1 ++ 0b001#3 ++ 0b000#3 ++ 0b110#3 ++ 0b000011#6 ++ 0b000100#6 ++ 0b00#2) = .ilt 3 false 1 6 3 4 ∧
    decodeLaneWord 0 (0b00000011#8 ++ 0b0#1 ++ 0b000#3 ++ 0b000010#6 ++ 0b11111111111111#14) = .ldi 0 false 0 2 16383 ∧
    decodeLaneWord 0 (0b01100001#8 ++ 0b0#1 ++ 0b000#3 ++ 0b000010#6 ++ 0b00#2 ++ 0b111111111111#12) = .stf 0 false 0 2 4095 ∧
    decodeLaneWord 7 (0b01110011#8 ++ 0b0#1 ++ 0b000#3 ++ 0b000010#6 ++ 0b000101#6 ++ 0b11111111#8) = .stsr 7 false 0 2 5 255 ∧
    decodeLaneWord 7 (0b01110100#8 ++ 0b0#1 ++ 0b000#3 ++ 0b000#3 ++ 0b011#3 ++ 0b000000#6 ++ 0b00000010#8) = .tstc 7 false 0 3 2 ∧
    decodeLaneWord 0 0x0F000001#32 = .unassignedOpcode 0 0x0F 1 ∧ decodeLaneWord 0 0xFFFFFFFF#32 = .unassignedOpcode 0 0xFF 0xFFFFFF := by
  decide +kernel

/-! ### Lanes -/

/-- An engine at the start of a block of a custom type with two connections: connection 1 is an output to signal 10h. -/
def eng0 : Engine :=
  { Engine.init with
    x := [(1, 7), (2, -3), (3, 0x7FFFFFFFFFFFFFFF), (4, 15), (5, 0x3FF0000000000000), (6, 0x8000000000000000)]
    p := 3
    fc := [(0, 0x0001010700000005), (1, 0x2000000000000010), (2, 0xC000000000000000), (15, 9)] }

/-- Lane 0 in that block: a frame of two grains in lines 0 and 1 of its Frame Cache. -/
def sLane : State :=
  { State.reset with
    lanes := [(0, { LaneSt.init with main := eng0, chk := eng0, tags := [(0, 11), (1, 12)], scan := some ⟨10, 2, 0, 0, 0, 0, 1, 2⟩ })] }

def scan0 : Scan := ⟨10, 2, 0, 0, 0, 0, 1, 2⟩

/-- The word of a command stands in both Code Stores where its lane issues next. -/
def atWord (s : State) (i : Instr) : State :=
  match i.laneWord with
  | some (l, w) =>
    s.modLane l.val fun ln =>
      let a := (ln.scan.map fun sc => sc.bank * 65536 + sc.pc).getD 0
      { ln with main := { ln.main with code := mput 0 ln.main.code a w }, chk := { ln.chk with code := mput 0 ln.chk.code a w } }
  | none => s

/-- A command issued where its word is due. -/
def issued (i : Instr) (f : State → Bool) : Bool := nextIs (exec i (atWord sLane i)) f

/-- R126: a word that is not the next of the scan does nothing; the one that is issues and the next word becomes due. -/
theorem test_words_in_order :
    nextIs (exec (.ldi 0 false 0 7 5) sLane) (fun t => decide (t = sLane)) = true ∧
    issued (.ldi 0 false 0 7 5) (fun t => t.laneX 0 7 == 5 && (t.lane 0).scan == some { scan0 with pc := 2 }) = true := by decide +kernel

/-- R148, R156: sums and products saturate at the range of INT64; division by zero gives its sign's limit. -/
theorem test_integer_saturates :
    issued (.iadd 0 false 0 3 3 1) (fun t => t.laneX 0 3 == 0x7FFFFFFFFFFFFFFF) = true ∧
    issued (.isub 0 false 0 7 6 1) (fun t => t.laneX 0 7 == 0x8000000000000000) = true ∧
    issued (.iabs 0 false 0 7 6) (fun t => t.laneX 0 7 == 0x7FFFFFFFFFFFFFFF) = true ∧
    issued (.idiv 0 false 0 7 2 10) (fun t => t.laneX 0 7 == 0x8000000000000000) = true ∧
    issued (.irem 0 false 0 7 2 1) (fun t => t.laneX 0 7 == -3) = true := by decide +kernel

/-- R149: shifts take their count modulo 64; the source may be the destination. -/
theorem test_shifts_and_counts :
    issued (.shl 0 false 0 4 4 1) (fun t => t.laneX 0 4 == 1920) = true ∧
    issued (.sar 0 false 0 7 6 1) (fun t => t.laneX 0 7 == 0xFF00000000000000) = true ∧
    issued (.popc 0 false 0 7 2) (fun t => t.laneX 0 7 == 63) = true := by decide +kernel

/-- R151, R157: 1.0 + 1.0 is 2.0; 1.0 ÷ +0 is +∞; the square root of −0 is −0; FTOI of 1.0 is 1. -/
theorem test_floats :
    opFAdd 0x3FF0000000000000 0x3FF0000000000000 = 0x4000000000000000#64 ∧ opFDiv 0x3FF0000000000000 0 = 0x7FF0000000000000#64 ∧
    opFSqrt 0x8000000000000000 = 0x8000000000000000#64 ∧ opFToI .zero 0x3FF0000000000000 = 1#64 ∧
    opFAdd 0x3FB999999999999A 0x3FC999999999999A = 0x3FD3333333333334#64 := by decide +kernel

/-- R124, R127: a write to P0 is ignored, and an instruction whose predicate does not hold writes nothing. -/
theorem test_predicates :
    issued (.ieq 0 false 0 0 1 2) (fun t => t.laneP 0 0) = true ∧
    issued (.ilt 0 false 0 2 2 1) (fun t => t.laneP 0 2) = true ∧
    issued (.ldi 0 true 1 7 5) (fun t => t.laneX 0 7 == 0 && t.laneX 0 1 == 7) = true := by decide +kernel

/-- R164: STS queues one store of the signal that the connection names. -/
theorem test_sts_queues :
    issued (.sts 0 false 0 1 10 0) (fun t => (t.lane 0).storeQ == [⟨0x10, 7, 0, 0, 0⟩]) = true ∧
    issued (.sts 0 false 0 1 10 1) (fun t => (t.lane 0).storeQ == []) = true := by decide +kernel

theorem witness_IntegerInstructionsWriteResults :
    (∀ i ∈ ([.iadd 0 false 0 1 2 3, .isub 0 false 0 1 2 3, .imul 0 false 0 1 2 3, .idiv 0 false 0 1 2 3, .irem 0 false 0 1 2 3, .imin 0 false 0 1 2 3, .imax 0 false 0 1 2 3, .iaddw 0 false 0 1 2 3, .isubw 0 false 0 1 2 3, .imulw 0 false 0 1 2 3, .ineg 0 false 0 1 2, .iabs 0 false 0 1 2, .isat32 0 false 0 1 2] : List Instr), (atWord sLane i).laneTakes 0 false 0 = true ∧ (atWord sLane i).due i = true) ∧ sLane.laneTakes 0 false 0 = true ∧ sLane.laneTakes 0 true 2 = true := by decide +kernel

theorem witness_BitInstructionsWriteResults :
    (∀ i ∈ ([.andB 0 false 0 1 2 3, .orB 0 false 0 1 2 3, .xorB 0 false 0 1 2 3, .shl 0 false 0 1 2 3, .shr 0 false 0 1 2 3, .sar 0 false 0 1 2 3, .rol 0 false 0 1 2 3, .mov 0 false 0 1 2, .notB 0 false 0 1 2, .popc 0 false 0 1 2, .bnot 0 false 0 1 2, .boolOf 0 false 0 1 2, .qof 0 false 0 1 2] : List Instr), (atWord sLane i).laneTakes 0 false 0 = true ∧ (atWord sLane i).due i = true) ∧ sLane.laneTakes 0 false 1 = true := by decide +kernel

theorem witness_FloatInstructionsWriteResults :
    (∀ i ∈ ([.fadd 0 false 0 1 2 3, .fsub 0 false 0 1 2 3, .fmul 0 false 0 1 2 3, .fdiv 0 false 0 1 2 3, .fma 0 false 0 1 2 3, .fmin 0 false 0 1 2 3, .fmax 0 false 0 1 2 3, .fclamp 0 false 0 1 2 3, .fatan2 0 false 0 1 2 3, .fsqrt 0 false 0 1 2, .fabs 0 false 0 1 2, .fneg 0 false 0 1 2, .frint 0 false 0 1 2, .ftrunc 0 false 0 1 2, .ffloor 0 false 0 1 2, .fceil 0 false 0 1 2, .itof 0 false 0 1 2, .ftoi 0 false 0 1 2, .ftoin 0 false 0 1 2, .fexp 0 false 0 1 2, .fln 0 false 0 1 2, .fsin 0 false 0 1 2, .fcos 0 false 0 1 2] : List Instr), (atWord sLane i).laneTakes 0 false 0 = true ∧ (atWord sLane i).due i = true) ∧ sLane.laneTakes 7 false 0 = true ∧ sLane.laneTakes 0 true 7 = true := by decide +kernel

theorem witness_NaNOperandsGiveCanonicalNaN :
    isNaN 0x7FF0000000000001 = true ∧ isNaN 0xFFFFFFFFFFFFFFFF = true ∧ opFAdd 0x7FF0000000000001 0 = 0x7FF8000000000000#64 ∧
    isNaN (opFSqrt 0xBFF0000000000000) = true := by decide +kernel

theorem witness_FloatSpecialCasesAndOrderings :
    isNaN 0x3FF0000000000000 = false ∧ isInf 0x3FF0000000000000 = false ∧ isZero 0x3FF0000000000000 = false ∧
    fNeg 0xBFF0000000000000 = true ∧ isNaN 0xBFF0000000000000 = false ∧ isZero 0xBFF0000000000000 = false ∧
    (isNaN 0x7FF8000000000000 || isNaN 0) = true ∧ opFLt 0x3FF0000000000000 0x4000000000000000 = true := by decide +kernel

theorem witness_FloatSumsAndProductsAreNearest :
    fFinite 0x7FEFFFFFFFFFFFFF = true ∧ fFinite 0x0000000000000001 = true ∧ fFinite 0x3FF0000000000000 = true ∧
    fFinite (opFAdd 0x7FEFFFFFFFFFFFFF 1) = true ∧ fFinite (opFSub 0x3FF0000000000000 1) = true ∧ fFinite (opFMul 1 0x3FF0000000000000) = true := by
  decide +kernel

theorem witness_PredicateInstructionsWriteResults :
    (∀ i ∈ ([.ieq 0 false 0 1 2 3, .ilt 0 false 0 1 2 3, .ile 0 false 0 1 2 3, .ult 0 false 0 1 2 3, .feq 0 false 0 1 2 3, .flt 0 false 0 1 2 3, .fle 0 false 0 1 2 3, .fun 0 false 0 1 2 3, .tst 0 false 0 1 2, .pand 0 false 0 1 2 3, .por 0 false 0 1 2 3, .pnot 0 false 0 1 2, .pmov 0 false 0 1 2] : List Instr), (atWord sLane i).laneTakes 0 false 0 = true ∧ (atWord sLane i).due i = true) ∧ sLane.laneTakes 0 false 1 = true ∧ sLane.laneTakes 0 true 7 = true := by decide +kernel

theorem witness_ConstantsAndCycleValues :
    (∀ i ∈ ([.ldi 0 false 0 1 2, .ldk 0 false 0 1 0, .get 0 false 0 1 0, .get 0 false 0 1 7] : List Instr), ((atWord sLane i).lane 0).scan = some scan0 ∧ (atWord sLane i).laneTakes 0 false 0 = true ∧ (atWord sLane i).due i = true) ∧
    sLane.laneTakes 0 false 0 = true ∧ (sLane.lane 0).scan = some scan0 ∧ (0#14).toNat < 8 ∧ (7#14).toNat < 8 := by decide +kernel

theorem witness_FrameInstructionsReachTheFrame :
    (∀ i ∈ ([.ldf 0 false 0 1 15, .stf 0 false 0 1 15, .ldfx 0 false 0 1 4 10, .ldfx 0 false 0 1 4 1, .stfx 0 false 0 1 4 10, .stfx 0 false 0 1 10 10] : List Instr), ((atWord sLane i).lane 0).scan = some scan0 ∧ (∀ k < scan0.grains * 8, ((atWord sLane i).laneFrame 0 k).isSome) ∧ (atWord sLane i).laneTakes 0 false 0 = true ∧ (atWord sLane i).due i = true) ∧
    sLane.laneTakes 0 false 0 = true ∧ (sLane.lane 0).scan = some scan0 ∧ (∀ k < scan0.grains * 8, (sLane.laneFrame 0 k).isSome) ∧
    (15#12).toNat < scan0.grains * 8 ∧ (sLane.laneX 0 4 + sLane.laneX 0 10).toNat < scan0.grains * 8 ∧
    scan0.nconn < (sLane.laneX 0 4 + sLane.laneX 0 10).toNat ∧ scan0.grains * 8 ≤ (sLane.laneX 0 4 + sLane.laneX 0 1).toNat ∧
    (sLane.laneX 0 10 + sLane.laneX 0 10).toNat ≤ scan0.nconn ∧ sLane.laneFrame 0 0 = some 0x0001010700000005 ∧
    sLane.flag (R.laneOofValid 0) = false ∧ (sLane.setFlag (R.laneOofValid 0) true).flag (R.laneOofValid 0) = true ∧
    (sLane.setFlag (R.laneOofValid 0) true).laneTakes 0 false 0 = true := by decide +kernel

theorem witness_SignalInstructionsUseTheirConnection :
    (∀ i ∈ ([.ldsv 0 false 0 1 0, .ldsm 0 false 0 1 1, .sts 0 false 0 1 2 0, .stsr 0 false 0 1 2 1, .tstc 0 false 0 1 1] : List Instr), ((atWord sLane i).lane 0).scan = some scan0 ∧ (atWord sLane i).laneFrame 0 1 = some 0x2000000000000010 ∧ (atWord sLane i).laneTakes 0 false 0 = true ∧ (atWord sLane i).due i = true) ∧
    sLane.laneTakes 0 false 0 = true ∧ (sLane.lane 0).scan = some scan0 ∧ (0#8).toNat < scan0.nconn ∧ (1#8).toNat < scan0.nconn ∧
    sLane.laneFrame 0 1 = some 0x2000000000000010 ∧ sLane.laneFrame 0 2 = some 0xC000000000000000 := by decide +kernel

theorem witness_FrameInstructionsComplete :
    ∀ i ∈ ([.ldf 0 false 0 1 4095, .stf 0 false 0 1 4095, .ldfx 0 false 0 1 4 1, .stfx 0 false 0 1 10 10] : List Instr),
      (atWord sLane i).laneTakes 0 false 0 = true ∧ (atWord sLane i).due i = true := by decide +kernel

/-- Each clause: NOP and END due; an unassigned opcode due; IADD due whose predicate does not hold, for either NEG; IADD not due. -/
theorem witness_NopEndAndWordsWithoutEffect :
    (∀ i ∈ ([.nop 0 false 0, .endScan 0 false 0] : List Instr), (atWord sLane i).laneTakes 0 false 0 = true ∧ (atWord sLane i).due i = true ∧
      ((atWord sLane i).lane 0).scan = some scan0 ∧ (atWord sLane i).laneFrame 0 0 = some 0x0001010700000005) ∧
    (∀ op ∈ ([0x0F, 0xFF] : List (BitVec 8)), opAssigned op.toNat = false ∧ (atWord sLane (.unassignedOpcode 0 op 1)).due (.unassignedOpcode 0 op 1) = true ∧
      (atWord sLane (.unassignedOpcode 0 op 1)).laneGoes 0 = true) ∧
    ((Instr.iadd 0 true 0 1 2 3).laneWord = some (0, 0x1080420C) ∧ sLane.laneP 0 (wordField 0x1080420C 20 3) = wordNot 0x1080420C ∧
      (Instr.iadd 0 false 7 1 2 3).laneWord = some (0, 0x1070420C) ∧ sLane.laneP 0 (wordField 0x1070420C 20 3) = wordNot 0x1070420C ∧
      (atWord sLane (.iadd 0 true 0 1 2 3)).due (.iadd 0 true 0 1 2 3) = true ∧ (atWord sLane (.iadd 0 true 0 1 2 3)).laneGoes 0 = true) ∧
    sLane.due (.iadd 0 true 0 1 2 3) = false ∧ (∀ op rest, Instr.iadd 0 true 0 1 2 3 ≠ .unassignedOpcode 0 op rest) := by
  refine ⟨by decide +kernel, by decide +kernel, by decide +kernel, by decide +kernel, ?_⟩
  intro op rest h
  injection h

theorem witness_EnginesStayInStep :
    (Instr.iadd 0 false 0 1 2 3).laneWord = some (0, 0x1000420C) ∧ sLane.laneGoes 0 = true ∧ (sLane.lane 0).inStep := by
  refine ⟨by decide +kernel, by decide +kernel, ?_⟩
  unfold LaneSt.inStep
  decide +kernel

theorem witness_LaneWordsDecodeToTheirInstruction :
    (Instr.unassignedOpcode 2 0xFF 0xFFFFFF).laneWord = some (2, 0xFFFFFFFF) ∧ opAssigned 0xFF = false ∧
    (Instr.fatan2 2 true 7 63 63 63).laneWord = some (2, 0x57FFFFFC) := by decide +kernel

/-! ### The block as a whole -/

theorem witness_StepTakesFrontCommand : State.reset.pending = [] := rfl

theorem witness_EveryStepKeepsCanonicalForm :
    State.reset.canonical = true ∧ ∃ t, step State.reset = .next t ∧ t.tb 0 = 4 := ⟨by decide +kernel, _, rfl, by decide +kernel⟩

theorem witness_CommandsLeaveTheQueueAlone :
    ∃ t, exec .tb3CopyRx { State.reset with pending := [.tapIdcode] } = .next t ∧ t.pending = [.tapIdcode] := ⟨_, rfl, rfl⟩

theorem witness_MemoryIsLittleEndian :
    Memory.wf State.reset.mem = true ∧ (State.reset.wr64 0x800008 0x1122334455667788).byte 0x800008 = 0x88 ∧
    (State.reset.wr64 0x800008 0x1122334455667788).byte 0x80000F = 0x11 ∧ (7 < 0x800008 ∧ 0x800008 + 8 ≤ 0x800010) := by decide +kernel

/-- R507, R526, R618: the front panel right after reset: no lamp of FLT, no Watch, pair state START. -/
theorem test_front_panel_at_reset :
    State.reset.frontPanel.flt = .off ∧ State.reset.frontPanel.role = .off ∧ State.reset.frontPanel.mode = some 0 ∧
    State.reset.frontPanel.code = none ∧ State.reset.frontPanel.slotB = false ∧ State.reset.fencePins = (false, true) := by decide +kernel

/-! ### Register clears, locks, writes: State.reset admits the Binnacle, master 8 (R456, R481) -/

/-- Every clear of the statement reaches its register. -/
theorem witness_ClearsZeroWhatTheyClear :
    (∀ f ∈ [R.dirOwnfltValid, R.cmpFaultValid, R.pairFenceMismatch, R.pairLinkClear, R.pairTakeValid, R.fcolCtrlAclear, R.fcolFirst0Valid,
      R.acfgViolValid, R.hostStatusClear, R.hostStatusLinkLost, R.fldStatusClear, R.rstcCauseDebug], State.reset.reaches 8 f = true) ∧
    (∀ c : Fin 8, State.reset.reaches 8 (R.bookTcCountClear c.val) = true ∧ State.reset.reaches 8 (R.laneOofValid c.val) = true) ∧
    (∀ r : Fin 2, State.reset.reaches 8 (R.stnRingCntClear r.val) = true ∧ State.reset.reaches 8 (R.fabPortCntClear (r.val + 2)) = true ∧
      State.reset.reaches 8 (R.timeTpiCtlClear r.val) = true ∧ State.reset.reaches 8 (R.canCntClear r.val) = true) ∧
    (∀ k : Fin 4, State.reset.reaches 8 (R.portPtpClear k.val) = true ∧ State.reset.reaches 8 (R.fldAoFlagsOpenL k.val) = true) ∧
    (∀ n ∈ [0, 255], State.reset.reaches 8 (R.stnSt1Clear n) = true ∧ State.reset.reaches 8 (R.qmgrQCfgClear n) = true ∧
      State.reset.reaches 8 (R.canObj1New 0 n) = true ∧ State.reset.reaches 8 (R.canObj1New 1 n) = true) := by decide +kernel

@[inherit_doc witness_ClearsZeroWhatTheyClear]
theorem witness_OccurrenceInTheClearingClockCountsAfterIt :
    (∀ f ∈ [R.dirOwnfltValid, R.pairFenceMismatch, R.pairTakeValid, R.hostStatusClear, R.hostStatusLinkLost, R.fldStatusClear,
      R.bookTcCountClear 7, R.stnRingCntClear 1, R.stnSt1Clear 255, R.fabPortCntClear 3, R.timeTpiCtlClear 1, R.portPtpClear 3,
      R.qmgrQCfgClear 255, R.canCntClear 1, R.canObj1New 1 255], State.reset.reaches 8 f = true) := by decide +kernel

theorem witness_LocksClose :
    (∀ f ∈ [R.cmpCtrlLock, R.stnCtrlLock, R.fabCtrlLock, R.fcolCtrlLock, R.acfgCtrlLock, R.hostCtrlLock], State.reset.reaches 8 f = true) := by
  decide +kernel

/-- FAB_CTRL, with a locked field, PAIR_TAKE, with a W1C bit, and BOOK_SLOTS, with fields of the Binnacle. -/
theorem witness_RegisterWritesFollowAccessTypes :
    (regOf R.fabCtrl.addr).isSome = true ∧ R.fabCtrl.addr = (0x06 : Fin 256).val * 0x10000 + R.fabCtrl.addr % 0x10000 ∧
    R.fabCtrl.addr % 0x10000 % 8 = 0 ∧ R.fabCtrl.addr ≠ R.dbgGate.addr ∧ State.reset.reaches 8 ⟨R.fabCtrl.addr, 0, 64⟩ = true ∧
    (State.reset.setFlag R.fabCtrlLocked true).lockClosed 0x06 = true ∧
    ((regOf R.fabCtrl.addr).elim false fun r => r.fields.any fun f => f.acc == .rwl) = true ∧
    ((regOf R.pairTake.addr).elim false fun r => r.fields.any fun f => f.acc == .w1c && f.len == 1) = true ∧
    ((regOf R.bookSlots.addr).elim false fun r => r.fields.any fun f => f.acc == .bin || f.acc == .ro) = true ∧
    State.reset.reaches 8 ⟨R.pairTake.addr, 0, 64⟩ = true := by decide +kernel

/-- A register without an action (BOOK_SLOTS), and the registers whose actions the statement names. -/
theorem witness_RegisterWritesFollowAccessTypes_2 :
    (∀ w full u, State.regAct R.bookSlots.addr w full u = (u, false)) ∧ (regOf R.bookSlots.addr).isSome = true ∧
    (∀ f ∈ [⟨R.bookSlots.addr, 0, 64⟩, R.rstcSwrstWarm, R.rstcHoldLimit, R.fcolCtrlAclear, R.timeCtrlSnap, R.cmpFaultValid, R.dirOwnfltValid, R.acfgViolValid],
      State.reset.reaches 8 f = true) ∧ (∀ l : Fin 8, State.reset.reaches 8 (R.laneOofValid l.val) = true) ∧
    State.reset.rst.episode = none ∧ State.reset.flag R.fcolCtrlTest = false ∧ (500#9).toNat ≤ 500 ∧ 500 < (501#9).toNat ∧
    (let s := State.reset.setFlag R.fcolCtrlLocked true
     s.reaches 8 R.fcolTestSource = true ∧ s.flag R.fcolCtrlLocked = true ∧ ((5#64).toNat % 2 ^ 7 ≠ s.fld R.fcolTestSource)) :=
  ⟨fun _ _ _ => rfl, by decide +kernel⟩

theorem witness_TimeAndHoldWritesCheckTheirRanges :
    State.reset.reaches 8 R.timeCtrlSnap = true ∧ (∀ n : Fin 4, State.reset.reaches 8 (R.timeTbIncInc n.val) = true ∧
      State.reset.reaches 8 (R.timeTbStepStep n.val) = true) ∧
    (|((17197049053#64).toNat % 2 ^ 36 : Int) - 4 * 2 ^ 32| * 1000000 ≤ 1000 * (4 * 2 ^ 32)) ∧
    (1000 * (4 * 2 ^ 32) < |((17197049054#64).toNat % 2 ^ 36 : Int) - 4 * 2 ^ 32| * 1000000) ∧
    (100 * (4 * 2 ^ 32) < |((0#64).toNat % 2 ^ 36 : Int) - 4 * 2 ^ 32| * 1000000) ∧
    (State.reset.setFld R.bookModeMode 1).fld R.bookModeMode ≠ 0 ∧ (State.reset.setFld R.bookModeMode 1).reaches 8 (R.timeTbStepStep 2) = true ∧
    (∀ k < 4, State.reset.flag (R.timeTpoCfgEn k) = false) ∧ State.reset.reaches 8 R.rstcHoldLimit = true ∧
    (500#9).toNat ≤ 500 ∧ 500 < (501#9).toNat := by decide +kernel

/-- The windows after reset, and one with a colour that no window may carry. -/
theorem witness_TagWritesAndLoads :
    State.reset.reaches 8 R.acfgTagwGo = true ∧ State.reset.reaches 8 R.acfgCtrlLoad = true ∧ State.reset.flag R.acfgCtrlLocked = false ∧
    (State.reset.setFlag R.acfgCtrlLocked true).flag R.acfgCtrlLocked = true ∧
    (State.reset.setFlag R.acfgCtrlLocked true).reaches 8 R.acfgCtrlLoad = true ∧
    (∀ w < 64, State.reset.flag (R.acfgWinEn w) = true → State.reset.fld (R.acfgWinBase w) ≤ State.reset.fld (R.acfgWinLimit w) ∧
      State.reset.fld (R.acfgWinColour w) ≠ 15) ∧
    (State.reset.setReg (R.acfgWin 9).addr 0xF800000000000000).flag (R.acfgWinEn 9) = true ∧
    (State.reset.setReg (R.acfgWin 9).addr 0xF800000000000000).fld (R.acfgWinColour 9) = 15 ∧ (0xC0000#20).toNat > 0xBFFFF := by decide +kernel

/-! ### Debugger, test access port, comparator -/

/-- The debug gate open with every scope, and the settings loaded that grant every slot to every master. -/
def sDebug : State :=
  let s := (sLane.setFlag R.dbgGateOpen true).setFld R.dbgGateScope 7
  let s := s.setFlag R.acfgCtrlLoaded true
  { s with acc := { s.acc with force := (List.range 256).map fun n => ((R.acfgSlot n).addr, 0xFFFFFFFFFFFFFFFF#64) } }

/-- Lane 0 of it changed. -/
def debugLane (f : LaneSt → LaneSt) : State := { sDebug with lanes := [(0, f (sLane.lane 0))] }

def halted (ln : LaneSt) : LaneSt := { ln with main := { ln.main with halted := true } }

theorem witness_DebuggerActionsOnALane :
    (sDebug.laneGranted 0 = true ∧ (sDebug.lane 0).main.halted = false) ∧
    ((debugLane halted).laneGranted 0 = true ∧ ((debugLane halted).lane 0).main.halted = true ∧
      ((debugLane halted).laneP 0 0 != false) = true ∧ (7167#13).toNat < 7168) ∧
    ((debugLane fun l => { halted l with dbgQ := List.replicate 64 ⟨.halt, 0⟩ }).laneOpen 0 = true ∧
      64 ≤ ((debugLane fun l => { halted l with dbgQ := List.replicate 64 ⟨.halt, 0⟩ }).lane 0).dbgQ.length ∧
      64 ≤ ((debugLane fun l => { l with dbgQ := List.replicate 64 ⟨.step, 0⟩ }).lane 0).dbgQ.length) ∧
    ((debugLane fun l => { l with dbgQ := List.replicate 63 ⟨.step, 0⟩ }).laneGranted 0 = true) ∧
    ((sDebug.lane 0).scan = some scan0 ∧
      (let s := ((sDebug.setFlag (R.laneDbgctlBreakEn 0) true).setFld (R.laneDbgctlBreakAddr 0) 1).setFld (R.laneDbgctlBreakBank 0) 0
       s.flag (R.laneDbgctlBreakEn 0) = true ∧ scan0.pc = s.fld (R.laneDbgctlBreakAddr 0) ∧ scan0.bank = s.fld (R.laneDbgctlBreakBank 0) ∧
       (s.lane 0).main.halted = false ∧ (s.lane 0).dbgQ.length < 64)) := by decide +kernel

/-- STEP: the lane halted, the word given the one due, its predicate holding (R126, R259). -/
theorem witness_DebuggerActionsOnALane_2 :
    (let s := atWord (debugLane halted) (.iadd 0 false 0 3 1 2)
     s.laneGranted 0 = true ∧ (s.lane 0).main.halted = true ∧ (s.lane 0).stopped = false ∧ s.laneDue 0 (wordR 0x10 false 0 3 1 2) = true ∧
     (s.laneP 0 0 != false) = true) ∧
    (debugLane fun l => { l with dbgQ := List.replicate 63 ⟨.step, 0⟩ }).laneOpen 0 = true := by decide +kernel

/-- R259: STEP of a halted lane issues the word due: X[3] saturates at the sum of X[3] and X[1], and the lane stays halted. -/
theorem test_debug_step :
    nextIs (exec (.laneDebugStep 0 (wordR 0x10 false 0 3 3 1)) (atWord (debugLane halted) (.iadd 0 false 0 3 3 1)))
      (fun t => t.laneX 0 3 == 0x7FFFFFFFFFFFFFFF && (t.lane 0).main.halted && (t.lane 0).scan == some { scan0 with pc := 2 } && !t.bus.err) = true := by
  decide +kernel

theorem witness_ReplayQueuesAndTheGate :
    (let s := debugLane fun l => { l with dbgQ := [⟨.halt, 0⟩, ⟨.resume, 0⟩, ⟨.halt, 1⟩] }
     (s.lane 0).dbgQ = [⟨.halt, 0⟩, ⟨.resume, 0⟩] ++ [⟨.halt, 1⟩] ∧ (∀ e ∈ ([⟨.halt, 0⟩, ⟨.resume, 0⟩] : List DbgEntry), e.at_ = (s.lane 0).chk.issued) ∧
     (∀ e ∈ ([⟨.halt, 1⟩] : List DbgEntry).head?, e.at_ ≠ (s.lane 0).chk.issued) ∧ s.acc.closing = false) ∧
    (let s := debugLane fun l => { l with dbgQ := [⟨.resume, 0⟩] }
     let s := { s with acc := { s.acc with closing := true } }
     s.acc.closing = true ∧ (∀ k < 8, k ≠ 0 → (s.lane k).dbgQ = []) ∧ ∀ e ∈ (s.lane 0).dbgQ, e.at_ = (s.lane 0).chk.issued) ∧
    (sDebug.reaches 8 R.dbgGateOpen = true ∧ (∀ k < 8, (sDebug.lane k).main.halted = false ∧ (sDebug.lane k).dbgQ = []) ∧
      sDebug.flag R.dbgGateOpen = true) := by decide +kernel

/-- The pair state SAFE for EXTEST; every grain granted to master 14 for the memory accesses. -/
theorem witness_TestAccessPort :
    (let s := sDebug.setFld R.pairStateState psSafe
     s.flag R.dbgGateOpen = true ∧ s.bit R.dbgGateScope 2 = true ∧ s.inReset 19 = false ∧ s.pstate = psSafe) ∧
    (State.reset.flag R.dbgGateOpen = false) ∧
    (let s := { sDebug with acc := { sDebug.acc with force := [((R.acfgMt 14 0).addr, 0xFFFFFFFF#64)] } }
     s.bit R.dbgGateScope 1 = true ∧ s.inReset 8 = false ∧ (0x2000038#48).toNat < 0x3000000 ∧ (0x2000038#48).toNat % 64 ≤ 56 ∧ s.gate 14 0x2000038 4 false = none ∧
     s.gate 14 0x38 1 true = none ∧ (0x38#48).toNat < 0x800000) ∧
    (sDebug.bit R.dbgGateScope 0 = true ∧ sDebug.inReset 19 = false ∧ sDebug.fld R.bookModeMode = 0) ∧
    (let s := (sDebug.setFld R.pairStateState psActive).setFld R.bookModeMode 1
     let s := { s with book := { s.book with running := some 0 } }
     s.pstate ≠ psSafe ∧ s.fld R.bookModeMode ≠ 0 ∧ s.book.running.isSome = true) ∧
    sDebug.reaches 8 R.dbgGateNewchal = true ∧
    (let s := { sDebug with acc := { sDebug.acc with chalAt := some 5 } }
     s.acc.chalAt = some 5 ∧ s.tbInc 3 ≠ 0 ∧ s.tbFix 3 < 2 ^ 96 ∧ 5 + 600000000000 + 16 < 2 ^ 64) := by decide +kernel

/-! ### Resets -/

theorem witness_ModuleSourcesBeginEpisodes :
    State.reset.canonical = true ∧ State.reset.rst.episode = none ∧ State.reset.reaches 8 R.rstcSwrstWarm = true ∧
    State.reset.reaches 8 R.rstcSwrstCold = true := by decide +kernel

/-- Lane 0's island held and free to go; island 20 under cold reach; island 8 held by a source that is still asserted. -/
theorem witness_IslandsAreReleasedUnderTheirCondition :
    (let s := State.reset.setFld R.rstcIslstatInreset 1
     (∀ src ∈ s.rst.on, 0 ∉ srcReach src) ∧ (s.reg R.rstcIslrst.addr).toNat.testBit 0 = false ∧ 0 ∉ s.rst.clockBad ∧
     s.rst.strapDone = true ∧ s.flag R.rstcStrapValid = true ∧ s.inReset 0 = true) ∧
    (let s := { State.reset.setFld R.rstcIslstatInreset (2 ^ 8) with rst := { State.reset.rst with on := [1], held := [8], episode := some true } }
     s.inReset 8 = true ∧ ∃ src ∈ s.rst.on, 8 ∈ srcReach src) := by decide +kernel

theorem witness_StrapDecodingWatchdogAndIslandResetBits :
    (let s := { State.reset with rst := { State.reset.rst with strapDone := false } }
     s.inReset 20 = false ∧ s.rst.strapDone = false ∧ (2 * 15 + 1) * 36 ≤ 36 * 32 ∧ 36 * 32 < (2 * 15 + 3) * 36 ∧ 36 * 0 < 36 ∧ 33 * 36 ≤ 36 * 33 ∧ 33 ≤ 36) ∧
    State.reset.rst.strapDone = true ∧ State.reset.reaches 8 R.rstcWdogKick = true ∧ State.reset.reaches 8 R.rstcIslrst = true ∧
    ((3#22).getLsbD 0 = true ∧ (State.reset.reg R.rstcIslrst.addr).toNat.testBit 0 = false ∧ (3#22).getLsbD 8 = false ∧ (3#22).getLsbD 7 = false) := by
  decide +kernel

/-! ### The control cycle -/

/-- A module that holds the active role (state 1) and runs `bk0` from slot 0: TC0 has a period of 1 ms and a margin of 100 µs; `k` is TC0. -/
def sRun (k : ClassSt) : State :=
  withFlds
    { State.reset with
      book := { State.reset.book with slots := [(0, { BookSlot.init with img := some bk0 })], running := some 0 }
      bin := { State.reset.bin with runs := some 0 }
      classes := [(0, k)] }
    [(R.pairStateState, 1), (R.bookTcCfgPeriod 0, 2), (R.bookTcCfgMargin 0, 100), (R.bookModeMode, 1), (R.bookSlotsStateA, 4), (R.laneListCount 0 0, 1),
      (R.laneListBase 0 0, 100), (R.bookModeHoldLimit, 50)]

/-- TC0 at its start at 1 ms, in mode RUN. -/
def kRun : ClassSt := { ClassSt.init with mode := 1, begun := true, start := 1000000, pubDone := false }

/-- TC0 in flight. -/
def kFly : ClassSt := { kRun with inFlight := true, cycStart := 1000000, cycWake := 3 }

/-- R86, R107: the second start of a class in mode RUN puts its cycle in flight and flips PAGE_IN. -/
theorem test_class_start :
    nextIs (exec (.classNominalStart 0 2000000) (sRun kRun))
      (fun t => (t.cls 0).inFlight && (t.cls 0).cycStart == 2000000 && t.front 0 1 && !t.front 0 0 && t.fld (R.bookTcWakeWake 0) == 1) = true := by
  decide +kernel

/-- R95, R96: a start while the class is in flight is skipped and counted. -/
theorem test_class_start_skipped :
    nextIs (exec (.classNominalStart 0 2000000) (sRun kFly)) (fun t => (t.cls 0).cycStart == 1000000 && t.fld (R.bookTcCountSkips 0) == 1) = true := by
  decide +kernel

theorem witness_ClassNominalStarts :
    ((sRun kRun).isStart 0 2000000 = true ∧ ((sRun kRun).cls 0).stepped = false ∧ ((sRun kRun).cls 0).start < 2000000 ∧ (sRun kRun).book.running.isSome = true ∧
      (sRun kRun).flag R.bookTurnArmed = false ∧ (sRun kRun).book.pend = [] ∧ (∀ u, ((sRun kRun).sub u).waits = false) ∧
      (∀ d < 8, d ≠ 0 → (sRun kRun).used d = true → ((sRun kRun).cls d).begun = true → ((sRun kRun).cls d).pubDone = true) ∧
      (sRun kRun).isActive = true ∧ ((sRun kRun).cls 0).inFlight = false) ∧
    ((sRun kFly).isStart 0 2000000 = true ∧ ((sRun kFly).cls 0).inFlight = true ∧ (sRun kFly).isActive = true) ∧
    ((sRun ClassSt.init).isStart 0 0 = true ∧ ((sRun ClassSt.init).cls 0).begun = false ∧
      ((sRun { kRun with mode := 3 }).cls 0).mode = 3 ∧ ((sRun { kRun with mode := 2 }).cls 0).mode = 2) ∧
    (let s := sRun { kRun with stepped := true, start := 9000000 }
     s.isStart 0 2000000 = true ∧ (s.cls 0).stepped = true ∧ s.tb 2 ≤ 2000000 ∧ s.isActive = true) ∧
    (((sRun kRun).setFld R.pairStateState 2).isFollower = true ∧ ((sRun kRun).setFld R.pairStateState 2).isStart 0 2000000 = true) := by
  refine ⟨⟨by decide +kernel, by decide +kernel, by decide +kernel, by decide +kernel, by decide +kernel, by decide +kernel, fun _ => rfl, by decide +kernel⟩, ?_⟩
  decide +kernel

theorem witness_PublicationsAndHolds :
    (∀ k ∈ [kRun, kFly, { kFly with complete := true, completeAt := 1200000 }, { kRun with stopDue := true }],
      let s := sRun k
      s.used 0 = true ∧ (s.cls 0).begun = true ∧ (s.cls 0).pubDone = false ∧ s.pubInstant 0 = 1900000 ∧ s.book.running.isSome = true ∧
      s.isActive = true ∧ s.flipStop = false ∧ s.pair.catchUp.testBit 0 = false) ∧
    (let s := { sRun { kFly with complete := true } with pair := { State.reset.pair with catchUp := 1 } }
     (s.cls 0).inFlight = true ∧ s.pair.catchUp.testBit 0 = true ∧ s.isActive = true) ∧ { sRun kFly with flipStop := true }.flipStop = true ∧
    (let s := sRun { kRun with mode := 2, holdFrom := some 0 }
     (s.cls 0).holdFrom = some 0 ∧ (s.cls 0).mode = 2 ∧ (s.cls 0).holdFired = false ∧
     0 + s.fld R.bookModeHoldLimit * 10000000 ≤ 500000000 ∧ s.book.running.isSome = true ∧ s.isActive = true) := by decide +kernel

/-- Signal 10h of lane 0 and TC0, in the directory. -/
def sSig : State := (sRun kFly).setDir 0x10 ⟨1, 0, 0, 0, false, false, 0, 0, 0, 0, 0, 0⟩

theorem witness_RecordsMoveBetweenBuffers :
    (let s := sRun { kRun with backOut := [0, 65535], wrOut := [(1, true)], backIn := [4] }
     (∀ q ∈ (s.cls 0).backOut, q < 65536) ∧ (s.cls 0).commitDue = false ∧ mget false (s.cls 0).wrOut 0 = false ∧ (s.cls 0).underOut = [] ∧
     (s.cls 0).backIn = [4] ∧ 0x7FFFFF < recAddr false 0) ∧
    (let s := sRun { kRun with backOut := [0], underOut := [(3, ⟨9, 5, 0, 4⟩)] }
     (s.cls 0).commitDue = false ∧ mget false (s.cls 0).wrOut 3 = false ∧
     (s.cls 0).underOut.find? (fun e => e.1 == 4 * 0 + 3) = some (3, ⟨9, 5, 0, 4⟩)) ∧
    (let s := sRun { kFly with crossSnap := [(0, ⟨9, 5, 0, 4⟩), (1, ⟨8, 5, 4, 0⟩)] }
     s.crossDue 0 = true ∧ (s.cls 0).crossSnap = [(0, ⟨9, 5, 0, 4⟩), (1, ⟨8, 5, 4, 0⟩)] ∧ (0 : Nat) ≠ 1) ∧
    (let s := { sSig with lanes := [(0, { LaneSt.init with storeQ := [⟨0x10, 7, 5, 9, 0⟩, ⟨0x10, 8, 5, 4, 0⟩] })] }
     (s.lane 0).stopped = false ∧ (s.lane 0).storeQ = [⟨0x10, 7, 5, 9, 0⟩, ⟨0x10, 8, 5, 4, 0⟩] ∧ s.dirOk 0x10 = true ∧ (s.dirEntry 0x10).typ ≠ 0 ∧
     (s.dirEntry 0x10).owner = 0 ∧ (s.dirEntry 0x10).cls = 0) ∧
    (let s := { sSig with lanes := [(1, { LaneSt.init with storeQ := [⟨0x10, 7, 5, 9, 0⟩] })] }
     (s.lane 1).storeQ = [⟨0x10, 7, 5, 9, 0⟩] ∧ (s.dirEntry 0x10).owner ≠ 1 ∧ s.flag R.cmpStatusSparing = false ∧ s.dirOk 0x10 = true) := by
  decide +kernel

/-- R45, R164: a store drained by the owner: BOOL values become 0 or 1, a quality above 04h becomes 00h. -/
theorem test_store_drain :
    nextIs (exec (.storeDrain 0) { sSig with lanes := [(0, { LaneSt.init with storeQ := [⟨0x10, 7, 5, 9, 0⟩] })] })
      (fun t => t.recAt (recAddr true 0x10) == ⟨1, 5, 0, 4⟩) = true := by decide +kernel

/-- R69, R70: a record of the crossing list is copied as it was at the nominal start. -/
theorem test_crossing_copy :
    nextIs (exec (.crossingCopyDone 0) (sRun { kFly with crossSnap := [(1, ⟨8, 5, 4, 0⟩)] }))
      (fun t => t.recAt 0x1000010 == ⟨8, 5, 4, 0⟩ && (t.cls 0).crossDone && (t.cls 0).parts == 1) = true := by decide +kernel

/-- TC0 with a commit due, alone and with a partner that mirrors; TC0 in flight; a store of a lane that no entry owns. -/
theorem witness_CycleTransfersComplete :
    (let s := sRun { kRun with backOut := [0], commitDue := true }
     (s.cls 0).commitDue = true ∧ s.mirrored = false) ∧
    (let s := (sRun { kRun with backOut := [0], commitDue := true }).setFlag R.pairLinkUp true
     let s := s.setFld R.pairStatePstate psStandby
     (s.cls 0).commitDue = true ∧ s.mirrored = true) ∧
    (let s := sRun kFly
     s.book.running.isSome = true ∧ s.isActive = true ∧ (s.cls 0).inFlight = true ∧ (s.cls 0).crossDone = false ∧ s.pair.held = [] ∧
     s.crossOf 0 = [(16, 0)] ∧ s.fld (R.laneListCount 0 0) ≠ 0 ∧ s.bit R.cmpStatusFailed 0 = false) ∧
    (let s := { sSig with lanes := [(1, { LaneSt.init with storeQ := [⟨0x3FFFF, 7, 5, 9, 0⟩] })] }
     (s.lane 1).stopped = false ∧ (s.lane 1).storeQ = [⟨0x3FFFF, 7, 5, 9, 0⟩] ∧ s.ownerCheck 0x3FFFF 1 0 ≠ .ok) := by decide +kernel

/-- Lane 0 ready for TC0, with its list in Signal SRAM. -/
def sScan : State :=
  let s := ((sRun kFly).wr64 (frameAddr 100) (entryWord ⟨10, 2, 0, false, 0⟩)).wr64 (frameAddr 10) 0x00010107000000B8
  { (s.wr64 (frameAddr 10) (BitVec.ofNat 64 (184 * 2 ^ 32 + 5))) with lanes := [(0, { LaneSt.init with ready := 1 })] }

theorem witness_ScansFillsAndWriteBacks :
    ((sScan.lane 0).stopped = false ∧ (sScan.lane 0).main.halted = false ∧ (sScan.lane 0).scan = none ∧ sScan.scanClass 0 = some 0 ∧
      (sScan.lane 0).tags = [] ∧ (sScan.lane 0).dirty = [] ∧ (sScan.listEntry 0 0 0).cond = false ∧ 0 < (sScan.listEntry 0 0 0).grains ∧
      (sScan.listEntry 0 0 0).grains ≤ 896 ∧ 184 ≤ getBits (sScan.rd64 (frameAddr (sScan.listEntry 0 0 0).frame)) 32 13) ∧
    (sScan.flag R.cmpCtrlTest = false) ∧
    (let s := { sScan with lanes := [(0, { LaneSt.init with dirty := [(895, 1)], tags := [(895, 11)] })] }
     (s.lane 0).stopped = false ∧ mget 0 (s.lane 0).dirty 895 = 0 + 1 ∧ mget 0 (s.lane 0).tags 895 = 10 + 1 ∧
     s.undoBase (s.homeLane 0) = none ∧ s.stagingFree 0 10 = true) := by decide +kernel

/-- TC1's held Input record takes `n` grains of Wake staging, and the grain of line 895 still has to go in a Commit record. -/
def sFull (n : Nat) : State :=
  { sScan with
    lanes := [(0, { LaneSt.init with dirty := [(895, 1)], tags := [(895, 11)] })]
    classes := [(0, { kFly with ship := [(frameAddr 10 / 64, true)] })]
    pair := { State.reset.pair with held := [⟨1, 0, 0, 0, false, List.replicate n ⟨0, false, []⟩⟩] } }

theorem sFull_used (n : Nat) : (sFull n).stagingUsed = n := by
  simp [State.stagingUsed, sFull, kFly, kRun, ClassSt.init]

theorem sFull_waits (n : Nat) (h : ¬n < 65536) :
    ((sFull n).lane 0).stopped = false ∧ mget 0 ((sFull n).lane 0).dirty 895 = 0 + 1 ∧ mget 0 ((sFull n).lane 0).tags 895 = 10 + 1 ∧
    (sFull n).stagingFree 0 10 = false := by
  refine ⟨rfl, rfl, rfl, ?_⟩
  have a : mget false ((sFull n).cls 0).ship (frameAddr 10 / 64) = true := rfl
  have b : (((sFull n).cls 0).shipOld.any fun e => e.1 == frameAddr 10 / 64) = false := rfl
  simp only [State.stagingFree, sFull_used, a, b, h]; rfl

/-- With 65,536 grains in use, Wake staging is full. -/
theorem witness_ScansFillsAndWriteBacks_full : ∃ n, ((sFull n).lane 0).stopped = false ∧ mget 0 ((sFull n).lane 0).dirty 895 = 0 + 1 ∧
    mget 0 ((sFull n).lane 0).tags 895 = 10 + 1 ∧ (sFull n).stagingFree 0 10 = false := ⟨65536, sFull_waits 65536 (by omega)⟩

/-- Lane 0 with its list walked. -/
def sPart (a b : W64) : State :=
  { (sRun { kFly with parts := 1 }) with
    lanes := [(0, { LaneSt.init with ready := 1, next := [(0, 1)], main := { Engine.init with sig := a, folds := (sRun kFly).windowLen }, chk := { Engine.init with sig := b, folds := (sRun kFly).windowLen } })] }

/-- The same inside a window. -/
def sIn (a b : W64) : State :=
  { (sRun { kFly with parts := 1 }) with
    lanes := [(0, { LaneSt.init with ready := 1, next := [(0, 1)], main := { Engine.init with sig := a, folds := 3 }, chk := { Engine.init with sig := b, folds := 3 } })] }

theorem witness_SignaturesAreCompared :
    ((sPart 5 5).partClass 0 = some 0 ∧ (sPart 5 5).flag R.cmpCtrlTest = false ∧ ((sPart 5 5).lane 0).main.sig = ((sPart 5 5).lane 0).chk.sig ∧
      ((sPart 5 5).cls 0).inFlight = true ∧ ((sPart 5 5).cls 0).parts = 1 ∧
      (sPart 5 6).partClass 0 = some 0 ∧ ((sPart 5 6).lane 0).main.sig ≠ ((sPart 5 6).lane 0).chk.sig ∧
      ((sPart 5 6).lane 0).main.folds = (sPart 5 6).windowLen ∧ ((sPart 5 6).lane 0).chk.folds = (sPart 5 6).windowLen ∧
      (sIn 5 5).partClass 0 = some 0 ∧ ((sIn 5 5).lane 0).main.folds < (sIn 5 5).windowLen ∧ ((sIn 5 5).lane 0).main.extra = [] ∧
      ((sIn 5 5).lane 0).chk.extra = [] ∧ (sIn 5 6).partClass 0 = some 0 ∧ ((sIn 5 6).lane 0).main.folds < (sIn 5 6).windowLen) ∧
    (((sPart 5 5).lane 0).stopped = false ∧ ((sPart 5 5).lane 0).main.halted = false ∧
      ((sPart 5 5).lane 0).main.folds = (sPart 5 5).windowLen ∧ ((sPart 5 5).lane 0).chk.folds = (sPart 5 5).windowLen) ∧
    ((sPart 5 5).setFlag (R.laneStateBusy 0) true).flag (R.laneStateBusy 0) = true ∧
    (let s := State.reset.setFlag R.cmpCtrlTest true
     s.reaches 8 R.cmpInj = true ∧ s.flag R.cmpCtrlLocked = false ∧ s.flag R.cmpCtrlTest = true ∧ getBits 0x3FF 8 2 ≠ 0 ∧ getBits 0x3FF 17 1 = 0) := by
  decide +kernel

/-! ### Faults, the Binnacle -/

/-- Source 20h is of class B, 18h of class A. -/
theorem witness_FaultReportsAreRecorded :
    (∀ src ∈ [0x20, 0x18], let s := { State.reset with reports := [⟨src, 77, false⟩, ⟨3, 0, false⟩] }
      s.fcol.clkOut = false ∧ s.flag R.fcolCtrlTest = false ∧ s.fcol.testFail = [] ∧ s.srcNow src = false ∧ s.srcBroken src = false ∧ s.inPulse src = false ∧
      s.reports = ⟨src, (77#32).toNat, false⟩ :: [⟨3, 0, false⟩]) ∧
    State.reset.srcClass 0x20 = 2 ∧ State.reset.srcClass 0x18 = 1 ∧ State.reset.srcClass 0x42 = 2 ∧
    mget none ({ State.reset with fcol := { State.reset.fcol with aAt := [(0x18, some 5)] } }).fcol.aAt 0x18 = some 5 ∧
    ({ State.reset with fcol := { State.reset.fcol with aAt := [(0x18, some 5)] } }).tb 3 < 5 + 1000000000 ∧
    State.reset.flag R.fcolFirst0Valid = false ∧ (State.reset.setFlag R.fcolFirst0Valid true).flag R.fcolFirst0Valid = true ∧
    (let s := State.reset.setFlag R.fcolCtrlTest true
     s.reaches 8 R.fcolTestSource = true ∧ s.flag R.fcolCtrlLocked = false ∧ s.flag R.fcolCtrlTest = true ∧ (3#2) ≠ 0) := by decide +kernel

/-- A module 2^32 µs after power-on. -/
def sLate : State := { State.reset with tbs := [(3, 4294967296000000 * 2 ^ 32)] }

theorem witness_HardwareReactions :
    State.reset.flag R.fcolStatusSafe = false ∧
    (let s := { State.reset with fcol := { State.reset.fcol with clkOut := true } }
     s.fcol.clkOut = true ∧ s.flag R.fcolStatusSafe = false ∧ s.srcNow 0x28 = false ∧ s.srcBroken 0x28 = false ∧ s.flag R.fcolCtrlTest = false) ∧
    (let s := { State.reset with fcol := { State.reset.fcol with cAt := some (3, 5) } }
     s.fcol.cAt = some (3, 5) ∧ s.fcol.clkOut = false ∧ s.srcNow 0x44 = false ∧ s.srcBroken 0x44 = false) ∧
    (let s := { sLate with fcol := { sLate.fcol with dAt := some 5 } }
     s.canonical = true ∧ s.fcol.dAt = some 5 ∧ s.fld R.fcolCfgDDwell ≠ 0 ∧ 5 + s.fld R.fcolCfgDDwell * 100000000 ≤ s.tb 3 ∧
     s.flag R.fcolEscBlocked = false ∧ s.rst.episode = none ∧ s.fld R.fcolEscCount = 0) ∧
    (∀ n ∈ [2, 3], let s := ({ sLate with fcol := { sLate.fcol with dAt := some 5, escFrom := 4294967296000000 } }).setFld R.fcolEscCount n
      s.canonical = true ∧ s.fld R.fcolEscCount = n ∧ ¬(n = 0 ∨ s.fcol.escFrom + 3600000000000 ≤ s.tb 3) ∧ s.fld R.fcolCfgEscLimit = 3) ∧
    (let s := ({ sLate with bin := { sLate.bin with wdog := some 5 } }).setFlag R.rstcWdogExpired true
     s.canonical = true ∧ s.bin.wdog = some 5 ∧ s.flag R.rstcWdogExpired = true ∧ 5 + 16000000 ≤ s.tb 3 ∧ s.rst.episode = none) := by decide +kernel

/-- Two windows in force that overlap, and two that do not. -/
def sWins : State :=
  { State.reset with acc := { State.reset.acc with force := [((R.acfgWin 0).addr, 0x8000000500000000), ((R.acfgWin 63).addr, 0x8000000700000005), ((R.acfgWin 5).addr, 0x8000000900000008)] } }

theorem witness_MonitorsReport :
    State.reset.inReset 21 = false ∧ (7 : Fin 20).val ≠ 15 ∧ State.reset.inReset 7 = false ∧
    (∀ k ∈ ({ State.reset.rst with clockBad := [7] }).clockBad, k = 7) ∧ State.reset.tbInc 3 ≠ 0 ∧ State.reset.tbFix 3 < 2 ^ 96 ∧
    State.reset.fcol.copy + 10016 < 2 ^ 64 ∧ State.reset.flag R.fcolCfgScrubSram = true ∧ State.reset.flag R.fcolCfgScrubDram = true ∧
    (let x := mget 0 sWins.acc.force (R.acfgWin 0).addr
     let y := mget 0 sWins.acc.force (R.acfgWin 63).addr
     0 < 63 ∧ getBits x 63 1 = 1 ∧ getBits y 63 1 = 1 ∧ getBits x 0 27 ≤ getBits y 32 27 ∧ getBits y 0 27 ≤ getBits x 32 27) ∧
    getBits (mget 0 sWins.acc.force (R.acfgWin 0).addr) 32 27 < getBits (mget 0 sWins.acc.force (R.acfgWin 5).addr) 0 27 ∧
    (let s := { State.reset with bin := { State.reset.bin with wdog := some 5 } }
     s.bin.wdog = some 5 ∧ s.flag R.rstcWdogExpired = false ∧ 5 + 8000016 < 2 ^ 64) ∧
    (State.reset.setFld R.cmpStatusSpare 128).spareLane = some 7 := by decide +kernel

theorem witness_BinnacleWork :
    State.reset.inReset 9 = false ∧ State.reset.bin.sensed = false ∧ ({ State.reset.bin with sensed := true }).sensed = true ∧
    (let s := State.reset.raise 0x400 [1]
     s.events.length = 1 ∧ (∀ e ∈ s.events, e.data.length = 32)) ∧
    (State.reset.rst.strapDone = true ∧ State.reset.bin.runs = none ∧ State.reset.bin.recovery = false ∧ State.reset.bootMode ≠ 2 ∧
      State.reset.flag R.rstcStrapValid = true ∧ (State.reset.setFld R.rstcStrapCode 5).bootMode = 2) ∧
    (let s := { State.reset with bin := { State.reset.bin with trialRec := some ⟨1, true, false⟩ } }
     s.bin.trialRec = some ⟨1, true, false⟩ ∧ s.tbInc 3 ≠ 0 ∧ s.tbFix 3 < 2 ^ 96 ∧ s.bin.releasedAt + 120000000017 < 2 ^ 64) ∧
    (((State.reset.setFld R.logbStatusState 1).setFld R.logbCfgInterval 10).ckptAt 600000000000 = true) ∧
    (let s := sRun kRun
     let s := { s with log := { s.log with ckpt := some ⟨5, false, []⟩ } }
     s.log.ckpt = some ⟨5, false, []⟩ ∧ s.used 0 = true) ∧
    (let s := { State.reset with log := { State.reset.log with staged := [lr0, lr0] } }
     s.inReset 17 = false ∧ s.inReset 18 = false ∧ s.fld R.logbStatusState ≠ 3 ∧ s.log.dropping = false ∧ 2 ≤ s.log.staged.length ∧
     s.log.used + ((s.log.staged.take 2).map (·.len)).sum ≤ recordingArea) := by decide +kernel


/-! ### Mailbox commands -/

/-- A module whose firmware runs, with client 77 on ring pair 1 over the service port, its next command posted. -/
def opened (s : State) (level : Nat) : State :=
  withFlds { s with mail := { s.mail with sess := [(1, ⟨some (.service 5 5), true, 77, level, 10, 60, 0, [], none⟩)] }, bin := { s.bin with runs := some 0 } }
    [(R.qmgrQCfgBound 2, 1), (R.qmgrQCfgBound 3, 1), (R.qmgrQIdxPi 2, 4)]

/-- The same on a module that holds the active role. -/
def actOpen (s : State) : State := (opened s 0).setFld R.pairStateState 1

/-- The commands whose turn comes in a state, with room for the result. -/
def turnsOf (s : State) (ops : List Nat) (active : Bool) (n : Nat) : Bool := ops.all fun op => s.mboxReady h0 op active && s.mboxFits h0 n

theorem test_mailbox_answer :
    nextIs (exec (.clientClose h0) (opened State.reset 0)) (fun t => !(t.sess 1).isOpen && t.qUsed 2 == 0) = true := by decide +kernel

/-- R91, R303: the instant of a mirrored command without a partner is a base tick 100 µs or more from now; here 500 µs. -/
theorem test_mirrored_alone :
    nextIs (exec (.modeCmd h0 (.run .cold)) { (sRun kRun) with
      mail := (opened State.reset 0).mail, regs := (opened (sRun kRun) 0).regs })
      (fun t => t.pair.mirrors.all fun m => m.fixed && m.effect == 500000) = true := by decide +kernel

theorem witness_ReadingCommandsAnswer :
    turnsOf (opened State.reset 0) [0, 0x22, 0x10, 0x12, 0x30, 0x100, 0x102, 0x103, 0x200, 0x203, 0x300, 0x403, 0x500, 0x501, 0x602, 0x603, 0x604, 0x810, 0x811,
      0x900, 0x912, 0xB04, 0xC00] false 1008 = true ∧
    ringReserved 200 = true ∧ ringReserved 10 = false ∧ ringReserved 246 = false ∧
    (let s := opened (sRun kRun) 0
     turnsOf s [0x103] false 1008 = true ∧ (s.taken h0).instOf 5 = some ⟨5, 0, 0, 10, 2, 0x1007, 4, 0⟩ ∧ (s.taken h0).instOf 6 = none ∧
     (s.taken h0).runBook = some bk0) ∧ ((opened State.reset 0).taken h0).runBook = none ∧
    ((opened State.reset 0).taken h0).log.replay = none ∧
    (let u := (opened (State.reset.setDir 16 ⟨1, 0, 0, 0, false, false, 0, 0, 0, 0, 0, 0⟩) 0).taken h0
     u.dirOk 16 = true ∧ ((opened (State.reset.setByte (dirAddr 17) 5) 0).taken h0).dirOk 17 = false) ∧
    (let s := opened { State.reset with log := { State.reset.log with replay := some ⟨1, 9, true, []⟩ } } 0
     turnsOf s [0x912] false 1008 = true ∧ (s.taken h0).log.replay = some ⟨1, 9, true, []⟩) := by decide +kernel

/-- Ring 70 bound to client 77 and ring 71 to another. -/
def bound (s : State) : State :=
  { s with mail := { s.mail with binds := [(70, some ⟨77, [], 0, 0, []⟩), (71, some ⟨78, [], 0, 0, []⟩), (246, some ⟨77, [], 0, 0, []⟩)] } }

def mc0 : ModuleCfg := { State.reset.bin.modCfg with escLimit := 3 }

theorem witness_SettingsSessionsAndQueues :
    (let s := bound (opened State.reset 0)
     let u := s.taken h0
     turnsOf s [1, 3, 0x21, 0x23, 0x24, 0x25, 0x26] false 0 = true ∧ modCfgBad mc0 = none ∧ modCfgBad { mc0 with window := 5 } = some 0 ∧
     u.ringMine h0 3 = true ∧ u.indexOk 3 (hostProduces 3) 0 = true ∧ u.indexOk 3 (hostProduces 3) 9 = false ∧ ringReserved 3 = false ∧
     u.ringMine h0 71 = false ∧ hostConsumes 70 = true ∧ (u.bindOf 70).map (·.client) = some h0.client ∧ u.bindOf 72 = none ∧
     (u.bindOf 71).map (·.client) = some 78 ∧ h0.client ≠ 78 ∧ hostProduces 160 = true) := by decide +kernel

/-- Keys in slots 0, 1 and 5; an identity certificate of slot 0. -/
def keyed (s : State) : State :=
  { s with acc := { s.acc with keys := [(0, ⟨true, false, [1]⟩), (1, ⟨true, false, []⟩), (5, ⟨true, false, [2]⟩)], certOk := true } }

theorem witness_KeysAndTheDebugGate :
    (let s := opened State.reset 0
     turnsOf s [0x11, 0x13, 0x14, 0x15, 0x16, 0x17, 0x18, 0x31] false 1008 = true ∧
     (s.taken h0).flag R.dbgGateOpen = false ∧ ((s.taken h0).keySlot 0).present = false ∧ (s.taken h0).mayCommit = false) ∧
    ([] : List (Nat × W64)).all companionWin = true ∧ companionWin (7, 0xD0C0000F00C00000) = true ∧ winsClash [] = false ∧
    (let s := opened (keyed State.reset) 0
     let u := s.taken h0
     turnsOf s [0x13, 0x14, 0x15] false 1008 = true ∧ (u.keySlot 0).present = true ∧ u.keyOk 0 = true ∧ (u.keySlot 5).present = true ∧
     (u.keySlot 4).present = false ∧ u.acc.opened = false ∧ u.mayCommit = true) ∧
    (let s := opened { keyed State.reset with acc := { (keyed State.reset).acc with chalAt := some 0 }, pair := { State.reset.pair with serial := 6 } } 0
     let u := s.taken h0
     turnsOf s [0x17] false 0 = true ∧ u.tokenBad (tokOf 0 6 (u.reg R.dbgChal.addr)) = none ∧
     u.tokenBad (tokOf 6 7 0) = some 2 ∧ u.inReset 19 = false) := by decide +kernel

/-- Output 0 with measured trim currents, at the ends of their ranges. -/
def trimmed (a b : Nat) : State :=
  { (actOpen (sRun kRun)) with field := { State.reset.field with ao := [(0, { AoSt.init with m4 := some a, m20 := some b })] } }

/-- A fit partner on the link, no mode command waiting. -/
def partnered (s : State) : State := withFlds s [(R.pairLinkUp, 1), (R.pairStatePstate, 2), (R.pairStatePfit, 1)]

def hx : Hdr := { h0 with level := 1 }

/-- Access protection loaded, with a DRAM window of colour 10 that the debug port may write. -/
def granted : State :=
  { State.reset with acc := { State.reset.acc with next := some ⟨[(7, 0xD0FFFFFF00C00000)], [((R.acfgMt 15 2).addr, 0x04000400)], []⟩ } }.loadAcfg

theorem witness_LocalBlockCommands :
    turnsOf (opened State.reset 0) [0x504, 0x505, 0x605, 0xA01, 0xA02, 0xB05, 0xB06] false 0 = true ∧
    (∀ e ∈ [(3900000, 20100000), (4100000, 19900000)], let s := trimmed e.1 e.2
      turnsOf s [0xA01] false 0 = true ∧ (s.taken h0).trimOk 0 = true ∧ ((s.taken h0).ao 0).m4 = some e.1 ∧ ((s.taken h0).ao 0).m20 = some e.2) ∧
    (let s := trimmed 3899999 20000000
     (s.taken h0).trimOk 0 = true ∧ ((s.taken h0).ao 0).m4 = some 3899999 ∧ ((s.taken h0).ao 0).m20 = some 20000000) ∧
    ((opened State.reset 0).taken h0).trimOk 0 = false ∧
    (((opened State.reset 0).setFld (R.canStatusErrstate 1) 2).taken h0).fld (R.canStatusErrstate 1) = 2 ∧
    ((opened State.reset 0).taken h0).fld (R.canStatusErrstate 0) ≠ 2 ∧
    (let s := partnered (actOpen State.reset)
     let u := s.taken h0
     turnsOf s [0x401] true 0 = true ∧ u.isActive = true ∧ u.fitPartner = true ∧ u.book.turn = none ∧ u.book.pendMode = none ∧ u.pair.lineSafe = false) ∧
    (turnsOf (actOpen State.reset) [0x401] true 0 = true ∧ ((actOpen State.reset).taken h0).mayHandOver = false) ∧
    (let s := opened granted 1
     let u := s.taken hx
     s.mboxReady hx 0xF00 false = true ∧ s.mboxFits hx 1008 = true ∧ s.mboxReady hx 0xF01 false = true ∧
     expertBad 0x1000#64 1 8 126 126 = none ∧ (∀ x ∈ expertAddrs 0x1000#64 8 126, targetOf x ≠ some 3 ∧ u.expertDenied 1 x 8 false = none) ∧
     expertBad 0x8030000000#64 10 8 1 124 = none ∧ targetOf 0x8030000000 ≠ some 3 ∧ u.expertDenied 10 0x8030000000 8 true = none ∧
     0x1000000 ≤ 0x8030000000 ∧ expertBad 0x1000#64 0 8 127 126 = some 3 ∧ expertBad 0x4000000#64 0 8 1 126 = none ∧
     targetOf 0x4000000 ≠ some 3 ∧ (u.expertDenied 0 0x4000000 8 false).isSome = true) := by decide +kernel

/-- A flash whose records hold a complete checkpoint of `bk0`, a cycle and its publication. -/
def flash0 : List LogRec :=
  [⟨1, 7, 1, 0, 0, 40, 100, 100, [], [], [], none⟩, ⟨2, 7, 2, 0, 0, 40, 200, 200, List.replicate 9 0 ++ [bk0.identity], [], [], none⟩,
   ⟨3, 2, 0, 0, 1, 40, 300, 300, List.replicate 10 0, [], [], none⟩]

/-- A module that boots for bench replay (strap code 6), with `flash0` and `bk0`. -/
def bench : State :=
  { opened ({ sRun kRun with log := { State.reset.log with flash := flash0 } }.setFld R.rstcStrapCode 6) 0 with mail := (bound (opened State.reset 0)).mail }

/-- The same with a replay of class 0 at record 3, lanes 0 as the record says or not. -/
def replaying (c : ClassSt) : State :=
  { bench with
    log := { bench.log with replay := some ⟨1, 3, false, [(0, ⟨3, 0, 0, 0, 0, 0, 0, none, []⟩)]⟩ }
    classes := [(0, c)] }

def cmp0 (s : State) : State :=
  ((s.flip 0 0).finishBack 0 0).modCls 0 fun k => { k with inFlight := false, wrFrm := [], wrMisc := [] }

/-- Firmware slots: 0 runs, 1 holds an image. -/
def updating (t : Option Trial) : State :=
  let s := opened State.reset 0
  { s with bin := { s.bin with fw := [(0, some ⟨1, 1, 1⟩), (1, some ⟨2, 3, 1⟩)], trialRec := t } }

/-- A chunk that holds the whole image whose header `fw0` is. -/
def chF : Chunk := let d := fw0.head ++ List.replicate 36 0; ⟨9, 0, 100, crc32c d, d⟩

theorem witness_LogsReplaysAndUpdates :
    (let u := bench.taken h0
     turnsOf bench [0x902, 0x903, 0x904, 0x905, 0x910, 0x911, 0x913] false 0 = true ∧
     u.retained 0 = none ∧ u.retained 1 = none ∧ { u with tbs := [(0, 500 * 2 ^ 32), (3, 500 * 2 ^ 32)] }.retained 300 = some 300 ∧
     (u.bindOf 246).map (·.client) = some h0.client ∧ u.log.export_ = none ∧ (u.log.flash.any fun r => decide (2 ≤ r.seq) && decide (r.seq ≤ 9)) = true ∧
     ((opened State.reset 0).taken h0).bindOf 246 = none ∧ (u.log.wins = []) ∧
     { u with log := { u.log with wins := [⟨4, 1, 900⟩] } }.log.wins.any (fun w => w.num == 4) = true ∧
     u.bootMode = 3 ∧ u.fld R.logbStatusState ≠ 2 ∧ (u.mail.bulk.find? fun b => b.id == ch0.id && b.pair == 1) = none ∧ u.mail.bulk.length < 4 ∧
     ch0.offset = 0 ∧ ch0.crcOk = true ∧ ch0.data.length ≤ 992 ∧ ch0.total = ch0.data.length ∧
     (u.replayStart true 2 9 false).2 = none ∧ (u.replayStart false 250 9 false).2 = none ∧ (u.replayCkpt true 3).isNone = true ∧
     (u.setFld R.logbStatusState 1).fld R.logbStatusState = 1 ∧ (u.setFld R.logbStatusState 2).fld R.logbStatusState = 2 ∧ u.log.ckpt = none ∧
     { u with log := { u.log with ckpt := some ⟨0, false, []⟩ } }.log.ckpt ≠ none ∧ ((opened State.reset 0).taken h0).bootMode ≠ 3) ∧
    (let s := replaying { kRun with inFlight := true, complete := true }
     let rp : Replay := ⟨1, 3, false, [(0, ⟨3, 0, 0, 0, 0, 0, 0, none, []⟩)]⟩
     let r : LogRec := ⟨3, 2, 0, 0, 1, 40, 300, 300, List.replicate 10 0, [], [], none⟩
     s.log.replay = some rp ∧ s.replayAt 0 = some r ∧ (rp.of 0).state = 0 ∧ r.typ = 2 ∧ r.cls = 0 ∧ (s.cls 0).complete = true ∧
     (∀ k < 8, (cmp0 s).laneHash 0 k = r.body.getD (2 + k) 0) ∧ (cmp0 s).laneHash 0 7 ≠ (List.replicate 9 0 ++ [5]).getD (2 + 7) 0 ∧ rp.check = false) ∧
    (let u := (updating none).taken h0
     turnsOf (updating none) [0xC01, 0xC02, 0xC03, 0xC04] false 2 = true ∧
     u.bin.runs = some 0 ∧ u.bin.rollback ≤ fw0.secver ∧ 0 < fw0.secver ∧ fw0.secver < 256 ∧ u.mail.bulk.isEmpty = true ∧
     u.pstate ≠ psActive ∧ u.trialSlot = some 1 ∧ u.bin.trialRec = none ∧ ((actOpen State.reset).taken h0).pstate = psActive ∧
     { u with bin := { u.bin with rollback := 4 } }.bin.rollback > fw0.secver) ∧
    (let u := (updating (some ⟨0, true, true⟩)).taken h0
     u.bin.trialRec = some ⟨0, true, true⟩ ∧ u.bin.runs = some 0 ∧ u.fwSlot 0 = some ⟨1, 1, 1⟩ ∧ u.sameVersion 1 = true ∧ u.pstate ≠ psActive) := by
  decide +kernel

@[inherit_doc chF]
theorem witness_LogsReplaysAndUpdates_image :
    chF.offset = 0 ∧ chF.crcOk = true ∧ chF.data.length ≤ 992 ∧ chF.total = chF.data.length ∧
    (⟨chF.data.take 64, chF.data.length, true⟩ : FwImage) = fw0 ∧ fw0.headerOk = true ∧ fw0.sigOk = true ∧
    (⟨ch0.data.take 64, ch0.data.length, true⟩ : FwImage).headerOk = false := by decide +kernel

/-- An active module without a partner that runs `bk0`, with signal 10h written by clients (binding 4). -/
def acting (b : Nat) : State := (actOpen (sRun kRun)).setDir 0x10 ⟨1, b, 0, 0, false, false, 0, 0, 0, 0, 0, 0⟩

/-- The same with a block of type 35. -/
def tunable : State := let s := acting 4; { s with book := { s.book with slots := [(0, { BookSlot.init with img := some { bk0 with insts := [⟨5, 0, 0, 10, 2, 35, 4, 0⟩] } })] } }

/-- Memory that holds the VALID bit of every force entry, and no signal but 0. -/
def fullMem : List Host.Cell := (List.range 4096).map fun i => (0x2F80003 + 64 * i, 0x80#8)

theorem mget_map_off (d : Byte) (l : List Nat) (k : Nat) (h : k % 64 ≠ 3) : mget d (l.map fun i => (0x2F80003 + 64 * i, 0x80#8)) k = d := by
  induction l with
  | nil => rfl
  | cons x l ih =>
    simp only [List.map_cons, mget]
    rw [if_neg (by omega), ih]

theorem fullMem_forceOf (s : State) (h : s.mem = fullMem) : s.forceOf 0x10 = none := by
  have hb : ∀ i j, j < 3 → s.byte (forceAddr i + j) = 0 := fun i j hj => by
    have hm : (forceAddr i + j) % 64 ≠ 3 := by simp only [forceAddr]; omega
    rw [State.byte, h, fullMem, mget_map_off _ _ _ hm, memDefault, if_neg (by simp only [forceAddr]; omega), if_neg (by simp only [forceAddr]; omega)]
  have hs : ∀ i, s.forceSig i = 0 := fun i => by
    have h0 := hb i 0 (by omega)
    have h1 := hb i 1 (by omega)
    have h2 := hb i 2 (by omega)
    simp only [State.forceSig, State.readN, State.bytes]
    rw [show forceAddr i = forceAddr i + 0 from rfl, h0, show forceAddr i + 0 + 1 = forceAddr i + 1 from rfl, h1,
      show forceAddr i + 1 + 1 = forceAddr i + 2 from rfl, h2]
    rfl
  simp [State.forceOf, hs]

theorem fullMem_forceValid : ({ acting 4 with mem := fullMem }).forceValid.length = 4096 := by decide +kernel

theorem witness_MirroredCommandsAreAccepted :
    turnsOf (acting 4) [2, 0x101, 0x104, 0x301, 0x302, 0x303, 0x402, 0x502, 0x503, 0x601, 0x701, 0x702, 0x703, 0x901, 0xB01, 0xB02, 0xB03] true 8 = true ∧
    (partnered (acting 4)).mirrored = true ∧ (acting 4).mirrored = false ∧ turnsOf (partnered (acting 4)) [2] true 8 = true ∧
    (let u := (acting 4).taken h0
     u.modeBad h0 .stop = none ∧ u.modeBad h0 (.hold 1) = none ∧ u.book.pendMode = none ∧
     { u with book := { u.book with pendMode := some .stop } }.book.pendMode ≠ none ∧ (u.setFld R.bookModeMode 0).fld R.bookModeMode = 0 ∧
     (u.dirEntry 0x10).typ ≠ 0 ∧ (u.dirEntry 0x10).bind = 4 ∧ valueOk (u.dirEntry 0x10).typ 1 = true ∧ (u.dirEntry 0x20).typ = 0 ∧
     u.forceOf 0x10 = none ∧ u.forceValid.length + (u.forcesDue.filter fun g => g != 0x10).length < 4096 ∧ u.fld R.bookModeMode ≠ 0 ∧
     (u.setFld (R.stnStState 255) 6).fld (R.stnStState 255) = 6 ∧ (u.setFld (R.stnStState 255) 2).fld (R.stnStState 255) = 2 ∧
     u.fld (R.stnStState 255) = 0 ∧ u.fld R.timeStatusTb0State = 0 ∧ (u.setFld R.timeStatusTb0State 3).fld R.timeStatusTb0State = 3 ∧
     (u.setFld R.timeStatusTb0State 1).fld R.timeStatusTb0State = 1) ∧
    (((acting 0).taken h0).dirEntry 0x10).bind ≠ 4 ∧ ((acting 4).forceSet 0x10 0 77 1).forceOf 0x10 ≠ none ∧
    (tunable.taken h0).instOf 5 = some ⟨5, 0, 0, 10, 2, 35, 4, 0⟩ ∧ (tunable.taken h0).tuneBad ⟨5, 0, 0, 10, 2, 35, 4, 0⟩ 4 0 = none ∧
    (tunable.taken h0).instOf 6 = none ∧ pairCfgBad ⟨255, 1000, 1440, true, 255, 600, 0⟩ = none ∧ pairCfgBad ⟨255, 50, 1, true, 0, 10, 0⟩ = none ∧
    pairCfgBad ⟨255, 49, 1, true, 0, 10, 0⟩ = some 1 ∧
    timeCfgBad ⟨127, 127, 127, [⟨1, 2, true, 0, 0, 0, -128, 127⟩], 255, 255, true, 3600⟩ = none ∧
    canCfgBad ⟨1, 4, 4, true, true, 2047, [⟨0x10, true, 3, 0x7FF⟩]⟩ = none ∧ canObjOk 0 10 = true := by decide +kernel

/-- A mirrored command whose instant has come. -/
def due (b : MirBody) : MirCmd := ⟨77, 10, some 1, 2, b, 0, true, 500, 0, false, 0, []⟩

theorem witness_CommandsTakeEffectAtTheirInstant :
    (∀ m ∈ State.reset.pair.mirrors, m.fixed = true → m.done = true ∨ 9 < m.effect) ∧
    (let s := { acting 4 with pair := { (acting 4).pair with mirrors := [due (.mode .stop), { due (.mode .stop) with tally := 11, effect := 501 }] } }
     (s.pair.mirrors.filter fun x => x.fixed && !x.done && decide (x.effect ≤ 500)) = [due (.mode .stop)]) ∧
    State.reset.tbInc 2 ≠ 0 ∧ State.reset.tbFix 2 < 2 ^ 96 ∧ State.reset.used 0 = false ∧ (acting 4).used 0 = true ∧ (acting 4).isActive = true ∧
    State.reset.isActive = false ∧ (acting 4).fld R.bookModeMode ≠ 0 ∧ State.reset.fld R.bookModeMode = 0 ∧
    ¬ (State.reset.canTalks 0 = true ∧ State.reset.flag (R.canObjEn 0 3) = true ∧ State.reset.flag (R.canObjTx 0 3) = true) := by decide +kernel

/-- The effect instant of a RUN command: class 0 enters its mode (R107). -/
theorem test_effect_instant :
    nextIs (exec (.effectInstant 500) { acting 4 with pair := { (acting 4).pair with mirrors := [due (.mode (.hold 1))] } })
      (fun t => t.fld R.bookModeMode == 2 && (t.cls 0).modeTo == some 2 && decide (500 ≤ t.tb 2)) = true := by decide +kernel

/-- A command of pair 1 that waits for the partner's part. -/
def asking : State :=
  { State.reset with mail := { State.reset.mail with
      sess := [(1, ⟨some (.service 5 5), true, 77, 0, 10, 60, 0, [], some ⟨0x400, 9, some 8, 0, 0, [1], 0⟩⟩)] } }

theorem witness_CommandsThatNameModules :
    turnsOf (opened State.reset 0) [0x400, 0x600, 0x700, 0xB00, 0x800, 0xA00, 0x802, 0x704, 0x705, 0x801, 0x706] false 1008 = true ∧
    ((opened State.reset 0).taken h0).flag R.pairLinkUp = false ∧ ((partnered (opened State.reset 0)).taken h0).flag R.pairLinkUp = true ∧
    turnsOf (partnered (opened State.reset 0)) [0x400, 0x800] false 1008 = true ∧
    (∀ q ∈ [Query.pairStatus, .faultStatus, .tpiConfig 0 3], (State.reset.part q []).2.1 = stOk) ∧
    (State.reset.part (.tpiConfig 0 4) [0, 1, 2]).2.1 ≠ stOk ∧
    State.reset.tpiWired 0 = true ∧ (State.reset.setFld R.rstcStrapCode 0).tpiWired 1 = false ∧ (State.reset.setFld R.rstcStrapCode 0).tpoWired 2 = false ∧
    State.reset.tpoWired 1 = true ∧ State.reset.tpoBad tpo0 = none ∧ State.reset.tpoBad { tpo0 with en := true, width := 7 } = some 6 ∧
    (State.reset.setFlag (R.timeTpoCfgEn 1) true).flag (R.timeTpoCfgEn 1) = true ∧ State.reset.flag (R.timeTpoCfgEn 1) = false ∧ tpo0.en = true ∧
    (State.reset.part (.tpoProgram 1 tpo0) []).2.1 = stOk ∧ State.reset.inReset 9 = false ∧ (opened State.reset 0).bin.runs ≠ none ∧
    ((opened State.reset 0).linkRx ⟨0, 0⟩).inReset 9 = false ∧ ((opened State.reset 0).linkRx ⟨0, 0⟩).bin.runs ≠ none ∧
    (State.reset.linkRx ⟨0, 0⟩).bin.runs = none ∧ (asking.linkRx ⟨0, 0⟩).queryWait 0x400 = some (1, ⟨0x400, 9, some 8, 0, 0, [1], 0⟩) ∧
    (asking.linkRx ⟨0, 0⟩).queryWait 0x401 = none ∧ State.reset.bin.runs = none ∧ asking.queryWait 0x400 = some (1, ⟨0x400, 9, some 8, 0, 0, [1], 0⟩) ∧ asking.queryWait 0x401 = none ∧
    (asking.sess 1).waiting.isSome = true ∧ asking.tbInc 3 ≠ 0 ∧ asking.tbFix 3 < 2 ^ 96 := by decide +kernel

/-- A closed pair bound to its transport with a command posted. -/
def shut : State :=
  let s := opened State.reset 0
  { s with mail := { s.mail with sess := [(1, { Session.init with bound := some (.service 5 5) })] } }

/-- A closed pair 1 beside an open pair 2 of client 77. -/
def rival : State := { shut with mail := { shut.mail with sess := shut.mail.sess ++ [(2, ⟨some (.service 5 5), true, 77, 0, 10, 60, 0, [], none⟩)] } }

/-- Four transfers of pair 1. -/
def bulky : State := { State.reset with mail := { State.reset.mail with bulk := [⟨1, 1, 8, [], 0⟩, ⟨2, 1, 8, [], 0⟩, ⟨3, 1, 8, [], 0⟩, ⟨4, 1, 8, [], 0⟩] } }

theorem witness_SessionRules :
    (let s := opened State.reset 0
     s.turnComes h0 = true ∧ s.mboxServes h0.via = true ∧ respMost 0xC00 ≤ (s.mboxAck h0).qFree 3 ∧ s.mboxFits h0 3 = true ∧ (s.sess 1).isOpen = true ∧ h0.client = (s.sess 1).client ∧
     { h0 with client := 78 }.client ≠ (s.sess 1).client ∧ h0.tally = (s.sess 1).next ∧ s.bin.recovery = false ∧
     { h0 with len := 4 }.len ≠ h0.need ∧ s.turnComes { h0 with len := 4 } = true ∧ s.turnComes { h0 with whole := false } = true ∧ (s.sess 1).level ≠ 1 ∧
     h0.level = 0 ∧ s.isActive = false ∧ s.turnComes { h0 with tally := 20 } = true ∧ ((s.sess 1).hist.find? fun r => r.tally == 20) = none) ∧
    (∀ k ∈ [1, 64], let s := opened State.reset 0
      let r : Resp := ⟨2, (65536 + 10 - k) % 65536, 0, 0, [1, 2]⟩
      let s := { s with mail := { s.mail with sess := [(1, { (s.sess 1) with hist := [r] })] } }
      s.turnComes { h0 with tally := r.tally } = true ∧ ((s.sess 1).hist.find? fun x => x.tally == r.tally) = some r ∧
      (r.tally + k) % 65536 = (s.sess 1).next ∧ s.mboxFits { h0 with tally := r.tally } 2 = true) ∧
    (let s := { opened State.reset 0 with bin := { State.reset.bin with recovery := true } }
     s.turnComes h0 = true ∧ s.mboxServes h0.via = true ∧ recoveryOp 2 = false ∧ s.bin.recovery = true ∧ s.mboxFits h0 0 = true) ∧
    (shut.turnComes h0 = true ∧ (shut.sess 1).isOpen = false ∧ shut.bin.recovery = false ∧ h0.len = h0.need ∧ h0.whole = true ∧ h0.level < 2 ∧
      shut.mboxFits h0 3 = true ∧ (shut.mail.sess.all fun e => !e.2.isOpen) = true) ∧
    { shut with bin := { shut.bin with modCfg := { shut.bin.modCfg with expert := 4 } } }.expertOn (.service 5 5) = true ∧
    (rival.turnComes h0 = true ∧ (rival.sess 1).isOpen = false ∧ (rival.sess 2).isOpen = true ∧ (rival.sess 2).client = 77 ∧ rival.mboxFits h0 0 = true) := by decide +kernel

/-- The ends of sessions and the transfers. -/
theorem witness_SessionRules_transfers :
    (((opened State.reset 0).sess 1).bound ≠ some .pcie ∧ (opened State.reset 0).tbInc 3 ≠ 0) ∧ (State.reset.sess 31).isOpen = false ∧
    (let s := { State.reset with mail := { State.reset.mail with downAt := some 5, sess := [(1, { Session.init with bound := some .pcie })] } }
     s.mail.downAt = some 5 ∧ (s.sess 1).bound = some .pcie ∧ (s.sess 2).bound ≠ some .pcie) ∧ State.reset.mail.downAt = none ∧
    (bulky.mail.bulk.any fun b => decide (b.id = (3#32).toNat) && decide (b.pair = (1 : Fin 32).val)) = true ∧
    (bulky.mail.bulk.find? fun b => b.id == ch0.id && b.pair == 1) = none ∧ 4 ≤ bulky.mail.bulk.length ∧ State.reset.mail.bulk.length < 4 ∧
    ch0.offset = 0 ∧ ch0.crcOk = true ∧ ch0.data.length ≤ 992 ∧ ch0.data.length ≤ ch0.total ∧ { ch0 with crc := 0 }.crcOk = false ∧
    (bench.taken h0).bootMode = 3 ∧ ((bench.taken h0).chunk h0 ch0).2.1 = okWith [] ∧ turnsOf bench [0x910, 0xC01] false 0 = true := by decide +kernel

/-- The PCIe link up, MSI-X enabled, pair 1 bound to PCIe, aperture 2 enabled with a limit of two grains, ring 70 bound to client 77. -/
def hosted : State :=
  withFlds { bound (opened State.reset 0) with
      mail := { (bound (opened State.reset 0)).mail with
        sess := [(1, ⟨some .pcie, true, 77, 0, 10, 60, 0, [], none⟩)], vecMask := [(256, false)], vecPend := [(256, true)], funMask := false } }
    [(R.hostStatusLinkup, 1), (R.hostStatusMsixEn, 1), (R.hostApBaseEn 2, 1), (R.hostApLenLast 2, 1), (R.qmgrQIdxPi 70, 2)]

/-- Transmit ring 160 bound by client 77 to node 40h; the module has joined the fabric. -/
def sender : State :=
  let s := hosted.setFlag R.fabCtrlJoined true
  { s with mail := { s.mail with binds := [(160, some ⟨77, [], 0x40, 130, []⟩)] }, fab := { s.fab with routes := [(4, ⟨some (2, 10), none, some 1⟩)] } }.setFld (R.qmgrQIdxPi 160) 1

theorem witness_HostPortAndTransports :
    State.reset.inReset 15 = false ∧ hosted.flag R.hostStatusLinkup = true ∧ hosted.hostUp = true ∧
    hosted.viaOf 2 = some .pcie ∧ hosted.indexOk 2 true 64 = true ∧ hosted.indexOk 2 true (2 ^ 32 - 1) = false ∧ hosted.viaOf 70 = some .pcie ∧
    hosted.indexOk 70 false 2 = true ∧ hosted.indexOk 70 false 3 = false ∧ (hosted.sess 31).bound = none ∧ hosted.indexOk 62 true 64 = true ∧
    hostProduces (ringOfEntry (2 * 64)) = true ∧ hosted.viaOf (ringOfEntry (2 * 64)) = some .pcie ∧ hostProduces (ringOfEntry 0) = true ∧
    hosted.pairFree 0 = true ∧ hostProduces (ringOfEntry 4096) = false ∧ hosted.flag (R.hostApBaseEn 0) = false ∧ hosted.flag (R.hostApBaseEn 2) = true ∧
    (hosted.fld (R.hostApLenLast 2) + 1) * 64 = 128 ∧ hosted.vecReady 256 = true ∧ mget false hosted.mail.vecPend 256 = true ∧
    mget none hosted.mail.vecLast 256 = none ∧ hosted.vecReady 257 = false ∧
    (let s := opened State.reset 0
     (s.sess 1).bound = some (.service 5 5) ∧ 60 ≤ s.qFree 2 ∧ s.qUsed 2 ≤ s.qSize 2 ∧ (s.sess 1).bound ≠ some (.service 6 6)) ∧
    State.reset.fabTakes 2 = false ∧ (sender.bindOf 160).map (·.dest) = some 0x40 ∧ sender.qUsed 160 = 1 ∧ sender.flag R.fabCtrlJoined = true ∧
    sender.routeTo 0x40 = some 2 ∧ { sender with fab := State.reset.fab }.routeTo 0x40 = none ∧ sender.bindOf 191 = none := by decide +kernel

/-! ### Books -/

/-- The active module with `b` loaded into slot 1 in state `st`, a chunk of a transfer that completes it. -/
def loaded (b : Book) (st : Nat) : State :=
  (({ acting 4 with book := { (acting 4).book with slots := [(0, { BookSlot.init with img := some bk0 }), (1, { BookSlot.init with img := some b })] } }).setSlotState 1 st)

/-- A Turn to slot 1 pending; armed or not. -/
def turning (armed : Bool) : State :=
  let s := loaded bk0 5
  withFlds { s with book := { s.book with turn := some ⟨1, none, 0, armed, 0, armed, 77⟩ } } [(R.bookTurnPending, 1), (R.bookTurnArmed, armed.toNat), (R.bookTurnInstant, 4)]

def bk9 : Book := { bk0 with sched := { bk0.sched with classes := [⟨4, 0, 100, 1, 2⟩] ++ List.replicate 7 ⟨0, 0, 0, 0, 0⟩ } }

theorem witness_BooksAreLoadedVerifiedAndTurned_1 :
    (let u := (turning true).taken h0
     turnsOf (turning true) [0x201, 0x206] false 9 = true ∧ turnsOf (turning true) [0x204] true 9 = true ∧ u.flag R.bookTurnPending = true) ∧
    (let s := loaded bk0 3
     let u := s.taken h0
     turnsOf s [0x201, 0x202, 0x205, 0x206] false 10 = true ∧ turnsOf s [0x204] true 9 = true ∧ (u.bookChunk h0 1 ch0).2.1 = okWith [] ∧
     (u.bookChunk h0 1 ch0).2.2 = true ∧ u.flag R.bookTurnPending = false ∧ u.slotState 1 = 3 ∧ (u.chunk h0 ch0).2.1 = okWith [] ∧
     u.flag R.pairLinkUp = false ∧ (u.slot 1).img = some bk0 ∧ turnReason u.runBook bk0 = none ∧ (turnReason u.runBook bk9).isSome = true ∧
     u.slotState 0 = 4 ∧ u.book.running ≠ none ∧ u.fld R.bookModeMode ≠ 0 ∧ (u.setFld R.bookModeMode 0).fld R.bookModeMode = 0 ∧
     u.restartPending = false ∧ (u.partner ≠ psSyncing) ∧ (loaded bk0 2).slotState 1 ≠ 3) ∧
    (let s := partnered (loaded bk0 3)
     let u := s.taken h0
     turnsOf s [0x201] false 10 = true ∧ (u.bookChunk h0 1 ch0).2.2 = true ∧ u.flag R.pairLinkUp = true ∧ u.partner = psStandby) ∧
    (let s := loaded bk0 2
     (s.slot 1).img = some bk0 ∧ s.slotState 1 = 2 ∧ (s.slot 1).own = none ∧ (s.slot 1).both = false ∧ (s.slot 1).answer = none ∧
     (s.verdict bk0).code = 0x12 ∧ s.slotState 0 ≠ 2) ∧
    (∀ own ∈ [none, some 1], let s := (partnered (loaded bk0 2)).modSlot 1 fun x => { x with both := true, own := own }
      (s.slot 1).img = some bk0 ∧ s.slotState 1 = 2 ∧ (s.slot 1).own = own ∧ (s.slot 1).both = true ∧ s.flag R.pairLinkUp = true ∧ (s.slot 1).partner = none ∧
      (s.slot 1).answer = none ∧ (s.linkRx ⟨0, 0⟩).slotState 1 = 2 ∧ ((s.linkRx ⟨0, 0⟩).slot 1).both = true ∧ ((s.linkRx ⟨0, 0⟩).slot 1).own = own ∧
      ((s.linkRx ⟨0, 0⟩).slot 1).answer = none) := by decide +kernel

theorem witness_BooksAreLoadedVerifiedAndTurned_2 :
    State.reset.book.turn = none ∧
    (let s := partnered ((turning true).setFlag R.bookTurnArmed false)
     (s.book.turn.map (·.armedOwn)) = some true ∧ s.isActive = true ∧ s.flag R.bookTurnArmed = false ∧ s.mirrored = true ∧ s.tbInc 2 ≠ 0 ∧ s.tbFix 2 < 2 ^ 96) ∧
    (let s := turning true
     s.flag R.bookTurnPending = true ∧ s.flag R.bookTurnArmed = true ∧ s.turnBook = some bk0 ∧ s.used 0 = true ∧ s.bit R.bookTurnTurned 0 = false ∧
     (s.cls 0).turnDone = false ∧ (s.cls 0).inFlight = false ∧ (s.cls 0).backOut = [] ∧ s.runBook = some bk0 ∧ s.tbInc 2 ≠ 0 ∧ s.isActive = true) ∧
    (let s := (turning true).setFld R.bookTurnTurned 1
     s.book.turn.isSome = true ∧ s.turnBook = some bk0 ∧ s.runBook = some bk0 ∧ ∀ c < 8, s.used c = true → s.bit R.bookTurnTurned c = true) ∧
    ((turning false).book.turn.isSome = true ∧ (turning false).flag R.bookTurnArmed = false ∧ (∀ e ∈ (turning false).mail.sess, e.2.waiting = none)) ∧
    State.reset.isActive = false ∧ State.reset.flag R.bookTurnPending = false ∧
    (let s := (acting 4).setRec (recAddr ((acting 4).front 0 0) 0x10) ⟨7, 5, 0, 4⟩
     s.retReady 0 (3 * 0x20) = true ∧ (s.behindForce 0x10).value ≠ (s.recAt (retSigAddr 3 (s.retChosen 3))).value) ∧
    (State.reset.behindForce 0x10).value = (State.reset.recAt (retSigAddr 3 (State.reset.retChosen 3))).value ∧
    { State.reset with book := { State.reset.book with retAt := [(96, some 0)] } }.retReady 0 96 = false := by decide +kernel

/-- A Book of one class and no blocks. -/
def bkMin : Book :=
  { bk0 with
    code := [], lists := [], frames := [], insts := [], cross := [], stations := [], pubs := [], subs := [], rings := [], field := ⟨[], []⟩
    sched := { bk0.sched with classes := [⟨2, 0, 100, 1, 2⟩] ++ List.replicate 7 ⟨0, 0, 0, 0, 0⟩ } }

/-- The checks of a Book's sections, in order. -/
def sectionChecks (b : Book) (run : Option Book) : Option Verdict :=
  firstBad [checkDir b, checkSched b, checkRegion b, checkLists b, checkBanks b, checkInsts b, checkStations b run, checkSoundings b, checkField b,
    checkRetain b, checkCapacity b, checkTiming b, checkReuse b run]

/-- A key slot that holds a key. -/
def keyed4 (n : Nat) : KeySlot := if n = 4 then ⟨true, false, List.replicate 12 1⟩ else KeySlot.init

/-- R200 to R203, R207, R208: a header that reads as its table says; a wrong MAGIC, a reserved byte, a SECTIONS of 0 (10h with its offset); no key in slot 4 (12h); a
signature of zeros (11h); a wrong section CRC; the sections of a Book verify against itself and without a Book running; a class without lanes (16h); a Turn of
a class's period is not possible (1). -/
theorem test_verdicts :
    (bk0.formatBad = none ∧ bk0.programId = 7 ∧ bk0.revision = 1 ∧ bk0.len = 240 ∧ bk0.rmapId = 3 ∧ bk0.sections = 1 ∧ bk0.keyIndex = 0 ∧
      bk0.sectionRow 0 = ⟨2, 0, 144, 0, 0⟩ ∧ bk0.sectionFails = none ∧ { bk0 with image := img0.set 140 1 }.sectionFails = some 2) ∧
    (verdictOf none keyed4 { bk0 with image := img0.set 0 0 } = ⟨0x10, 0, 10, 0⟩ ∧ verdictOf none keyed4 { bk0 with image := img0.set 37 1 } = ⟨0x10, 0, 10, 35⟩ ∧
      verdictOf none keyed4 { bk0 with image := img0.set 32 0 } = ⟨0x10, 0, 10, 32⟩ ∧ verdictOf none (fun _ => KeySlot.init) bk0 = ⟨0x12, 0, 13, 0⟩ ∧
      verdictOf none keyed4 { bk0 with image := img0.set 34 2 } = ⟨0x12, 0, 13, 2⟩ ∧ (verdictOf none keyed4 bk0).code = 0x11) ∧
    (sectionChecks bkMin (some bkMin)).isNone = true ∧ (sectionChecks bkMin none).isNone = true ∧
    (sectionChecks { bkMin with sched := { bk0.sched with classes := [⟨2, 0, 100, 0, 2⟩] ++ List.replicate 7 ⟨0, 0, 0, 0, 0⟩ } } none).any (·.code == 0x16) = true ∧
    turnReason (some bkMin) bkMin = none ∧ (turnReason none bkMin).isSome = true ∧
    (turnReason (some bkMin) { bkMin with sched := bk9.sched }).isSome = true := by decide +kernel

/-- FIPS 180-4's example "abc" for SHA-384; the check value of CRC-32C; the double of the base point of P-384, computed apart. -/
theorem test_digests :
    sha384 [0x61, 0x62, 0x63] = 0xCB00753F45A35E8BB5A03D699AC65007272C32AB0EDED1631A8B605A43FF5BED8086072BA1E7CC2358BAECA134C825A7 ∧
    crc32c [0x31, 0x32, 0x33, 0x34, 0x35, 0x36, 0x37, 0x38, 0x39] = 0xE3069283 ∧
    addPoint g384 g384 = some
      (0x08D999057BA3D2D969260045C55B97F089025959A6F434D651D207D19FB96E9E4FE0E86EBE0E64F85B96A9C75295DF61,
       0x8E80F1FA5B1B3CEDB7BFE8DFFD6DBA74B275D875BC6CC43E904E505F256AB4255FFD43E94D39E22D61501E700A940E80) ∧
    (g384.any fun q => onCurve q.1 q.2) = true := by decide +kernel

/-! ### The pair -/

/-- A module in a pair state, its firmware running. -/
def inState (n : Nat) : State := { (State.reset.setFld R.pairStateState n) with bin := { State.reset.bin with runs := some 0 }, pair := { State.reset.pair with aliveStop := false } }

/-- The link up, and the partner in a state. -/
def linked (s : State) (partner : Nat) : State := withFlds s [(R.pairLinkUp, 1), (R.pairStateLink, 1), (R.pairStatePstate, partner), (R.pairStateAliveIn, 1)]

theorem witness_PairSignalsLinkAndFence :
    ((inState 1).pairTalks = true ∧ (inState 1).bin.runs.isSome = true ∧ (inState 1).pair.aliveStop = false ∧ (inState 1).pstate ≠ psSafe ∧
      State.reset.bin.runs = none ∧ (inState 1).tbInc 3 ≠ 0 ∧ (inState 1).tbFix 3 < 2 ^ 96 ∧ (State.reset.setFld R.rstcStrapCode 14).pairTalks = false) ∧
    (inState 5).pstate = psSolo ∧ ((inState 1).pstate = psActive ∧ (inState 1).flag R.pairLinkUp = false) ∧
    (let s := linked (inState 1) 2
     s.pstate = psActive ∧ s.flag R.pairLinkUp = true ∧ s.fld R.pairStatePstate ≠ psSafe ∧ s.flag R.pairStateAliveIn = true ∧ s.acc.opened = false ∧
     s.pair.lagging = false ∧ s.fld R.pairStatePstate = psStandby ∧ st0.state = psStandby ∧ st0.fault = false ∧ st0.timeMaster = s.time.pMaster ∧
     { st0 with watch := 0 }.watch ≤ s.fld R.pairWatchWatch) ∧
    (linked (inState 2) 1).pstate = psStandby ∧
    (let s := withFlds { inState 5 with pair := { State.reset.pair with statusGood := 15 } } [(R.pairStateAliveIn, 1), (R.pairStateTimemaster, 1), (R.pairWatchWatch, 3)]
     s.flag R.pairLinkUp = false ∧ 15 ≤ s.pair.statusGood ∧ s.pstate = psSolo ∧ s.acc.opened = false ∧ s.flag R.pairStateAliveIn = true ∧
     s.flag R.pairStateTimemaster = true ∧ { st0 with state := 3 }.state = psSyncing ∧ s.fld R.pairStatePstate ≠ psSyncing ∧ st0.watch ≤ s.fld R.pairWatchWatch ∧
     el0.pairLevel = 1 ∧ s.isActive = true ∧ s.fld R.pairWatchWatch < 4) ∧ State.reset.pair.statusGood < 15 ∧ State.reset.isActive = false ∧
    (let s := (inState 0).setFlag R.pairFenceValid true
     s.bin.runs.isSome = true ∧ s.pstate = psStart ∧ s.pair.testsDone = none ∧ s.bootMode < 2 ∧ s.flag R.fcolStatusSafe = false ∧ s.flag R.pairFenceValid = true) ∧
    (linked (inState 0) 5).fld R.pairStatePstate = psSolo ∧
    (let s := { (inState 0).setFlag R.pairStateAliveIn true with pair := { State.reset.pair with testsDone := some 7 } }
     s.pair.testsDone = some 7 ∧ s.pstate = psStart ∧ s.flag R.pairStateAliveIn = true ∧ s.flag R.pairLinkUp = false ∧ s.pair.testsDone ≠ none) ∧
    (let s := { (inState 1).setFlag R.pairFenceOut true with pair := { State.reset.pair with fenceOutAt := some 0, fenceWin := true } }
     s.isActive = true ∧ s.flag R.pairFenceOut = true ∧ s.pair.fenceOutAt = some 0 ∧ s.tb 3 ≤ 0 + 50000 ∧ s.slotB = false ∧
     (s.setFlag R.pairStateSlot true).slotB = true ∧ s.flag R.pairFenceValid = false ∧ s.pair.fenceWin = true ∧ s.inReset 21 = false) ∧
    ((inState 1).isActive = true ∧ (inState 1).flag R.pairFenceOut = false) := by decide +kernel

/-- A module that runs `bk0` in a pair state. -/
def runIn (n : Nat) : State := (sRun kRun).setFld R.pairStateState n

/-- Signals and the link: nothing that waits on a partner, a partner whose Books are alike and one whose are not, an escalation that is blocked, a record kept
for a resend. -/
theorem witness_PairSignalsLinkAndFence_2 :
    ((inState 5).settled ∧ (linked (inState 1) 2).settled ∧ (linked (inState 5) 2).settled) ∧
    (let s := runIn 5
     s.isActive = true ∧ s.slotId 1 = 0 ∧ (s.slot 0).img = some bk0 ∧
     (∀ e ∈ [{ el0 with pairLevel := s.pair.pairLevel, books := [s.slotId 0, s.slotId 1] }],
       e.pairLevel = s.pair.pairLevel ∧ e.busy = false ∧ e.books = [s.slotId 0, s.slotId 1]) ∧ el0.books.getD 0 0 ≠ bk0.identity) ∧
    (let s := (inState 0).setFlag R.fcolEscBlocked true
     s.bin.runs.isSome = true ∧ s.pstate = psStart ∧ s.pair.testsDone = none ∧ s.bootMode < 2 ∧ s.flag R.fcolStatusSafe = false ∧ s.flag R.fcolEscBlocked = true ∧
     (inState 0).flag R.fcolEscBlocked = false) ∧
    (let s := State.reset.linkSend (.notice 3 0)
     s.pair.sent.find? (fun x => x.1 == (0#16).toNat) = some (0, 0, .notice 3 0) ∧ ∀ x ∈ s.pair.sent, x.1 ≠ (1#16).toNat) := by
  refine ⟨?_, by decide +kernel, by decide +kernel, by decide +kernel⟩
  unfold State.settled
  decide +kernel

/-- R284, R285: records go under rising SEQ, with the Watch number, and are kept; on a line that shows 00 or 11 only Status and Ack records go. -/
theorem test_link_send :
    (State.reset.linkSend (.notice 3 0)).out = [.link 0 0 (.notice 3 0)] ∧
    ((State.reset.linkSend (.notice 3 0)).linkSend (.ack 0 1 2)).out = [.link 0 0 (.notice 3 0), .link 1 0 (.ack 0 1 2)] ∧
    linkKind (.ack 0 1 2) = 4 ∧ linkFlags (.notice 3 0) = 3 ∧ linkWake (.notice 6 77) = 77 := by decide +kernel

/-- R285, R297: two valid records of the Watch number 4 and the link: an active module at 3 yields. -/
theorem test_watch_yield :
    nextIs (exec (.statusRecordRx 0 { st0 with watch := 4 } none) ((inState 1).setFld R.pairWatchWatch 3))
      (fun t => t.pstate == psSyncing && t.book.running.isNone && t.flag R.stnSafeStopped) = true := by decide +kernel

/-- A follower with a waiting command, an Input record held, a sweep done and class 0 in a catch-up. -/
def follow (n : Nat) : State :=
  let s := linked (sRun { kFly with complete := true }) 1
  { s.setFld R.pairStateState n with
    pair := { s.pair with sweepEnded := true, cfgCopied := true, sweepCommits := 255, catchUp := 1, mirrors := [⟨77, 10, some 1, 2, .mode .stop, 0, false, 0, 0, false, 0, []⟩] }
    bin := { State.reset.bin with runs := some 0 } }

theorem witness_PairRecordsAreApplied :
    ((follow 2).isFollower = true ∧ (follow 3).isFollower = true ∧ (follow 3).pstate = psSyncing ∧ (follow 2).pstate ≠ psSyncing ∧ (follow 1).isFollower = false) ∧
    (let e : GrainEntry := ⟨0x800000, true, List.replicate 8 7⟩
     e.words[7]? = some 7 ∧ e.words.length ≤ 0x80000) ∧
    ((follow 2).fld (R.bookTcWakeWake 0) = 0 ∧ (follow 2).fld (R.bookTcWakeWake 0) ≠ 1) ∧
    (let m : MirCmd := ⟨77, 10, some 1, 2, .mode .stop, 0, false, 0, 0, false, 0, []⟩
     ((follow 1).pair.mirrors.find? fun m => m.client == 77 && m.tally == 10 && !m.fixed) = some m ∧ m.pair.isSome = true ∧ bodyTimed m.body = true ∧
     ((follow 1).pair.mirrors.find? fun m => m.client == 78 && m.tally == 10 && !m.fixed && m.pair.isSome) = none) ∧
    { follow 1 with pair := { (follow 1).pair with handover := some ⟨4, 2, 0, false, 0, 0, false⟩ } }.pair.handover = some ⟨4, 2, 0, false, 0, 0, false⟩ ∧
    (let s := linked (follow 1) 2
     s.flag R.pairLinkUp = true ∧ s.fld R.pairStatePstate = psStandby ∧ s.pstate ≠ psDetached ∧ (inState 1).flag R.pairLinkUp = false) ∧
    ((follow 2).cls 0).modeTo = none ∧ ((follow 2).cls 0).mode ≠ 3 ∧ (((follow 2).modCls 0 fun k => { k with modeTo := some 2 }).cls 0).modeTo = some 2 ∧
    (follow 2).takesWake 0 5 = true ∧
    { follow 1 with pair := { (follow 1).pair with newActive := true, held := [⟨0, 5, 0, 0, false, []⟩] } }.takesWake 0 5 = true ∧
    ((follow 2).setFlag R.bookTurnPending true).flag R.bookTurnPending = true ∧ (follow 2).flag R.bookTurnPending = false ∧
    ((follow 3).pair.sweepEnded = true ∧ (follow 3).pair.cfgCopied = true ∧ (follow 3).flag R.pairLinkUp = true ∧
      (∀ c ∈ (follow 3).usedClasses, (follow 3).pair.sweepCommits.testBit c = true) ∧ (follow 3).usedClasses = [0]) ∧
    ((follow 2).slotState 1 ≠ 4 ∧ (follow 2).slotState 1 ≠ 5 ∧ (follow 2).slotState 0 = 4) ∧
    ((follow 2).pair.catchUp.testBit 0 = true ∧ ((follow 2).cls 0).inFlight = true ∧ ((follow 2).cls 0).complete = true ∧ (follow 2).heldOf 0 = [] ∧
      (follow 2).pair.catchUp.testBit 1 = false) := by decide +kernel

/-- Frames of class 0 that wait for the acknowledgement of the commit of Wake number 3; a follower with the station book. -/
theorem witness_PairRecordsAreApplied_2 :
    ((∀ n ∈ [1, 2, 3], (follow n).linkRx ⟨0, 0⟩ = follow n) ∧ (0#32).toNat ≤ (follow 1).fld R.pairWatchWatch ∧ (follow 1).fld R.pairWatchWatch < (9#32).toNat ∧
      linkStops (.notice 3 0) = false ∧ linkStops (.commit 0 0 false false false true []) = true ∧ (follow 1).pair.lineSafe = false) ∧
    (let s := (follow 1).modCls 0 fun k => { k with execWake := some 5, inputDue := true, inputWake := 5 }
     (s.cls 0).execWake = some 5 ∧ ((s.linkRx ⟨1, 0⟩).cls 0).execWake = some 5) ∧
    (let s := { follow 1 with pair := { (follow 1).pair with waitOut := [⟨0, 3, 3, 7, true, false, [sf0]⟩] } }
     let u := s.linkRx ⟨1, 0⟩
     (∀ x ∈ u.pair.waitOut, x.cls = 0 ∧ x.wake = 3 ∧ x.inputOk = true ∧ u.tb 2 ≤ x.pubAt + u.fld R.pairCfgStrictWait * 1000) ∧ u.flag R.stnSafeStopped = false ∧
     u.ringOn (ringOf sf0.station) = true) ∧
    (let s := { (follow 2).setFlag R.bookTurnPending true with pair := { (follow 2).pair with mirrors := [⟨77, 10, none, 2, .bookTurn 1 none, 0, true, 0, 0, true, 0, []⟩] } }
     s.isFollower = true ∧ s.flag R.bookTurnPending = true ∧ bodyTimed (.bookTurn 1 none) = false ∧ bodyTimed (.mode .stop) = true) ∧
    (let s := { runIn 3 with book := { (runIn 3).book with running := none } }
     let x := { sw0 with books := [bk0.identity, 0], running := 0 }
     s.pstate = psSyncing ∧ (s.slot x.running.val).img = some bk0 ∧ s.book.running = none ∧ x.books.getD x.running.val 0 = bk0.identity) ∧
    (follow 1).slotState 0 = 4 := by decide +kernel

/-- A standby or active module with a handover. -/
def handing (n : Nat) (h : Handover) : State :=
  let s := withFlds (linked (inState n) (if n = 2 then 1 else 2)) [(R.pairStateFit, 1), (R.pairStatePfit, 1), (R.pairStatePreferred, 1)]
  { s with pair := { s.pair with handover := some h, reclaimFrom := some 5, exerciseFrom := some (5, 0), announceUntil := some 9000000 } }

theorem witness_RolesAreHandedOverAndTaken :
    (let s := handing 2 ⟨7, 2, 5000000, true, 0, 0, true⟩
     s.pstate = psStandby ∧ s.flag R.pairStateFit = true ∧ s.nextWatch = some 1 ∧ s.mayClose = false ∧ s.flag R.pairFenceValid = false ∧
     s.pair.handover = some ⟨7, 2, 5000000, true, 0, 0, true⟩ ∧ s.flag R.pairLinkUp = true ∧ s.pair.oldActive = false ∧ s.tbInc 2 ≠ 0 ∧
     s.pair.reclaimFrom = some 5 ∧ s.flag R.pairStatePreferred = true ∧ s.isActive = false) ∧
    (withFlds (inState 2) [(R.fldStatusLink, 1), (R.fldStatusReady, 1)]).mayClose = true ∧
    ((inState 1).isActive = true ∧ (inState 1).partner ≠ psStandby ∧ (inState 1).mayHandOver = false ∧ (inState 0).isActive = false) ∧
    (∀ h ∈ [(⟨4, 1, 0, false, 0, 9, false⟩ : Handover), ⟨7, 2, 5000000, true, 0, 0, false⟩, ⟨7, 2, 5000000, false, 0, 0, false⟩],
      let s := handing 1 h
      s.pair.handover = some h ∧ s.isActive = true ∧ s.flag R.pairLinkUp = true ∧ s.pair.exerciseFrom = some (5, 0) ∧ s.pair.announceUntil = some 9000000 ∧ s.tb 3 < 9000000) := by decide +kernel

theorem witness_RolesAreHandedOverAndTaken_2 :
    State.reset.pair.handover = none ∧
    (let s := { handing 1 ⟨4, 1, 0, false, 0, 9, false⟩ with pair := { State.reset.pair with deferred := some (5, 7) } }
     s.mayHandOver = true ∧ s.pair.deferred = some (5, 7) ∧ s.pair.handover = none ∧ s.partner = psStandby ∧ s.flag R.pairStatePfit = true) ∧
    (linked (inState 4) 5).pstate = psDetached ∧ (linked (inState 4) 5).fld R.pairStatePstate = psSolo ∧ (linked (inState 4) 5).flag R.pairLinkUp = true ∧
    (∀ n ∈ [true, false], { inState 2 with field := { State.reset.field with xfade := some (500000, n) } }.field.xfade = some (500000, n)) ∧
    State.reset.field.xfade = none ∧
    (let s := { inState 2 with can := [(1, { CanSt.init with wait := true })] }
     (s.canOf 1).wait = true ∧ (State.reset.canOf 0).wait = false ∧ (State.reset.canOf 1).wait = false) ∧
    ((inState 1).setFld R.pairCfgExercise 30).fld R.pairCfgExercise ≠ 0 ∧ State.reset.pair.exerciseFrom = none ∧ State.reset.pair.reclaimFrom = none ∧
    (inState 1).flag R.stnSafeStopped = false ∧ (inState 1).ringOn 0 = true ∧
    (let x : WaitOut := ⟨0, 3, 3, 7, false, false, [sf0]⟩
     let s := { inState 1 with pair := { State.reset.pair with waitOut := [x] } }
     (s.pair.waitOut.find? fun x => x.cls == 0) = some x ∧ sf0.station < 256 ∧ (s.pair.waitOut.all fun x => x.cls != 1) = true) := by decide +kernel

/-- The clauses on a record of the link that brings a notice, an EJECT_N during the crossfade and its last step. -/
theorem witness_RolesAreHandedOverAndTaken_3 :
    (∀ l ∈ [(⟨0, 0⟩ : LinkIn)],
      (let u := (handing 2 ⟨7, 2, 5000000, true, 0, 0, true⟩).noticeRx l
       u.pstate = psStandby ∧ u.flag R.pairStateFit = true ∧ u.flag R.pairFenceValid = false ∧ u.nextWatch = some 1 ∧ u.pair.handover.isSome = true) ∧
      (let u := (handing 1 ⟨4, 1, 0, false, 0, 9, false⟩).noticeRx l
       u.pair.handover = some ⟨4, 1, 0, false, 0, 9, false⟩ ∧ u.isActive = true ∧ u.mayHandOver = true) ∧
      ((inState 1).noticeRx l).isActive = true ∧ ((inState 1).noticeRx l).mayHandOver = false ∧ ((inState 1).noticeRx l).pair.handover = none ∧
      ((inState 2).noticeRx l).isActive = false ∧ ((inState 2).noticeRx l).pstate = psStandby ∧ ((inState 1).noticeRx l).partner ≠ psStandby) ∧
    (handing 1 ⟨4, 1, 0, false, 0, 9, false⟩).mayHandOver = true ∧ (inState 2).field.xfade = none ∧
    (let s := { inState 2 with field := { State.reset.field with xfade := some (500000, false) }, pair := { State.reset.pair with eject := true } }
     s.field.xfade = some (500000, false) ∧ s.field.xfade ≠ none ∧ s.pair.eject = true ∧ s.pstate = psStandby ∧ s.isActive = false) ∧
    (let s := (runIn 1).modCls 0 fun k => { k with inFlight := true }
     (s.cls 0).inFlight = true) := by decide +kernel

/-! ### Station rings -/

/-- `bk0` with two signals of station 1: its status (20h) and its value (21h). -/
def bkS : Book :=
  { bk0 with dir := [⟨0x20, ⟨2, 1, 0, 1, false, false, 10, 0, 0, 1, 0, 0⟩⟩, ⟨0x21, ⟨4, 1, 0, 1, false, false, 10, 0, 0, 1, 1, 0⟩⟩] }

/-- A module in a pair state that runs `bkS`, at its sampling instant of 900 µs on ring 0. -/
def stn (n : Nat) (stState : Nat) : State :=
  let s := ((sRun kRun).setDir 0x20 ⟨2, 1, 0, 1, false, false, 10, 0, 0, 1, 0, 0⟩).setDir 0x21 ⟨4, 1, 0, 1, false, false, 10, 0, 0, 1, 1, 0⟩
  withFlds { s with
      book := { s.book with slots := [(0, { BookSlot.init with img := some bkS })] }
      stn := { s.stn with latch := [(0, [(900000, 7)])] } }
    [(R.pairStateState, n), (R.stnStState 1, stState), (R.pairLinkUp, 1)]

def sf1 : StnFrame := { sf0 with time := 900000, aux := 9 * 256 }

theorem witness_StationFramesSamplesAndCutoffs :
    (∀ n ∈ [1, 2], let s := stn n 3
      s.ringOn 0 = true ∧ mget 0 s.stn.capture 0 = 0 ∧ sf1.etypeOk = true ∧ sf1.vlan = false ∧ sf1.checkOk = true ∧
      (s.stnCfg 1).map (·.cfgGen) = some 9 ∧ sf1.ver = 1 ∧ sf1.pair = s.pairNum ∧ ringOf 1 = 0 ∧ sf1.watch ≤ s.fld R.pairWatchWatch ∧ s.stnCfg 2 = none ∧
      sf1.typ = 2 ∧ sf1.aux / 2 ^ 8 % 256 = 9 ∧ { sf1 with aux := 8 * 256 }.aux / 2 ^ 8 % 256 ≠ 9 ∧ s.matchLatch 1 900000 = some (900000, 7) ∧
      s.matchLatch 1 902000 = some (900000, 7) ∧ s.matchLatch 1 902001 = none ∧ s.tb 2 + s.cutoffLead 0 < 900000 + s.sampleOff 0 ∧
      (s.stnOf 1).sample = none ∧ sf1.nseg = 1 ∧ sf1.seg = 0 ∧ sf1.first = 1 ∧ sf1.count = 1 ∧ (s.stnCfg 1).map (·.ni) = some 1 ∧ s.stnSig 1 1 1 = some 0x21 ∧
      s.dirOk 0x21 = true ∧ (s.dirEntry 0x21).typ ≠ 0 ∧ (s.dirEntry 0x21).owner = 10 ∧ s.tbInc 2 ≠ 0 ∧ s.tbFix 2 < 2 ^ 96) ∧
    (stn 2 3).isFollower = true ∧ (stn 1 3).isActive = true ∧ (stn 1 3).flag R.stnSafeStopped = false ∧ (stn 1 3).fld (R.stnStState 1) ≠ 0 := by decide +kernel

theorem witness_StationFramesSamplesAndCutoffs_2 :
    ({ stn 1 3 with stn := { State.reset.stn with sfp := [(0, some ⟨false, false, false, 0, 0⟩)] } }.ringOn 0 = false) ∧
    ({ stn 1 3 with tbs := [(2, 995000 * 2 ^ 32)] }.tb 2 + (stn 1 3).cutoffLead 0 ≥ 900000 + (stn 1 3).sampleOff 0) ∧
    ({ (stn 1 3) with stn := { (stn 1 3).stn with st := [(1, { StationSt.init with awaiting := some 4 })] } }.stnOf 1).awaiting = some 4 ∧
    (stn 1 3).runBook = some bkS ∧ (bkS.stations.any fun x => ringOf x.num == 0 && (stn 1 3).stnBegins x.num 1000000) = true ∧
    (bkS.stations.filter fun x => ringOf x.num == 0 && (stn 1 3).stnBegins x.num 1000000).map (·.num) = [1] ∧ State.reset.runBook = none ∧
    (∀ k ∈ [0, 1, 2, 3, 4, 5, 6], (stn 1 k).fld (R.stnStState 1) = k) ∧
    (let s := { stn 1 4 with stn := { (stn 1 4).stn with st := [(1, { StationSt.init with whole := true, genOk := true, sample := some ⟨900000, 1, 1, [], [], false⟩ })] } }
     ((s.stnOf 1).whole && (s.stnOf 1).genOk && (match (s.stnOf 1).sample with | some p => p.time == 1000000 - s.sampleOff 0 | none => false)) = true ∧
     s.flag (R.stnStSafeheld 1) = false ∧ (s.setFlag (R.stnStSafeheld 1) true).flag (R.stnStSafeheld 1) = true) ∧
    ((stn 1 2).isActive = true ∧ (stn 1 2).ringOn (ringOf 1) = true ∧ ((stn 1 2).stnCfg 1).isSome = true) ∧
    (let s := (stn 1 3).setFlag R.stnSafeSafeTx true
     s.flag R.stnSafeSafeTx = true ∧ s.flag R.stnSafeStopped = false) ∧ State.reset.flag R.stnSafeSafeTx = false ∧
    sfpOk ⟨false, false, false, 0, 0⟩ = false ∧ sfpOk ⟨false, true, false, 1500, 0⟩ = true ∧ sfpOk ⟨false, true, false, 1501, 0⟩ = false := by decide +kernel

/-- A sample that matches no instant, new and already counted; the status word of an Input record; transceivers with a station book and without one. -/
theorem witness_StationFramesSamplesAndCutoffs_3 :
    (∀ a ∈ [none, some 902001], let s := { stn 1 3 with stn := { (stn 1 3).stn with st := [(1, { StationSt.init with skewAt := a })] } }
      s.matchLatch 1 902001 = none ∧ (s.stnOf 1).skewAt = a ∧ (s.stnCfg 1).map (·.cfgGen) = some 9) ∧
    (stn 1 3).ringBook = some bkS ∧ State.reset.ringBook = none ∧
    (bkS.stations.filter fun x => ringOf x.num == 0 && (stn 1 3).stnBegins x.num 1000000) = bkS.stations ∧ (∀ y ∈ bkS.stations, y.num < 256) ∧
    (let u := (stn 2 3).linkRx ⟨0, 0⟩
     let all : List GrainEntry := [⟨quadAddr (0x20 / 4), true, List.replicate 8 0x2AB⟩]
     u.isFollower = true ∧ u.ringBook.any (fun b => b.stations.map (·.num) == [1]) = true ∧ (u.putInput 0 all).stnSig 1 0 1 = some 0x20 ∧
     all.find? (fun e => e.both && e.addr == quadAddr (0x20 / 4)) = all.head?) := by decide +kernel

/-- R348: STATE, SAFEHELD and MISSED of a station follow the status word of an Input record. -/
theorem test_input_status_word :
    nextIs (exec (.inputRecordRx ⟨0, 0⟩ 0 4 false true [⟨quadAddr (0x20 / 4), true, List.replicate 8 0x2AB⟩]) (stn 2 3))
      (fun t => t.fld (R.stnStState 1) == 3 && t.flag (R.stnStSafeheld 1) && t.fld (R.stnStMissed 1) == 5) = true := by decide +kernel

/-- R334, R45: the value of the frame is written to the page that fills, as its type stores it, with the sampling instant as its STAMP. -/
theorem test_station_value :
    nextIs (exec (.stationInputFrameRx 0 sf1 0) (stn 1 3)) (fun t => (t.stnOf 1).whole && t.recAt (recAddr (!(stn 1 3).front 0 1) 0x21) == ⟨3, 7, 4, 4⟩) = true := by
  decide +kernel

/-! ### The plant fabric -/

/-- A module of pair 3, slot A, that has joined the fabric, port 2 in an adjacency state, with a Book of one subscription, an LSR of node 40h held and a tree of
the sounding 5 of pair 3. -/
def fab (adj : Nat) (t : Option TreeEnt) : State :=
  let s := sRun kRun
  withFlds { s with
      book := { s.book with slots := [(0, { BookSlot.init with img := some { bk0 with
        dir := [⟨0x30, ⟨4, 2, 0, 1, false, false, 9, 0, 0, 0, 0, 0⟩⟩], subs := [⟨0, 3, 4, 77, 2⟩] } })] }
      pair := { s.pair with serial := 6 }
      fab := { s.fab with
        db := [(0x40, some ⟨ls0, 0⟩)], dirty := some 5, seq := 4, routes := [(4, ⟨some (3, 10), none, some 1⟩)], trees := [(3 * 64 + 4, t)],
        subs := [(0, { SubSt.init with at2 := some 400, interval := 1000 })] } }
    [(R.pairStateState, 2), (R.fabCtrlJoined, 1), (R.fabAddrAddr, 0x21), (R.fabAddrValid, 1), (R.fabPortAdj 2, adj), (R.fabPortAdj 3, 3), (R.fabPortNaddr 2, adj * 8),
      (R.fabPortSecured 2, adj / 3), (R.fabPortLink 2, adj / 2)]


theorem witness_FabricFramesRoutesAndSoundings :
    (∀ adj ∈ [2, 3], (fab adj none).fabTakes 2 = true) ∧ (fab 1 none).fabTakes 2 = false ∧ ((fab 1 none).isActive = false) ∧
    (fab 2 none).fld (R.fabPortAdj 2) = 2 ∧ (fab 3 none).fld (R.fabPortNaddr 2) ≠ 0 ∧ (fab 0 none).fld (R.fabPortNaddr 2) = 0 ∧
    ({ he0 with heard := 0x21, heardPort := 2 }.heard = (fab 2 none).fabOwn) ∧ he0.heard ≠ (fab 2 none).fabOwn ∧
    ((fab 0 none).flag (R.fabPortLink 2) = false ∧ (fab 0 none).portOn 2 = true ∧ (fab 0 none).fab.cfg = none ∧ (fab 2 none).flag (R.fabPortLink 2) = true) ∧
    (fab 1 none).fld (R.fabPortAdj 2) = 1 ∧ (fab 3 none).flag (R.fabPortSecured 2) = true ∧ (fab 2 none).flag (R.fabPortSecured 2) = false ∧
    ((0x21#16).toNat = (fab 2 none).fabOwn ∧ { ls0 with serial := 7 }.serial ≠ (fab 2 none).pair.serial ∧
      { ls0 with serial := 6 }.serial = (fab 2 none).pair.serial ∧ (fab 2 none).fab.seq ≤ { ls0 with seq := 4 }.seq) ∧
    ((0x40#16).toNat ≠ (fab 2 none).fabOwn ∧ mget none (fab 2 none).fab.db 0x40 = some ⟨ls0, 0⟩ ∧ mget none (fab 2 none).fab.db 0x50 = none ∧
      (fab 2 none).fab.db.length < 8448 ∧ ls0.seq < { ls0 with seq := 2 }.seq ∧ { ls0 with serial := 9 }.serial ≠ ls0.serial) ∧
    ((fab 2 none).flag R.fabCtrlJoined = true ∧ mget none (fab 2 none).fab.db (fab 2 none).fabOwn = none ∧ (fab 2 none).fab.dirty = some 5 ∧
      State.reset.fab.dirty = none ∧ State.reset.flag R.fabCtrlJoined = false) := by decide +kernel

theorem witness_FabricFramesRoutesAndSoundings_2 :
    (let s := { fab 2 none with fab := { (fab 2 none).fab with db := List.replicate 8448 (0x60, some ⟨ls0, 0⟩) } }
     mget none s.fab.db 0x50 = none ∧ 8448 ≤ s.fab.db.length ∧ s.fab.fullAt = none) ∧
    (let f := { ss0 with index := 4, layout := 77 }
     f.src / 16 * 64 + f.index = 3 * 64 + 4 ∧ mget none (fab 2 none).fab.trees (3 * 64 + 4) = none ∧
     (∀ e ∈ [(⟨3, [2], false⟩ : TreeEnt), ⟨2, [3], false⟩, ⟨2, [3], true⟩], mget none (fab 2 (some e)).fab.trees (3 * 64 + 4) = some e) ∧ f.hops ≠ 0 ∧
     { f with hops := 0 }.hops = 0 ∧
     (let s := fab 2 (some ⟨2, [3], true⟩)
      s.runBook.map (fun b => b.subs.filter fun u => u.pair == f.src / 16 && u.sidx == f.index) = some [⟨0, 3, 4, 77, 2⟩] ∧
      f.layout = 77 ∧ { f with layout := 78 }.layout ≠ 77 ∧ (s.sub 0).missAt = none ∧ f.nseg = 1 ∧ f.seg = 0 ∧ (s.sub 0).cur = none ∧
      subAccepts (s.fabHi 3) (s.sub 0).last (f.watch, f.epoch, f.wake) = true ∧ subAccepts 9 (some (9, 1, 6)) (9, 1, 6) = false ∧
      s.runBook.map (fun b => b.subs.filter fun u => s.subClass u.idx == some 0) = some [⟨0, 3, 4, 77, 2⟩] ∧ (s.sub 0).at2 = some 400 ∧ (s.sub 0).quals = [])) ∧
    (fab 2 none).fabHi 3 < 1 ∧
    (ff0.etypeOk = true ∧ ff0.verOk = true ∧ ff0.checkOk = true ∧ (ff0.typ = 4 ∨ ff0.typ = 5) ∧ (fab 2 none).fabMine 0x40 = false ∧ 0x40 ≠ (fab 2 none).pairNum * 16 ∧
      (fab 2 none).routeTo 0x40 = some 3 ∧ (fab 2 none).routeTo 0x50 = none ∧ (fab 2 none).fabMine 0x50 = false ∧ (fab 2 none).fabMine 0xFFFF = false) := by
  decide +kernel

/-- R363, R366: a key present and not faulty; a link that comes up with the cost of its port, and with another, on a module that has joined. -/
theorem witness_FabricFramesRoutesAndSoundings_3 :
    (let s := { fab 1 none with acc := { (fab 1 none).acc with keys := [(2, { KeySlot.init with present := true })] } }
     s.keyOk (1 + (1 : Fin 2).val) = true ∧ (fab 1 none).keyOk (1 + (1 : Fin 2).val) = false) ∧
    (let s := fab 0 none
     s.flag (R.fabPortLink 2) = false ∧ s.portOn 2 = true ∧ s.fab.cfg = none ∧ s.flag R.fabCtrlJoined = true ∧
     (s.fld (R.fabPortCost 2) = 10 ∨ s.fld (R.fabPortCost 2) ≠ 10) ∧ (s.setFld (R.fabPortCost 2) 10).fld (R.fabPortCost 2) = 10 ∧ s.fld (R.fabPortCost 2) ≠ 100) ∧
    ((fab 2 none).tree (fab 2 none).fabOwn).length ≠ 0 := by decide +kernel

/-! ### Time -/

/-- A time master whose port 2 is a slave in domain A; output 1 enabled or active. -/
def timed (st : Nat) : State :=
  let s := State.reset
  withFlds { s with
      time := { s.time with
        ports := [(4, ⟨some [1, 248, 0xFE, 0xFFFF, 128, 9], true, false, 0⟩)], locked := [(0, 15)], trail := [(2, some 700)], tpiLast := [(1, some 0)], holdAt := some 5 }
      tbs := [(0, 5000 * 2 ^ 32)] }
    [(R.pairStateTimemaster, 1), (R.timeStatusTb0State, st), (R.timeStatusTb0Valid, 1), (R.timeCtrlTb2Follow, 1), (R.timeTpoCfgEn 1, 1), (R.timeTpoCfgWidth 1, 8),
      (R.timeTpiCtlEdge 0, 3), (R.timeTpiCtlEdge 1, 1), (R.timeTpoStartStart 0, 9000)]

theorem witness_TimeMessagesPulsesAndCaptures :
    (let s := timed 1
     s.reaches 8 (R.timeTpoCfg 0) = true ∧ s.flag (R.timeTpoCfgEn 0) = false ∧ s.fld (R.timeTpoPeriodPeriod 0) = 0 ∧ s.tb 0 + 1000 ≤ s.fld (R.timeTpoStartStart 0) ∧
     (s.setFld (R.timeTpoPeriodPeriod 0) 1000).fld (R.timeTpoPeriodPeriod 0) = 1000 ∧ getBits (0x804 : W64) 2 1 = 1 ∧ getBits (0x804 : W64) 8 32 = 8 ∧
     s.reaches 8 (R.timeTpoCfg 1) = true ∧ s.flag (R.timeTpoCfgEn 1) = true ∧ s.flag (R.timeTpoCfgActive 1) = false ∧ s.tbInc 0 ≠ 0 ∧
     mget none s.time.trail 2 = some 700 ∧ mget none s.time.trail 1 = none ∧
     s.tpiWired 0 = true ∧ s.fld (R.timeTpiCtlEdge 0) = 3 ∧ mget none s.time.tpiLast 0 = none ∧ s.tpiWired 1 = true ∧ mget none s.time.tpiLast 1 = some 0 ∧
     s.tb 3 < 0 + 1000 ∧ s.qFree 245 ≠ 0 ∧ (s.setFld (R.qmgrQIdxPi 245) (s.qSize 245)).qFree 245 = 0 ∧ s.fld (R.timeTpiCtlEdge 1) % 2 = 1 ∧ ¬ 2 ≤ s.fld (R.timeTpiCtlEdge 1)) ∧
    (∀ st ∈ [1, 2, 3], let s := timed st
      (s.ptp 2 0).slave = true ∧ (s.ptp 2 0).fresh = false ∧ s.flag R.pairStateTimemaster = true ∧ s.domState 0 = st ∧ mget 0 s.time.locked 0 = 15) ∧
    ((timed 1).ptp 3 0).best = none ∧ ((timed 1).ptp 3 0).slave = false ∧ ((timed 1).ptp 2 1).slave = false ∧ (timed 1).domValid 0 = true ∧
    (timed 1).ringTalks = true ∧ ((timed 1).setFlag R.pairFenceFenced true).ringTalks = false ∧
    dataLess [1, 248, 0xFE, 0xFFFF, 128, 9] (timed 1).ownData = true ∧ ((timed 1).ptp 2 1).best = none ∧
    (timed 1).fld (R.portPtpStamp 2) ≠ 2 ∧ ((timed 1).setFld (R.portPtpStamp 2) 2).fld (R.portPtpStamp 2) = 2 ∧ (timed 1).qFree 244 ≠ 0 ∧
    ((timed 1).setFld (R.qmgrQIdxPi 244) ((timed 1).qSize 244)).qFree 244 = 0 ∧
    (let s := timed 2
     s.flag R.timeCtrlTb2Follow = true ∧ s.flag R.timeStatusTb0Valid = true ∧ (s.tb 0 : Int) - s.tb 2 = 5000 ∧ s.time.cfg.window = 10 ∧ s.tbInc 0 ≤ incNominal ∧
     incNominal ≤ s.tbInc 0 ∧ ({ s with tbs := [(0, 10000000001 * 2 ^ 32)] }.tb 0 : Int) - s.tb 2 > 10 * 1000000000) ∧
    State.reset.flag R.pairLinkUp = false ∧ (let s := linked State.reset 1; s.flag R.pairLinkUp = true ∧ s.flag R.pairStateTimemaster = false ∧ s.fld R.bookModeMode = 0 ∧
      (s.setFld R.bookModeMode 1).fld R.bookModeMode ≠ 0) ∧ incOk 3 incNominal = true ∧
    ((timed 3).time.holdAt = some 5 ∧ (timed 3).domState 0 = 3 ∧ (timed 3).tbInc 3 ≠ 0 ∧ State.reset.time.holdAt = none) := by decide +kernel

/-- Port 2 with profile 0 (domain A, end to end), and with a profile that runs domain B and peer delay (R404, R405); ring ports run the ring domain. -/
theorem witness_TimeMessagesPulsesAndCaptures_2 :
    (let s := timed 1
     s.ptpOn 2 0 = true ∧ s.ptpOn 2 1 = false ∧ s.ptpP2p 2 0 = false ∧ (s.ptp 2 0).slave = true ∧ (s.ptp 3 0).slave = false ∧ s.ptpOn 3 0 = true ∧
     s.ptpOn 0 2 = true ∧ s.ptpP2p 0 2 = true ∧ s.ringTalks = true ∧ (s.ptp 2 0).best = some [1, 248, 0xFE, 0xFFFF, 128, 9]) ∧
    (let s := { timed 1 with time := { (timed 1).time with cfg := { (timed 1).time.cfg with ports := List.replicate 4 ⟨5, 0, true, 0, 0, 0, 0, 0⟩ } } }
     s.ptpOn 2 1 = true ∧ s.ptpP2p 2 0 = true ∧ s.ptpP2p 2 1 = true ∧ (s.ptp 3 1).slave = false) ∧
    (let s := timed 2
     (s.tb 0 : Int) - s.tb 2 = 5000 ∧ followUpOf 0 = some 8 ∧ followUpOf 3 = some 10 ∧ followUpOf 1 = none) := by decide +kernel

/-- R408: a Sync at 100,001 ns steps the base of a locked slave; at 100,000 ns it slews. -/
theorem test_ptp_step :
    nextIs (exec (.ptpSyncRx 2 false 100001) { timed 2 with tbs := [(0, 200000 * 2 ^ 32)] }) (fun t => t.tb 0 == 99999) = true ∧
    nextIs (exec (.ptpSyncRx 2 false 100000) { timed 2 with tbs := [(0, 200000 * 2 ^ 32)] }) (fun t => t.tb 0 == 200000) = true := by decide +kernel

/-! ### The field island and the cabinet bus -/

/-- A module in a pair state whose field link is up, with signal 22h at analogue input 5. -/
def fld (n : Nat) : State :=
  let s := (sRun kRun).setDir 0x22 ⟨4, 3, 0, 1, false, false, 8, 0, 0, 5, 0, 0⟩
  withFlds { s with
      book := { s.book with slots := [(0, { BookSlot.init with img := some { bk0 with dir := [⟨0x22, ⟨4, 3, 0, 1, false, false, 8, 0, 0, 5, 0, 0⟩⟩] } })] }
      field := { s.field with
        ao := [(1, { AoSt.init with due := true, cmd := 5000000, since := [(0, some 0)], miss := [(1, 2)] })], conv := [(5, [⟨1000000, 1000, 8000000, false⟩])]
        holdUntil := some 9, firstDue := true, trim := some (2, 4000000, 5), good := 15 }
      time := { s.time with held := [(3, some true)] }
      tbs := [(2, 2000000 * 2 ^ 32)] }
    [(R.pairStateState, n), (R.fldStatusLink, 1), (R.fldStatusReady, 1), (R.fldStatusClosed, 2), (R.fldAoFlagsCompliance 1, 1)]

theorem witness_FieldIslandInputsAndOutputs :
    (let s := fld 1
     s.flag R.fldStatusLink = true ∧ s.flag R.fldStatusReady = true ∧ s.field.holdUntil = some 9 ∧ mget none s.time.held 3 ≠ none ∧ mget none s.time.held 0 = none ∧
     s.openCause = false ∧ (s.setFlag R.pairFenceValid true).openCause = true ∧ s.field.firstDue = true ∧ s.book.running.isSome = true ∧ s.isActive = true ∧
     s.fieldSig 5 0 1 = some 0x22 ∧ (∀ j < 8, j ≠ 5 → s.fieldSig j 0 1 = none) ∧ (∀ j < 8, s.fieldSig j 1 1 = none) ∧
     (∀ j < 4, s.fieldSig j 2 1 = none ∧ s.fieldSig j 3 1 = none) ∧ (s.dirEntry 0x22).cls = 0 ∧ s.dirOk 0x22 = true ∧ (s.dirEntry 0x22).typ ≠ 0 ∧
     (s.dirEntry 0x22).owner = 8 ∧ (s.dirEntry 0x22).kind = 1 ∧
     ((mget [] s.field.conv 5).filter fun u => decide (u.at2 + 500000 ≤ 1500000)).length = 1 ∧
     (s.ao 1).due = true ∧ s.field.xfade = none ∧ s.field.trim = some (2, 4000000, 5) ∧ (s.ao 0).due = false ∧
     s.aoJudged 1 2000000 = true ∧ s.flag (R.fldAoFlagsOpen 1) = false ∧ s.flag (R.fldAoFlagsCompliance 1) = true ∧
     ((mget none (s.ao 1).since 0).any fun u => decide (u + 2000000 ≤ s.tb 2)) = true ∧ mget 0 (s.ao 1).miss 1 = 2 ∧ s.tbInc 2 ≠ 0 ∧ s.tbFix 2 < 2 ^ 96) ∧
    (fld 2).isFollower = true ∧ State.reset.flag R.fldStatusLink = false ∧ State.reset.field.holdUntil = none ∧ State.reset.field.trim = none ∧
    State.reset.book.running = none ∧ { State.reset with field := { State.reset.field with xfade := some (5, true) } }.field.xfade.isSome = true := by
  decide +kernel

/-- A conversion instant is a multiple of 1 ms (R563); the link stands and the island is ready. -/
theorem witness_FieldIslandInputsAndOutputs_2 :
    (let s := fld 1
     (3000000 % 1000000 = 0 ∧ s.flag R.fldStatusLink = true ∧ s.flag R.fldStatusReady = true) ∧ 3000001 % 1000000 ≠ 0 ∧
     15 ≤ s.field.good ∧ s.aoJudged 1 3000000 = true) ∧
    (let s := { State.reset with field := { State.reset.field with loops := 255 } }
     s.loopOn 7 = true ∧ s.loopOn 8 = false) := by decide +kernel

/-- R565, R566: conversions at the bounds of the judgements: 0.5 mA, 24 mA, and with NAMUR 3.6 mA, 3.8 mA, 20.5 mA and 21 mA. -/
theorem test_ai_judge :
    let u := fun i => (⟨0, 0, i, false⟩ : AiConv)
    (aiJudge [u 500000] false).1 = 4 ∧ (aiJudge [u 24000000] false).1 = 0 ∧ (aiJudge [⟨0, 0, 8000000, true⟩, u 8000000] false).1 = 0 ∧
    aiJudge [u 3800000] true = (4, 0) ∧ aiJudge [u 20500000] true = (4, 0) ∧ (aiJudge [u 3600000] true).1 = 0 ∧ (aiJudge [u 21000000] true).1 = 0 ∧
    (aiJudge [u 23999999, u 23999999] false).1 = 4 := by decide +kernel

/-- R560, R572: the value written for a start: 8 mA is 25 % of the 4 to 20 mA span as the signal's AMPS. -/
theorem test_ai_value :
    nextIs (exec (.aiValueWrite 0 1500000) (fld 1)) (fun t => (t.recAt (recAddr (!(fld 1).front 0 1) 0x22)).qual == 4 &&
      (t.recAt (recAddr (!(fld 1).front 0 1) 0x22)).stamp == 1000) = true := by decide +kernel

/-- CAN0 in a mode, with an object that sends every 10 ms, one that receives, a filter into FIFO 0, and an entry in that FIFO. -/
def canS (mode : Nat) (k : CanSt) : State :=
  withFlds { State.reset with can := [(0, k)] }
    [(R.canStatusMode 0, mode), (R.canObjEn 0 255, 1), (R.canObjTx 0 255, 1), (R.canObj1Period 0 255, 10), (R.canObjEn 0 1, 1), (R.canObjId 0 1, 0x10),
      (R.canFlt0Action 0 63, 1), (R.canFlt0Match 0 63, 0x10), (R.canFlt1Mask 0 63, 0x7FF), (R.canCtrlWatchEn 0, 1), (R.canCtrlAutoRec 0, 1)]

theorem witness_CabinetBusChannels :
    (let s := canS 3 { CanSt.init with fifo := [(0, [⟨cr0, 63, 5⟩])], pend := [255] }
     s.reaches 8 (R.canCtrlNominal 0) = true ∧ 4 < getBits (5 : W64) 0 3 ∧ ¬ 4 < getBits (4 : W64) 0 3 ∧ s.fld (R.canStatusMode 0) = 3 ∧
     s.fld (R.canStatusErrstate 0) ≠ 2 ∧ s.flag (R.canObjEn 0 255) = true ∧ s.flag (R.canObjTx 0 255) = true ∧ s.fld (R.canObj1Period 0 255) = 10 ∧
     s.flag (R.canObjTx 0 1) = false ∧ s.fld (R.canObjId 0 1) = cr0.id ∧ s.flag (R.canObjFdf 0 1) = cr0.fdf ∧ s.canFilter 0 cr0 = some 63 ∧
     s.fld (R.canFlt0Action 0 63) = 1 ∧ (mget [] (s.canOf 0).fifo 0).length < 64 ∧ s.canFilter 0 { cr0 with id := 0x11 } = none ∧
     mget [] (s.canOf 0).fifo 0 = [⟨cr0, 63, 5⟩] ∧ (canEntries ⟨cr0, 63, 5⟩).length ≤ s.qFree 224 ∧ s.qUsed 224 ≤ s.qSize 224 ∧
     s.fld (R.qmgrQCfgLog2size 224) ≤ 16 ∧ mget [] (s.canOf 0).fifo 1 = [] ∧ s.flag (R.canCtrlWatchEn 0) = true ∧ s.fld R.pairWatchWatch < 1 ∧ s.pairNum = 0) ∧
    (let s := (canS 3 CanSt.init).setFld (R.qmgrQIdxPi 224) ((canS 3 CanSt.init).qSize 224)
     s.qFree 224 < (canEntries ⟨cr0, 63, 5⟩).length) ∧
    (canS 1 CanSt.init).fld (R.canStatusMode 0) = 1 ∧ (canS 0 CanSt.init).fld (R.canStatusMode 0) = 0 ∧ ((canS 1 CanSt.init).canOf 0).streak = 0 ∧
    ((canS 1 { CanSt.init with streak := 1 }).canOf 0).streak = 1 ∧
    (mget [] ((canS 3 { CanSt.init with fifo := [(0, List.replicate 64 ⟨cr0, 63, 5⟩)] }).canOf 0).fifo 0).length = 64 ∧
    (let s := (canS 2 CanSt.init).setFld (R.canStatusErrstate 0) 2
     s.fld (R.canStatusErrstate 0) = 2 ∧ s.flag (R.canCtrlAutoRec 0) = true) ∧
    (let s := canS 2 { CanSt.init with nomDue := true }
     (s.canOf 0).nomDue = true ∧ s.fld (R.canCtrlNominal 0) = 0 ∧ (s.setFld (R.canCtrlNominal 0) 2).fld (R.canCtrlNominal 0) ≠ 0) := by decide +kernel

/-- R583: of two frames received while detecting, the second settles the rate. -/
theorem test_can_rate :
    nextIs (exec (.canFrameRx 0 (some cr0) none) (canS 1 { CanSt.init with streak := 1, probe := 3 }))
      (fun t => t.fld (R.canStatusRate 0) == 3 && decide (2 ≤ t.fld (R.canStatusMode 0))) = true := by decide +kernel

end Sys2Proof.Tests
end

section
/-! PROOFS. Memory byte by byte, and the register file right after reset (O16, O17). -/

namespace Sys2Proof.Machine

/-! ### Memory, byte by byte (R15) -/

/-- Byte `i` of a number laid out little-endian. -/
theorem leBytes_getD (n v : Nat) {i : Nat} (h : i < n) : (leBytes n v).getD i 0 = BitVec.ofNat 8 (v / 256 ^ i) := by
  induction n generalizing v i with
  | zero => omega
  | succ n ih =>
    cases i with
    | zero => simp [leBytes]
    | succ i =>
      rw [leBytes, List.getD_cons_succ, ih (v / 256) (by omega), Nat.div_div_eq_div_mul, ← Nat.pow_succ']

/-- What a byte reads as after a word is written at `a`. -/
theorem State.byte_wr64 (s : State) (a c : Nat) (w : W64) :
    (s.wr64 a w).byte c = if a ≤ c ∧ c < a + 8 then w.extractLsb' (8 * (c - a)) 8 else s.byte c := by
  rw [State.wr64, State.writeN, State.byte_setBytes, leBytes_length]
  split
  · next h =>
    rw [leBytes_getD 8 _ (by omega), BitVec.extractLsb', Nat.shiftRight_eq_div_pow, Nat.pow_mul]
  · rfl

/-- Settles O17. -/
theorem memoryIsLittleEndian : Obligations.MemoryIsLittleEndian := by
  unfold Obligations.MemoryIsLittleEndian
  refine fun s a w => ⟨fun i hi => ?_, State.rd64_wr64_same s a w, fun c hc => ?_, fun c hc => State.rd64_wr64_ne s w hc,
    wf_wr64 a w, fun lo hi c => State.byte_clearRange s lo hi c⟩
  · rw [State.byte_wr64, if_pos (by omega), Nat.add_sub_cancel_left]
  · rw [State.byte_wr64, if_neg (by omega)]

/-! ### The register file at its Cold values (R21, R485) -/

theorem ringBase_lt (q : Nat) (h : q < 256) : ringBase q < 2 ^ 15 := by
  unfold ringBase; split_ifs <;> omega

theorem ringLog_lt (q : Nat) : ringLog q < 2 ^ 4 := by
  unfold ringLog; split_ifs <;> omega

/-- The registers outside QMGR whose Cold value is not 0. -/
def coldAddrs : List Nat :=
  [0x301018, 0x301118, 0x301218, 0x301318, 0x301418, 0x301518, 0x301618, 0x301718, 0x280000, 0x50000, 0x50100, 0x50120, 0x60000, 0x30000,
    0x30108, 0x30128, 0x30148, 0x30168, 0x10008, 0xd0000, 0xe0000, 0x0]

/-- Every other register has the Cold value 0, but QMGR_Qn_CFG, which holds BASE and LOG2SIZE of its ring (R485). -/
theorem regCold_unlisted {a : Nat} (h : a ∉ coldAddrs) :
    regCold a = if 0xB1008 ≤ a ∧ a < 0xB2008 ∧ a % 0x10 = 8 then
      BitVec.ofNat 64 (ringBase ((a - 0xB1008) / 0x10) + ringLog ((a - 0xB1008) / 0x10) * 2 ^ 16) else 0 := by
  simp only [coldAddrs, List.mem_cons, List.not_mem_nil, not_or, or_false] at h
  simp only [regCold, h, or_self, if_false]

theorem not_mem_coldAddrs_of_qmgr {a : Nat} (h : 0xB0000 ≤ a) (h' : a < 0xC0000) : a ∉ coldAddrs := by
  simp only [coldAddrs, List.mem_cons, List.not_mem_nil, or_false]; omega

theorem regCold_qmgrQCfg (q : Nat) (h : q < 256) :
    regCold (R.qmgrQCfg q).addr = BitVec.ofNat 64 (ringBase q + ringLog q * 2 ^ 16) := by
  have e : (0xb1008 + q * 0x10 - 0xB1008) / 0x10 = q := by omega
  show regCold (0xb1008 + q * 0x10) = _
  rw [regCold_unlisted (not_mem_coldAddrs_of_qmgr (by omega) (by omega)), if_pos (by omega), e]

theorem regCold_qmgrQIdx (q : Nat) (h : q < 256) : regCold (R.qmgrQIdx q).addr = 0 := by
  show regCold (0xb1000 + q * 0x10) = _
  rw [regCold_unlisted (not_mem_coldAddrs_of_qmgr (by omega) (by omega)), if_neg (by omega)]

/-- After reset every register but RSTC_CAUSE and RSTC_STRAP reads its Cold value. -/
theorem reg_reset {a : Nat} (hc : a ≠ R.rstcCause.addr) (hs : a ≠ R.rstcStrap.addr) : State.reset.reg a = regCold a := by
  simp only [State.reg, State.reset, mget, if_neg (Ne.symm hc : (0x0 : Nat) ≠ a), if_neg (Ne.symm hs : (0x20 : Nat) ≠ a)]

/-- Every ring has the place and size of R485 and is empty. -/
theorem ring_reset (q : Nat) (h : q < 256) :
    State.reset.fld (R.qmgrQCfgBase q) = ringBase q ∧ State.reset.fld (R.qmgrQCfgLog2size q) = ringLog q ∧
      State.reset.fld (R.qmgrQIdxPi q) = 0 ∧ State.reset.fld (R.qmgrQIdxCi q) = 0 := by
  have hb := ringBase_lt q h
  have hl := ringLog_lt q
  have cfg : State.reset.reg (R.qmgrQCfg q).addr = BitVec.ofNat 64 (ringBase q + ringLog q * 2 ^ 16) := by
    rw [reg_reset, regCold_qmgrQCfg q h] <;> simp only [R.qmgrQCfg, R.rstcCause, R.rstcStrap] <;> omega
  have idx : State.reset.reg (R.qmgrQIdx q).addr = 0 := by
    rw [reg_reset, regCold_qmgrQIdx q h] <;> simp only [R.qmgrQIdx, R.rstcCause, R.rstcStrap] <;> omega
  refine ⟨?_, ?_, ?_, ?_⟩
  · show getBits (State.reset.reg (R.qmgrQCfg q).addr) 0 15 = _
    rw [cfg, getBits, BitVec.toNat_ofNat]; omega
  · show getBits (State.reset.reg (R.qmgrQCfg q).addr) 16 4 = _
    rw [cfg, getBits, BitVec.toNat_ofNat]; omega
  · show getBits (State.reset.reg (R.qmgrQIdx q).addr) 0 32 = _
    rw [idx]; rfl
  · show getBits (State.reset.reg (R.qmgrQIdx q).addr) 32 32 = _
    rw [idx]; rfl

/-- Settles O16. -/
theorem resetLeavesColdValues : Obligations.ResetLeavesColdValues := by
  unfold Obligations.ResetLeavesColdValues
  refine ⟨by decide +kernel, rfl, fun a => reg_reset, by decide +kernel, by decide +kernel, by decide +kernel, by decide +kernel,
    by decide +kernel, by decide +kernel, by decide +kernel, by decide +kernel, fun q => ring_reset q.val q.isLt,
    fun k _ => by simp [State.tb, State.tbFix, State.reset], fun l => ⟨rfl, rfl⟩, fun a => rfl, fun p => rfl⟩

end Sys2Proof.Machine
end

section
/-! PROOFS. The register file under resets: words set field by field, the Cold and Warm columns (R21). -/

namespace Sys2Proof.Machine

/-! ### The register file under moves of some of its registers -/

section
variable {α : Type}

theorem mget_of_not_key (d : α) {m : NMap α} {k : Nat} (h : ∀ e ∈ m, e.1 ≠ k) : mget d m k = d := by
  induction m with
  | nil => rfl
  | cons e m ih => rw [mget, if_neg (h e (by simp)), ih fun e he => h e (by simp [he])]

/-- A write keeps the keys rising. -/
theorem pairwise_mput [DecidableEq α] (d : α) {m : NMap α} (k : Nat) (v : α) (h : m.Pairwise fun x y => x.1 < y.1) :
    (mput d m k v).Pairwise fun x y => x.1 < y.1 := by
  unfold mput
  split
  · exact pairwise_mdel k h
  · exact pairwise_mins v (fun e he => (mem_mdel_key he).2) (pairwise_mdel k h)

/-- A table whose entries are mapped key by key, an entry dropped only where it becomes what an unlisted key reads as: every key reads as mapped. -/
theorem mget_filterMap (d : Nat → α) (F : Nat → α → α) (g : Nat × α → Option (Nat × α)) {m : NMap α} {k : Nat}
    (hg : ∀ e, g e = some (e.1, F e.1 e.2) ∨ g e = none ∧ F e.1 e.2 = d e.1) (hk : F k (d k) = d k)
    (h : m.Pairwise fun x y => x.1 < y.1) : mget (d k) (m.filterMap g) k = F k (mget (d k) m k) := by
  induction m with
  | nil => exact hk.symm
  | cons e m ih =>
    obtain ⟨a, v⟩ := e
    rw [List.pairwise_cons] at h
    rcases hg (a, v) with hs | ⟨hn, hd⟩
    · rw [List.filterMap_cons_some hs, mget, mget, ih h.2]
      split
      · next hak => rw [hak]
      · rfl
    · rw [List.filterMap_cons_none hn, mget]
      split
      · next hak =>
        subst hak
        rw [ih h.2, mget_of_not_key _ fun e he => Nat.ne_of_gt (h.1 e he), hk]
        exact hd.symm
      · exact ih h.2

end

/-- Only registers at the addresses `A` have moved, and the keys of the register file still rise. -/
def RegsMoved (A : Nat → Prop) (s t : State) : Prop :=
  t = { s with regs := t.regs } ∧ (∀ a, ¬A a → t.reg a = s.reg a) ∧
    ((s.regs.Pairwise fun x y => x.1 < y.1) → t.regs.Pairwise fun x y => x.1 < y.1)

theorem RegsMoved.refl (A : Nat → Prop) (s : State) : RegsMoved A s s := ⟨rfl, fun _ _ => rfl, id⟩

theorem RegsMoved.trans {A : Nat → Prop} {s t u : State} (h : RegsMoved A s t) (k : RegsMoved A t u) : RegsMoved A s u := by
  obtain ⟨h1, h2, h3⟩ := h
  obtain ⟨k1, k2, k3⟩ := k
  refine ⟨?_, fun a ha => (k2 a ha).trans (h2 a ha), k3 ∘ h3⟩
  rw [k1, h1]

theorem RegsMoved.mono {A B : Nat → Prop} {s t : State} (h : RegsMoved A s t) (hAB : ∀ a, A a → B a) : RegsMoved B s t :=
  ⟨h.1, fun a ha => h.2.1 a fun k => ha (hAB a k), h.2.2⟩

theorem RegsMoved.setReg (s : State) (a : Nat) (w : W64) : RegsMoved (· = a) s (s.setReg a w) :=
  ⟨rfl, fun _ hb => State.reg_setReg_ne s w hb, pairwise_mput _ _ _⟩

theorem RegsMoved.setFld (s : State) (f : Fld) (v : Nat) : RegsMoved (· = f.addr) s (s.setFld f v) := RegsMoved.setReg s _ _

theorem RegsMoved.foldl {β : Type} {A : Nat → Prop} {f : State → β → State} {bs : List β} (hf : ∀ s, ∀ b ∈ bs, RegsMoved A s (f s b))
    (s : State) : RegsMoved A s (bs.foldl f s) := by
  induction bs generalizing s with
  | nil => exact RegsMoved.refl A s
  | cons b bs ih => exact (hf s b (by simp)).trans (ih (fun s c hc => hf s c (by simp [hc])) (f s b))

/-- The register file whose keys rise, of a state in canonical form. -/
theorem State.canonical_rising {s : State} (h : s.canonical = true) : s.regs.Pairwise fun x y => x.1 < y.1 := by
  simp only [State.canonical, Bool.and_eq_true] at h
  exact ((mwfBy_iff _ _).1 h.1.2).1

/-! ### What a reset makes of the registers (R21, R594) -/

/-- The register at an address after the columns are applied to the slots `hit` marks. -/
def columnWord (hit : Nat → Bool) (cold : Bool) (a : Nat) (w : W64) : W64 :=
  if hit (a / 0x10000) = true then (if cold = true then regCold a else warmWord a w) else w

/-- What the columns make of an entry of the register file: dropped where it takes its Cold value. -/
def columnEntry (hit : Nat → Bool) (cold : Bool) (e : Nat × W64) : Option (Nat × W64) :=
  if ¬ hit (e.1 / 0x10000) then some e
  else if cold then none
  else if warmWord e.1 e.2 = regCold e.1 then none else some (e.1, warmWord e.1 e.2)

theorem State.regsReset_regs (s : State) (hit : Nat → Bool) (cold : Bool) :
    (s.regsReset hit cold).regs = s.regs.filterMap (columnEntry hit cold) := rfl

theorem columnEntry_cases (hit : Nat → Bool) (cold : Bool) (e : Nat × W64) :
    columnEntry hit cold e = some (e.1, columnWord hit cold e.1 e.2) ∨
      columnEntry hit cold e = none ∧ columnWord hit cold e.1 e.2 = regCold e.1 := by
  unfold columnEntry columnWord
  split_ifs with hh hc hw <;> simp_all

theorem State.reg_regsReset {s : State} (hit : Nat → Bool) (cold : Bool) {a : Nat} (hs : s.regs.Pairwise fun x y => x.1 < y.1)
    (ha : hit (a / 0x10000) = true → warmWord a (regCold a) = regCold a) :
    (s.regsReset hit cold).reg a = columnWord hit cold a (s.reg a) := by
  rw [State.reg, State.regsReset_regs]
  refine mget_filterMap regCold (columnWord hit cold) _ (columnEntry_cases hit cold) ?_ hs
  unfold columnWord
  split_ifs with hh hc
  · rfl
  · exact ha hh
  · rfl

theorem State.regsReset_rising {s : State} (hit : Nat → Bool) (cold : Bool) (hs : s.regs.Pairwise fun x y => x.1 < y.1) :
    (s.regsReset hit cold).regs.Pairwise fun x y => x.1 < y.1 := by
  rw [State.regsReset_regs]
  refine List.Pairwise.filterMap _ (fun e e' hlt b hb b' hb' => ?_) hs
  have key : ∀ e b, columnEntry hit cold e = some b → b.1 = e.1 := by
    intro e b h
    rcases columnEntry_cases hit cold e with k | ⟨k, _⟩ <;> rw [k] at h
    · rw [← Option.some.inj h]
    · cases h
  rw [key e b hb, key e' b' hb']
  exact hlt

/-! ### Words written field by field -/

theorem putBits_of_getBits (w : W64) {lo len v : Nat} (h : v % 2 ^ len = getBits w lo len) : putBits w lo len v = w := by
  have hle : getBits w lo len * 2 ^ lo ≤ w.toNat :=
    (Nat.mul_le_mul_right _ (Nat.mod_le _ _)).trans (Nat.div_mul_le_self _ _)
  rw [putBits, h, Nat.sub_add_cancel hle, BitVec.ofNat_toNat, BitVec.setWidth_eq]

/-- A word whose bits all lie in ranges that read 0. -/
theorem eq_zero_of_getBits {w : W64} (h : ∀ i < 64, ∃ lo len, lo ≤ i ∧ i < lo + len ∧ getBits w lo len = 0) : w = 0 := by
  refine BitVec.eq_of_toNat_eq (Nat.eq_of_testBit_eq fun i => ?_)
  rw [show (0 : W64).toNat = 0 from rfl, Nat.zero_testBit]
  rcases Nat.lt_or_ge i 64 with hi | hi
  · obtain ⟨lo, len, h1, h2, h0⟩ := h i hi
    have := getBits_testBit w lo len (i - lo)
    rw [h0, Nat.zero_testBit, Nat.add_sub_cancel' h1, decide_eq_true (by omega), Bool.true_and] at this
    exact this.symm
  · exact Nat.testBit_lt_two_pow (w.isLt.trans_le (Nat.pow_le_pow_right (by omega) hi))

/-- A word with the fields of a list set one after the other; a field for which `val` gives nothing keeps its value. -/
def putFields (val : FieldRow → Option Nat) (fs : List FieldRow) (w : W64) : W64 :=
  fs.foldl (fun w f => match val f with | some v => putBits w f.lo f.len v | none => w) w

section
variable {val : FieldRow → Option Nat}

theorem putFields_cons (f : FieldRow) (fs : List FieldRow) (w : W64) :
    putFields val (f :: fs) w = putFields val fs (match val f with | some v => putBits w f.lo f.len v | none => w) := rfl

/-- Fields that are set to what they hold leave the word. -/
theorem putFields_kept {fs : List FieldRow} {w : W64} (h : ∀ f ∈ fs, ∀ v, val f = some v → v % 2 ^ f.len = getBits w f.lo f.len) :
    putFields val fs w = w := by
  induction fs with
  | nil => rfl
  | cons f fs ih =>
    have hf : (match val f with | some v => putBits w f.lo f.len v | none => w) = w := by
      split
      · next v hv => exact putBits_of_getBits w (h f (by simp) v hv)
      · rfl
    rw [putFields_cons, hf, ih fun g hg => h g (by simp [hg])]

/-- A range that shares no bit with the fields keeps its value. -/
theorem getBits_putFields_apart {fs : List FieldRow} (w : W64) {lo len : Nat} (hr : ∀ f ∈ fs, f.lo + f.len ≤ 64)
    (h : ∀ f ∈ fs, f.lo + f.len ≤ lo ∨ lo + len ≤ f.lo) : getBits (putFields val fs w) lo len = getBits w lo len := by
  induction fs generalizing w with
  | nil => rfl
  | cons f fs ih =>
    rw [putFields_cons, ih _ (fun g hg => hr g (by simp [hg])) fun g hg => h g (by simp [hg])]
    split
    · exact getBits_putBits_ne w _ (hr f (by simp)) (h f (by simp))
    · rfl

/-- Each field of a list of fields that share no bit reads as it was set, or as it stood. -/
theorem getBits_putFields {fs : List FieldRow} (w : W64) (hr : ∀ f ∈ fs, f.lo + f.len ≤ 64)
    (hp : fs.Pairwise fun f g => f.lo + f.len ≤ g.lo ∨ g.lo + g.len ≤ f.lo) {f : FieldRow} (hf : f ∈ fs) :
    getBits (putFields val fs w) f.lo f.len = ((val f).map (· % 2 ^ f.len)).getD (getBits w f.lo f.len) := by
  induction fs generalizing w with
  | nil => cases hf
  | cons g fs ih =>
    rw [List.pairwise_cons] at hp
    have hrs : ∀ f ∈ fs, f.lo + f.len ≤ 64 := fun k hk => hr k (by simp [hk])
    rw [putFields_cons]
    rcases List.mem_cons.1 hf with rfl | hfs
    · rw [getBits_putFields_apart _ hrs fun k hk => (hp.1 k hk).symm]
      cases hv : val f with
      | none => rfl
      | some v => exact getBits_putBits_same w v (hr f (by simp))
    · rw [ih _ hrs hp.2 hfs]
      cases val g with
      | none => rfl
      | some v => exact congrArg _ (getBits_putBits_ne w v (hr g (by simp)) (hp.1 f hfs))

end

/-! ### The Warm column (R21) -/

/-- Every field of a register table lies inside its word. -/
theorem regTable_inWord : ∀ r ∈ regTable, ∀ f ∈ r.fields, f.lo + f.len ≤ 64 := by decide +kernel

/-- No two fields of a register table share a bit. -/
theorem regTable_apart : ∀ r ∈ regTable, r.fields.Pairwise fun f g => f.lo + f.len ≤ g.lo ∨ g.lo + g.len ≤ f.lo := by decide +kernel

theorem mem_regTable {a : Nat} {r : RegRow} (h : regOf a = some r) : r ∈ regTable := List.mem_of_find?_eq_some h

theorem mem_rowAddrs {a : Nat} {r : RegRow} (h : regOf a = some r) :
    r.slot ≤ a / 0x10000 ∧ a / 0x10000 < r.slot + r.slots ∧ a ∈ rowAddrs r := by
  have := List.find?_some h
  simpa only [Bool.and_eq_true, decide_eq_true_eq, List.contains_iff_mem, and_assoc] using this

theorem warmWord_eq {a : Nat} {r : RegRow} (h : regOf a = some r) (w : W64) : warmWord a w = putFields (·.warm) r.fields w := by
  rw [warmWord, h]; rfl

/-- A Warm value of a register outside RSTC and FCOL is 0, but for the registers whose Cold value is not. -/
theorem regTable_warm : ∀ r ∈ regTable, r.slot + r.slots ≤ 2 ∨ (∀ f ∈ r.fields, f.warm = none ∨ f.warm = some 0) ∨
    ∀ a ∈ rowAddrs r, a ∈ coldAddrs := by decide +kernel

theorem warm_coldAddrs : ∀ a ∈ coldAddrs, 2 ≤ a / 0x10000 → warmWord a (regCold a) = regCold a := by decide +kernel

/-- The Warm column leaves BASE and LOG2SIZE of a ring (R485). -/
theorem regTable_qmgr : ∀ r ∈ regTable, r.slot ≤ 0xB → 0xB < r.slot + r.slots →
    r.dims = [(0x10, 256)] ∧ r.slot = 0xB ∧ r.slots = 1 ∧ (r.off = 0x1000 ∨ ∀ f ∈ r.fields, f.warm ≠ none → f.lo = 15 ∧ f.len = 1 ∨ 20 ≤ f.lo) := by
  decide +kernel

/-- Outside RSTC and FCOL the Warm column leaves a register at its Cold value. -/
theorem warmWord_regCold {a : Nat} (ha : 2 ≤ a / 0x10000) : warmWord a (regCold a) = regCold a := by
  by_cases hc : a ∈ coldAddrs
  · exact warm_coldAddrs a hc ha
  cases hr : regOf a with
  | none => rw [warmWord, hr]
  | some r =>
    obtain ⟨h1, h2, h3⟩ := mem_rowAddrs hr
    rw [warmWord_eq hr]
    refine putFields_kept fun f hf v hv => ?_
    have h0 : v = 0 := by
      rcases regTable_warm r (mem_regTable hr) with h | h | h
      · omega
      · rcases h f hf with h | h <;> rw [h] at hv <;> cases hv; rfl
      · exact absurd (h a h3) hc
    subst h0
    rw [Nat.zero_mod, regCold_unlisted hc]
    split
    · next hq =>
      obtain ⟨hd, hs, hn, hrow⟩ := regTable_qmgr r (mem_regTable hr) (by omega) (by omega)
      have hoff : r.off ≠ 0x1000 := by
        intro hoff
        simp only [rowAddrs, indexAddrs, hd, hs, hn, hoff, List.mem_flatMap, List.mem_range, List.mem_singleton] at h3
        obtain ⟨i, hi, j, hj, rfl⟩ := h3
        omega
      have hb := ringBase_lt ((a - 0xB1008) / 0x10) (by omega)
      have hl := ringLog_lt ((a - 0xB1008) / 0x10)
      generalize ringBase ((a - 0xB1008) / 0x10) = b at hb
      generalize ringLog ((a - 0xB1008) / 0x10) = l at hl
      unfold getBits
      rw [BitVec.toNat_ofNat, Nat.mod_eq_of_lt (by omega : b + l * 2 ^ 16 < 2 ^ 64)]
      rcases (hrow.resolve_left hoff) f hf (by rw [hv]; simp) with ⟨e1, e2⟩ | e
      · rw [e1, e2]; omega
      · have : 2 ^ 20 ≤ 2 ^ f.lo := Nat.pow_le_pow_right (by omega) e
        rw [Nat.div_eq_of_lt (by omega), Nat.zero_mod]
    · simp [getBits]

/-- Every field of FLD_STATUS is 0 under the Warm column (R589). -/
theorem warmWord_fldStatus (w : W64) : warmWord R.fldStatus.addr w = 0 := by
  obtain ⟨r, hr, hall⟩ : ∃ r, regOf R.fldStatus.addr = some r ∧ ∀ i < 64, ∃ f ∈ r.fields, f.lo ≤ i ∧ i < f.lo + f.len ∧ f.warm = some 0 :=
    ⟨_, rfl, by decide⟩
  rw [warmWord_eq hr]
  refine eq_zero_of_getBits fun i hi => ?_
  obtain ⟨f, hf, h1, h2, hw⟩ := hall i hi
  refine ⟨f.lo, f.len, h1, h2, ?_⟩
  rw [getBits_putFields w (regTable_inWord r (mem_regTable hr)) (regTable_apart r (mem_regTable hr)) hf, hw]
  exact Nat.zero_mod _

end Sys2Proof.Machine
end

section
/-! PROOFS. The reset of islands and the episodes that module sources begin (O29). -/

namespace Sys2Proof.Machine

/-! ### What the reset of an island leaves (R596, R601, R602) -/

theorem State.holdPins_eq (s : State) : s.holdPins = { s with time := s.holdPins.time } := by
  unfold State.holdPins
  dsimp only
  split_ifs <;> rfl

theorem State.modAo_foldl (ks : List Nat) (f : AoSt → AoSt) (s : State) :
    ∃ x, ks.foldl (fun s k => s.modAo k f) s = { s with field := x } := by
  induction ks generalizing s with
  | nil => exact ⟨_, rfl⟩
  | cons k ks ih => obtain ⟨x, h⟩ := ih (s.modAo k f); exact ⟨x, h⟩

/-- The switches opened: FLD and FLD_STATUS only. -/
theorem State.openOutputs_moved (s : State) : ∃ x, RegsMoved (· = R.fldStatus.addr) { s with field := x } s.openOutputs := by
  obtain ⟨x, h⟩ := State.modAo_foldl [0, 1, 2, 3] (fun a => { a with part := 20 })
    { s with field := { s.field with xfade := none, holdUntil := none, heldSw := 0 } }
  refine ⟨x, ?_⟩
  unfold State.openOutputs
  dsimp only
  rw [h]
  exact (RegsMoved.setFld _ R.fldStatusClosed 0).trans (RegsMoved.setFld _ R.fldStatusXfade 0)

/-- What the reset of island `i` leaves of the state, beside the blocks' own data. -/
structure IslandReset (s t : State) (cold : Bool) (i : Nat) : Prop where
  pending : t.pending = s.pending
  bus : t.bus = s.bus
  out : t.out = s.out
  reports : t.reports = s.reports
  rst : t.rst = s.rst
  lanes : t.lanes = if i < 8 then mdel s.lanes i else s.lanes
  classes : t.classes = if i = 8 then [] else s.classes
  events : t.events = if i = 9 then [] else s.events
  sess : t.mail.sess = if i = 9 then [] else s.mail.sess
  tbs : t.tbs = if i = 16 ∧ cold = true then [] else s.tbs
  mem : t.mem = if i = 8 then (s.clearRange 0 0x3000000).mem else if i = 17 then (s.clearRange 0x8000000000 0x8200000000).mem else s.mem
  regs : t.regs = if i = 21 then s.openOutputs.regs else s.regs

theorem State.islandState_reset (s : State) (cold : Bool) (i : Nat) : IslandReset s (s.islandState cold i) cold i := by
  unfold State.islandState
  split
  · next h =>
    constructor <;> simp [h, show i ≠ 8 by omega, show i ≠ 9 by omega, show i ≠ 16 by omega, show i ≠ 17 by omega, show i ≠ 21 by omega]
  · split
    case h_7 =>
      unfold State.resetTime
      rw [State.holdPins_eq]
      cases cold <;> constructor <;> rfl
    case h_11 => cases cold <;> constructor <;> rfl
    case h_12 =>
      obtain ⟨x, h, -⟩ := s.openOutputs_moved
      generalize ht : s.openOutputs = t at h
      rw [h]
      constructor <;> simp [ht]
    case h_13 h8 h9 _ _ _ _ h16 h17 _ _ _ h21 =>
      exact ⟨rfl, rfl, rfl, rfl, rfl, (if_neg ‹_›).symm, (if_neg h8).symm, (if_neg h9).symm, (if_neg h9).symm,
        (if_neg fun h => h16 h.1).symm, ((if_neg h8).trans (if_neg h17)).symm, (if_neg h21).symm⟩
    all_goals constructor <;> rfl

/-! ### The islands of a list reset one after the other -/

/-- The state after the islands have lost what they hold beside registers. -/
def State.islandsState (s : State) (is : List Nat) (cold : Bool) : State := is.foldl (fun s i => s.islandState cold i) s

/-- What every reset of an island keeps is kept by the reset of a list of them. -/
theorem State.islandsState_keeps {P : State → Prop} {cold : Bool} (h : ∀ (s : State) i, P s → P (s.islandState cold i)) (is : List Nat) {s : State}
    (hs : P s) : P (s.islandsState is cold) := by
  induction is generalizing s with
  | nil => exact hs
  | cons i is ih => exact ih (h s i hs)

/-- What the reset of one island of a list brings about, and every other keeps, holds after the list. -/
theorem State.islandsState_brings {P : State → Prop} {cold : Bool} {is : List Nat} {i : Nat} (hi : i ∈ is)
    (hb : ∀ s : State, P (s.islandState cold i)) (hk : ∀ (s : State) j, P s → P (s.islandState cold j)) (s : State) : P (s.islandsState is cold) := by
  induction is generalizing s with
  | nil => cases hi
  | cons j is ih =>
    rcases List.mem_cons.1 hi with rfl | h
    · exact State.islandsState_keeps hk is (hb s)
    · exact ih h (s.islandState cold j)

section
variable (s : State) (is : List Nat) (cold : Bool)

theorem State.islandsState_frame : (s.islandsState is cold).pending = s.pending ∧ (s.islandsState is cold).bus = s.bus ∧
    (s.islandsState is cold).out = s.out ∧ (s.islandsState is cold).reports = s.reports ∧ (s.islandsState is cold).rst = s.rst := by
  refine State.islandsState_keeps (P := fun t => t.pending = s.pending ∧ t.bus = s.bus ∧ t.out = s.out ∧ t.reports = s.reports ∧ t.rst = s.rst)
    (fun t i ht => ?_) is ⟨rfl, rfl, rfl, rfl, rfl⟩
  have k := t.islandState_reset cold i
  rwa [k.pending, k.bus, k.out, k.reports, k.rst]

/-- MRAM keeps its bytes, whatever islands are reset (R602). -/
theorem State.islandsState_mram {a : Nat} (h : 0x800000000 ≤ a) (h' : a < 0x800800000) : (s.islandsState is cold).byte a = s.byte a := by
  refine State.islandsState_keeps (P := fun t => t.byte a = s.byte a) (fun t i ht => ?_) is rfl
  rw [← ht, State.byte, (t.islandState_reset cold i).mem]
  split_ifs
  · exact (t.byte_clearRange ..).trans (if_neg (by omega))
  · exact (t.byte_clearRange ..).trans (if_neg (by omega))
  · rfl

/-- Registers other than FLD_STATUS are left to the columns. -/
theorem State.islandsState_reg {a : Nat} (h : a ≠ R.fldStatus.addr) : (s.islandsState is cold).reg a = s.reg a := by
  refine State.islandsState_keeps (P := fun t => t.reg a = s.reg a) (fun t i ht => ?_) is rfl
  rw [← ht, State.reg, (t.islandState_reset cold i).regs]
  split_ifs
  · obtain ⟨x, hx⟩ := t.openOutputs_moved
    exact hx.2.1 a h
  · rfl

theorem State.islandsState_rising (h : s.regs.Pairwise fun x y => x.1 < y.1) : (s.islandsState is cold).regs.Pairwise fun x y => x.1 < y.1 := by
  refine State.islandsState_keeps (P := fun t => t.regs.Pairwise fun x y => x.1 < y.1) (fun t i ht => ?_) is h
  rw [(t.islandState_reset cold i).regs]
  split_ifs
  · obtain ⟨x, hx⟩ := t.openOutputs_moved
    exact hx.2.2 ht
  · exact ht

variable {s is cold}

theorem State.islandsState_lane {l : Nat} (hl : l < 8) (h : l ∈ is) : (s.islandsState is cold).lane l = LaneSt.init := by
  refine State.islandsState_brings (P := fun t => t.lane l = LaneSt.init) h (fun t => ?_) (fun t i ht => ?_) s
  · rw [State.lane, (t.islandState_reset cold l).lanes, if_pos hl]
    exact mget_mdel_same _ _ _
  · rw [State.lane, (t.islandState_reset cold i).lanes]
    split_ifs
    · by_cases hli : l = i
      · subst hli; exact mget_mdel_same _ _ _
      · exact (mget_mdel_ne _ _ hli).trans ht
    · exact ht

/-- The main island's memories and classes (R602). -/
theorem State.islandsState_main (h : 8 ∈ is) :
    (s.islandsState is cold).classes = [] ∧ ∀ a < 0x3000000, (s.islandsState is cold).byte a = memDefault a := by
  refine State.islandsState_brings (P := fun t => t.classes = [] ∧ ∀ a < 0x3000000, t.byte a = memDefault a) h (fun t => ?_)
    (fun t i ht => ?_) s
  · have k := t.islandState_reset cold 8
    refine ⟨k.classes, fun a ha => ?_⟩
    rw [State.byte, k.mem]
    exact (t.byte_clearRange ..).trans (if_pos ⟨Nat.zero_le _, ha⟩)
  · have k := t.islandState_reset cold i
    refine ⟨by rw [k.classes, ht.1, ite_self], fun a ha => ?_⟩
    rw [State.byte, k.mem]
    split_ifs
    · exact (t.byte_clearRange ..).trans (if_pos ⟨Nat.zero_le _, ha⟩)
    · exact (t.byte_clearRange ..).trans ((if_neg (by omega)).trans (ht.2 a ha))
    · exact ht.2 a ha

theorem State.islandsState_dram (h : 17 ∈ is) {a : Nat} (ha : 0x8000000000 ≤ a) (ha' : a < 0x8200000000) :
    (s.islandsState is cold).byte a = memDefault a := by
  refine State.islandsState_brings (P := fun t => t.byte a = memDefault a) h (fun t => ?_) (fun t i ht => ?_) s
  · rw [State.byte, (t.islandState_reset cold 17).mem]
    exact (t.byte_clearRange ..).trans (if_pos ⟨ha, ha'⟩)
  · rw [State.byte, (t.islandState_reset cold i).mem]
    split_ifs
    · exact (t.byte_clearRange ..).trans ((if_neg (by omega)).trans ht)
    · exact (t.byte_clearRange ..).trans (if_pos ⟨ha, ha'⟩)
    · exact ht

/-- The Binnacle's sessions and the events it holds (R501, R602). -/
theorem State.islandsState_binnacle (h : 9 ∈ is) : (s.islandsState is cold).events = [] ∧ (s.islandsState is cold).mail.sess = [] := by
  refine State.islandsState_brings (P := fun t => t.events = [] ∧ t.mail.sess = []) h (fun t => ?_) (fun t i ht => ?_) s
  · have k := t.islandState_reset cold 9
    exact ⟨k.events, k.sess⟩
  · have k := t.islandState_reset cold i
    rw [k.events, k.sess, ht.1, ht.2]
    exact ⟨ite_self _, ite_self _⟩

/-- The time bases stop at 0 under cold reach and run on under warm reach (R399). -/
theorem State.islandsState_tbs (h : 16 ∈ is) : (s.islandsState is cold).tbs = if cold = true then [] else s.tbs := by
  cases cold with
  | true =>
    refine State.islandsState_brings (P := fun t => t.tbs = []) h (fun t => (t.islandState_reset true 16).tbs) (fun t i ht => ?_) s
    rw [(t.islandState_reset true i).tbs, ht, ite_self]
  | false =>
    refine State.islandsState_keeps (P := fun t => t.tbs = s.tbs) (fun t i ht => ?_) is rfl
    rw [(t.islandState_reset false i).tbs, if_neg (by simp), ht]

end

/-! ### Islands held in reset: their registers (R596, R613, R633) -/

theorem State.setBit_moved (s : State) (f : Fld) (i : Nat) (b : Bool) : RegsMoved (· = f.addr) s (s.setBit f i b) := RegsMoved.setFld s f _

/-- The sources of an island fall silent in FCOL's registers alone: slot 1. -/
theorem State.clearSources_moved (s : State) (i : Nat) : RegsMoved (fun a => a / 0x10000 = 1) s (s.clearSources i) := by
  refine RegsMoved.foldl (fun s src hsrc => ?_) s
  have hlt : src < 0x45 := List.mem_range.1 (List.mem_filter.1 hsrc).1
  refine RegsMoved.trans ((State.setBit_moved _ _ _ _).mono ?_) ((State.setBit_moved _ _ _ _).mono ?_)
  · rintro a rfl; simp only [R.fcolNowFault]; omega
  · rintro a rfl; simp only [R.fcolBrokenBroken]; omega

theorem State.clearSources_foldl_moved (is : List Nat) (s : State) :
    RegsMoved (fun a => a / 0x10000 = 1) s (is.foldl (fun s i => s.clearSources i) s) :=
  RegsMoved.foldl (fun s i _ => s.clearSources_moved i) s

theorem State.setOpen_moved (s : State) : RegsMoved (· = R.fcolStatus.addr) s s.setOpen := RegsMoved.setFld s R.fcolStatusOpen _

/-- Adding a power of two whose bit is clear sets that bit and keeps every bit that is set. -/
theorem testBit_add_two_pow {v i j : Nat} (h : v.testBit i = false) (hj : v.testBit j = true ∨ j = i) : (v + 2 ^ i).testBit j = true := by
  rcases lt_trichotomy j i with hlt | rfl | hgt
  · rw [Nat.add_comm, Nat.testBit_two_pow_add_gt hlt]; exact hj.resolve_right hlt.ne
  · rw [Nat.add_comm, Nat.testBit_two_pow_add_eq, h]; rfl
  · have hv := hj.resolve_right hgt.ne'
    have hr : v % 2 ^ (i + 1) < 2 ^ i := by
      rw [Nat.mod_pow_succ, ← Nat.toNat_testBit, h]; simpa using Nat.mod_lt v (Nat.two_pow_pos i)
    have e := Nat.div_add_mod v (2 ^ (i + 1))
    rw [← e, Nat.testBit_two_pow_mul_add _ (Nat.mod_lt _ (Nat.two_pow_pos _)), if_neg (by omega)] at hv
    rw [← e, Nat.add_assoc, Nat.testBit_two_pow_mul_add _ ((Nat.add_lt_add_right hr _).trans_eq (by ring)), if_neg (by omega), hv]

/-- A bit of a field that is set reads 1, and a bit that reads 1 stays so. -/
theorem State.bit_setBit_true (s : State) {f : Fld} {i j : Nat} (hf : f.lo + f.len ≤ 64) (hi : i < f.len)
    (h : s.bit f j = true ∨ j = i) : (s.setBit f i true).bit f j = true := by
  unfold State.bit State.setBit at *
  dsimp only
  have hj : j < f.len := by
    rcases h with h | rfl
    · by_contra hn
      exact absurd h (by rw [Nat.testBit_lt_two_pow ((s.fld_lt f).trans_le (Nat.pow_le_pow_right (by omega) (by omega)))]; simp)
    · exact hi
  rw [State.fld_setFld_same s _ hf, Nat.testBit_mod_two_pow, decide_eq_true hj, Bool.true_and]
  cases hb : (s.fld f).testBit i with
  | true =>
    rcases h with h | rfl
    · exact h
    · exact hb
  | false => exact testBit_add_two_pow hb h

/-- The islands of a list show in INRESET (R613). -/
theorem State.inReset_foldl_setBit {is : List Nat} (hi : ∀ i ∈ is, i < 22) (s : State) {i : Nat} (h : s.inReset i = true ∨ i ∈ is) :
    (is.foldl (fun s i => s.setBit R.rstcIslstatInreset i true) s).inReset i = true := by
  induction is generalizing s with
  | nil => exact h.resolve_right (by simp)
  | cons j is ih =>
    refine ih (fun k hk => hi k (by simp [hk])) _ ?_
    rw [List.mem_cons, ← or_assoc] at h
    exact h.imp_left (State.bit_setBit_true s (by decide) (hi j (by simp)))

/-- The columns applied to slots, RSTC_CAUSE and INRESET kept. -/
def State.columns (s : State) (hit : Nat → Bool) (cold : Bool) : State :=
  ((s.regsReset hit cold).setReg R.rstcCause.addr (s.reg R.rstcCause.addr)).setFld R.rstcIslstatInreset (s.fld R.rstcIslstatInreset)

section
variable (s : State) (hit : Nat → Bool) (cold : Bool)

theorem State.columns_moved : RegsMoved (fun a => a / 0x10000 = 0) (s.regsReset hit cold) (s.columns hit cold) :=
  ((RegsMoved.setReg _ R.rstcCause.addr _).mono (by rintro a rfl; rfl)).trans ((RegsMoved.setFld _ R.rstcIslstatInreset _).mono (by rintro a rfl; rfl))

theorem State.columns_eq : s.columns hit cold = { s with regs := (s.columns hit cold).regs } := rfl

theorem State.columns_cause : (s.columns hit cold).reg R.rstcCause.addr = s.reg R.rstcCause.addr := by
  rw [State.columns, State.reg_setFld_ne _ _ (by decide), State.reg_setReg_same]

variable {s hit cold}

theorem State.reg_columns (hs : s.regs.Pairwise fun x y => x.1 < y.1) {a : Nat} (ha : a / 0x10000 ≠ 0)
    (hw : hit (a / 0x10000) = true → warmWord a (regCold a) = regCold a) : (s.columns hit cold).reg a = columnWord hit cold a (s.reg a) :=
  ((s.columns_moved hit cold).2.1 a ha).trans (State.reg_regsReset hit cold hs hw)

theorem State.columns_rising (hs : s.regs.Pairwise fun x y => x.1 < y.1) : (s.columns hit cold).regs.Pairwise fun x y => x.1 < y.1 :=
  (s.columns_moved hit cold).2.2 (State.regsReset_rising hit cold hs)

end

section
variable (s : State) (is : List Nat) (cold : Bool)

/-- A reset of islands: their own data, their sources in FCOL, the columns of their slots, their bits of INRESET, FCOL's OPEN. -/
theorem State.resetIslands_eq : s.resetIslands is cold =
    (is.foldl (fun s i => s.setBit R.rstcIslstatInreset i true)
      ((is.foldl (fun s i => s.clearSources i) (s.islandsState is cold)).columns (fun n => is.contains (slotIsland n)) cold)).setOpen := rfl

theorem State.setBits_moved (s : State) : RegsMoved (· = R.rstcIslstat.addr) s
    (is.foldl (fun s i => s.setBit R.rstcIslstatInreset i true) s) :=
  RegsMoved.foldl (fun s i _ => State.setBit_moved s R.rstcIslstatInreset i true) s

/-- Beside registers only the islands' own data change. -/
theorem State.resetIslands_frame : s.resetIslands is cold = { s.islandsState is cold with regs := (s.resetIslands is cold).regs } := by
  rw [State.resetIslands_eq]
  generalize s.islandsState is cold = u
  have h := (State.clearSources_foldl_moved is u).1
  generalize is.foldl (fun s i => s.clearSources i) u = v at h
  have k := (State.setBits_moved is (v.columns (fun n => is.contains (slotIsland n)) cold)).1
  generalize is.foldl (fun s i => s.setBit R.rstcIslstatInreset i true) (v.columns (fun n => is.contains (slotIsland n)) cold) = w at k
  rw [(State.setOpen_moved w).1, k, State.columns_eq, h]

theorem State.resetIslands_cause : (s.resetIslands is cold).reg R.rstcCause.addr = s.reg R.rstcCause.addr := by
  rw [State.resetIslands_eq, (State.setOpen_moved _).2.1 _ (by decide), (State.setBits_moved is _).2.1 _ (by decide), State.columns_cause,
    (State.clearSources_foldl_moved is _).2.1 _ (by decide), State.islandsState_reg _ _ _ (by decide)]

theorem State.resetIslands_inReset {is : List Nat} (hi : ∀ i ∈ is, i < 22) {i : Nat} (h : i ∈ is) : (s.resetIslands is cold).inReset i = true := by
  rw [State.resetIslands_eq]
  have k := State.inReset_foldl_setBit hi
    ((is.foldl (fun s i => s.clearSources i) (s.islandsState is cold)).columns (fun n => is.contains (slotIsland n)) cold) (.inr h)
  refine (congrArg (fun w => (getBits w 0 22).testBit i) ?_).trans k
  exact (State.setOpen_moved _).2.1 _ (by decide)

variable {s is cold}

theorem State.resetIslands_rising (hs : s.regs.Pairwise fun x y => x.1 < y.1) : (s.resetIslands is cold).regs.Pairwise fun x y => x.1 < y.1 :=
  (State.setOpen_moved _).2.2 ((State.setBits_moved is _).2.2 (State.columns_rising
    ((State.clearSources_foldl_moved is _).2.2 (State.islandsState_rising s is cold hs))))

/-- The registers of the islands' slots take the Cold or the Warm column; FLD_STATUS is 0 in both. -/
theorem State.reg_resetIslands (hs : s.regs.Pairwise fun x y => x.1 < y.1) {a : Nat} (ha : 2 ≤ a / 0x10000)
    (hi : is.contains (slotIsland (a / 0x10000)) = true) :
    (s.resetIslands is cold).reg a = if cold = true then regCold a else warmWord a (s.reg a) := by
  rw [State.resetIslands_eq, (State.setOpen_moved _).2.1 a (by rintro rfl; simp [R.fcolStatus] at ha),
    (State.setBits_moved is _).2.1 a (by rintro rfl; simp [R.rstcIslstat] at ha),
    State.reg_columns ((State.clearSources_foldl_moved is _).2.2 (State.islandsState_rising s is cold hs)) (by omega) fun _ => warmWord_regCold ha,
    columnWord, if_pos hi, (State.clearSources_foldl_moved is _).2.1 a (by omega)]
  by_cases hf : a = R.fldStatus.addr
  · rw [hf, warmWord_fldStatus, warmWord_fldStatus]
  · rw [State.islandsState_reg s is cold hf]

end

/-! ### Sources and episodes (R593 to R600, R612) -/

/-- RSTC_CAUSE names the source and its reach; the reports on their way and the reactions due are dropped. -/
def State.causeNamed (s : State) (src : Nat) (wide : Bool) : State :=
  { (s.setFlag (causeFld src) true).setFld R.rstcCauseWidest (if wide then 4 else 3) with
    reports := [], fcol := { s.fcol with cAt := none, dAt := none } }

/-- The module after the islands of an episode are reset; under warm reach RSTC and FCOL take their Warm values too. -/
def State.episodeState (s : State) (is : List Nat) (wide : Bool) : State :=
  let u := s.resetIslands is wide
  ((if wide then u else u.regsReset (fun n => n == 0 || n == 1) false).setReg R.rstcCause.addr (u.reg R.rstcCause.addr)).setFld
    R.rstcIslstatInreset (u.fld R.rstcIslstatInreset)

/-- The module once a source has begun an episode of a reach over islands. -/
def State.episodeBegun (s : State) (src : Nat) (is : List Nat) (wide : Bool) : State :=
  let v := ((s.setReg R.rstcCause.addr 0).causeNamed src wide).episodeState is wide
  { v with rst := { v.rst with on := if v.rst.on.contains src then v.rst.on else v.rst.on ++ [src], episode := some wide, held := is,
                               strapDone := v.rst.strapDone && !srcCold src } }

/-- The islands of an episode that a module source begins; the field island held by its own bit joins a warm one (R598). -/
def State.episodeIslands (s : State) (src : Nat) : List Nat :=
  List.range (if srcCold src = true then 22 else 20) ++ (if srcCold src = false ∧ s.inReset 21 = true then [21] else [])

theorem State.inReset_congr {s t : State} (h : t.reg R.rstcIslstat.addr = s.reg R.rstcIslstat.addr) (i : Nat) : t.inReset i = s.inReset i :=
  congrArg (fun w => (getBits w 0 22).testBit i) h

theorem causeFld_addr (src : Nat) : (causeFld src).addr = R.rstcCause.addr := by
  unfold causeFld; split <;> rfl

section
variable (s : State) (src : Nat) (wide : Bool)

theorem State.causeNamed_moved :
    RegsMoved (· = R.rstcCause.addr) { s with reports := [], fcol := { s.fcol with cAt := none, dAt := none } } (s.causeNamed src wide) := by
  have h := ((RegsMoved.setFld { s with reports := [], fcol := { s.fcol with cAt := none, dAt := none } } (causeFld src) 1).mono
    fun a h => h.trans (causeFld_addr src)).trans (RegsMoved.setFld _ R.rstcCauseWidest (if wide then 4 else 3))
  exact h

end

theorem State.reg_episodeBegun (s : State) (src : Nat) (is : List Nat) (wide : Bool) (a : Nat) :
    (s.episodeBegun src is wide).reg a = (((s.setReg R.rstcCause.addr 0).causeNamed src wide).episodeState is wide).reg a := rfl

/-- A source asserted while no episode is in progress (R597). -/
theorem State.assertSource_begins {s : State} (h : s.rst.episode = none) (src : Nat) :
    s.assertSource src = s.episodeBegun src (s.episodeIslands src) (srcCold src) := by
  have e : s.assertSource src = s.episodeBegun src
      (if srcCold src then List.range 22 else if (none : Option Bool).isNone ∧
        ((s.setReg R.rstcCause.addr 0).causeNamed src (srcCold src || (none : Option Bool) == some true)).inReset 21
      then List.range 20 ++ [21] else List.range 20) (srcCold src || (none : Option Bool) == some true) := by
    unfold State.assertSource
    rw [h]
    rfl
  have hi : ((s.setReg R.rstcCause.addr 0).causeNamed src (srcCold src)).inReset 21 = s.inReset 21 :=
    State.inReset_congr ((((s.setReg R.rstcCause.addr 0).causeNamed_moved src _).2.1 R.rstcIslstat.addr (by decide)).trans
      (State.reg_setReg_ne s 0 (by decide : R.rstcIslstat.addr ≠ R.rstcCause.addr))) 21
  rw [e, show (srcCold src || (none : Option Bool) == some true) = srcCold src from Bool.or_false _, hi]
  congr 1
  unfold State.episodeIslands
  cases srcCold src <;> cases s.inReset 21 <;> rfl

section
variable (s : State) (is : List Nat) (wide : Bool)

theorem State.episodeState_frame : s.episodeState is wide = { s.islandsState is wide with regs := (s.episodeState is wide).regs } := by
  have h := State.resetIslands_frame s is wide
  unfold State.episodeState
  dsimp only
  generalize s.resetIslands is wide = u at h
  generalize hv : (if wide = true then u else u.regsReset (fun n => n == 0 || n == 1) false) = v
  have k : v = { u with regs := v.regs } := by rw [← hv]; cases wide <;> rfl
  rw [k, h]
  rfl

theorem State.episodeState_cause : (s.episodeState is wide).reg R.rstcCause.addr = s.reg R.rstcCause.addr := by
  unfold State.episodeState
  dsimp only
  rw [State.reg_setFld_ne _ _ (by decide), State.reg_setReg_same, State.resetIslands_cause]

theorem State.episodeState_inReset {is : List Nat} (hi : ∀ i ∈ is, i < 22) {i : Nat} (h : i ∈ is) : (s.episodeState is wide).inReset i = true := by
  rw [← State.resetIslands_inReset s wide hi h]
  unfold State.inReset State.bit State.episodeState
  dsimp only
  rw [State.fld_setFld_same _ _ (by decide), Nat.mod_eq_of_lt (State.fld_lt _ _)]

variable {s is wide}

/-- The registers outside RSTC and FCOL take the columns of the episode's reach. -/
theorem State.reg_episodeState (hs : s.regs.Pairwise fun x y => x.1 < y.1) {a : Nat} (ha : 2 ≤ a / 0x10000)
    (hi : is.contains (slotIsland (a / 0x10000)) = true) :
    (s.episodeState is wide).reg a = if wide = true then regCold a else warmWord a (s.reg a) := by
  unfold State.episodeState
  dsimp only
  rw [State.reg_setFld_ne _ _ (by rintro rfl; simp [R.rstcIslstatInreset] at ha), State.reg_setReg_ne _ _ (by rintro rfl; simp [R.rstcCause] at ha),
    ← State.reg_resetIslands hs ha hi]
  have hhit : ¬(a / 0x10000 == 0 || a / 0x10000 == 1) = true := by
    rw [Bool.or_eq_true, beq_iff_eq, beq_iff_eq]; omega
  split_ifs
  · rfl
  · rw [State.reg_regsReset _ _ (State.resetIslands_rising hs) fun h => absurd h hhit, columnWord, if_neg hhit]

end

/-- The islands whose slots lie outside RSTC and FCOL are those of warm reach (R25). -/
theorem slotIsland_lt {n : Nat} (h : 2 ≤ n) : slotIsland n < 20 := by
  unfold slotIsland
  split_ifs
  · omega
  · split <;> omega

/-- RSTC_CAUSE of an episode that a source has begun (R612). -/
theorem State.causeNamed_cause {src : Nat} (h : src ≤ 5) (s : State) :
    (((s.setReg R.rstcCause.addr 0).causeNamed src (srcCold src)).reg R.rstcCause.addr).toNat =
      2 ^ (causeFld src).lo + (if srcCold src = true then 4 else 3) * 2 ^ 8 := by
  have word : ∀ k ≤ 5, (putBits (putBits 0 (causeFld k).lo (causeFld k).len 1) 8 3 (if srcCold k = true then 4 else 3)).toNat =
      2 ^ (causeFld k).lo + (if srcCold k = true then 4 else 3) * 2 ^ 8 := by decide
  have named : ((s.setReg R.rstcCause.addr 0).setFlag (causeFld src) true).reg R.rstcCause.addr =
      putBits 0 (causeFld src).lo (causeFld src).len 1 := by
    rw [State.setFlag, State.setFld, causeFld_addr, State.reg_setReg_same, State.reg_setReg_same]; rfl
  rw [← word src h, ← named]
  exact congrArg BitVec.toNat (State.reg_setReg_same ((s.setReg R.rstcCause.addr 0).setFlag (causeFld src) true) R.rstcCause.addr _)

theorem State.episodeIslands_lt (s : State) (src : Nat) : ∀ i ∈ s.episodeIslands src, i < 22 := by
  intro i hi
  rcases List.mem_append.1 hi with h | h
  · have := List.mem_range.1 h
    split_ifs at this <;> omega
  · split_ifs at h <;> simp_all

theorem State.mem_episodeIslands (s : State) {src i : Nat} (h : i < if srcCold src = true then 22 else 20) : i ∈ s.episodeIslands src :=
  List.mem_append_left _ (List.mem_range.2 h)

section
variable {s : State} (h : s.rst.episode = none) (src : Nat)
include h

/-- A source that begins an episode: beside the registers and RSTC only what its islands lose. -/
theorem State.assertSource_eq : s.assertSource src =
    { ((s.setReg R.rstcCause.addr 0).causeNamed src (srcCold src)).islandsState (s.episodeIslands src) (srcCold src) with
      regs := (s.assertSource src).regs, rst := (s.assertSource src).rst } := by
  rw [State.assertSource_begins h]
  unfold State.episodeBegun
  dsimp only
  rw [State.episodeState_frame]

/-- The source is asserted, its reach is the episode's, its islands are held (R597). -/
theorem State.assertSource_rst : (s.assertSource src).rst.on = (if src ∈ s.rst.on then s.rst.on else s.rst.on ++ [src]) ∧
    (s.assertSource src).rst.episode = some (srcCold src) ∧ (s.assertSource src).rst.held = s.episodeIslands src := by
  rw [State.assertSource_begins h]
  refine ⟨?_, rfl, rfl⟩
  unfold State.episodeBegun
  dsimp only
  rw [State.episodeState_frame]
  dsimp only
  rw [(State.islandsState_frame _ _ _).2.2.2.2]
  simp only [List.contains_iff_mem]
  rfl

/-- Commands that wait, what has been sent and the answer of the latest access are kept; no report is on its way. -/
theorem State.assertSource_frame : (s.assertSource src).pending = s.pending ∧ (s.assertSource src).out = s.out ∧
    (s.assertSource src).bus = s.bus ∧ (s.assertSource src).reports = [] := by
  obtain ⟨h1, h2, h3, h4, -⟩ := State.islandsState_frame ((s.setReg R.rstcCause.addr 0).causeNamed src (srcCold src)) (s.episodeIslands src) (srcCold src)
  rw [State.assertSource_eq h]
  exact ⟨h1, h3, h2, h4⟩

theorem State.assertSource_inReset {i : Nat} (hi : i < if srcCold src = true then 22 else 20) : (s.assertSource src).inReset i = true := by
  rw [State.assertSource_begins h, State.inReset_congr (State.reg_episodeBegun s src (s.episodeIslands src) (srcCold src) _)]
  exact State.episodeState_inReset _ _ (s.episodeIslands_lt src) (s.mem_episodeIslands hi)

/-- The registers outside RSTC and FCOL take the columns of the episode's reach (R594). -/
theorem State.assertSource_reg (hs : s.regs.Pairwise fun x y => x.1 < y.1) {a : Nat} (ha : 2 ≤ a / 0x10000) :
    (s.assertSource src).reg a = if srcCold src = true then regCold a else warmWord a (s.reg a) := by
  have hm := (s.setReg R.rstcCause.addr 0).causeNamed_moved src (srcCold src)
  have hrise := hm.2.2 ((RegsMoved.setReg s R.rstcCause.addr 0).2.2 hs)
  have hreg : ((s.setReg R.rstcCause.addr 0).causeNamed src (srcCold src)).reg a = s.reg a := by
    have hne : a ≠ R.rstcCause.addr := by rintro rfl; simp [R.rstcCause] at ha
    exact (hm.2.1 a hne).trans (State.reg_setReg_ne s 0 hne)
  have hi : (s.episodeIslands src).contains (slotIsland (a / 0x10000)) = true := by
    rw [List.contains_iff_mem]
    refine s.mem_episodeIslands ((slotIsland_lt ha).trans_le ?_)
    split_ifs <;> omega
  rw [← hreg, ← State.reg_episodeState hrise ha hi, State.assertSource_begins h, State.reg_episodeBegun]

/-- RSTC_CAUSE names the source and its reach alone (R612). -/
theorem State.assertSource_cause {src : Nat} (hsrc : src ≤ 5) :
    ((s.assertSource src).reg R.rstcCause.addr).toNat = 2 ^ (causeFld src).lo + (if srcCold src = true then 4 else 3) * 2 ^ 8 := by
  rw [State.assertSource_begins h, ← State.causeNamed_cause hsrc s, State.reg_episodeBegun, State.episodeState_cause]

/-- A module source asserted while no episode is in progress begins one of its reach. -/
theorem State.assertSource_began {src : Nat} (hc : s.canonical = true) (hsrc : src ≤ 5) :
    EpisodeBegan s (s.assertSource src) src (causeFld src) (srcCold src) := by
  obtain ⟨hon, hepisode, hheld⟩ := State.assertSource_rst h src
  obtain ⟨hpending, hout, -, hreports⟩ := State.assertSource_frame h src
  have heq := State.assertSource_eq h src
  have mem : ∀ i < 20, i ∈ s.episodeIslands src := fun i hi => s.mem_episodeIslands (hi.trans_le (by split_ifs <;> omega))
  refine ⟨hon, hepisode, hheld, fun i hi => State.assertSource_inReset h src hi, State.assertSource_cause h hsrc,
    fun a h0 h1 => State.assertSource_reg h src (State.canonical_rising hc) (by omega), fun l hl => ?_, ?_, hreports, ?_, ?_, fun a ha => ?_,
    fun a h0 h1 => ?_, fun k hk => ?_, hpending, hout⟩
  · exact (congrArg (State.lane · l) heq).trans (State.islandsState_lane hl (mem l (by omega)))
  · exact (congrArg State.classes heq).trans (State.islandsState_main (mem 8 (by omega))).1
  · exact (congrArg State.events heq).trans (State.islandsState_binnacle (mem 9 (by omega))).1
  · exact (congrArg (·.mail.sess) heq).trans (State.islandsState_binnacle (mem 9 (by omega))).2
  · refine (congrArg (State.byte · a) heq).trans ?_
    rcases ha with ha | ⟨ha, ha'⟩
    · exact (State.islandsState_main (mem 8 (by omega))).2 a ha
    · exact State.islandsState_dram (mem 17 (by omega)) ha ha'
  · exact (congrArg (State.byte · a) heq).trans (State.islandsState_mram _ _ _ h0 h1)
  · have htbs : (s.assertSource src).tbs = if srcCold src = true then [] else s.tbs :=
      (congrArg State.tbs heq).trans (State.islandsState_tbs (mem 16 (by omega)))
    rw [State.tbFix, htbs]
    split_ifs <;> rfl

end

/-- The answer to the access that asserts a source is no part of the episode. -/
theorem EpisodeBegan.reply {s t : State} {src : Nat} {f : Fld} {cold : Bool} (h : EpisodeBegan s t src f cold) (err : Bool) (data : W64) :
    EpisodeBegan s (t.reply err data) src f cold := h

/-- Settles O29: the pins assert their source at once, the bits of RSTC_SWRST where the access reaches the register. -/
theorem moduleSourcesBeginEpisodes : Obligations.ModuleSourcesBeginEpisodes := by
  unfold Obligations.ModuleSourcesBeginEpisodes
  intro s hc he
  refine ⟨⟨_, rfl, State.assertSource_began he hc (by omega : 0 ≤ 5)⟩, ⟨_, rfl, State.assertSource_began he hc (by omega : 0 ≤ 5)⟩,
    ⟨_, rfl, State.assertSource_began he hc (by omega : 1 ≤ 5)⟩, fun m hm => ⟨_, rfl, ?_⟩, fun m hm => ⟨_, rfl, ?_⟩⟩
  · rw [State.reach_eq hm]
    exact (State.assertSource_began he hc (by omega : 4 ≤ 5)).reply false 0
  · rw [State.reach_eq hm]
    exact (State.assertSource_began he hc (by omega : 5 ≤ 5)).reply false 0

end Sys2Proof.Machine
end

section
/-! PROOFS. Writes of a register word under the access types of its fields (O23). -/

namespace Sys2Proof.Machine

/-! ### Ranges of a word that are all ones, or all zeros -/

theorem getBits_eq_ones {w : W64} {lo len : Nat} (h : ∀ i < len, w.toNat.testBit (lo + i) = true) : getBits w lo len = 2 ^ len - 1 := by
  refine Nat.eq_of_testBit_eq fun i => ?_
  rw [getBits_testBit, Nat.testBit_two_pow_sub_one]
  by_cases hi : i < len
  · rw [h i hi, Bool.and_true]
  · rw [decide_eq_false hi, Bool.false_and]

theorem getBits_eq_zero {w : W64} {lo len : Nat} (h : ∀ i < len, w.toNat.testBit (lo + i) = false) : getBits w lo len = 0 := by
  refine Nat.eq_of_testBit_eq fun i => ?_
  rw [getBits_testBit, Nat.zero_testBit]
  by_cases hi : i < len
  · rw [h i hi, Bool.and_false]
  · rw [decide_eq_false hi, Bool.false_and]

theorem putFields_append (val : FieldRow → Option Nat) (fs gs : List FieldRow) (w : W64) :
    putFields val (fs ++ gs) w = putFields val gs (putFields val fs w) := List.foldl_append

/-! ### A register word written field by field (R16, R19) -/

/-- What a write of bits `w` under `mask` makes of a field of the register at `a`: its new value and whether it returns an error; nothing where the write does
not touch the field. -/
def State.fieldOutcome (s : State) (m a : Nat) (w mask : W64) (f : FieldRow) : Option (Nat × Bool) :=
  if getBits mask f.lo f.len = 0 then none
  else
    let old := getBits (s.reg a) f.lo f.len
    let mk := getBits mask f.lo f.len
    some (s.fieldWrite m a f old ((getBits w f.lo f.len &&& mk) ||| (old &&& (2 ^ f.len - 1 - mk))) ((w &&& mask) ||| (s.reg a &&& ~~~mask)))

/-- One field of a write to a register of `s`: its value put in place, its error joined to those before. -/
def State.fieldPut (s : State) (m a : Nat) (w mask full : W64) (x : State × Bool) (f : FieldRow) : State × Bool :=
  if getBits mask f.lo f.len = 0 then x
  else
    let old := getBits (x.1.reg a) f.lo f.len
    let mk := getBits mask f.lo f.len
    let o := s.fieldWrite m a f old ((getBits w f.lo f.len &&& mk) ||| (old &&& (2 ^ f.len - 1 - mk))) full
    (x.1.setReg a (putBits (x.1.reg a) f.lo f.len o.1), x.2 || o.2)

theorem State.fieldPut_none {s : State} {m a : Nat} {w mask : W64} {f : FieldRow} (h : s.fieldOutcome m a w mask f = none) (full : W64)
    (x : State × Bool) : s.fieldPut m a w mask full x f = x := by
  unfold State.fieldOutcome at h
  split_ifs at h with h0
  exact if_pos h0

/-- A field that earlier fields of the same write have left alone. -/
theorem State.fieldPut_some {s u : State} {m a : Nat} {w mask : W64} {f : FieldRow} {o : Nat × Bool} (h : s.fieldOutcome m a w mask f = some o) (e : Bool)
    (hold : getBits (u.reg a) f.lo f.len = getBits (s.reg a) f.lo f.len) :
    s.fieldPut m a w mask ((w &&& mask) ||| (s.reg a &&& ~~~mask)) (u, e) f = (u.setReg a (putBits (u.reg a) f.lo f.len o.1), e || o.2) := by
  unfold State.fieldOutcome at h
  split_ifs at h with h0
  rw [← Option.some.inj h, State.fieldPut, if_neg h0]
  dsimp only
  rw [hold]

section
variable {r : RegRow} {a : Nat} (hr : regOf a = some r) (s : State) (m : Nat) (w mask : W64)

theorem State.fieldPuts (fs : List FieldRow) (hin : ∀ f ∈ fs, f.lo + f.len ≤ 64)
    (hp : fs.Pairwise fun f g => f.lo + f.len ≤ g.lo ∨ g.lo + g.len ≤ f.lo) (u : State) (e : Bool)
    (hold : ∀ f ∈ fs, getBits (u.reg a) f.lo f.len = getBits (s.reg a) f.lo f.len) :
    let y := fs.foldl (s.fieldPut m a w mask ((w &&& mask) ||| (s.reg a &&& ~~~mask))) (u, e)
    RegsMoved (· = a) u y.1 ∧ y.1.reg a = putFields (fun f => (s.fieldOutcome m a w mask f).map (·.1)) fs (u.reg a) ∧
      y.2 = (e || fs.any fun f => (s.fieldOutcome m a w mask f).any (·.2)) := by
  induction fs generalizing u e with
  | nil => exact ⟨RegsMoved.refl _ _, rfl, (Bool.or_false e).symm⟩
  | cons f fs ih =>
    rw [List.pairwise_cons] at hp
    have hins : ∀ g ∈ fs, g.lo + g.len ≤ 64 := fun g hg => hin g (by simp [hg])
    dsimp only
    rw [List.foldl_cons, putFields_cons, List.any_cons]
    cases ho : s.fieldOutcome m a w mask f with
    | none =>
      rw [State.fieldPut_none ho]
      exact ih hins hp.2 u e fun g hg => hold g (by simp [hg])
    | some o =>
      rw [State.fieldPut_some ho e (hold f (by simp))]
      obtain ⟨h1, h2, h3⟩ := ih hins hp.2 (u.setReg a (putBits (u.reg a) f.lo f.len o.1)) (e || o.2) fun g hg => by
        rw [State.reg_setReg_same, getBits_putBits_ne _ _ (hin f (by simp)) (hp.1 g hg), hold g (by simp [hg])]
      refine ⟨(RegsMoved.setReg _ _ _).trans h1, ?_, ?_⟩
      · rw [h2, State.reg_setReg_same]; rfl
      · rw [h3, Bool.or_assoc]; rfl

include hr

/-- What a write makes of its register: each field takes its outcome, and the errors join. -/
theorem State.wordWrite_spec :
    RegsMoved (· = a) s (s.wordWrite m a w mask).1 ∧
      (s.wordWrite m a w mask).1.reg a = putFields (fun f => (s.fieldOutcome m a w mask f).map (·.1)) r.fields (s.reg a) ∧
      (s.wordWrite m a w mask).2 = r.fields.any fun f => (s.fieldOutcome m a w mask f).any (·.2) := by
  have e : s.wordWrite m a w mask = r.fields.foldl (s.fieldPut m a w mask ((w &&& mask) ||| (s.reg a &&& ~~~mask))) (s, false) := by
    rw [State.wordWrite, hr]; rfl
  rw [e]
  exact State.fieldPuts s m w mask r.fields (regTable_inWord r (mem_regTable hr)) (regTable_apart r (mem_regTable hr)) s false fun _ _ => rfl

theorem State.wordWrite_fld {f : FieldRow} (hf : f ∈ r.fields) :
    (s.wordWrite m a w mask).1.fld ⟨a, f.lo, f.len⟩ =
      ((s.fieldOutcome m a w mask f).map (·.1 % 2 ^ f.len)).getD (s.fld ⟨a, f.lo, f.len⟩) := by
  have h := getBits_putFields (val := fun f => (s.fieldOutcome m a w mask f).map (·.1)) (s.reg a) (regTable_inWord r (mem_regTable hr)) (regTable_apart r (mem_regTable hr)) hf
  rw [← (State.wordWrite_spec hr s m w mask).2.1, Option.map_map] at h
  exact h

theorem State.wordWrite_err {f : FieldRow} (hf : f ∈ r.fields) {o : Nat × Bool} (ho : s.fieldOutcome m a w mask f = some o) (he : o.2 = true) :
    (s.wordWrite m a w mask).2 = true := by
  rw [(State.wordWrite_spec hr s m w mask).2.2, List.any_eq_true]
  exact ⟨f, hf, by rw [ho]; exact he⟩

theorem State.wordWrite_noErr (h : ∀ f ∈ r.fields, ∀ o, s.fieldOutcome m a w mask f = some o → o.2 = false) : (s.wordWrite m a w mask).2 = false := by
  rw [(State.wordWrite_spec hr s m w mask).2.2, List.any_eq_false]
  intro f hf
  cases ho : s.fieldOutcome m a w mask f with
  | none => simp
  | some o => simpa using h f hf o ho

/-- A write that leaves every field leaves every register. -/
theorem State.wordWrite_kept (h : ∀ f ∈ r.fields, ∀ o, s.fieldOutcome m a w mask f = some o → o.1 = getBits (s.reg a) f.lo f.len) (b : Nat) :
    (s.wordWrite m a w mask).1.reg b = s.reg b := by
  obtain ⟨h1, h2, -⟩ := State.wordWrite_spec hr s m w mask
  by_cases hb : b = a
  · rw [hb, h2]
    refine putFields_kept fun f hf v hv => ?_
    obtain ⟨o, ho, rfl⟩ := Option.map_eq_some_iff.1 hv
    rw [h f hf o ho]
    exact Nat.mod_eq_of_lt (getBits_lt _ _ _)
  · exact h1.2.1 b hb

end

/-! ### Fields by their access type -/

section
variable {s : State} {m a : Nat} {w mask : W64} {f : FieldRow} {o : Nat × Bool}

/-- A write leaves a field that is RO, reserved or WO, without an error. -/
theorem State.fieldWrite_kept (hf : f.acc = .ro ∨ f.acc = .rsv ∨ f.acc = .wo) (old new : Nat) (full : W64) :
    s.fieldWrite m a f old new full = (old, false) := by
  rcases hf with hf | hf | hf <;> simp only [State.fieldWrite, hf]

theorem State.fieldOutcome_kept (hf : f.acc = .ro ∨ f.acc = .rsv ∨ f.acc = .wo) (h : s.fieldOutcome m a w mask f = some o) :
    o = (getBits (s.reg a) f.lo f.len, false) := by
  unfold State.fieldOutcome at h
  split_ifs at h
  rw [← Option.some.inj h]
  exact State.fieldWrite_kept hf _ _ _

/-- A field that its register's action sets is left to the action. -/
theorem State.fieldWrite_own (hf : f.acc = .rw) (hd : a ≠ R.dbgGate.addr) (hown : ownRow a f.lo = true) (old new : Nat) (full : W64) :
    s.fieldWrite m a f old new full = (old, false) := by
  simp only [State.fieldWrite, hf, hd, false_and, if_false, hown, if_true]

/-- A write of an RW field without an action of its own takes the value, or keeps the field and errs. -/
theorem State.fieldWrite_rw (hf : f.acc = .rw) (hown : ownRow a f.lo = false) (old new : Nat) (full : W64) :
    (s.fieldWrite m a f old new full).1 = new ∨
      (s.fieldWrite m a f old new full).1 = old ∧ (s.fieldWrite m a f old new full).2 = true := by
  have hgate : ¬(a = R.dbgGate.addr ∧ f.lo = 0 ∧ new = 1 ∧ old = 0) := by
    rintro ⟨rfl, h0, -⟩
    rw [h0] at hown
    exact absurd hown (by decide)
  simp only [State.fieldWrite, hf, if_neg hgate, hown, Bool.false_eq_true, if_false]
  split_ifs
  · by_cases h : new = old
    · exact .inl h.symm
    · exact .inr ⟨rfl, bne_iff_ne.2 h⟩
  · exact .inr ⟨rfl, rfl⟩
  · exact .inr ⟨rfl, rfl⟩
  · exact .inl rfl

/-- A write of an RWL field behind a closed lock leaves it, and errs where it carries another value. -/
theorem State.fieldWrite_locked (hf : f.acc = .rwl) (hlock : s.lockClosed (a / 0x10000) = true) (old new : Nat) (full : W64) :
    s.fieldWrite m a f old new full = (old, new != old) := by
  simp only [State.fieldWrite, hf, hlock, if_true]

theorem State.fieldWrite_w1c (hf : f.acc = .w1c) (hlen : f.len = 1) (old new : Nat) (full : W64) :
    s.fieldWrite m a f old new full = (if new = 1 then 0 else old, false) := by
  simp only [State.fieldWrite, hf, hlen, true_and]

theorem State.fieldWrite_bin (hf : f.acc = .bin) (old new : Nat) (full : W64) :
    s.fieldWrite m a f old new full = (if m = 8 then new else old, false) := by
  simp only [State.fieldWrite, hf]

/-- A field outside the bytes written is not touched. -/
theorem State.fieldOutcome_outside (h : getBits mask f.lo f.len = 0) : s.fieldOutcome m a w mask f = none := if_pos h

/-- A field inside the bytes written is written with its bits. -/
theorem State.fieldOutcome_inside (hlen : 0 < f.len) (h : getBits mask f.lo f.len = 2 ^ f.len - 1) :
    s.fieldOutcome m a w mask f =
      some (s.fieldWrite m a f (getBits (s.reg a) f.lo f.len) (getBits w f.lo f.len) ((w &&& mask) ||| (s.reg a &&& ~~~mask))) := by
  have hpos : 2 ^ f.len - 1 ≠ 0 := by
    have : 2 ^ 1 ≤ 2 ^ f.len := Nat.pow_le_pow_right (by omega) hlen
    omega
  rw [State.fieldOutcome, h, if_neg hpos]
  dsimp only
  rw [Nat.and_two_pow_sub_one_eq_mod, Nat.mod_eq_of_lt (getBits_lt _ _ _), Nat.sub_self, Nat.and_zero, Nat.or_zero]

end

theorem regTable_len : ∀ r ∈ regTable, ∀ f ∈ r.fields, 0 < f.len := by decide +kernel

/-! ### The bytes that a write of a slot address carries (R35) -/

/-- The bits of the register's word that a write of `n` bytes at `x` touches. -/
def writtenMask (x n : Nat) : W64 := if n = 8 then 0xFFFFFFFFFFFFFFFF else BitVec.ofNat 64 ((2 ^ 32 - 1) * 2 ^ (x % 8 * 8))

/-- The word whose bits under the mask a write of `n` bytes of `v` at `x` carries. -/
def writtenBits (x n : Nat) (v : W64) : W64 := if n = 8 then v else BitVec.ofNat 64 (v.toNat % 2 ^ 32 * 2 ^ (x % 8 * 8))

theorem writtenMask_wide (x : Nat) {lo len : Nat} (h : lo + len ≤ 64) : getBits (writtenMask x 8) lo len = 2 ^ len - 1 := by
  refine getBits_eq_ones fun i hi => ?_
  show (2 ^ 64 - 1).testBit (lo + i) = true
  rw [Nat.testBit_two_pow_sub_one]
  exact decide_eq_true (by omega)

theorem writtenBits_wide (x : Nat) (v : W64) : writtenBits x 8 v = v := rfl

section
variable {x : Nat} (hx : x % 8 * 8 ≤ 32)
include hx

theorem writtenMask_testBit (i : Nat) : (writtenMask x 4).toNat.testBit i = decide (x % 8 * 8 ≤ i ∧ i < x % 8 * 8 + 32) := by
  have hlt : (2 ^ 32 - 1) * 2 ^ (x % 8 * 8) < 2 ^ 64 :=
    calc (2 ^ 32 - 1) * 2 ^ (x % 8 * 8) ≤ (2 ^ 32 - 1) * 2 ^ 32 := Nat.mul_le_mul_left _ (Nat.pow_le_pow_right (by omega) hx)
      _ < 2 ^ 64 := by norm_num
  rw [writtenMask, if_neg (by omega), BitVec.toNat_ofNat, Nat.mod_eq_of_lt hlt, Nat.testBit_mul_two_pow, Nat.testBit_two_pow_sub_one,
    ← Bool.decide_and]
  exact decide_eq_decide.2 (by omega)

theorem writtenMask_outside {lo len : Nat} (h : lo + len ≤ x % 8 * 8 ∨ x % 8 * 8 + 32 ≤ lo) : getBits (writtenMask x 4) lo len = 0 :=
  getBits_eq_zero fun i hi => by rw [writtenMask_testBit hx]; exact decide_eq_false (by omega)

theorem writtenMask_inside {lo len : Nat} (h : x % 8 * 8 ≤ lo) (h' : lo + len ≤ x % 8 * 8 + 32) : getBits (writtenMask x 4) lo len = 2 ^ len - 1 :=
  getBits_eq_ones fun i hi => by rw [writtenMask_testBit hx]; exact decide_eq_true (by omega)

theorem writtenBits_narrow (v : W64) {lo len : Nat} (h : x % 8 * 8 ≤ lo) (h' : lo + len ≤ x % 8 * 8 + 32) :
    getBits (writtenBits x 4 v) lo len = getBits v (lo - x % 8 * 8) len := by
  have hlt : v.toNat % 2 ^ 32 * 2 ^ (x % 8 * 8) < 2 ^ 64 :=
    calc v.toNat % 2 ^ 32 * 2 ^ (x % 8 * 8) ≤ v.toNat % 2 ^ 32 * 2 ^ 32 := Nat.mul_le_mul_left _ (Nat.pow_le_pow_right (by omega) hx)
      _ < 2 ^ 64 := by omega
  refine Nat.eq_of_testBit_eq fun i => ?_
  rw [getBits_testBit, getBits_testBit]
  by_cases hi : i < len
  · rw [decide_eq_true hi, Bool.true_and, Bool.true_and, writtenBits, if_neg (by omega), BitVec.toNat_ofNat, Nat.mod_eq_of_lt hlt,
      Nat.testBit_mul_two_pow, decide_eq_true (show x % 8 * 8 ≤ lo + i by omega), Bool.true_and, Nat.testBit_mod_two_pow,
      decide_eq_true (show lo + i - x % 8 * 8 < 32 by omega), Bool.true_and, show lo + i - x % 8 * 8 = lo - x % 8 * 8 + i by omega]
  · rw [decide_eq_false hi, Bool.false_and, Bool.false_and]

end

/-! ### A write that reaches its register -/

/-- What follows the fields of a write: the event of a debug gate that it opened, the register's action, the answer. -/
def State.slotDone (a : Nat) (w full : W64) (was : Bool) (x : State × Bool) : State :=
  let u := if x.1.flag R.dbgGateOpen && !was then x.1.raise evDebugOpened [] else x.1
  let y := if (regOf a).isSome then State.regAct a w full (u.reply false 0) else (u.reply false 0, false)
  y.1.reply (x.2 || y.2 || y.1.bus.err) 0

/-- A write of a slot address that its gate and its island let through: the fields, then the register's action, then the answer. -/
theorem State.slotWrite_reaches {s : State} {m : Fin 16} {f : Fld} (h : s.reaches m f = true) {n : Nat} (hform : slotForm f.addr n = true)
    {r : RegRow} (hr : regOf (f.addr / 8 * 8) = some r) (hd : f.addr / 8 * 8 ≠ R.dbgGate.addr) (v : W64) :
    let a := f.addr / 8 * 8
    let w := writtenBits f.addr n v
    let mask := writtenMask f.addr n
    let x := s.wordWrite m.val a w mask
    let y := State.regAct a (w &&& mask) ((w &&& mask) ||| (s.reg a &&& ~~~mask)) (x.1.reply false 0)
    s.slotWrite m.val f.addr n v = y.1.reply (x.2 || y.2 || y.1.bus.err) 0 := by
  simp only [State.reaches, Bool.and_eq_true, Option.isNone_iff_eq_none, Bool.not_eq_true'] at h
  obtain ⟨hgate, hisl⟩ := h
  have hopen : (s.wordWrite m.val (f.addr / 8 * 8) (writtenBits f.addr n v) (writtenMask f.addr n)).1.flag R.dbgGateOpen = s.flag R.dbgGateOpen :=
    congrArg (fun w => getBits w 0 1 != 0) ((State.wordWrite_spec hr s m.val _ _).1.2.1 R.dbgGate.addr (Ne.symm hd))
  have e : s.slotWrite m.val f.addr n v = State.slotDone (f.addr / 8 * 8) (writtenBits f.addr n v &&& writtenMask f.addr n)
      ((writtenBits f.addr n v &&& writtenMask f.addr n) ||| (s.reg (f.addr / 8 * 8) &&& ~~~writtenMask f.addr n)) (s.flag R.dbgGateOpen)
      (s.wordWrite m.val (f.addr / 8 * 8) (writtenBits f.addr n v) (writtenMask f.addr n)) := by
    unfold State.slotWrite State.slotWriteBy
    dsimp only
    rw [if_neg (fun k => k.2 hform), hgate]
    dsimp only
    rw [if_neg (by rw [hisl]; simp)]
    rfl
  dsimp only
  rw [e]
  generalize s.wordWrite m.val (f.addr / 8 * 8) (writtenBits f.addr n v) (writtenMask f.addr n) = x at hopen
  rw [State.slotDone, hopen, hr, Bool.and_not_self]
  rfl

/-- DBG_GATE is a register with an action of its own (R477): a write of NEWCHAL makes a challenge. -/
theorem regAct_dbgGate : ¬∀ w full u, State.regAct R.dbgGate.addr w full u = (u, false) := by
  intro h
  have := congrArg (fun y => y.1.free) (h 0x10 0 State.reset)
  exact absurd this (by decide)

/-- A write of 4 or 8 bytes that reaches a register without an action of its own does what the register's fields say, and is answered. -/
theorem State.slotWrite_noAction {s : State} {m : Fin 16} {f : Fld} (h : s.reaches m f = true) {n : Nat} (hform : slotForm f.addr n = true)
    {r : RegRow} (hr : regOf (f.addr / 8 * 8) = some r) (hact : ∀ w full u, State.regAct (f.addr / 8 * 8) w full u = (u, false)) (v : W64) :
    let x := s.wordWrite m.val (f.addr / 8 * 8) (writtenBits f.addr n v) (writtenMask f.addr n)
    s.slotWrite m.val f.addr n v = x.1.reply x.2 0 := by
  have hd : f.addr / 8 * 8 ≠ R.dbgGate.addr := by
    intro hd; rw [hd] at hact; exact regAct_dbgGate hact
  dsimp only
  rw [State.slotWrite_reaches h hform hr hd, hact]
  dsimp only [State.reply_bus]
  rw [Bool.or_false, Bool.or_false]
  rfl

/-! ### The fields of a register without an action of its own (R16, R19, R20) -/

/-- The value that a write at `x` carries for a field. -/
def writtenValue (x : Nat) (wide : Bool) (v : W64) (f : FieldRow) : Nat :=
  if wide then getBits v f.lo f.len else getBits v (f.lo - x % 8 * 8) f.len

theorem writtenValue_lt (x : Nat) (wide : Bool) (v : W64) (f : FieldRow) : writtenValue x wide v f < 2 ^ f.len := by
  unfold writtenValue; split <;> exact getBits_lt _ _ _

section
variable {r : RegRow} {x : Nat} (hr : regOf (x / 8 * 8) = some r) {wide : Bool} (hx : x % (if wide then 8 else 4) = 0) (s : State) (m : Nat) (v : W64)
  {f : FieldRow} (hf : f ∈ r.fields)
include hr hx hf

/-- A field inside the bytes written meets the value that the write carries for it. -/
theorem State.fieldOutcome_written (h : wide = true ∨ (x % 8 * 8 ≤ f.lo ∧ f.lo + f.len ≤ x % 8 * 8 + 32)) :
    ∃ full, s.fieldOutcome m (x / 8 * 8) (writtenBits x (if wide then 8 else 4) v) (writtenMask x (if wide then 8 else 4)) f =
      some (s.fieldWrite m (x / 8 * 8) f (s.fld ⟨x / 8 * 8, f.lo, f.len⟩) (writtenValue x wide v f) full) := by
  have hlen := regTable_len r (mem_regTable hr) f hf
  cases wide with
  | true => exact ⟨_, State.fieldOutcome_inside hlen (writtenMask_wide x (regTable_inWord r (mem_regTable hr) f hf))⟩
  | false =>
    obtain ⟨h1, h2⟩ := h.resolve_left (by simp)
    simp only [Bool.false_eq_true, if_false] at hx
    have hx' : x % 8 * 8 ≤ 32 := by omega
    have e := State.fieldOutcome_inside (s := s) (m := m) (a := x / 8 * 8) (w := writtenBits x 4 v) hlen (writtenMask_inside hx' h1 h2)
    rw [writtenBits_narrow hx' v h1 h2] at e
    exact ⟨_, e⟩

/-- A field outside the bytes written keeps its value. -/
theorem State.wordWrite_fld_outside (hw : wide = false) (h : f.lo + f.len ≤ x % 8 * 8 ∨ x % 8 * 8 + 32 ≤ f.lo) :
    (s.wordWrite m (x / 8 * 8) (writtenBits x (if wide then 8 else 4) v) (writtenMask x (if wide then 8 else 4))).1.fld ⟨x / 8 * 8, f.lo, f.len⟩ =
      s.fld ⟨x / 8 * 8, f.lo, f.len⟩ := by
  subst hw
  simp only [Bool.false_eq_true, if_false] at hx ⊢
  rw [State.wordWrite_fld hr s m _ _ hf, State.fieldOutcome_outside (writtenMask_outside (by omega) h)]
  rfl

omit hx in
/-- A field that is RO or reserved keeps its value. -/
theorem State.wordWrite_fld_kept (w mask : W64) (h : f.acc = .ro ∨ f.acc = .rsv) :
    (s.wordWrite m (x / 8 * 8) w mask).1.fld ⟨x / 8 * 8, f.lo, f.len⟩ = s.fld ⟨x / 8 * 8, f.lo, f.len⟩ := by
  rw [State.wordWrite_fld hr s m _ _ hf]
  cases ho : s.fieldOutcome m (x / 8 * 8) w mask f with
  | none => rfl
  | some o =>
    rw [State.fieldOutcome_kept (h.imp_right .inl) ho]
    exact Nat.mod_eq_of_lt (getBits_lt _ _ _)

/-- A field inside the bytes written takes its outcome, whose error is the write's. -/
theorem State.wordWrite_fld_written (h : wide = true ∨ (x % 8 * 8 ≤ f.lo ∧ f.lo + f.len ≤ x % 8 * 8 + 32)) :
    let y := s.wordWrite m (x / 8 * 8) (writtenBits x (if wide then 8 else 4) v) (writtenMask x (if wide then 8 else 4))
    ∃ full, let o := s.fieldWrite m (x / 8 * 8) f (s.fld ⟨x / 8 * 8, f.lo, f.len⟩) (writtenValue x wide v f) full
      y.1.fld ⟨x / 8 * 8, f.lo, f.len⟩ = o.1 % 2 ^ f.len ∧ (o.2 = true → y.2 = true) := by
  obtain ⟨full, ho⟩ := State.fieldOutcome_written hr hx s m v hf h
  refine ⟨full, ?_, State.wordWrite_err hr s m _ _ hf ho⟩
  rw [State.wordWrite_fld hr s m _ _ hf, ho]
  rfl

/-- A field inside the bytes written, by its access type. -/
theorem State.wordWrite_fld_acc (h : wide = true ∨ (x % 8 * 8 ≤ f.lo ∧ f.lo + f.len ≤ x % 8 * 8 + 32)) :
    let g : Fld := ⟨x / 8 * 8, f.lo, f.len⟩
    let val := writtenValue x wide v f
    let y := s.wordWrite m (x / 8 * 8) (writtenBits x (if wide then 8 else 4) v) (writtenMask x (if wide then 8 else 4))
    (f.acc = .bin → y.1.fld g = if m = 8 then val else s.fld g) ∧
      (f.acc = .w1c → f.len = 1 → y.1.fld g = if val = 1 then 0 else s.fld g) ∧
      (f.acc = .rwl → s.lockClosed (x / 8 * 8 / 0x10000) = true → y.1.fld g = s.fld g ∧ (val ≠ s.fld g → y.2 = true)) ∧
      (f.acc = .rw → ownRow (x / 8 * 8) f.lo = false → y.1.fld g = val ∨ (y.1.fld g = s.fld g ∧ y.2 = true)) := by
  obtain ⟨full, hfld, herr⟩ := State.wordWrite_fld_written hr hx s m v hf h
  have hval : writtenValue x wide v f % 2 ^ f.len = writtenValue x wide v f := Nat.mod_eq_of_lt (writtenValue_lt x wide v f)
  have hold : s.fld ⟨x / 8 * 8, f.lo, f.len⟩ % 2 ^ f.len = s.fld ⟨x / 8 * 8, f.lo, f.len⟩ := Nat.mod_eq_of_lt (s.fld_lt _)
  refine ⟨fun hacc => ?_, fun hacc hlen => ?_, fun hacc hlock => ?_, fun hacc hown => ?_⟩
  · rw [hfld, State.fieldWrite_bin hacc]
    split_ifs
    · exact hval
    · exact hold
  · rw [hfld, State.fieldWrite_w1c hacc hlen]
    split_ifs
    · exact Nat.zero_mod _
    · exact hold
  · rw [State.fieldWrite_locked hacc hlock] at hfld herr
    exact ⟨hfld.trans hold, fun hne => herr (bne_iff_ne.2 hne)⟩
  · rcases State.fieldWrite_rw (s := s) (m := m) hacc hown (s.fld ⟨x / 8 * 8, f.lo, f.len⟩) (writtenValue x wide v f) full with h1 | ⟨h1, h2⟩
    · exact .inl (by rw [hfld, h1, hval])
    · exact .inr ⟨by rw [hfld, h1, hold], herr h2⟩

end

theorem RegsMoved.reply {A : Nat → Prop} {s t : State} (h : RegsMoved A s t) (err : Bool) (data : W64) :
    t.reply err data = { s with regs := t.regs, bus := ⟨err, data⟩ } := congrArg (State.reply · err data) h.1

theorem slotForm_of_aligned {x : Nat} {wide : Bool} (h : x % (if wide then 8 else 4) = 0) : slotForm x (if wide then 8 else 4) = true := by
  cases wide <;> simp only [if_true, if_false, Bool.false_eq_true] at h <;> simp [slotForm, h]

/-! ### Registers with an action (R440, R449, R594) -/

/-- A write of the whole word, every field of it. -/
def allBits : W64 := 0xFFFFFFFFFFFFFFFF

/-- A write of a whole word that reaches its register: the fields, then the action, then the answer. -/
theorem State.slotWrite_wide {s : State} {m : Fin 16} {f : Fld} (h : s.reaches m f = true) (hal : f.addr % 8 = 0) {r : RegRow}
    (hr : regOf f.addr = some r) (hd : f.addr ≠ R.dbgGate.addr) (v : W64) :
    let x := s.wordWrite m.val f.addr v allBits
    let y := State.regAct f.addr v v (x.1.reply false 0)
    s.slotWrite m.val f.addr 8 v = y.1.reply (x.2 || y.2 || y.1.bus.err) 0 := by
  have e : f.addr / 8 * 8 = f.addr := by omega
  have k := State.slotWrite_reaches (n := 8) h (by simp [slotForm, hal]) (by rw [e]; exact hr) (by rw [e]; exact hd) v
  have bits : v &&& allBits = v := BitVec.and_allOnes
  have full : (v &&& allBits) ||| (s.reg f.addr &&& ~~~allBits) = v := by
    rw [bits, show ~~~allBits = 0#64 from rfl, BitVec.and_zero, BitVec.or_zero]
  rw [e] at k
  dsimp only at k ⊢
  rw [k, writtenBits_wide, show writtenMask f.addr 8 = allBits from rfl, full, bits]

section
variable {r : RegRow} {a : Nat} (hr : regOf a = some r) (s : State) (m : Nat) (v : W64)
include hr

theorem State.fieldOutcome_wide {f : FieldRow} (hf : f ∈ r.fields) :
    ∃ full, s.fieldOutcome m a v allBits f = some (s.fieldWrite m a f (s.fld ⟨a, f.lo, f.len⟩) (getBits v f.lo f.len) full) :=
  ⟨_, State.fieldOutcome_inside (regTable_len r (mem_regTable hr) f hf) (writtenMask_wide a (regTable_inWord r (mem_regTable hr) f hf))⟩

/-- A write of a whole word that leaves each of its fields. -/
theorem State.wordWrite_wide_kept
    (h : ∀ f ∈ r.fields, ∀ full, (s.fieldWrite m a f (s.fld ⟨a, f.lo, f.len⟩) (getBits v f.lo f.len) full).1 = s.fld ⟨a, f.lo, f.len⟩) :
    FldsOnly s (s.wordWrite m a v allBits).1 [] := by
  refine ⟨(State.wordWrite_spec hr s m v allBits).1.1, fun g _ => ?_⟩
  rw [State.fld, State.wordWrite_kept hr]
  · rfl
  · intro f hf o ho
    obtain ⟨full, e⟩ := State.fieldOutcome_wide hr s m v hf
    rw [e] at ho
    rw [← Option.some.inj ho]
    exact h f hf full

theorem State.wordWrite_wide_noErr (h : ∀ f ∈ r.fields, ∀ full, (s.fieldWrite m a f (s.fld ⟨a, f.lo, f.len⟩) (getBits v f.lo f.len) full).2 = false) :
    (s.wordWrite m a v allBits).2 = false := by
  refine State.wordWrite_noErr hr s m v allBits fun f hf o ho => ?_
  obtain ⟨full, e⟩ := State.fieldOutcome_wide hr s m v hf
  rw [e] at ho
  rw [← Option.some.inj ho]
  exact h f hf full

/-- A write to a register of which a write changes no field at all. -/
theorem State.wordWrite_wide_readOnly (h : ∀ f ∈ r.fields, f.acc = .ro ∨ f.acc = .rsv ∨ f.acc = .wo ∨ f.acc = .rw ∧ ownRow a f.lo = true)
    (hd : a ≠ R.dbgGate.addr) : FldsOnly s (s.wordWrite m a v allBits).1 [] ∧ (s.wordWrite m a v allBits).2 = false := by
  have k : ∀ f ∈ r.fields, ∀ old new full, s.fieldWrite m a f old new full = (old, false) := by
    intro f hf old new full
    rcases h f hf with h | h | h | ⟨h, hown⟩
    · exact State.fieldWrite_kept (.inl h) _ _ _
    · exact State.fieldWrite_kept (.inr (.inl h)) _ _ _
    · exact State.fieldWrite_kept (.inr (.inr h)) _ _ _
    · exact State.fieldWrite_own h hd hown _ _ _
  exact ⟨State.wordWrite_wide_kept hr s m v fun f hf full => by rw [k f hf], State.wordWrite_wide_noErr hr s m v fun f hf full => by rw [k f hf]⟩

end

/-- Fields that read 0 after the fields of a write, and a counter that its action clears. -/
theorem Cleared.of_action {s x : State} {fs : List Fld} {g : Fld} (h : FldsOnly s x fs) (h0 : ∀ f ∈ fs, x.fld f = 0) (hg : g.lo + g.len ≤ 64)
    (hap : ∀ f ∈ fs, apart g f) : Cleared s (((x.reply false 0).setFld g 0).reply false 0) (fs ++ [g]) := by
  have k := State.setFld_only (x.reply false 0) 0 hg
  obtain ⟨hx, hkept⟩ := h
  obtain ⟨rs, rfl⟩ : ∃ rs, x = { s with regs := rs } := ⟨_, hx⟩
  refine ⟨⟨rfl, FldsKept.trans hkept k.2⟩, fun f hf => ?_⟩
  rcases List.mem_append.1 hf with hf | hf
  · exact (State.fld_setFld_ne (State.reply _ false 0) 0 hg (hap f hf)).trans (h0 f hf)
  · rw [List.mem_singleton.1 hf]
    exact (State.fld_setFld_same (State.reply _ false 0) 0 hg).trans (Nat.zero_mod _)

/-- RSTC_SWRST with WARM (R593). -/
theorem State.slotWrite_swrstWarm {s : State} {m : Fin 16} (h : s.reaches m R.rstcSwrstWarm = true) (he : s.rst.episode = none) :
    let t := s.slotWrite m.val R.rstcSwrstWarm.addr 8 1
    4 ∈ t.rst.on ∧ t.rst.episode = some false ∧ t.flag R.rstcCauseSwwarm = true ∧ t.bus = ⟨false, 0⟩ := by
  obtain ⟨r, hr, hf⟩ : ∃ r, regOf R.rstcSwrstWarm.addr = some r ∧ ∀ f ∈ r.fields, f.acc = .ro ∨ f.acc = .rsv ∨ f.acc = .wo ∨
      f.acc = .rw ∧ ownRow R.rstcSwrstWarm.addr f.lo = true := ⟨_, rfl, by decide⟩
  obtain ⟨⟨hx, -⟩, hnoErr⟩ := State.wordWrite_wide_readOnly hr s m.val 1 hf (by decide)
  rw [State.slotWrite_wide h (by decide) hr (by decide)]
  generalize s.wordWrite m.val R.rstcSwrstWarm.addr 1 allBits = x at hx hnoErr
  have hact : State.regAct R.rstcSwrstWarm.addr 1 1 (x.1.reply false 0) = ((x.1.reply false 0).assertSource 4, false) := rfl
  have hep : (x.1.reply false 0).rst.episode = none := by rw [State.reply_rst, hx]; exact he
  obtain ⟨hon, hepisode, -⟩ := State.assertSource_rst hep 4
  have hbus := (State.assertSource_frame hep 4).2.2.1
  have hcause := State.assertSource_cause hep (by omega : 4 ≤ 5)
  have hflag : ((x.1.reply false 0).assertSource 4).flag R.rstcCauseSwwarm = true := by
    show (getBits (((x.1.reply false 0).assertSource 4).reg R.rstcCause.addr) 4 1 != 0) = true
    rw [getBits, hcause]; decide
  dsimp only
  rw [hact, hnoErr]
  refine ⟨?_, hepisode, hflag, ?_⟩
  · rw [State.reply_rst, hon]
    split_ifs with h4
    · exact h4
    · exact List.mem_append_right _ (List.mem_singleton.2 rfl)
  · rw [State.reply_bus, hbus]; rfl

/-- RSTC_HOLD: a limit up to 500 is taken, a greater one is refused (R594, R613). -/
theorem State.slotWrite_hold {s : State} {m : Fin 16} (h : s.reaches m R.rstcHoldLimit = true) (v : BitVec 9) :
    let t := s.slotWrite m.val R.rstcHoldLimit.addr 8 (v.setWidth 64)
    t = { s with regs := t.regs, bus := ⟨decide (500 < v.toNat), 0⟩ } ∧
      t.fld R.rstcHoldLimit = if 500 < v.toNat then s.fld R.rstcHoldLimit else v.toNat := by
  obtain ⟨r, hr, hf⟩ : ∃ r, regOf R.rstcHoldLimit.addr = some r ∧ ∀ f ∈ r.fields, f.acc = .ro ∨ f.acc = .rsv ∨ f.acc = .wo ∨
      f.acc = .rw ∧ ownRow R.rstcHoldLimit.addr f.lo = true := ⟨_, rfl, by decide⟩
  obtain ⟨⟨hx, hkept⟩, hnoErr⟩ := State.wordWrite_wide_readOnly hr s m.val (v.setWidth 64) hf (by decide)
  have hv : getBits (v.setWidth 64) 0 9 = v.toNat := by
    have := v.isLt
    rw [getBits, BitVec.toNat_setWidth]; omega
  rw [State.slotWrite_wide h (by decide) hr (by decide)]
  generalize s.wordWrite m.val R.rstcHoldLimit.addr (v.setWidth 64) allBits = x at hx hkept hnoErr
  have hact : State.regAct R.rstcHoldLimit.addr (v.setWidth 64) (v.setWidth 64) (x.1.reply false 0) =
      if 500 < v.toNat then (x.1.reply false 0, true) else ((x.1.reply false 0).setFld R.rstcHoldLimit v.toNat, false) := by
    rw [← hv]; rfl
  dsimp only
  rw [hact, hnoErr]
  obtain ⟨rs, hrs⟩ : ∃ rs, x.1 = { s with regs := rs } := ⟨_, hx⟩
  rw [hrs] at hkept ⊢
  split_ifs with h500
  · rw [decide_eq_true h500]
    exact ⟨rfl, hkept _ (by simp)⟩
  · rw [decide_eq_false h500]
    exact ⟨rfl, (State.fld_setFld_same (State.reply _ false 0) _ (by decide)).trans (Nat.mod_eq_of_lt v.isLt)⟩

/-- FCOL_CTRL with ACLEAR outside the test of the report paths: ACOUNT is cleared (R440). -/
theorem State.slotWrite_aclear {s : State} {m : Fin 16} (h : s.reaches m R.fcolCtrlAclear = true) (ht : s.flag R.fcolCtrlTest = false) :
    Cleared s (s.slotWrite m.val R.fcolCtrlAclear.addr 8 4) [R.fcolStatusAcount] := by
  obtain ⟨r, hr, hf⟩ : ∃ r, regOf R.fcolCtrlAclear.addr = some r ∧ ∀ f ∈ r.fields, f.acc = .ro ∨ f.acc = .rsv ∨ f.acc = .wo ∨
      f = ⟨1, 1, .rwl, 0, some 0⟩ := ⟨_, rfl, by decide⟩
  have htest : s.fld R.fcolCtrlTest = 0 := by simpa [State.flag] using ht
  have k : ∀ f ∈ r.fields, ∀ full, s.fieldWrite m.val R.fcolCtrlAclear.addr f (s.fld ⟨R.fcolCtrlAclear.addr, f.lo, f.len⟩) (getBits 4 f.lo f.len) full =
      (s.fld ⟨R.fcolCtrlAclear.addr, f.lo, f.len⟩, false) := by
    intro f hmem full
    rcases hf f hmem with h | h | h | rfl
    · exact State.fieldWrite_kept (.inl h) _ _ _
    · exact State.fieldWrite_kept (.inr (.inl h)) _ _ _
    · exact State.fieldWrite_kept (.inr (.inr h)) _ _ _
    · have e : s.fld ⟨R.fcolCtrlAclear.addr, 1, 1⟩ = 0 := htest
      simp only [e]
      by_cases hl : s.lockClosed (R.fcolCtrlAclear.addr / 0x10000) = true
      · exact State.fieldWrite_locked rfl hl _ _ _
      · exact if_neg hl
  have hx := State.wordWrite_wide_kept hr s m.val 4 fun f hf full => by rw [k f hf]
  have hnoErr := State.wordWrite_wide_noErr hr s m.val 4 fun f hf full => by rw [k f hf]
  rw [State.slotWrite_wide h (by decide) hr (by decide)]
  generalize s.wordWrite m.val R.fcolCtrlAclear.addr 4 allBits = x at hx hnoErr
  have hact : State.regAct R.fcolCtrlAclear.addr 4 4 (x.1.reply false 0) = ((x.1.reply false 0).setFld R.fcolStatusAcount 0, false) := rfl
  rw [hact, hnoErr]
  exact Cleared.of_action hx (by simp) (by decide) (by simp)

/-- FCOL_TEST behind the closed lock: another source or pattern is refused (R449). -/
theorem State.slotWrite_testLocked {s : State} {m : Fin 16} (h : s.reaches m R.fcolTestSource = true) (hlock : s.flag R.fcolCtrlLocked = true)
    {v : W64} (hv : v.toNat % 2 ^ 7 ≠ s.fld R.fcolTestSource ∨ v.toNat / 2 ^ 7 % 4 ≠ s.fld R.fcolTestPattern) :
    let t := s.slotWrite m.val R.fcolTestSource.addr 8 v
    t = { s with regs := t.regs, bus := ⟨true, 0⟩ } ∧ FldsKept s t [] := by
  obtain ⟨r, hr, hf, h0, h7⟩ : ∃ r, regOf R.fcolTestSource.addr = some r ∧ (∀ f ∈ r.fields, f.acc = .ro ∨ f.acc = .rsv ∨ f.acc = .wo ∨ f.acc = .rwl) ∧
      (⟨0, 7, .rwl, 0, some 0⟩ : FieldRow) ∈ r.fields ∧ (⟨7, 2, .rwl, 0, some 0⟩ : FieldRow) ∈ r.fields := ⟨_, rfl, by decide, by decide, by decide⟩
  have hlock' : s.lockClosed (R.fcolTestSource.addr / 0x10000) = true := hlock
  have hx := State.wordWrite_wide_kept hr s m.val v fun f hmem full => by
    rcases hf f hmem with h | h | h | h
    · rw [State.fieldWrite_kept (.inl h)]
    · rw [State.fieldWrite_kept (.inr (.inl h))]
    · rw [State.fieldWrite_kept (.inr (.inr h))]
    · rw [State.fieldWrite_locked h hlock']
  have hErr : (s.wordWrite m.val R.fcolTestSource.addr v allBits).2 = true := by
    have err : ∀ {f : FieldRow}, f ∈ r.fields → f.acc = .rwl → getBits v f.lo f.len ≠ s.fld ⟨R.fcolTestSource.addr, f.lo, f.len⟩ →
        (s.wordWrite m.val R.fcolTestSource.addr v allBits).2 = true := by
      intro f hmem hacc hne
      obtain ⟨full, ho⟩ := State.fieldOutcome_wide hr s m.val v hmem
      refine State.wordWrite_err hr s m.val v allBits hmem ho ?_
      rw [State.fieldWrite_locked hacc hlock']
      exact bne_iff_ne.2 hne
    rcases hv with hv | hv
    · exact err h0 rfl (by rw [getBits, Nat.pow_zero, Nat.div_one]; exact hv)
    · exact err h7 rfl hv
  rw [State.slotWrite_wide h (by decide) hr (by decide)]
  generalize s.wordWrite m.val R.fcolTestSource.addr v allBits = x at hx hErr
  obtain ⟨hx, hkept⟩ := hx
  have hact : State.regAct R.fcolTestSource.addr v v (x.1.reply false 0) = (x.1.reply false 0, false) := by
    have hl : (x.1.reply false 0).flag R.fcolCtrlLocked = true := by
      rw [← hlock]; exact congrArg (· != 0) (hkept R.fcolCtrlLocked (by simp))
    exact if_pos hl
  dsimp only
  rw [hact, hErr]
  obtain ⟨rs, hrs⟩ : ∃ rs, x.1 = { s with regs := rs } := ⟨_, hx⟩
  rw [hrs] at hkept ⊢
  exact ⟨rfl, hkept⟩

/-! ### Latches with a counter (R83, R173, R269, R440, R469) -/

/-- A word whose bit 63 alone is 1: what clears a latch. -/
def latchBit : W64 := BitVec.ofNat 64 (2 ^ 63)

/-- The row of a latch. -/
def latchRow : FieldRow := ⟨63, 1, .w1c, 0, some 0⟩

/-- The register at `a` holds a W1C latch in bit 63 and no other field that a write changes. -/
def latchReg (a : Nat) : Bool :=
  (regOf a).any fun r => decide (r.fields.getLast? = some latchRow) && r.fields.dropLast.all fun f => decide (f.acc = .ro ∨ f.acc = .rsv)

theorem latchReg_rows {a : Nat} (h : latchReg a = true) :
    ∃ r fs, regOf a = some r ∧ r.fields = fs ++ [latchRow] ∧ ∀ f ∈ fs, f.acc = .ro ∨ f.acc = .rsv := by
  simp only [latchReg, Option.any_eq_true, Bool.and_eq_true, List.all_eq_true, decide_eq_true_eq] at h
  obtain ⟨r, hr, hlast, hro⟩ := h
  exact ⟨r, r.fields.dropLast, hr, (List.dropLast_append_getLast? _ hlast).symm, hro⟩

/-- A write of a latch's bit clears the latch, and nothing else. -/
theorem State.wordWrite_latch {a : Nat} (h : latchReg a = true) (s : State) (m : Nat) :
    let x := s.wordWrite m a latchBit allBits
    FldsOnly s x.1 [⟨a, 63, 1⟩] ∧ x.1.fld ⟨a, 63, 1⟩ = 0 ∧ x.2 = false := by
  obtain ⟨r, fs, hr, hfs, hro⟩ := latchReg_rows h
  obtain ⟨hmoved, hreg, -⟩ := State.wordWrite_spec hr s m latchBit allBits
  have hin : (⟨a, 63, 1⟩ : Fld).lo + (⟨a, 63, 1⟩ : Fld).len ≤ 64 := le_refl 64
  have hlast : s.fieldOutcome m a latchBit allBits latchRow = some (0, false) := by
    obtain ⟨full, e⟩ := State.fieldOutcome_wide hr s m latchBit (f := latchRow) (by rw [hfs]; simp)
    rw [e, State.fieldWrite_w1c rfl rfl, if_pos (by decide)]
  have hword : (s.wordWrite m a latchBit allBits).1.reg a = (s.setFld ⟨a, 63, 1⟩ 0).reg a := by
    have hkept : putFields (fun f => (s.fieldOutcome m a latchBit allBits f).map (·.1)) fs (s.reg a) = s.reg a := by
      refine putFields_kept fun f hf v hv => ?_
      obtain ⟨o, ho, rfl⟩ := Option.map_eq_some_iff.1 hv
      rw [State.fieldOutcome_kept ((hro f hf).imp_right .inl) ho]
      exact Nat.mod_eq_of_lt (getBits_lt _ _ _)
    rw [hreg, hfs, putFields_append, hkept, putFields_cons, hlast, State.setFld, State.reg_setReg_same]
    rfl
  have hfld : ∀ g : Fld, (s.wordWrite m a latchBit allBits).1.fld g = (s.setFld ⟨a, 63, 1⟩ 0).fld g := fun g => by
    have hregs : (s.wordWrite m a latchBit allBits).1.reg g.addr = (s.setFld ⟨a, 63, 1⟩ 0).reg g.addr := by
      by_cases hb : g.addr = a
      · rw [hb, hword]
      · rw [hmoved.2.1 _ hb]; exact (State.reg_setReg_ne s _ hb).symm
    rw [State.fld, hregs]; rfl
  refine ⟨⟨hmoved.1, fun g hg => (hfld g).trans ((State.setFld_only s 0 hin).2 g hg)⟩, ?_, ?_⟩
  · rw [hfld, State.fld_setFld_same _ _ hin, Nat.zero_mod]
  · refine State.wordWrite_wide_noErr hr s m latchBit fun f hf full => ?_
    rw [hfs, List.mem_append, List.mem_singleton] at hf
    rcases hf with hf | rfl
    · rw [State.fieldWrite_kept ((hro f hf).imp_right .inl)]
    · rw [State.fieldWrite_w1c rfl rfl]

/-- A write of a latch's bit clears the latch, and its register's action clears the counter. -/
theorem State.slotWrite_latch {s : State} {m : Fin 16} {a : Nat} (h : s.reaches m ⟨a, 63, 1⟩ = true) (hl : latchReg a = true)
    (hal : a % 8 = 0) (hd : a ≠ R.dbgGate.addr) {g : Fld} (hg : g.lo + g.len ≤ 64) (hap : apart g ⟨a, 63, 1⟩)
    (hact : ∀ u, State.regAct a latchBit latchBit u = (u.setFld g 0, false)) :
    Cleared s (s.slotWrite m a 8 latchBit) [⟨a, 63, 1⟩, g] := by
  obtain ⟨hx, h0, hnoErr⟩ := State.wordWrite_latch hl s m.val
  obtain ⟨r, -, hr, -, -⟩ := latchReg_rows hl
  have k := State.slotWrite_wide h hal hr hd latchBit
  dsimp only at k
  rw [k, hact, hnoErr]
  exact Cleared.of_action hx (by simpa using h0) hg (by simpa using hap)

theorem latchReg_laneOof : ∀ l : Fin 8, latchReg (R.laneOofValid l.val).addr = true := by decide +kernel

theorem regAct_laneOof (l : Fin 8) (u : State) :
    State.regAct (R.laneOofValid l.val).addr latchBit latchBit u = (u.setFld (R.laneOofCount l.val) 0, false) := by
  fin_cases l <;> rfl

section
variable {s : State} {m : Fin 16}

/-- LANE_OOF (R173). -/
theorem State.slotWrite_laneOof {l : Fin 8} (h : s.reaches m (R.laneOofValid l.val) = true) :
    Cleared s (s.slotWrite m (R.laneOofValid l.val).addr 8 latchBit) [R.laneOofValid l.val, R.laneOofCount l.val] := by
  have ha : (R.laneOofValid l.val).addr = 0x200000 + l.val * 0x10000 + 0x18 := rfl
  have hd : R.dbgGate.addr = 0x130000 := rfl
  exact State.slotWrite_latch h (latchReg_laneOof l) (by omega) (by omega) (by decide : 32 + 16 ≤ 64) (.inr (.inl (by decide : 32 + 16 ≤ 63)))
    (regAct_laneOof l)

/-- CMP_FAULT (R269). -/
theorem State.slotWrite_cmpFault (h : s.reaches m R.cmpFaultValid = true) :
    Cleared s (s.slotWrite m R.cmpFaultValid.addr 8 latchBit) [R.cmpFaultValid, R.cmpFaultCount] :=
  State.slotWrite_latch h (by decide) (by decide) (by decide) (by decide) (.inr (by decide)) fun _ => rfl

/-- DIR_OWNFLT (R83). -/
theorem State.slotWrite_dirOwnflt (h : s.reaches m R.dirOwnfltValid = true) :
    Cleared s (s.slotWrite m R.dirOwnfltValid.addr 8 latchBit) [R.dirOwnfltValid, R.dirOwnfltCount] :=
  State.slotWrite_latch h (by decide) (by decide) (by decide) (by decide) (.inr (by decide)) fun _ => rfl

/-- ACFG_VIOL (R469). -/
theorem State.slotWrite_acfgViol (h : s.reaches m R.acfgViolValid = true) :
    Cleared s (s.slotWrite m R.acfgViolValid.addr 8 latchBit) [R.acfgViolValid, R.acfgViolInfoCount] :=
  State.slotWrite_latch h (by decide) (by decide) (by decide) (by decide) (.inl (by decide)) fun _ => rfl

end

/-! ### TIME_CTRL (R396) -/

/-- A snapshot copies the first `k` bases and leaves all but registers. -/
theorem State.snaps (s : State) (k : Nat) :
    let t := (List.range k).foldl (fun s n => s.setFld (R.timeTbSnapNs n) (s.tb n)) s
    t = { s with regs := t.regs } ∧ ∀ n < k, t.fld (R.timeTbSnapNs n) = s.tb n % 2 ^ 64 := by
  induction k with
  | zero => exact ⟨rfl, fun n hn => absurd hn (Nat.not_lt_zero n)⟩
  | succ k ih =>
    dsimp only at ih ⊢
    rw [List.range_succ, List.foldl_append]
    generalize (List.range k).foldl (fun s n => State.setFld s (R.timeTbSnapNs n) (s.tb n)) s = t at ih
    obtain ⟨ht, hfld⟩ := ih
    refine ⟨by rw [ht]; rfl, fun n hn => ?_⟩
    have hin : ∀ j, (R.timeTbSnapNs j).lo + (R.timeTbSnapNs j).len ≤ 64 := fun _ => le_refl 64
    by_cases hnk : n = k
    · rw [hnk]
      refine (State.fld_setFld_same t _ (hin k)).trans ?_
      rw [ht]; rfl
    · refine (State.fld_setFld_ne t _ (hin k) (.inl ?_)).trans (hfld n (by omega))
      show 0x30100 + n * 0x20 ≠ 0x30100 + k * 0x20
      omega

/-- TIME_CTRL with SNAP: the four bases are copied (R396). -/
theorem State.slotWrite_snap {s : State} {m : Fin 16} (h : s.reaches m R.timeCtrlSnap = true) :
    let t := s.slotWrite m R.timeCtrlSnap.addr 8 1
    t.bus.err = false ∧ ∀ n < 4, t.fld (R.timeTbSnapNs n) = s.tb n % 2 ^ 64 := by
  obtain ⟨r, hr, hf⟩ : ∃ r, regOf R.timeCtrlSnap.addr = some r ∧ ∀ f ∈ r.fields, f.acc = .ro ∨ f.acc = .rsv ∨ f.acc = .wo ∨
      f = ⟨1, 1, .rw, 1, none⟩ := ⟨_, rfl, by decide⟩
  have hmoved := (State.wordWrite_spec hr s m.val 1 allBits).1.1
  have hnoErr := State.wordWrite_wide_noErr hr s m.val 1 fun f hmem full => by
    rcases hf f hmem with h | h | h | rfl
    · rw [State.fieldWrite_kept (.inl h)]
    · rw [State.fieldWrite_kept (.inr (.inl h))]
    · rw [State.fieldWrite_kept (.inr (.inr h))]
    · rfl
  have k := State.slotWrite_wide h (by decide) hr (by decide) 1
  dsimp only at k ⊢
  rw [k]
  generalize s.wordWrite m.val R.timeCtrlSnap.addr 1 allBits = x at hmoved hnoErr
  have hact : State.regAct R.timeCtrlSnap.addr 1 1 (x.1.reply false 0) =
    ((List.range 4).foldl (fun s n => s.setFld (R.timeTbSnapNs n) (s.tb n)) (x.1.reply false 0), false) := rfl
  obtain ⟨ht, hfld⟩ := State.snaps (x.1.reply false 0) 4
  rw [hact, hnoErr]
  refine ⟨?_, fun n hn => (hfld n hn).trans ?_⟩
  · dsimp only
    rw [ht]; rfl
  · rw [hmoved]; rfl

/-- Settles O23: a write that reaches its register sets each field as its access type says; the registers with an action perform it. -/
theorem registerWritesFollowAccessTypes : Obligations.RegisterWritesFollowAccessTypes := by
  unfold Obligations.RegisterWritesFollowAccessTypes
  refine ⟨fun s m slot off wide v r => ?_, fun s m => ⟨fun h he => ⟨_, rfl, State.slotWrite_swrstWarm h he⟩,
    fun v h => ⟨_, rfl, State.slotWrite_hold h v⟩, fun h ht => ⟨_, rfl, State.slotWrite_aclear h ht⟩,
    fun v h hlock hv => ⟨_, rfl, State.slotWrite_testLocked h hlock hv⟩, fun h => ⟨_, rfl, State.slotWrite_snap h⟩, fun l h => ?_,
    fun h => ⟨_, rfl, State.slotWrite_cmpFault h⟩, fun h => ⟨_, rfl, State.slotWrite_dirOwnflt h⟩, fun h => ⟨_, rfl, State.slotWrite_acfgViol h⟩⟩⟩
  · intro a lo val hr hoff hact hreach
    obtain ⟨x, hx⟩ : ∃ x, x = slot.val * 0x10000 + off.val := ⟨_, rfl⟩
    have ha : a = x / 8 * 8 := by show slot.val * 0x10000 + off.val / 8 * 8 = _; omega
    have hlo : lo = x % 8 * 8 := by show off.val % 8 * 8 = _; omega
    have hslot : slot.val = x / 8 * 8 / 0x10000 := by omega
    have hal : x % (if wide then 8 else 4) = 0 := by split_ifs at hoff ⊢ <;> omega
    have hval : ∀ f, val f = writtenValue x wide v f := fun f => by rw [writtenValue, ← hlo]
    rw [ha] at hr hact
    rw [← hx] at hreach
    obtain ⟨hmoved, -⟩ := State.wordWrite_spec hr s m.val (writtenBits x (if wide then 8 else 4) v) (writtenMask x (if wide then 8 else 4))
    refine ⟨_, rfl, ?_⟩
    rw [← hx, State.slotWrite_noAction hreach (slotForm_of_aligned hal) hr hact v, ha, hlo, hslot]
    refine ⟨hmoved.reply _ _, hmoved.2.1, fun f hf => ⟨State.wordWrite_fld_kept hr s m.val hf _ _,
      fun hw h => State.wordWrite_fld_outside hr hal s m.val v hf hw h, fun h => ?_⟩⟩
    rw [hval f]
    exact State.wordWrite_fld_acc hr hal s m.val v hf h
  · have ha : (0x20 + l.val) * 0x10000 + 0x18 = (R.laneOofValid l.val).addr := by
      show _ = 0x200000 + l.val * 0x10000 + 0x18
      omega
    refine ⟨_, rfl, ?_⟩
    show Cleared s (s.slotWrite m.val ((0x20 + l.val) * 0x10000 + 0x18) 8 latchBit) _
    rw [ha]
    exact State.slotWrite_laneOof h

end Sys2Proof.Machine
end

section
/-! PROOFS. Bits of a mask field, time that runs to an instant, and what a lane fault latches. -/

namespace Sys2Proof.Machine

/-! ### Bits of a mask field (R16) -/

/-- Adding a power of two whose bit is clear changes that bit alone. -/
theorem testBit_two_pow_add {x i : Nat} (h : x.testBit i = false) (j : Nat) : (2 ^ i + x).testBit j = (decide (j = i) || x.testBit j) := by
  rcases lt_trichotomy j i with hlt | rfl | hgt
  · rw [Nat.testBit_two_pow_add_gt hlt, decide_eq_false hlt.ne, Bool.false_or]
  · rw [Nat.testBit_two_pow_add_eq, h, decide_eq_true rfl]; rfl
  · have hr : x % 2 ^ (i + 1) < 2 ^ i := by
      rw [Nat.mod_pow_succ, ← Nat.toNat_testBit, h]
      simpa using Nat.mod_lt x (Nat.two_pow_pos i)
    have e := Nat.div_add_mod x (2 ^ (i + 1))
    have e' : 2 ^ i + x = 2 ^ (i + 1) * (x / 2 ^ (i + 1)) + (2 ^ i + x % 2 ^ (i + 1)) := by omega
    rw [decide_eq_false hgt.ne', Bool.false_or, e', Nat.testBit_two_pow_mul_add _ (by omega : _ < 2 ^ (i + 1)), if_neg (by omega)]
    conv_rhs => rw [← e, Nat.testBit_two_pow_mul_add _ (Nat.mod_lt _ (Nat.two_pow_pos _)), if_neg (by omega)]

/-- Taking away a power of two whose bit is set changes that bit alone. -/
theorem testBit_sub_two_pow {v i : Nat} (h : v.testBit i = true) (j : Nat) : (v - 2 ^ i).testBit j = (decide (j ≠ i) && v.testBit j) := by
  obtain ⟨x, rfl⟩ : ∃ x, v = 2 ^ i + x := Nat.exists_eq_add_of_le (Nat.ge_two_pow_of_testBit h)
  have hx : x.testBit i = false := by simpa [Nat.testBit_two_pow_add_eq] using h
  rw [Nat.add_sub_cancel_left, testBit_two_pow_add hx]
  by_cases hj : j = i
  · simp [hj, hx]
  · simp [hj]

/-- The value that `State.setBit` writes: bit `i` as told, every other bit as before. -/
theorem testBit_withBit (v i : Nat) (b : Bool) (j : Nat) :
    (if v.testBit i == b then v else if b then v + 2 ^ i else v - 2 ^ i).testBit j = if j = i then b else v.testBit j := by
  by_cases hv : v.testBit i = b
  · rw [if_pos (by simp [hv])]
    split_ifs with hj
    · rw [hj, hv]
    · rfl
  · rw [if_neg (by simp [hv])]
    cases b with
    | true => rw [if_pos rfl, Nat.add_comm, testBit_two_pow_add (by simpa using hv)]; by_cases hj : j = i <;> simp [hj]
    | false => rw [if_neg Bool.false_ne_true, testBit_sub_two_pow (by simpa using hv)]; by_cases hj : j = i <;> simp [hj]

/-- A bit of a mask field set or cleared: it reads as written, every other bit as before. -/
theorem State.bit_setBit (s : State) {f : Fld} {i : Nat} (hf : f.lo + f.len ≤ 64) (hi : i < f.len) (b : Bool) (j : Nat) :
    (s.setBit f i b).bit f j = if j = i then b else s.bit f j := by
  unfold State.bit State.setBit
  dsimp only
  rw [State.fld_setFld_same s _ hf, Nat.testBit_mod_two_pow, testBit_withBit]
  by_cases hj : j < f.len
  · simp [hj]
  · have hout : (s.fld f).testBit j = false :=
      Nat.testBit_lt_two_pow ((s.fld_lt f).trans_le (Nat.pow_le_pow_right (by omega) (Nat.le_of_not_lt hj)))
    rw [if_neg (by omega), hout, Bool.and_false]

theorem State.setBit_only (s : State) {f : Fld} (i : Nat) (b : Bool) (hf : f.lo + f.len ≤ 64) : FldsOnly s (s.setBit f i b) [f] :=
  State.setFld_only s _ hf

/-- OPEN is written from the sources and nothing else changes (R449). -/
theorem State.setOpen_only (s : State) : FldsOnly s s.setOpen [R.fcolStatusOpen] := State.setFld_only s _ (by decide)

/-! ### Time that runs to an instant (R395; assumption 6) -/

theorem le_ceilDiv_mul {a b : Nat} (h : 0 < b) : a ≤ ceilDiv a b * b := by
  have := Nat.div_add_mod (a + b - 1) b
  have := Nat.mod_lt (a + b - 1) h
  rw [ceilDiv, Nat.mul_comm]
  omega

theorem ceilDiv_mul_lt {a b : Nat} (h : 0 < b) : ceilDiv a b * b < a + b := by
  have := Nat.div_mul_le_self (a + b - 1) b
  rw [ceilDiv]
  omega

/-- Clocks that pass move the bases and nothing else. -/
theorem State.ticks_moved (s : State) (n : Nat) : ∃ m, s.ticks n = { s with tbs := m } := by
  unfold State.ticks State.setTbFix
  exact ⟨_, rfl⟩

theorem State.tbFix_setTbFix_same (s : State) (k v : Nat) : (s.setTbFix k v).tbFix k = v % 2 ^ 96 := mget_mput_same _ _ _ _

theorem State.tbFix_setTbFix_ne (s : State) {k j : Nat} (v : Nat) (h : j ≠ k) : (s.setTbFix k v).tbFix j = s.tbFix j := mget_mput_ne _ _ _ _ h

/-- A base advances by its own increment each clock (R395, R396). -/
theorem State.tbFix_ticks (s : State) (n : Nat) {k : Nat} (hk : k < 4) : (s.ticks n).tbFix k = (s.tbFix k + n * s.tbInc k) % 2 ^ 96 := by
  have hinc : ∀ (u : State) (j v i : Nat), (u.setTbFix j v).tbInc i = u.tbInc i := fun _ _ _ _ => rfl
  have hcases : k = 0 ∨ k = 1 ∨ k = 2 ∨ k = 3 := by omega
  unfold State.ticks
  dsimp only
  rcases hcases with rfl | rfl | rfl | rfl <;>
    simp [hinc, State.tbFix_setTbFix_same, State.tbFix_setTbFix_ne]

/-- A base that runs has reached the instant after the clocks counted to it; an increment is below 16 ns (R396). -/
theorem State.tb_ticks_clocksTo (s : State) {k t : Nat} (hk : k < 4) (hinc : s.tbInc k ≠ 0) (hfix : s.tbFix k < 2 ^ 96) (ht : t + 16 < 2 ^ 64) :
    t ≤ (s.ticks (s.clocksTo k t)).tb k := by
  have hpos := Nat.pos_of_ne_zero hinc
  have hlt : s.tbInc k < 2 ^ 36 := State.fld_lt s (R.timeTbIncInc k)
  have hlow := le_ceilDiv_mul (a := t * 2 ^ 32 - s.tbFix k) hpos
  have hup := ceilDiv_mul_lt (a := t * 2 ^ 32 - s.tbFix k) hpos
  rw [State.tb, State.tbFix_ticks s _ hk, State.clocksTo, if_neg hinc]
  rcases Nat.lt_or_ge (s.tbFix k) (t * 2 ^ 32) with h | h
  · rw [Nat.mod_eq_of_lt (by omega)]
    omega
  · have hzero : ceilDiv (t * 2 ^ 32 - s.tbFix k) (s.tbInc k) = 0 := by
      rw [Nat.sub_eq_zero_of_le h, ceilDiv]
      exact Nat.div_eq_of_lt (by omega)
    rw [hzero, Nat.mod_eq_of_lt (by omega)]
    omega

/-- Time that has run to an instant of TB3: the bases alone have moved, and TB3 has reached it if it runs. -/
theorem State.to3_moved (s : State) (t : Nat) : ∃ m, s.to3 t = { s with tbs := m } ∧
    (s.tbInc 3 ≠ 0 → s.tbFix 3 < 2 ^ 96 → t + 16 < 2 ^ 64 → t ≤ mget 0 m 3 / 2 ^ 32) := by
  have hreach := State.tb_ticks_clocksTo s (k := 3) (t := t) (by decide)
  rw [State.to3]
  obtain ⟨m, hm⟩ := s.ticks_moved (s.clocksTo 3 t)
  rw [hm] at hreach ⊢
  exact ⟨m, rfl, hreach⟩

/-! ### A lane fault (R246, R247, R269) -/

/-- CMP_FAULT after a lane fault: the first one latched, every later one counted. -/
def State.cmpFaultLatched (s : State) (l kind : Nat) : State :=
  if s.flag R.cmpFaultValid then s.incSat R.cmpFaultCount
  else (((((s.setFld R.cmpFaultLane l).setFld R.cmpFaultKind kind).setFlag R.cmpFaultIdle (s.laneIdle l)).setFld R.cmpFaultWindows
    (s.fld (R.laneWinWindows l))).setFlag R.cmpFaultValid true).setFld R.cmpFaultCount 1

theorem State.laneFault_eq (s : State) (l kind : Nat) :
    s.laneFault l kind = ((s.cmpFaultLatched l kind).report l kind).modLane l fun ln => { ln with stopped := true } := rfl

/-- The fields of CMP_FAULT that tell of the first fault and of how many came. -/
theorem State.cmpFaultLatched_fields (s : State) {l kind : Nat} (hl : l < 8) (hk : kind < 8) :
    let u := s.cmpFaultLatched l kind
    u.flag R.cmpFaultValid = true ∧
    (s.flag R.cmpFaultValid = false → u.fld R.cmpFaultLane = l ∧ u.fld R.cmpFaultKind = kind ∧ u.fld R.cmpFaultCount = 1) ∧
    (s.flag R.cmpFaultValid = true → u.fld R.cmpFaultLane = s.fld R.cmpFaultLane ∧ u.fld R.cmpFaultKind = s.fld R.cmpFaultKind ∧
      u.fld R.cmpFaultCount = min (s.fld R.cmpFaultCount + 1) (2 ^ R.cmpFaultCount.len - 1)) := by
  dsimp only
  unfold State.cmpFaultLatched
  cases hv : s.flag R.cmpFaultValid with
  | true =>
    rw [if_pos rfl]
    have kept := (State.incSat_only s (f := R.cmpFaultCount) (by decide)).2
    refine ⟨?_, fun h => absurd h (by simp), fun _ => ⟨kept _ (by unfold apart; decide), kept _ (by unfold apart; decide),
      State.fld_addSat s 1 (by decide)⟩⟩
    rw [State.flag, kept _ (by unfold apart; decide)]
    exact hv
  | false =>
    rw [if_neg Bool.false_ne_true]
    refine ⟨?_, fun _ => ⟨?_, ?_, ?_⟩, fun h => absurd h (by simp)⟩
    · simp (disch := decide) only [State.flag, State.setFlag, State.fld_setFld_same, State.fld_setFld_ne]
      rfl
    · simp (disch := decide) only [State.setFlag, State.fld_setFld_same, State.fld_setFld_ne]
      exact Nat.mod_eq_of_lt hl
    · simp (disch := decide) only [State.setFlag, State.fld_setFld_same, State.fld_setFld_ne]
      exact Nat.mod_eq_of_lt hk
    · simp (disch := decide) only [State.fld_setFld_same]
      rfl

/-- A lane fault writes CMP_FAULT and no other register. -/
theorem State.cmpFaultLatched_moved (s : State) (l kind : Nat) : RegsMoved (· = R.cmpFault.addr) s (s.cmpFaultLatched l kind) := by
  have put : ∀ (u : State) (f : Fld) (v : Nat), f.addr = R.cmpFault.addr → RegsMoved (· = R.cmpFault.addr) u (u.setFld f v) :=
    fun u f v h => h ▸ RegsMoved.setFld u f v
  unfold State.cmpFaultLatched
  split_ifs
  · exact put s R.cmpFaultCount _ rfl
  · exact (((((put s R.cmpFaultLane _ rfl).trans (put _ R.cmpFaultKind _ rfl)).trans (put _ R.cmpFaultIdle _ rfl)).trans
      (put _ R.cmpFaultWindows _ rfl)).trans (put _ R.cmpFaultValid _ rfl)).trans (put _ R.cmpFaultCount _ rfl)

/-- What a lane fault does: the lane stops, its report is on its way, CMP_FAULT latches or counts it (R246, R247, R269). -/
theorem State.laneFault_faulted (s : State) (l : Fin 8) {kind : Nat} (hk : kind < 8) : LaneFaulted s (s.laneFault l.val kind) l kind := by
  obtain ⟨hvalid, hfirst, hagain⟩ := s.cmpFaultLatched_fields l.isLt hk
  obtain ⟨hx, -, -⟩ := s.cmpFaultLatched_moved l.val kind
  rw [State.laneFault_eq]
  generalize s.cmpFaultLatched l.val kind = u at *
  have hlane : ∀ k, (u.report l.val kind).lane k = s.lane k := fun k => by rw [hx]; rfl
  refine ⟨?_, fun k hne => ?_, ?_, hvalid, hfirst, hagain, ?_, ?_⟩
  · rw [State.lane_modLane_same]
  · rw [State.lane_modLane_ne _ _ hne, hlane]
  · rw [State.modLane_reports, State.report_reports, hx]
  · rw [hx]; rfl
  · rw [hx]; rfl

/-- A lane fault raises no event. -/
theorem State.laneFault_events (s : State) (l kind : Nat) : (s.laneFault l kind).events = s.events := by
  rw [State.laneFault_eq, State.modLane_events, State.report_events, (s.cmpFaultLatched_moved l kind).1]

/-- A lane fault stands whatever other registers change afterwards. -/
theorem LaneFaulted.fldsOnly {s t u : State} {l : Fin 8} {kind : Nat} {fs : List Fld} (h : LaneFaulted s t l kind) (k : FldsOnly t u fs)
    (hfs : ∀ f ∈ fs, R.cmpFault.addr ≠ f.addr) : LaneFaulted s u l kind := by
  obtain ⟨hu, hkept⟩ := k
  have hfld : ∀ g : Fld, g.addr = R.cmpFault.addr → u.fld g = t.fld g := fun g hg => hkept g fun f hf => .inl (hg ▸ hfs f hf)
  obtain ⟨hstop, hlanes, hrep, hvalid, hfirst, hagain, hmem, hcls⟩ := h
  have hlane : ∀ k, u.lane k = t.lane k := fun k => by rw [hu]; rfl
  unfold LaneFaulted State.flag
  rw [hfld R.cmpFaultValid rfl, hfld R.cmpFaultLane rfl, hfld R.cmpFaultKind rfl, hfld R.cmpFaultCount rfl, hlane]
  refine ⟨hstop, fun k hne => (hlane k).trans (hlanes k hne), ?_, hvalid, hfirst, hagain, ?_, ?_⟩
  · rw [hu]; exact hrep
  · rw [hu]; exact hmem
  · rw [hu]; exact hcls

/-- An event that is a cause of no vector is put among those that wait, and nothing else changes (R507, R531, R532). -/
theorem State.raise_unvectored (s : State) {code : Nat} (h : eventVec code = none) (data : List Byte) :
    ∃ e, s.raise code data = { s with events := s.events ++ [e] } ∧ e.code = code ∧ e.data = (data ++ List.replicate 32 0).take 32 := by
  unfold State.raise
  rw [h]
  dsimp only
  exact ⟨_, rfl, rfl, rfl⟩

end Sys2Proof.Machine
end

section
/-! PROOFS. The release of reset sources and islands (O30). -/

namespace Sys2Proof.Machine

/-- The condition under which an island in reset leaves it (R596, R597, R605). -/
theorem State.mayRelease_iff {s : State} {i : Nat} (h : s.inReset i = true) :
    s.mayRelease i = true ↔ (∀ src ∈ s.rst.on, i ∉ srcReach src) ∧ (s.reg R.rstcIslrst.addr).toNat.testBit i = false ∧
      i ∉ s.rst.clockBad ∧ (i = 20 ∨ s.rst.strapDone = true) ∧
      (i = 9 ∨ i = 20 ∨ s.rst.strapDone = false ∨ s.flag R.rstcStrapValid = true) := by
  simp only [State.mayRelease, h, Bool.true_and, Bool.and_eq_true, Bool.or_eq_true, Bool.not_eq_true', List.any_eq_false, List.contains_eq_mem,
    decide_eq_true_eq, decide_eq_false_iff_not, beq_iff_eq, and_assoc, or_assoc]

/-- The state that the release of an island leaves. -/
def State.islandReleased (s : State) (i : Nat) : State :=
  let u := s.setBit R.rstcIslstatInreset i false
  let held := s.rst.held.filter fun x => x != i
  { u with
    rst := { s.rst with held := held, episode := if held.isEmpty then none else s.rst.episode }
    bin := if i = 9 then { s.bin with releasedAt := s.tb 3 } else s.bin
    field := if i = 19 then { s.field with firstDue := true } else s.field }

theorem execIslandRelease_eq (s : State) (i : Fin 22) :
    execIslandRelease i s = .next (if s.mayRelease i.val = true then s.islandReleased i.val else s) := by
  obtain ⟨i, -⟩ := i
  unfold execIslandRelease State.islandReleased
  dsimp only
  by_cases hr : s.mayRelease i = true
  · rw [if_neg (not_not.2 hr), if_pos hr]
    by_cases h9 : i = 9
    · subst h9; rfl
    · by_cases h19 : i = 19
      · subst h19; rfl
      · simp only [if_neg h9, if_neg h19]; rfl
  · rw [if_pos hr, if_neg hr]

/-- A released island shows in INRESET no longer, every other one as before (R613). -/
theorem State.islandReleased_inReset (s : State) {i : Nat} (hi : i < 22) (k : Nat) :
    (s.islandReleased i).inReset k = (s.inReset k && decide (k ≠ i)) := by
  have hbit : (s.islandReleased i).inReset k = if k = i then false else s.inReset k :=
    s.bit_setBit (f := R.rstcIslstatInreset) (by decide) hi false k
  rw [hbit]
  by_cases hk : k = i <;> simp [hk]

theorem State.islandReleased_held (s : State) (i x : Nat) : x ∈ (s.islandReleased i).rst.held ↔ x ∈ s.rst.held ∧ x ≠ i := by
  simp [State.islandReleased]

/-- The episode ends with the last island that it held (R597). -/
theorem State.islandReleased_episode (s : State) (i : Nat) :
    (s.islandReleased i).rst.episode = none ↔ s.rst.episode = none ∨ ∀ x ∈ s.rst.held, x = i := by
  have hempty : (s.rst.held.filter fun x => x != i).isEmpty = true ↔ ∀ x ∈ s.rst.held, x = i := by
    simp [List.isEmpty_iff, List.filter_eq_nil_iff]
  show (if _ then _ else _) = none ↔ _
  rw [← hempty]
  split_ifs with h <;> simp [h]

/-- Settles O30: a source is taken off the list of those asserted; an island leaves reset exactly where `State.mayRelease` holds. -/
theorem islandsAreReleasedUnderTheirCondition : Obligations.IslandsAreReleasedUnderTheirCondition := by
  unfold Obligations.IslandsAreReleasedUnderTheirCondition
  refine fun s => ⟨fun src => ⟨_, rfl, rfl, fun x => ?_⟩, fun i => ⟨fun hin hclear => ?_, fun hin hclear => ?_⟩⟩
  · simp
  · refine ⟨s.islandReleased i.val, ?_, rfl, (s.setBit_only i.val false (by decide)).2, fun k _ => s.islandReleased_inReset i.isLt k,
      s.islandReleased_held i.val, s.islandReleased_episode i.val⟩
    exact (execIslandRelease_eq s i).trans (by rw [if_pos ((State.mayRelease_iff hin).2 hclear)])
  · exact (execIslandRelease_eq s i).trans (by rw [if_neg fun hr => hclear ((State.mayRelease_iff hin).1 hr)])

end Sys2Proof.Machine
end

section
/-! PROOFS. What the monitors report (O40). -/

namespace Sys2Proof.Machine

/-- Register fields changed, then a report sent on its way: nothing else changes. -/
theorem FldsOnly.report {s u : State} {fs : List Fld} (h : FldsOnly s u fs) (src detail : Nat) :
    u.report src detail = { s with regs := (u.report src detail).regs, reports := s.reports ++ [⟨src, detail, false⟩] } ∧
    FldsKept s (u.report src detail) fs := by
  obtain ⟨hu, hkept⟩ := h
  obtain ⟨r, rfl⟩ : ∃ r, u = { s with regs := r } := ⟨_, hu⟩
  exact ⟨rfl, hkept⟩

theorem State.flag_report (s : State) (src detail : Nat) (f : Fld) : (s.report src detail).flag f = s.flag f := rfl

section
variable (s : State)

/-! ### Clocks and time (R31, R438, R525) -/

/-- A clock that leaves its tolerance is held against its island and reported (R31). -/
theorem execIslandClockFault_bad {i : Fin 20} (hi : i.val ≠ 15) (h : s.inReset i.val = false) :
    ∃ t, execIslandClockFault i false s = .next t ∧
      t = { s with reports := s.reports ++ [⟨0x27, i.val, false⟩], rst := { s.rst with clockBad := t.rst.clockBad } } ∧
      ∀ k, k ∈ t.rst.clockBad ↔ k ∈ s.rst.clockBad ∨ k = i.val := by
  have hin : ∀ r, State.inReset { s with rst := r } i.val = false := fun _ => h
  refine ⟨{ s with
    reports := s.reports ++ [⟨0x27, i.val, false⟩]
    rst := { s.rst with clockBad := if s.rst.clockBad.contains i.val then s.rst.clockBad else s.rst.clockBad ++ [i.val] } }, ?_, rfl, fun k => ?_⟩
  · unfold execIslandClockFault
    dsimp only
    rw [if_neg Bool.false_ne_true, if_neg hi, hin, if_neg Bool.false_ne_true]
    rfl
  · dsimp only
    split_ifs with hmem
    · exact ⟨.inl, fun hk => hk.elim id fun hk => hk ▸ List.contains_iff_mem.1 hmem⟩
    · rw [List.mem_append, List.mem_singleton]

/-- A source of the first word no longer asserted: its bit reads 0 and OPEN follows (R449). -/
theorem State.sourceEnded (u : State) {src : Nat} (h : src < 64) :
    let t := (u.setBit (R.fcolNowFault 0) src false).setOpen
    FldsOnly u t [R.fcolNowFault 0, R.fcolStatusOpen] ∧ t.srcNow src = false := by
  have hbit := u.setBit_only (f := R.fcolNowFault 0) src false (by decide)
  have hopen := (u.setBit (R.fcolNowFault 0) src false).setOpen_only
  refine ⟨hbit.trans hopen, ?_⟩
  rw [State.srcNow, Nat.div_eq_of_lt h, Nat.mod_eq_of_lt h, State.bit, hopen.2 (R.fcolNowFault 0) (by unfold apart; decide)]
  exact (u.bit_setBit (by decide) h false src).trans (if_pos rfl)

/-- With the last clock back in tolerance the condition of source 27h ends (R31). -/
theorem execIslandClockFault_good {i : Fin 20} (hi : i.val ≠ 15) (h : ∀ k ∈ s.rst.clockBad, k = i.val) :
    ∃ t, execIslandClockFault i true s = .next t ∧ t = { s with regs := t.regs, rst := { s.rst with clockBad := [] } } ∧
      t.srcNow 0x27 = false ∧ FldsKept s t [R.fcolNowFault 0, R.fcolStatusOpen] := by
  have hnone : (s.rst.clockBad.filter fun x => x != i.val) = [] := by simpa [List.filter_eq_nil_iff] using h
  have hexec : execIslandClockFault i true s =
      .next ((State.setBit { s with rst := { s.rst with clockBad := [] } } (R.fcolNowFault 0) 0x27 false).setOpen) := by
    unfold execIslandClockFault
    dsimp only
    rw [if_pos rfl, hnone, if_neg (by simp [hi])]
  obtain ⟨⟨ht, hkept⟩, hnow⟩ := State.sourceEnded { s with rst := { s.rst with clockBad := [] } } (src := 0x27) (by decide)
  exact ⟨_, hexec, ht, hnow, hkept⟩

/-- Without a copy of TB3 for 10 µs FCOL counts on its own (R438). -/
theorem execTb3CopyTimeout_counts (hinc : s.tbInc 3 ≠ 0) (hfix : s.tbFix 3 < 2 ^ 96) (hcopy : s.fcol.copy + 10016 < 2 ^ 64) :
    ∃ t, execTb3CopyTimeout s = .next t ∧ t = { s with tbs := t.tbs, fcol := { s.fcol with local_ := true } } ∧ s.fcol.copy + 10000 ≤ t.tb 3 := by
  obtain ⟨m, hm, hreach⟩ := s.to3_moved (s.fcol.copy + 10000)
  refine ⟨{ s with tbs := m, fcol := { s.fcol with local_ := true } }, ?_, rfl, hreach hinc hfix (by omega)⟩
  unfold execTb3CopyTimeout
  rw [hm]

/-- The watchdog not serviced for 8 ms: EXPIRED and the report of 3Fh (R525). -/
theorem execBinnacleWdogExpiry_expires {t0 : Nat} (h : s.bin.wdog = some t0) (he : s.flag R.rstcWdogExpired = false) :
    ∃ t, execBinnacleWdogExpiry s = .next t ∧ t = { s with tbs := t.tbs, regs := t.regs, reports := s.reports ++ [⟨0x3F, 0, false⟩] } ∧
      FldsKept s t [R.rstcWdogExpired] ∧ t.flag R.rstcWdogExpired = true ∧
      (s.tbInc 3 ≠ 0 → s.tbFix 3 < 2 ^ 96 → t0 + 8000016 < 2 ^ 64 → t0 + 8000000 ≤ t.tb 3) := by
  obtain ⟨m, hm, hreach⟩ := s.to3_moved (t0 + 8000000)
  have hexec : execBinnacleWdogExpiry s = .next ((State.setFlag { s with tbs := m } R.rstcWdogExpired true).report 0x3F 0) := by
    unfold execBinnacleWdogExpiry
    rw [h]
    dsimp only
    rw [he, if_neg Bool.false_ne_true, hm]
  obtain ⟨ht, hkept⟩ := (State.setFlag_only { s with tbs := m } (f := R.rstcWdogExpired) true (by decide)).report 0x3F 0
  have hflag := State.flag_setFlag_same { s with tbs := m } (f := R.rstcWdogExpired) true (by decide) (by decide)
  rw [← State.flag_report _ 0x3F 0] at hflag
  have htbs := congrArg State.tbs ht
  refine ⟨_, hexec, by rw [htbs]; exact ht, hkept, hflag, fun hinc hfix hlt => ?_⟩
  rw [State.tb, State.tbFix, htbs]
  exact hreach hinc hfix (by omega)

/-! ### Windows of the DRAM (R463) -/

/-- Two windows in force that overlap: OVERLAP and the report of 21h; without an overlap, nothing. -/
theorem execAcfgWindowCheck_overlap (v w : Fin 64) :
    let x := mget 0 s.acc.force (R.acfgWin v.val).addr
    let y := mget 0 s.acc.force (R.acfgWin w.val).addr
    let laps := v.val < w.val ∧ getBits x 63 1 = 1 ∧ getBits y 63 1 = 1 ∧ getBits x 0 27 ≤ getBits y 32 27 ∧ getBits y 0 27 ≤ getBits x 32 27
    (laps → ∃ t, execAcfgWindowCheck v w none s = .next t ∧ t = { s with regs := t.regs, reports := s.reports ++ [⟨0x21, v.val, false⟩] } ∧
      FldsKept s t [R.acfgCtrlOverlap] ∧ t.flag R.acfgCtrlOverlap = true) ∧
    (¬laps → execAcfgWindowCheck v w none s = .next s) := by
  intro x y laps
  have hexec : execAcfgWindowCheck v w none s =
      if laps then .next ((s.setFlag R.acfgCtrlOverlap true).report 0x21 v.val) else .next s := rfl
  refine ⟨fun hlaps => ?_, fun hapart => hexec.trans (if_neg hapart)⟩
  obtain ⟨ht, hkept⟩ := (s.setFlag_only (f := R.acfgCtrlOverlap) true (by decide)).report 0x21 v.val
  have hflag := s.flag_setFlag_same (f := R.acfgCtrlOverlap) true (by decide) (by decide)
  rw [← State.flag_report _ 0x21 v.val] at hflag
  rw [if_pos hlaps] at hexec
  exact ⟨_, hexec, ht, hkept, hflag⟩

/-! ### Scrubbers (R446) -/

/-- A grain of the Signal SRAM reports by its place: the queue and Logbook buffers, or elsewhere. -/
theorem execSramScrubPass_reports (g : Fin 786432) (ok : Bool) (h : s.flag R.fcolCfgScrubSram = true) :
    execSramScrubPass (some (g, ok)) s = .next { s with reports := s.reports ++ [⟨if ok then 0x18 else
      if (0xB0000 ≤ g.val ∧ g.val < 0xBE000) ∨ 0xBF000 ≤ g.val then 0x1A else 0x19, g.val, false⟩] } := by
  have hplace : ((decide (0x2C00000 ≤ g.val * 64) && decide (g.val * 64 < 0x2F80000)) || decide (0x2FC0000 ≤ g.val * 64)) = true ↔
      (0xB0000 ≤ g.val ∧ g.val < 0xBE000) ∨ 0xBF000 ≤ g.val := by
    simp only [Bool.or_eq_true, Bool.and_eq_true, decide_eq_true_eq]
    omega
  unfold execSramScrubPass
  dsimp only
  rw [if_neg (not_not.2 h)]
  simp only [hplace]
  rfl

/-- A grain of the DRAM reports by its place: the Binnacle's buffers and working memory, or elsewhere (R39). -/
theorem execDramScrubPass_reports (a : Fin 0x200000000) (ok : Bool) (h : s.flag R.fcolCfgScrubDram = true) :
    execDramScrubPass (some (a, ok)) s = .next { s with reports := s.reports ++ [⟨if ok then 0x22 else
      if 0x10000000 ≤ a.val ∧ a.val < 0x80000000 then 0x24 else 0x23, a.val / 128, false⟩] } := by
  unfold execDramScrubPass
  dsimp only
  rw [if_neg (not_not.2 h)]
  simp only [Bool.and_eq_true, decide_eq_true_eq]
  rfl

/-! ### The spare's self-test (R257) -/

/-- A lane marked FAILED: its bit and DEGRADED are set, and nothing else changes (R270). -/
theorem State.laneFailed (u : State) (l : Fin 8) :
    let v := (u.setBit R.cmpStatusFailed l.val true).setFlag R.cmpStatusDegraded true
    FldsOnly u v [R.cmpStatusFailed, R.cmpStatusDegraded] ∧ v.bit R.cmpStatusFailed l.val = true ∧ v.flag R.cmpStatusDegraded = true := by
  have hfailed := u.setBit_only (f := R.cmpStatusFailed) l.val true (by decide)
  have hdegraded := (u.setBit R.cmpStatusFailed l.val true).setFlag_only (f := R.cmpStatusDegraded) true (by decide)
  refine ⟨hfailed.trans hdegraded, ?_, State.flag_setFlag_same _ true (by decide) (by decide)⟩
  rw [State.bit, hdegraded.2 R.cmpStatusFailed (by unfold apart; decide)]
  exact (u.bit_setBit (by decide) l.isLt true l.val).trans (if_pos rfl)

/-- LANE_FAILED raised: the fault of the lane and CMP_STATUS stand as they were, and one event more waits (R257). -/
theorem LaneFaulted.raised {s v : State} {l : Fin 8} {kind : Nat} (h : LaneFaulted s v l kind) (hev : v.events = s.events) (data : List Byte) :
    LaneFaulted s (v.raise evLaneFailed data) l kind ∧ (∀ f, (v.raise evLaneFailed data).fld f = v.fld f) ∧
    ∃ e, (v.raise evLaneFailed data).events = s.events ++ [e] ∧ e.code = evLaneFailed ∧ e.data = (data ++ List.replicate 32 0).take 32 := by
  obtain ⟨e, hraise, hcode, hdata⟩ := v.raise_unvectored (code := evLaneFailed) rfl data
  rw [hraise, hev]
  exact ⟨h, fun _ => rfl, e, rfl, hcode, hdata⟩

/-- A spare that fails: its fault recorded, its FAILED bit, DEGRADED and the event that names it. -/
theorem execSpareSelfTest_fails {l : Fin 8} (k : Fin 5) (h : s.spareLane = some l.val) :
    ∃ t, execSpareSelfTest (some k) s = .next t ∧ LaneFaulted s t l k.val ∧ t.bit R.cmpStatusFailed l.val = true ∧
      t.flag R.cmpStatusDegraded = true ∧ ∃ e, t.events = s.events ++ [e] ∧ e.code = evLaneFailed ∧
        e.data = [BitVec.ofNat 8 l.val, BitVec.ofNat 8 l.val] ++ List.replicate 30 0 := by
  have hexec : execSpareSelfTest (some k) s = .next ((((s.laneFault l.val k.val).setBit R.cmpStatusFailed l.val true).setFlag R.cmpStatusDegraded true).raise
      evLaneFailed (leBytes 1 l.val ++ leBytes 1 l.val ++ leBytes 1 0)) := by
    unfold execSpareSelfTest
    rw [h]
  obtain ⟨honly, hfailed, hdegraded⟩ := (s.laneFault l.val k.val).laneFailed l
  have hevents := (congrArg State.events honly.1).trans (s.laneFault_events l.val k.val)
  have hfault := (s.laneFault_faulted l (kind := k.val) (by omega)).fldsOnly honly (by decide)
  obtain ⟨hraised, hfld, hevent⟩ := hfault.raised hevents (leBytes 1 l.val ++ leBytes 1 l.val ++ leBytes 1 0)
  rw [State.bit, ← hfld] at hfailed
  rw [State.flag, ← hfld] at hdegraded
  exact ⟨_, hexec, hraised, hfailed, hdegraded, hevent⟩

end

/-- Settles O40: one report per monitor; the detail word of 26h, requester + target × 256, and the packing of the others are the model's (log entry 16). -/
theorem monitorsReport : Obligations.MonitorsReport := by
  unfold Obligations.MonitorsReport
  refine fun s => ⟨fun req tgt h => ⟨_, if_neg (by rw [h]; exact Bool.false_ne_true), rfl⟩, fun i hi h => execIslandClockFault_bad s hi h,
    fun i hi h => execIslandClockFault_good s hi h, ⟨_, rfl, rfl⟩, fun hinc hfix hcopy => execTb3CopyTimeout_counts s hinc hfix hcopy,
    fun g ok h => ⟨_, execSramScrubPass_reports s g ok h, rfl⟩, fun a ok h => ⟨_, execDramScrubPass_reports s a ok h, rfl⟩,
    fun v w => execAcfgWindowCheck_overlap s v w, fun t0 h he => execBinnacleWdogExpiry_expires s h he,
    fun l k h => execSpareSelfTest_fails s k h⟩

end Sys2Proof.Machine
end

section
/-! PROOFS. What records, events, the Logbook and soundings leave of the control cycle. -/

namespace Sys2Proof.Machine

/-- A class without the written sets of its images and what PAIR notes of its Input records: what writes of records and the pair link leave. -/
def ClassSt.course (k : ClassSt) : ClassSt := { k with wrIn := [], wrOut := [], inputDue := false, inputWake := 0, execWake := none }

/-- The page bits depend on DIR_PAGE alone. -/
theorem State.front_of_reg {s t : State} (h : t.reg R.dirPage.addr = s.reg R.dirPage.addr) (d kind : Nat) : t.front d kind = s.front d kind := by
  have hin : t.fld R.dirPagePageIn = s.fld R.dirPagePageIn := congrArg (getBits · R.dirPagePageIn.lo R.dirPagePageIn.len) h
  have hout : t.fld R.dirPagePageOut = s.fld R.dirPagePageOut := congrArg (getBits · R.dirPagePageOut.lo R.dirPagePageOut.len) h
  rw [State.front, State.bit, State.bit, hin, hout]
  rfl

/-- From `s` to `t` the lanes, the course of every class and what decides whether the partner mirrors have stayed, and every register outside `A`. -/
structure CourseKept (A : Nat → Prop) (s t : State) : Prop where
  reg : ∀ a, ¬A a → t.reg a = s.reg a
  lanes : t.lanes = s.lanes
  cls : ∀ d, (t.cls d).course = (s.cls d).course
  lagging : t.pair.lagging = s.pair.lagging
  oldActive : t.pair.oldActive = s.pair.oldActive

section
variable {A : Nat → Prop} {s t u : State}

theorem CourseKept.refl (s : State) : CourseKept A s s := ⟨fun _ _ => rfl, rfl, fun _ => rfl, rfl, rfl⟩

theorem CourseKept.trans (h : CourseKept A s t) (k : CourseKept A t u) : CourseKept A s u :=
  ⟨fun a ha => (k.reg a ha).trans (h.reg a ha), k.lanes.trans h.lanes, fun d => (k.cls d).trans (h.cls d), k.lagging.trans h.lagging,
    k.oldActive.trans h.oldActive⟩

theorem CourseKept.mono {B : Nat → Prop} (h : CourseKept A s t) (hAB : ∀ a, A a → B a) : CourseKept B s t :=
  ⟨fun a ha => h.reg a fun k => ha (hAB a k), h.lanes, h.cls, h.lagging, h.oldActive⟩

theorem CourseKept.foldl {α : Type} {f : State → α → State} {xs : List α} (hf : ∀ s, ∀ x ∈ xs, CourseKept A s (f s x)) (s : State) :
    CourseKept A s (xs.foldl f s) := by
  induction xs generalizing s with
  | nil => exact .refl s
  | cons x xs ih => exact (hf s x (by simp)).trans (ih (fun s y hy => hf s y (by simp [hy])) (f s x))

/-- Nothing but memory, the Logbook, outputs and the like has changed. -/
theorem CourseKept.of_eq (hregs : t.regs = s.regs) (hlanes : t.lanes = s.lanes) (hcls : t.classes = s.classes)
    (hlag : t.pair.lagging = s.pair.lagging) (hold : t.pair.oldActive = s.pair.oldActive) : CourseKept A s t :=
  ⟨fun a _ => by simp only [State.reg, hregs], hlanes, fun d => by simp only [State.cls, hcls], hlag, hold⟩

theorem CourseKept.of_moved (h : RegsMoved A s t) : CourseKept A s t := by
  obtain ⟨ht, hreg, -⟩ := h
  obtain ⟨r, rfl⟩ : ∃ r, t = { s with regs := r } := ⟨_, ht⟩
  exact ⟨hreg, rfl, fun _ => rfl, rfl, rfl⟩

theorem CourseKept.ite {p : Prop} [Decidable p] (ht : p → CourseKept A s t) (hu : ¬p → CourseKept A s u) : CourseKept A s (if p then t else u) := by
  split_ifs with hp
  · exact ht hp
  · exact hu hp

theorem CourseKept.withLog (h : CourseKept A s t) (x : LogSt) : CourseKept A s { t with log := x } := h.trans (.of_eq rfl rfl rfl rfl rfl)

theorem CourseKept.setFld (s : State) (f : Fld) (v : Nat) (hA : A f.addr) : CourseKept A s (s.setFld f v) :=
  .of_moved ((RegsMoved.setFld s f v).mono fun _ h => h ▸ hA)

/-- A field of a register outside `A`. -/
theorem CourseKept.fld (h : CourseKept A s t) {f : Fld} (hf : ¬A f.addr) : t.fld f = s.fld f := by rw [State.fld, h.reg _ hf]; rfl

theorem CourseKept.front (h : CourseKept A s t) (hp : ¬A R.dirPage.addr) (d kind : Nat) : t.front d kind = s.front d kind :=
  State.front_of_reg (h.reg _ hp) d kind

/-- The partner mirrors as before (R295). -/
theorem CourseKept.mirrored (h : CourseKept A s t) (hlink : ¬A R.pairLinkUp.addr) (hstate : ¬A R.pairState.addr) : t.mirrored = s.mirrored := by
  have hup : t.flag R.pairLinkUp = s.flag R.pairLinkUp := congrArg (· != 0) (h.fld hlink)
  have hpartner : t.partner = s.partner := by
    unfold State.partner
    rw [hup, h.fld (f := R.pairStatePstate) hstate, h.lagging]
  rw [State.mirrored, hup, hpartner, h.oldActive]
  rfl

theorem CourseKept.modCls (s : State) (c : Nat) {f : ClassSt → ClassSt} (hf : ∀ k, (f k).course = k.course) : CourseKept A s (s.modCls c f) := by
  refine ⟨fun _ _ => rfl, rfl, fun d => ?_, rfl, rfl⟩
  by_cases hd : d = c
  · rw [hd, State.cls_modCls_same, hf]
  · rw [State.cls_modCls_ne s f hd]

end

/-! ### Events, the pair link, the Logbook -/

section
variable {A : Nat → Prop} (s : State)

theorem State.vecPost_kept (v : Nat) : CourseKept A s (s.vecPost v) := by
  unfold State.vecPost
  split <;> exact .of_eq rfl rfl rfl rfl rfl

theorem State.raise_kept (code : Nat) (data : List Byte) : CourseKept A s (s.raise code data) := by
  unfold State.raise
  cases eventVec code with
  | none => exact .of_eq rfl rfl rfl rfl rfl
  | some v => exact (s.vecPost_kept v).trans (.of_eq rfl rfl rfl rfl rfl)

theorem State.reply_kept (err : Bool) (data : W64) : CourseKept A s (s.reply err data) := .of_eq rfl rfl rfl rfl rfl

theorem State.report_kept (src detail : Nat) : CourseKept A s (s.report src detail) := .of_eq rfl rfl rfl rfl rfl

theorem State.linkSends_kept (es : List GrainEntry) (f : Bool → List GrainEntry → PairRec) : CourseKept A s (s.linkSends es f) :=
  .foldl (fun s _ _ => by rw [State.linkSend_frame]; exact .of_eq rfl rfl rfl rfl rfl) s

/-- The registers of LOGB. -/
def logReg (a : Nat) : Prop := a / 0x10000 = 0x10

theorem State.logRate_kept : CourseKept logReg s s.logRate :=
  (CourseKept.setFld (A := logReg) s R.logbStatusRate _ rfl).trans (.setFld _ R.logbStatusBacklog _ rfl)

theorem State.logPut_kept (typ flags cls wake : Nat) (body : List Nat) (gs : List GrainEntry) (image : List Host.Cell) (whole : Nat) :
    CourseKept logReg s (s.logPut typ flags cls wake body gs image whole) :=
  .ite (fun _ => .refl s) fun _ => .ite (fun _ => CourseKept.withLog (.refl s) _) fun _ =>
    CourseKept.trans (CourseKept.withLog (.refl s) _) (State.logRate_kept _)

theorem State.logEntries_kept (c wake : Nat) (es : List GrainEntry) : CourseKept logReg s (s.logEntries c wake es) := by
  have put := s.logPut_kept 7 0 c wake [es.length] es [] 0
  unfold State.logEntries
  split
  · split
    · exact .ite (fun _ => .refl s) fun _ => put
    · exact .ite (fun _ => .refl s) fun _ => put
  · exact .refl s

theorem State.logCkptEnd_kept : CourseKept logReg s s.logCkptEnd := by
  unfold State.logCkptEnd
  split
  · exact .ite (fun _ => CourseKept.withLog (.ite (fun _ => s.logPut_kept ..) fun _ =>
      (s.logPut_kept ..).trans (.setFld _ R.logbCkptLast _ rfl)) _) fun _ => .refl s
  · exact .refl s

theorem State.logFreeze_kept (t : Nat) : CourseKept logReg s (s.logFreeze t) :=
  .ite (fun _ => .refl s) fun _ => .ite (fun _ => s.raise_kept ..) fun _ =>
    ((CourseKept.withLog (A := logReg) (.refl s) _).trans (.setFld _ R.logbStatusFrozen _ rfl)).trans (State.raise_kept _ _ _)

/-! ### Records written into the images -/

theorem State.setBytes_mem (a : Nat) (bs : List Byte) : ∃ m, s.setBytes a bs = { s with mem := m } := by
  induction bs generalizing s a with
  | nil => exact ⟨_, rfl⟩
  | cons b bs ih => exact ih (s.setByte a b) (a + 1)

theorem State.setRec_kept (a : Nat) (r : Rec) : CourseKept A s (s.setRec a r) := by
  obtain ⟨m, hm⟩ := s.setBytes_mem a (recBytes r)
  rw [State.setRec, hm]
  exact .of_eq rfl rfl rfl rfl rfl

theorem State.writeBack_kept (sig : Nat) (value : W64) (stamp qual : Nat) : CourseKept A s (s.writeBack sig value stamp qual) :=
  (s.setRec_kept _ _).trans (.modCls _ _ fun k => by split_ifs <;> rfl)

/-- DIR_OWNFLT. -/
def ownfltReg (a : Nat) : Prop := a = R.dirOwnflt.addr

theorem State.ownerFault_kept (sig master cls : Nat) : CourseKept ownfltReg s (s.ownerFault sig master cls) := by
  have put : ∀ (u : State) (f : Fld) (v : Nat), f.addr = R.dirOwnflt.addr → CourseKept ownfltReg u (u.setFld f v) := CourseKept.setFld (A := ownfltReg)
  refine CourseKept.trans (.ite (fun _ => put s R.dirOwnfltCount _ rfl) fun _ => ?_) (State.report_kept ..)
  exact ((((put s R.dirOwnfltSignal _ rfl).trans (put _ R.dirOwnfltMaster _ rfl)).trans (put _ R.dirOwnfltClass _ rfl)).trans
    (put _ R.dirOwnfltValid _ rfl)).trans (put _ R.dirOwnfltCount _ rfl)

theorem State.ownedWrite_kept (master cls sig : Nat) (value : W64) (stamp qual : Nat) :
    CourseKept ownfltReg s (s.ownedWrite master cls sig value stamp qual) := by
  unfold State.ownedWrite
  split
  · exact (s.writeBack_kept ..).trans (State.reply_kept ..)
  · exact (s.report_kept ..).trans (State.reply_kept ..)
  · exact (s.ownerFault_kept ..).trans (State.reply_kept ..)

/-! ### Soundings (R379 to R383) -/

theorem State.fabSend_kept (typ p hops dst src watch : Nat) (payload : List Nat) : CourseKept A s (s.fabSend typ p hops dst src watch payload) :=
  .of_eq rfl rfl rfl rfl rfl

theorem State.writeSet_kept (u : Nat) : CourseKept ownfltReg s (s.writeSet u) := by
  unfold State.writeSet
  refine CourseKept.trans (.foldl (fun s e _ => ?_) s) (.of_eq rfl rfl rfl rfl rfl)
  split
  · exact s.ownedWrite_kept ..
  · exact .refl s

theorem State.modSub_kept (u : Nat) (f : SubSt → SubSt) : CourseKept A s (s.modSub u f) := .of_eq rfl rfl rfl rfl rfl

theorem State.subSeg_kept (u : SubSounding) (f : SoundSeg) (late : Bool) : CourseKept ownfltReg s (s.subSeg u f late) := by
  unfold State.subSeg
  refine .ite (fun _ => .ite (fun _ => (s.modSub_kept ..).trans (State.raise_kept ..)) fun _ => .refl s) fun _ => ?_
  extract_lets id begun held x
  have hbegun : CourseKept ownfltReg s begun := .ite (fun _ => .refl s) fun _ => s.modSub_kept ..
  refine hbegun.trans ((begun.modSub_kept ..).trans (.ite (fun _ => .ite (fun _ => ?_) fun _ => held.modSub_kept ..) fun _ => .refl held))
  exact (held.modSub_kept ..).trans (.ite (fun _ => .refl _) fun _ => State.writeSet_kept ..)

theorem State.pubSoundings_kept (c wake : Nat) : CourseKept ownfltReg s (s.pubSoundings c wake) := by
  unfold State.pubSoundings
  refine .ite (fun _ => .refl s) fun _ => .foldl (fun s p _ => ?_) s
  extract_lets n nseg ent ports interval frames sent fab noted us segs
  have hsent : CourseKept ownfltReg s sent := .foldl (fun s _ _ => .foldl (fun s _ _ => s.fabSend_kept ..) s) s
  have hnoted : CourseKept ownfltReg sent noted := .of_eq rfl rfl rfl rfl rfl
  exact hsent.trans (hnoted.trans (.ite (fun _ => .refl _) fun _ => .foldl (fun s u _ => .foldl (fun s f _ => s.subSeg_kept ..) s) _))

end

end Sys2Proof.Machine
end

section
/-! PROOFS. Occurrences in the clock of the clear (O21). -/

namespace Sys2Proof.Machine

/-! ### A counter that counts on from 0 (R17) -/

/-- On a field that reads 0 the occurrence writes 1, and it writes no other field. -/
def Counts (occ : State → State) (g : Fld) : Prop := ∀ u : State, u.fld g = 0 → FldsOnly u (occ u) [g] ∧ (occ u).fld g = 1

section
variable {g : Fld} (hin : g.lo + g.len ≤ 64) (hpos : 0 < g.len)
include hin hpos

theorem Counts.setFld {v : State → Nat} (hv : ∀ u, u.fld g = 0 → v u = 1) : Counts (fun u => u.setFld g (v u)) g := fun u h0 => by
  refine ⟨u.setFld_only _ hin, ?_⟩
  rw [State.fld_setFld_same u _ hin, hv u h0, Nat.mod_eq_of_lt (Nat.one_lt_two_pow (by omega))]

theorem Counts.incSat : Counts (·.incSat g) g := Counts.setFld hin hpos fun u h0 => by
  have := Nat.one_lt_two_pow (n := g.len) (by omega)
  rw [h0]; omega

theorem Counts.incMod : Counts (·.incMod g) g := Counts.setFld hin hpos fun u h0 => by rw [h0]

theorem Counts.setFlag : Counts (·.setFlag g true) g := Counts.setFld hin hpos fun _ _ => rfl

end

/-! ### A clear and an occurrence of its clock (R18) -/

/-- Fields that each lie in their word and share no bit. -/
structure FldsApart (fs : List Fld) : Prop where
  inWord : ∀ f ∈ fs, f.lo + f.len ≤ 64 ∧ 0 < f.len
  apart : fs.Pairwise apart

theorem FldsApart.single {f : Fld} (h : f.lo + f.len ≤ 64 ∧ 0 < f.len) : FldsApart [f] := ⟨by simpa using h, List.pairwise_singleton _ _⟩

theorem apart_symm : Std.Symm apart := ⟨fun f g h => by unfold apart at *; omega⟩

section
variable {s : State} {m : Fin 16} {f : Fld} (h : s.reaches m f = true) {fs : List Fld} (hfs : FldsApart fs)
include h hfs

theorem State.reach_clearedThenOne {occ : State → State} {g : Fld} (hocc : Counts occ g) (hg : g ∈ fs) :
    ClearedThenOne s (s.reach m.val f fun s => s.clearThen fs (some occ)) fs g := by
  obtain ⟨honly, hzero⟩ := s.clearThen_none fs (fun f hf => (hfs.inWord f hf).1) hfs.apart
  obtain ⟨hcount, hone⟩ := hocc (s.clearThen fs none) (hzero g hg)
  rw [State.reach_eq h]
  show ClearedThenOne s ((occ (s.clearThen fs none)).reply false 0) fs g
  generalize occ (s.clearThen fs none) = t at hcount hone
  obtain ⟨ht, hkept⟩ := (honly.trans hcount).mono (gs := fs) fun k hk => by
    rcases List.mem_append.1 hk with hk | hk
    · exact hk
    · exact List.mem_singleton.1 hk ▸ hg
  refine ⟨⟨congrArg (State.reply · false 0) ht, hkept⟩, fun k hk => ?_⟩
  show t.fld k = _
  split_ifs with hkg
  · rw [hkg]; exact hone
  · have := apart_symm
    rw [hcount.2 k (by simpa using hfs.apart.forall hg hk (Ne.symm hkg)), hzero k hk]

/-- The occurrence counts in a counter that saturates. -/
theorem State.reach_countedThenOne {g : Fld} (hg : g ∈ fs) :
    ClearedThenOne s (s.reach m.val f fun s => s.clearThen fs (some fun s => s.incSat g)) fs g :=
  State.reach_clearedThenOne h hfs (Counts.incSat (hfs.inWord g hg).1 (hfs.inWord g hg).2) hg

/-- The command names the counter by its number. -/
theorem State.reach_countedThenOne_at {c : Nat → Fld} (k : Fin fs.length) (hc : fs[k] = c k) :
    ClearedThenOne s (s.reach m.val f fun s => s.clearThen fs (some fun s => s.incSat (c k))) fs fs[k] := by
  rw [hc]
  exact State.reach_countedThenOne h hfs (hc ▸ List.getElem_mem _)

end

/-! ### The counters of a register -/

/-- Fields that follow one another upwards share no bit. -/
theorem FldsApart.of_rising {fs : List Fld} (h : ∀ f ∈ fs, f.lo + f.len ≤ 64 ∧ 0 < f.len) (hp : fs.Pairwise fun f g => f.lo + f.len ≤ g.lo) :
    FldsApart fs := ⟨h, hp.imp fun h => .inr (.inl h)⟩

theorem ringCounters_apart (r : Nat) :
    FldsApart [R.stnRingCntCrcerr r, R.stnRingCntLate r, R.stnRingCntForeign r, R.stnRingCntSkew r] :=
  .of_rising (of_decide_eq_true rfl) (of_decide_eq_true rfl)

theorem portCounters_apart (p : Nat) :
    FldsApart [R.fabPortCntCrcerr p, R.fabPortCntHops p, R.fabPortCntDropped p, R.fabPortCntUnreach p] :=
  .of_rising (of_decide_eq_true rfl) (of_decide_eq_true rfl)

theorem canCounters_apart (n : Nat) :
    FldsApart [R.canCntTxok n, R.canCntRxok n, R.canCntErrors n, R.canCntOvf0 n, R.canCntOvf1 n] :=
  .of_rising (of_decide_eq_true rfl) (of_decide_eq_true rfl)

theorem hostCounters_apart : FldsApart [R.hostStatusIdxErr, R.hostStatusRingErr, R.hostStatusApErr] :=
  .of_rising (by decide) (by decide)

theorem tpiCounters_apart (i : Nat) : FldsApart [R.timeTpiCtlCount i, R.timeTpiCtlMissed i] :=
  .of_rising (of_decide_eq_true rfl) (of_decide_eq_true rfl)

theorem stationCounters_apart (n : Nat) : FldsApart [R.stnStUndelivered n, R.stnSt1Losses n] where
  inWord := of_decide_eq_true rfl
  apart := by simp [apart, R.stnStUndelivered, R.stnSt1Losses]

/-! ### Latches -/

theorem State.fld_report (s : State) (src detail : Nat) (g : Fld) : (s.report src detail).fld g = s.fld g := rfl

/-- The first owner fault of an episode: its fields and COUNT (R83, R84). -/
theorem State.ownerFault_first {u : State} (h : u.flag R.dirOwnfltValid = false) {sig master cls : Nat} (hsig : sig < 2 ^ 18)
    (hmaster : master < 2 ^ 4) (hcls : cls < 2 ^ 3) :
    let t := u.ownerFault sig master cls
    t.flag R.dirOwnfltValid = true ∧ t.fld R.dirOwnfltCount = 1 ∧ t.fld R.dirOwnfltSignal = sig ∧ t.fld R.dirOwnfltMaster = master ∧
      t.fld R.dirOwnfltClass = if master < 8 then cls else 0 := by
  have hfld : ∀ g : Fld, (u.ownerFault sig master cls).fld g = (((((u.setFld R.dirOwnfltSignal sig).setFld R.dirOwnfltMaster master).setFld
      R.dirOwnfltClass (if master < 8 then cls else 0)).setFlag R.dirOwnfltValid true).setFld R.dirOwnfltCount 1).fld g := fun g => by
    rw [State.ownerFault, if_neg (by rw [h]; exact Bool.false_ne_true)]
    exact State.fld_report _ _ _ _
  have hc : (if master < 8 then cls else 0) % 2 ^ 3 = if master < 8 then cls else 0 := by split_ifs <;> omega
  simp (disch := decide) only [State.flag, hfld, State.setFlag, State.fld_setFld_same, State.fld_setFld_ne, R.dirOwnfltValid, R.dirOwnfltCount,
    R.dirOwnfltSignal, R.dirOwnfltMaster, R.dirOwnfltClass, Nat.mod_eq_of_lt hsig, Nat.mod_eq_of_lt hmaster, hc]
  simp

/-- BOOK_TCn_LAST latched at a nominal start (R121). -/
def State.latchLast (u : State) (c : Nat) (skip held stopped : Bool) : State :=
  let k := u.cls c
  (((((u.setFld (R.bookTcLastRunTime c) (if k.winPub then k.winRun else 0)).setFlag (R.bookTcLastPublished c) k.winPub).setFlag
    (R.bookTcLastOverrun c) k.winOver).setFlag (R.bookTcLastSkip c) skip).setFlag (R.bookTcLastHeld c) held).setFlag (R.bookTcLastStopped c) stopped

theorem State.latchLast_moved (u : State) (c : Nat) (skip held stopped : Bool) :
    RegsMoved (· = (R.bookTcLast c).addr) u (u.latchLast c skip held stopped) :=
  (((((RegsMoved.setFld u (R.bookTcLastRunTime c) _).trans (RegsMoved.setFld _ (R.bookTcLastPublished c) _)).trans
    (RegsMoved.setFld _ (R.bookTcLastOverrun c) _)).trans (RegsMoved.setFld _ (R.bookTcLastSkip c) _)).trans
    (RegsMoved.setFld _ (R.bookTcLastHeld c) _)).trans (RegsMoved.setFld _ (R.bookTcLastStopped c) _)

/-- The slack that a window brings to MIN_SLACK: 0 after an overrun, none without a publication (R121). -/
def ClassSt.windowSlack (k : ClassSt) : Nat := if k.winOver then 0 else if k.winPub then min k.winSlack 0xFFFFFFFF else 0xFFFFFFFF

/-- BOOK_TCn_MAX and COUNT after the window of `k` (R121). -/
def State.latchWindow (v : State) (c : Nat) (k : ClassSt) (skip : Bool) : State :=
  let v := if k.winPub then v.setFld (R.bookTcMaxMaxRun c) (max k.winRun (v.fld (R.bookTcMaxMaxRun c))) else v
  let v := v.setFld (R.bookTcMaxMinSlack c) (min k.windowSlack (v.fld (R.bookTcMaxMinSlack c)))
  let v := if k.winOver then v.incSat (R.bookTcCountOverruns c) else v
  if skip then v.incSat (R.bookTcCountSkips c) else v

theorem State.latchWindow_counts (v : State) (c : Nat) (k : ClassSt) (skip : Bool) :
    let t := v.latchWindow c k skip
    t.fld (R.bookTcMaxMaxRun c) = (if k.winPub then max k.winRun (v.fld (R.bookTcMaxMaxRun c)) % 2 ^ 32 else v.fld (R.bookTcMaxMaxRun c)) ∧
    t.fld (R.bookTcMaxMinSlack c) = min k.windowSlack (v.fld (R.bookTcMaxMinSlack c)) ∧
    t.fld (R.bookTcCountOverruns c) =
      (if k.winOver then min (v.fld (R.bookTcCountOverruns c) + 1) (2 ^ 24 - 1) else v.fld (R.bookTcCountOverruns c)) ∧
    t.fld (R.bookTcCountSkips c) = (if skip then min (v.fld (R.bookTcCountSkips c) + 1) (2 ^ 24 - 1) else v.fld (R.bookTcCountSkips c)) := by
  have hsat : ∀ n : Nat, min n (2 ^ 24 - 1) % 2 ^ 24 = min n (2 ^ 24 - 1) := by omega
  have hslack : min k.windowSlack (v.fld (R.bookTcMaxMinSlack c)) % 2 ^ 32 = min k.windowSlack (v.fld (R.bookTcMaxMinSlack c)) :=
    Nat.mod_eq_of_lt ((min_le_right _ _).trans_lt (v.fld_lt (R.bookTcMaxMinSlack c)))
  have hruns : (R.bookTcMaxMaxRun c).len = 32 ∧ (R.bookTcMaxMinSlack c).len = 32 := ⟨rfl, rfl⟩
  have hcounts : (R.bookTcCountOverruns c).len = 24 ∧ (R.bookTcCountSkips c).len = 24 := ⟨rfl, rfl⟩
  unfold State.latchWindow
  cases k.winPub <;> cases k.winOver <;> cases skip <;>
    simp (disch := simp only [R.bookTcMaxMaxRun, R.bookTcMaxMinSlack, R.bookTcCountOverruns, R.bookTcCountSkips]; omega) only
      [State.incSat, State.addSat, State.fld_setFld_same, State.fld_setFld_ne, hruns, hcounts, hsat, hslack, if_true, if_false, Bool.false_eq_true,
        and_self]

/-- BOOK_TCn_MAX and COUNT after the latch of a nominal start whose clock clears them: the window alone (R121, R122). -/
theorem State.latchStats_cleared {u : State} {c : Nat} (hmax : u.fld (R.bookTcMaxMaxRun c) = 0) (hslack : u.fld (R.bookTcMaxMinSlack c) = 0xFFFFFFFF)
    (hover : u.fld (R.bookTcCountOverruns c) = 0) (hskip : u.fld (R.bookTcCountSkips c) = 0) (skip held stopped : Bool) :
    let k := u.cls c
    let t := u.latchStats c skip held stopped
    t.fld (R.bookTcCountOverruns c) = (if k.winOver then 1 else 0) ∧ t.fld (R.bookTcCountSkips c) = (if skip then 1 else 0) ∧
    t.fld (R.bookTcMaxMaxRun c) = (if k.winPub then k.winRun % 2 ^ 32 else 0) ∧ t.fld (R.bookTcMaxMinSlack c) = k.windowSlack := by
  intro k t
  obtain ⟨-, hreg, -⟩ := u.latchLast_moved c skip held stopped
  have hlast : ∀ g : Fld, g.addr ≠ (R.bookTcLast c).addr → (u.latchLast c skip held stopped).fld g = u.fld g := fun g hg => by
    rw [State.fld, hreg _ hg]; rfl
  have hmaxAddr : (R.bookTcMax c).addr ≠ (R.bookTcLast c).addr := by simp only [R.bookTcMax, R.bookTcLast]; omega
  have hcntAddr : (R.bookTcCount c).addr ≠ (R.bookTcLast c).addr := by simp only [R.bookTcCount, R.bookTcLast]; omega
  have hle : k.windowSlack ≤ 0xFFFFFFFF := by unfold ClassSt.windowSlack; split_ifs <;> omega
  obtain ⟨h1, h2, h3, h4⟩ := (u.latchLast c skip held stopped).latchWindow_counts c k skip
  rw [hlast (R.bookTcMaxMaxRun c) hmaxAddr, hmax, Nat.max_zero] at h1
  rw [hlast (R.bookTcMaxMinSlack c) hmaxAddr, hslack, min_eq_left hle] at h2
  rw [hlast (R.bookTcCountOverruns c) hcntAddr, hover] at h3
  rw [hlast (R.bookTcCountSkips c) hcntAddr, hskip] at h4
  exact ⟨h3, h4, h1, h2⟩

/-- PAIR_TAKE latched at a change of active module (R320); the event and the records of the Logbook that go with it touch no register of PAIR. -/
theorem State.latchTake_fields (u : State) {watch cause : Nat} (hwatch : watch < 2 ^ 32) (hcause : cause < 2 ^ 4) (took : Bool) :
    let t := u.latchTake watch cause took
    t.flag R.pairTakeValid = true ∧ t.fld R.pairTakeWatch = watch ∧ t.fld R.pairTakeCause = cause ∧ t.flag R.pairTakeRole = took := by
  intro t
  let v := (((u.setFld R.pairTakeWatch watch).setFld R.pairTakeCause cause).setFlag R.pairTakeRole took).setFlag R.pairTakeValid true
  have hkept : CourseKept logReg v t := (v.raise_kept ..).trans ((State.logPut_kept ..).trans (State.logFreeze_kept ..))
  have hfld : ∀ g : Fld, g.addr = R.pairTake.addr → t.fld g = v.fld g := fun g hg => hkept.fld (by rw [hg]; unfold logReg; decide)
  have htook : ((if took = true then 1 else 0) % 2 ^ 1 != 0) = took := by cases took <;> rfl
  refine ⟨?_, ?_, ?_, ?_⟩
  · rw [State.flag, hfld R.pairTakeValid rfl]
    exact State.flag_setFlag_same _ true (by decide) (by decide)
  all_goals simp (disch := decide) only [State.flag, hfld, v, State.setFlag, State.fld_setFld_same, State.fld_setFld_ne]
  · exact Nat.mod_eq_of_lt hwatch
  · exact Nat.mod_eq_of_lt hcause
  · exact htook

/-! ### The commands -/

section
variable {s : State} {m : Fin 16}

section
variable {f : Fld} (h : s.reaches m f = true)
include h

theorem State.fld_reach (act : State → State) (g : Fld) : (s.reach m.val f act).fld g = (act s).fld g := by rw [State.reach_eq h]; rfl

theorem State.flag_reach (act : State → State) (g : Fld) : (s.reach m.val f act).flag g = (act s).flag g := by rw [State.reach_eq h]; rfl

end

theorem State.clearThen_some (u : State) (fs : List Fld) (occ : State → State) : u.clearThen fs (some occ) = occ (u.clearThen fs none) := rfl

theorem State.reach_ownfltClear (h : s.reaches m R.dirOwnfltValid = true) (g : BitVec 18) (w : Fin 16) (c : Fin 8) {t : State}
    (ht : t = s.reach m.val R.dirOwnfltValid fun s =>
      s.clearThen [R.dirOwnfltValid, R.dirOwnfltCount] (some fun s => s.ownerFault g.toNat w.val c.val)) :
    t.flag R.dirOwnfltValid = true ∧ t.fld R.dirOwnfltCount = 1 ∧ t.fld R.dirOwnfltSignal = g.toNat ∧ t.fld R.dirOwnfltMaster = w.val ∧
      t.fld R.dirOwnfltClass = if w.val < 8 then c.val else 0 := by
  obtain ⟨-, hzero⟩ := s.clearThen_none [R.dirOwnfltValid, R.dirOwnfltCount] (by decide) (by simp [apart, R.dirOwnfltValid, R.dirOwnfltCount])
  have hvalid : (s.clearThen [R.dirOwnfltValid, R.dirOwnfltCount] none).flag R.dirOwnfltValid = false := by
    rw [State.flag, hzero _ (by simp)]; rfl
  simp only [ht, State.fld_reach h, State.flag_reach h]
  rw [State.clearThen_some]
  generalize s.clearThen [R.dirOwnfltValid, R.dirOwnfltCount] none = u at hvalid
  exact State.ownerFault_first hvalid g.isLt w.isLt c.isLt

/-- A change of register fields leaves every part of the state that holds no register. -/
theorem FldsOnly.same {α : Type} {s t : State} {fs : List Fld} (h : FldsOnly s t fs) (part : State → α)
    (hpart : ∀ r, part { s with regs := r } = part s) : part t = part s := by
  rw [h.1, hpart]

theorem State.clearThen_latchStats {u : State} {c : Nat} (hslack : u.fld (R.bookTcMaxMinSlack c) = 0xFFFFFFFF) (skip held stopped : Bool) :
    let t := u.clearThen [R.bookTcCountOverruns c, R.bookTcCountSkips c, R.bookTcMaxMaxRun c] (some fun s => s.latchStats c skip held stopped)
    t.fld (R.bookTcCountOverruns c) = (if (u.cls c).winOver then 1 else 0) ∧ t.fld (R.bookTcCountSkips c) = (if skip then 1 else 0) ∧
    t.fld (R.bookTcMaxMaxRun c) = (if (u.cls c).winPub then (u.cls c).winRun % 2 ^ 32 else 0) ∧
    t.fld (R.bookTcMaxMinSlack c) = (u.cls c).windowSlack := by
  have hr : ∀ f ∈ [R.bookTcCountOverruns c, R.bookTcCountSkips c, R.bookTcMaxMaxRun c], f.lo + f.len ≤ 64 := of_decide_eq_true rfl
  have hp : [R.bookTcCountOverruns c, R.bookTcCountSkips c, R.bookTcMaxMaxRun c].Pairwise apart := by
    simp [apart, R.bookTcCountOverruns, R.bookTcCountSkips, R.bookTcMaxMaxRun]
  obtain ⟨honly, hzero⟩ := u.clearThen_none _ hr hp
  rw [State.clearThen_some]
  generalize u.clearThen [R.bookTcCountOverruns c, R.bookTcCountSkips c, R.bookTcMaxMaxRun c] none = v at honly hzero
  rw [← honly.2 _ (by simp [apart, R.bookTcMaxMinSlack, R.bookTcCountOverruns, R.bookTcCountSkips, R.bookTcMaxMaxRun])] at hslack
  rw [← honly.same (State.cls · c) fun _ => rfl]
  exact State.latchStats_cleared (hzero _ (by simp)) hslack (hzero _ (by simp)) (hzero _ (by simp)) skip held stopped

theorem State.reach_statsClear {c : Nat} (h : s.reaches m (R.bookTcCountClear c) = true) (skip held stopped : Bool) {t : State}
    (ht : t = s.reach m.val (R.bookTcCountClear c) fun s => (s.setFld (R.bookTcMaxMinSlack c) 0xFFFFFFFF).clearThen
      [R.bookTcCountOverruns c, R.bookTcCountSkips c, R.bookTcMaxMaxRun c] (some fun s => s.latchStats c skip held stopped)) :
    t.fld (R.bookTcCountOverruns c) = (if (s.cls c).winOver then 1 else 0) ∧ t.fld (R.bookTcCountSkips c) = (if skip then 1 else 0) ∧
    t.fld (R.bookTcMaxMaxRun c) = (if (s.cls c).winPub then (s.cls c).winRun % 2 ^ 32 else 0) ∧
    t.fld (R.bookTcMaxMinSlack c) = (s.cls c).windowSlack := by
  have hin : (R.bookTcMaxMinSlack c).lo + (R.bookTcMaxMinSlack c).len ≤ 64 := (by decide : 32 + 32 ≤ 64)
  have hset : (s.setFld (R.bookTcMaxMinSlack c) 0xFFFFFFFF).fld (R.bookTcMaxMinSlack c) = 0xFFFFFFFF :=
    (State.fld_setFld_same s _ hin).trans (Nat.mod_eq_of_lt (by decide : 0xFFFFFFFF < 2 ^ 32))
  have hcls : (s.setFld (R.bookTcMaxMinSlack c) 0xFFFFFFFF).cls c = s.cls c := (s.setFld_only _ hin).same (State.cls · c) fun _ => rfl
  simp only [ht, State.fld_reach h, ← hcls]
  generalize s.setFld (R.bookTcMaxMinSlack c) 0xFFFFFFFF = u at hset
  exact State.clearThen_latchStats hset skip held stopped

theorem State.reach_takeClear (h : s.reaches m R.pairTakeValid = true) (w : BitVec 32) (cause : BitVec 4) (role : Bool) {t : State}
    (ht : t = s.reach m.val R.pairTakeValid fun s =>
      s.clearThen [R.pairTakeValid] (some fun s => s.latchTake w.toNat cause.toNat role)) :
    t.flag R.pairTakeValid = true ∧ t.fld R.pairTakeWatch = w.toNat ∧ t.fld R.pairTakeCause = cause.toNat ∧ t.flag R.pairTakeRole = role := by
  simp only [ht, State.fld_reach h, State.flag_reach h]
  rw [State.clearThen_some]
  generalize s.clearThen [R.pairTakeValid] none = u
  exact u.latchTake_fields w.isLt cause.isLt role

/-- A bit that its write clears and the occurrence of the same clock sets: it reads 1 (R18). -/
theorem State.reach_latchedThenOne {f : Fld} (h : s.reaches m f = true) (hin : f.lo + f.len ≤ 64) (hpos : 0 < f.len) :
    ClearedThenOne s (s.reach m.val f fun s => s.setFlag f true) [f] f := by
  obtain ⟨honly, hone⟩ := State.reach_setFld h 1 hin
  refine ⟨honly, fun g hg => ?_⟩
  rw [List.mem_singleton.1 hg, if_pos rfl]
  exact hone.trans (Nat.mod_eq_of_lt (Nat.one_lt_two_pow (by omega)))

end

/-- Settles O21: the counters that the clear wrote to 0 are counted on from there, and a latch that it cleared takes the occurrence as its first. -/
theorem occurrenceInTheClearingClockCountsAfterIt : Obligations.OccurrenceInTheClearingClockCountsAfterIt := by
  unfold Obligations.OccurrenceInTheClearingClockCountsAfterIt
  refine fun s m => ⟨fun g w c h => ⟨_, rfl, State.reach_ownfltClear h g w c rfl⟩, fun c skip held stopped h => ⟨_, rfl, ?stats⟩,
    fun h => ⟨_, rfl, ?fence⟩, fun w cause role h => ⟨_, rfl, State.reach_takeClear h w cause role rfl⟩,
    fun r k h => ⟨_, rfl, State.reach_countedThenOne_at h (ringCounters_apart r.val) k ?ring⟩, fun n b h => ⟨_, rfl, ?station⟩,
    fun p k h => ⟨_, rfl, State.reach_countedThenOne_at h (portCounters_apart (p.val + 2)) k ?port⟩, fun i b h => ⟨_, rfl, ?tpi⟩,
    fun p h => ⟨_, rfl, ?ptp⟩, fun q h => ⟨_, rfl, ?queue⟩,
    fun k h => ⟨_, rfl, State.reach_countedThenOne_at h hostCounters_apart k ?host⟩, fun h => ⟨_, rfl, ?hostLink⟩, fun h => ⟨_, rfl, ?fieldLink⟩,
    fun n k h => ⟨_, rfl, State.reach_countedThenOne_at h (canCounters_apart n.val) k ?can⟩, fun n k h => ⟨_, rfl, ?object⟩⟩
  case stats => exact State.reach_statsClear h skip held stopped rfl
  case fence =>
    obtain ⟨honly, hone⟩ := State.reach_latchedThenOne h (by decide) (by decide)
    exact ⟨honly, by rw [State.flag, hone _ (List.mem_singleton_self _), if_pos rfl]; rfl⟩
  case ring | port | host | can => fin_cases k <;> rfl
  case station =>
    cases b with
    | false => exact State.reach_countedThenOne h (stationCounters_apart n.val) (by simp)
    | true => exact State.reach_countedThenOne h (stationCounters_apart n.val) (by simp)
  case tpi =>
    cases b with
    | false => exact State.reach_countedThenOne h (tpiCounters_apart i.val) (by simp)
    | true => exact State.reach_clearedThenOne h (tpiCounters_apart i.val) (Counts.incMod (of_decide_eq_true rfl) (of_decide_eq_true rfl)) (by simp)
  case ptp => exact State.reach_countedThenOne h (.single (of_decide_eq_true rfl)) (List.mem_singleton_self _)
  case queue => exact State.reach_countedThenOne h (.single (of_decide_eq_true rfl)) (List.mem_singleton_self _)
  case fieldLink => exact State.reach_countedThenOne h (.single (by decide)) (List.mem_singleton_self _)
  case hostLink => exact State.reach_latchedThenOne h (by decide) (by decide)
  case object =>
    exact State.reach_clearedThenOne h (.single (of_decide_eq_true rfl)) (Counts.setFlag (of_decide_eq_true rfl) (of_decide_eq_true rfl))
      (List.mem_singleton_self _)

end Sys2Proof.Machine
end

section
/-! PROOFS. What a nominal publication does to BOOK_TCn_WAKE where the running Book names a station that no ring has (O33). -/

namespace Sys2Proof.Machine

/-- The number of the only station of `strayBook`, outside the 0 to 255 of R323: STN_STn of that number would stand at the address of BOOK_TC0_WAKE. -/
def strayNum : Nat := 0x2B001

/-- A Book of one station and nothing else; the station is TC0's, having no status word. -/
def strayBook : Book where
  image := []
  decryptBad := none
  plainBad := none
  libOk := true
  libRevision := 0
  sched := ⟨[], 0, false, none, []⟩
  dir := []
  code := []
  lists := []
  frames := []
  insts := []
  cross := []
  retSigs := []
  retInsts := []
  rings := []
  stations := [⟨strayNum, 0, 1, 0, 0, 0, 0, 0, false, 0, []⟩]
  pubs := []
  subs := []
  field := ⟨[], []⟩

/-- An active module that runs `strayBook`, TC0 held in a period of 1 ms that began at 0; an acknowledgement of the station is outstanding. -/
def strayState : State :=
  { State.reset with
    regs := [(R.pairState.addr, 1), ((R.bookTcCfg 0).addr, 2)]
    book := { State.reset.book with slots := [(0, { BookSlot.init with img := some strayBook })], running := some 0 }
    stn := { State.reset.stn with st := [(strayNum, { StationSt.init with awaiting := some 0 })] }
    classes := [(0, { ClassSt.init with mode := 2, begun := true, pubDone := false })] }

/-- WAKE of TC0 in the state that an outcome leaves. -/
def wakeAfter : Host.Outcome State Fault Refusal → Option Nat
  | .next t => some (t.fld (R.bookTcWakeWake 0))
  | _ => none

/-- The output cycle counted UNDELIVERED counts in the bits of WAKE from 32 up. -/
theorem wakeAfter_stray : wakeAfter (exec (.nominalPublication 0 1000000) strayState) = some (2 ^ 32) := by decide +kernel

/-- Refutes O33: the statement speaks of every state, also of one whose running Book names a station outside the 0 to 255 of R323 (a Book that
verification refuses, R207). Its output cycle, counted UNDELIVERED at the publication instant, moves WAKE of TC0, which the statement keeps. -/
theorem not_publicationsAndHolds : ¬ Obligations.PublicationsAndHolds := by
  unfold Obligations.PublicationsAndHolds
  intro h
  obtain ⟨t, ht, -, -, hwake, -⟩ := (h strayState 0 1000000).1 (by decide +kernel) rfl rfl (by decide +kernel) rfl (by decide +kernel)
  have hkept : wakeAfter (exec (.nominalPublication 0 1000000) strayState) = some (strayState.fld (R.bookTcWakeWake 0)) := by
    rw [ht]
    exact congrArg some hwake
  rw [wakeAfter_stray] at hkept
  exact absurd hkept (by decide +kernel)

end Sys2Proof.Machine
end

section
/-! PROOFS. Signatures compared at part ends and window closes (O37). -/

namespace Sys2Proof.Machine

/-! ### A window closed (R245) -/

/-- The window of a lane closed: both signatures restart, the main engine's is shown, the window is counted. -/
def State.windowClosed (s : State) (l : Nat) : State :=
  ((s.modLane l fun ln => { ln with main := ln.main.closed s.windowLen, chk := ln.chk.closed s.windowLen }).setFld (R.laneSigMainSig l)
    (s.lane l).main.sig.toNat).incMod (R.laneWinWindows l)

section
variable (s : State) (l : Fin 8)

theorem State.windowClosed_only :
    FldsOnly (s.modLane l.val fun ln => { ln with main := ln.main.closed s.windowLen, chk := ln.chk.closed s.windowLen }) (s.windowClosed l.val)
      [R.laneSigMainSig l.val, R.laneWinWindows l.val] :=
  (State.setFld_only _ _ (by decide : 0 + 64 ≤ 64)).trans (State.setFld_only _ _ (by decide : 0 + 32 ≤ 64))

theorem State.windowClosed_fld {g : Fld} (hsig : g.addr ≠ (R.laneSigMainSig l.val).addr) (hwin : g.addr ≠ (R.laneWinWindows l.val).addr) :
    (s.windowClosed l.val).fld g = s.fld g := by
  rw [(s.windowClosed_only l).2 g (by simp [apart, hsig, hwin])]; rfl

/-- A field of a block above the lanes. -/
theorem State.windowClosed_fld_above {g : Fld} (hg : 0x280000 ≤ g.addr) : (s.windowClosed l.val).fld g = s.fld g :=
  s.windowClosed_fld l (by simp only [R.laneSigMainSig]; omega) (by simp only [R.laneWinWindows]; omega)

theorem State.windowClosed_sig : (s.windowClosed l.val).fld (R.laneSigMainSig l.val) = (s.lane l.val).main.sig.toNat := by
  have hne : (R.laneSigMainSig l.val).addr ≠ (R.laneWinWindows l.val).addr := by simp only [R.laneSigMainSig, R.laneWinWindows]; omega
  rw [State.windowClosed, State.incMod, State.fld_setFld_ne _ _ (by decide : 0 + 32 ≤ 64) (.inl hne),
    State.fld_setFld_same _ _ (by decide : 0 + 64 ≤ 64)]
  exact Nat.mod_eq_of_lt (BitVec.isLt _)

theorem State.windowClosed_windows :
    (s.windowClosed l.val).fld (R.laneWinWindows l.val) = (s.fld (R.laneWinWindows l.val) + 1) % 2 ^ (R.laneWinWindows l.val).len := by
  have hne : (R.laneWinWindows l.val).addr ≠ (R.laneSigMainSig l.val).addr := by simp only [R.laneSigMainSig, R.laneWinWindows]; omega
  rw [State.windowClosed, State.incMod, State.fld_setFld_same _ _ (by decide : 0 + 32 ≤ 64),
    State.fld_setFld_ne _ _ (by decide : 0 + 64 ≤ 64) (.inl hne)]
  rfl

theorem State.windowClosed_lane : (s.windowClosed l.val).lane l.val =
    { s.lane l.val with main := (s.lane l.val).main.closed s.windowLen, chk := (s.lane l.val).chk.closed s.windowLen } :=
  ((s.windowClosed_only l).same (State.lane · l.val) fun _ => rfl).trans (State.lane_modLane_same ..)

end

/-- A window that no word folded beyond closes to an empty one (R245). -/
theorem Engine.closed_of_noExtra {e : Engine} (h : e.extra = []) (w : Nat) : e.closed w = { e with sig := 0, folds := 0 } := by
  rw [Engine.closed, h]
  obtain ⟨x, p, fc, code, sig, folds, extra, issued, halted⟩ := e
  subst h
  rfl

/-- Both signatures restarted. -/
def LaneSt.restarted (ln : LaneSt) : LaneSt :=
  { ln with main := { ln.main with sig := 0, folds := 0 }, chk := { ln.chk with sig := 0, folds := 0 } }

theorem State.windowClosed_restarted {s : State} {l : Fin 8} (hmain : (s.lane l.val).main.extra = []) (hchk : (s.lane l.val).chk.extra = []) :
    (s.windowClosed l.val).lane l.val = (s.lane l.val).restarted := by
  rw [State.windowClosed_lane, Engine.closed_of_noExtra hmain, Engine.closed_of_noExtra hchk]
  rfl

section
variable (s : State) (l : Fin 8)

theorem State.windowClosed_reports : (s.windowClosed l.val).reports = s.reports := (s.windowClosed_only l).same State.reports fun _ => rfl

theorem State.windowClosed_cls (c : Nat) : (s.windowClosed l.val).cls c = s.cls c := (s.windowClosed_only l).same (State.cls · c) fun _ => rfl

/-- Both halves have folded the words of a window, or the close is forced: the signatures are compared as they stand. -/
def State.closesAsFolded (forced : Bool) : Prop :=
  forced = true ∨ (s.lane l.val).main.folds = s.windowLen ∧ (s.lane l.val).chk.folds = s.windowLen

variable {s l}

/-- Outside the comparator test a close compares the signatures of the halves (R246, R247). -/
theorem State.closeWindow_eq (htest : s.flag R.cmpCtrlTest = false) {forced : Bool} (hfolds : s.closesAsFolded l forced) :
    s.closeWindow l.val forced = if (s.lane l.val).main.sig = (s.lane l.val).chk.sig then (s.windowClosed l.val, true)
      else ((s.windowClosed l.val).laneFault l.val 0, false) := by
  have htest' : (s.windowClosed l.val).flag R.cmpCtrlTest = false := by rw [State.flag, s.windowClosed_fld_above l (by decide)]; exact htest
  have hpad : ∀ e : Engine, forced = true ∨ e.folds = s.windowLen →
      (if forced then e.sig else (List.range (s.windowLen - e.folds)).foldl (fun g _ => foldSig g 0) e.sig) = e.sig := fun e he => by
    split_ifs with h
    · rfl
    · rw [he.resolve_left h, Nat.sub_self]; rfl
  rw [State.closeWindow]
  simp only [hpad _ (hfolds.imp_right And.left), hpad _ (hfolds.imp_right And.right), htest, Bool.false_eq_true, if_false]
  have hw : (((s.modLane l.val fun ln => { ln with main := ln.main.closed s.windowLen, chk := ln.chk.closed s.windowLen }).setFld
    (R.laneSigMainSig l.val) (s.lane l.val).main.sig.toNat).incMod (R.laneWinWindows l.val)) = s.windowClosed l.val := rfl
  rw [hw, htest']
  by_cases h : (s.lane l.val).main.sig = (s.lane l.val).chk.sig <;> simp [h]

end

/-! ### A mismatch (R247, R249) -/

/-- A lane fault stands as one of an earlier state that differs in nothing it speaks of. -/
theorem LaneFaulted.of_before {s v t : State} {l : Fin 8} {kind : Nat} (h : LaneFaulted v t l kind) (hlanes : ∀ k, k ≠ l.val → v.lane k = s.lane k)
    (hfault : ∀ g : Fld, g.addr = R.cmpFault.addr → v.fld g = s.fld g) (hrep : v.reports = s.reports) (hmem : v.mem = s.mem)
    (hcls : v.classes = s.classes) : LaneFaulted s t l kind := by
  unfold LaneFaulted State.flag at h ⊢
  rw [hrep, hmem, hcls, hfault R.cmpFaultValid rfl, hfault R.cmpFaultLane rfl, hfault R.cmpFaultKind rfl, hfault R.cmpFaultCount rfl] at h
  obtain ⟨hstop, hothers, hrest⟩ := h
  exact ⟨hstop, fun k hk => (hothers k hk).trans (hlanes k hk), hrest⟩

theorem State.windowClosed_faulted (s : State) (l : Fin 8) : LaneFaulted s ((s.windowClosed l.val).laneFault l.val 0) l 0 := by
  have hw := s.windowClosed_only l
  refine ((s.windowClosed l.val).laneFault_faulted l (by decide)).of_before (fun k hk => ?_) (fun g hg => ?_) (hw.same State.reports fun _ => rfl)
    (hw.same State.mem fun _ => rfl) (hw.same State.classes fun _ => rfl)
  · exact (hw.same (State.lane · k) fun _ => rfl).trans (State.lane_modLane_ne s _ hk)
  · exact s.windowClosed_fld_above l (by rw [hg]; decide)

/-! ### A part complete (R73, R133) -/

theorem State.undoClear_mem (s : State) (l c : Nat) : ∃ m, s.undoClear l c = { s with mem := m } := by
  unfold State.undoClear
  split
  · exact ⟨_, rfl⟩
  · next base h =>
    clear h
    generalize List.range (s.undoLen l) = is
    induction is generalizing s with
    | nil => exact ⟨_, rfl⟩
    | cons i is ih =>
      dsimp only [List.foldl_cons]
      split_ifs
      · obtain ⟨m, hm⟩ := s.setBytes_mem (undoIdx base i) (leBytes 4 (s.readN 4 (undoIdx base i) - 2 ^ 31))
        rw [State.writeN, hm]
        exact ih { s with mem := m }
      · exact ih s

theorem State.laneStatus_only (s : State) (l : Nat) (cur : Option Nat) (pos : Nat) :
    FldsOnly s (s.laneStatus l cur pos) [R.laneStateClass l, R.laneStateBusy l, R.laneStateSuspended l, R.laneStatePos l] :=
  (((State.setFld_only _ _ (by decide : 0 + 3 ≤ 64)).trans (State.setFlag_only _ _ (by decide : 3 + 1 ≤ 64))).trans
    (State.setFld_only _ _ (by decide : 4 + 8 ≤ 64))).trans (State.setFld_only _ _ (by decide : 12 + 18 ≤ 64))

/-- What the end of its part of class `c` changes in a lane. -/
def LaneSt.partDone (ln : LaneSt) (c : Nat) : LaneSt :=
  { ln with ready := if ln.ready.testBit c then ln.ready - 2 ^ c else ln.ready, next := mdel ln.next c }

/-- The class without the part of lane `l`. -/
def ClassSt.partDone (k : ClassSt) (l : Nat) : ClassSt := { k with parts := if k.parts.testBit l then k.parts - 2 ^ l else k.parts }

/-- The end of a part whose last window passed, as the lane sees it: the undo index, the lane, its status. -/
def State.partWalked (s : State) (l c : Nat) : State := ((s.undoClear (s.homeLane l) c).modLane l (·.partDone c)).laneStatus l none 0

/-- The part taken from the class, which is complete with its last part. -/
def State.partDone (s : State) (l c : Nat) : State :=
  let u := s.modCls c (·.partDone l)
  if (u.cls c).inFlight ∧ (u.cls c).parts = 0 then u.modCls c fun k => { k with complete := true, completeAt := u.tb 2 } else u

section
variable (s : State) (l c : Nat)

theorem State.partWalked_changes : ∃ m, FldsOnly ({ s with mem := m }.modLane l (·.partDone c)) (s.partWalked l c)
    [R.laneStateClass l, R.laneStateBusy l, R.laneStateSuspended l, R.laneStatePos l] := by
  obtain ⟨m, hm⟩ := s.undoClear_mem (s.homeLane l) c
  rw [State.partWalked, hm]
  exact ⟨m, State.laneStatus_only ..⟩

theorem State.partWalked_fld {g : Fld} (hg : g.addr ≠ (R.laneState l).addr) : (s.partWalked l c).fld g = s.fld g := by
  obtain ⟨m, -, hkept⟩ := s.partWalked_changes l c
  rw [hkept g fun f hf => .inl (by simp only [List.mem_cons, List.not_mem_nil, or_false] at hf; rcases hf with rfl | rfl | rfl | rfl <;> exact hg)]
  rfl

theorem State.partWalked_lane : (s.partWalked l c).lane l = (s.lane l).partDone c := by
  obtain ⟨m, hm⟩ := s.partWalked_changes l c
  rw [hm.same (State.lane · l) fun _ => rfl, State.lane_modLane_same]
  rfl

theorem State.partWalked_reports : (s.partWalked l c).reports = s.reports := by
  obtain ⟨m, hm⟩ := s.partWalked_changes l c
  exact hm.same State.reports fun _ => rfl

theorem State.partWalked_cls : (s.partWalked l c).cls c = s.cls c := by
  obtain ⟨m, hm⟩ := s.partWalked_changes l c
  exact hm.same (State.cls · c) fun _ => rfl

theorem State.partDone_classes : ∃ x, s.partDone l c = { s with classes := x } := by
  unfold State.partDone
  dsimp only
  split_ifs <;> exact ⟨_, rfl⟩

theorem State.partDone_lane (k : Nat) : (s.partDone l c).lane k = s.lane k := by
  obtain ⟨x, hx⟩ := s.partDone_classes l c
  rw [hx]; rfl

theorem State.partDone_reports : (s.partDone l c).reports = s.reports := by
  obtain ⟨x, hx⟩ := s.partDone_classes l c
  rw [hx]

theorem State.partDone_fld (g : Fld) : (s.partDone l c).fld g = s.fld g := by
  obtain ⟨x, hx⟩ := s.partDone_classes l c
  rw [hx]; rfl

theorem State.partDone_cls : (s.partDone l c).cls c =
    if (s.cls c).inFlight ∧ ((s.cls c).partDone l).parts = 0 then
      { (s.cls c).partDone l with complete := true, completeAt := (s.partDone l c).tb 2 } else (s.cls c).partDone l := by
  have htb : (s.partDone l c).tb 2 = s.tb 2 := by
    obtain ⟨x, hx⟩ := s.partDone_classes l c
    rw [hx]; rfl
  have hcls : ∀ k, (s.cls k).inFlight = ((s.cls k).partDone l).inFlight := fun _ => rfl
  rw [htb, hcls, State.partDone]
  dsimp only
  rw [State.cls_modCls_same]
  split_ifs
  · rw [State.cls_modCls_same, State.cls_modCls_same]; rfl
  · rw [State.cls_modCls_same]

end

/-- A bit taken out of a mask. -/
theorem testBit_cleared (v i j : Nat) : (if v.testBit i then v - 2 ^ i else v).testBit j = (v.testBit j && decide (j ≠ i)) := by
  split_ifs with h
  · rw [testBit_sub_two_pow h, Bool.and_comm]
  · by_cases hj : j = i <;> simp [hj, h]

theorem ClassSt.partDone_parts (k : ClassSt) (l i : Nat) : (k.partDone l).parts.testBit i = (k.parts.testBit i && decide (i ≠ l)) :=
  testBit_cleared ..

theorem LaneSt.partDone_ready (ln : LaneSt) (c i : Nat) : (ln.partDone c).ready.testBit i = (ln.ready.testBit i && decide (i ≠ c)) :=
  testBit_cleared ..

/-- No other part is left: the class is complete. -/
theorem ClassSt.partDone_last {k : ClassSt} {l : Nat} (h : ∀ i, i ≠ l → k.parts.testBit i = false) : (k.partDone l).parts = 0 :=
  Nat.eq_of_testBit_eq fun i => by
    rw [ClassSt.partDone_parts, Nat.zero_testBit]
    by_cases hi : i = l
    · simp [hi]
    · simp [h i hi]

/-- Another part is left. -/
theorem ClassSt.partDone_more {k : ClassSt} {l i : Nat} (hi : i ≠ l) (h : k.parts.testBit i = true) : (k.partDone l).parts ≠ 0 := fun h0 => by
  have := ClassSt.partDone_parts k l i
  rw [h0, Nat.zero_testBit, h] at this
  simp [hi] at this

theorem State.not_stopped_of_partClass {s : State} {l c : Nat} (h : s.partClass l = some c) : (s.lane l).stopped = false := by
  rw [State.partClass] at h
  split_ifs at h with hs
  exact Bool.eq_false_iff.2 (not_or.1 hs).1

theorem State.execLanePartComplete_eq {s : State} {l : Fin 8} {c : Nat} (h : s.partClass l.val = some c) (T : Nat) :
    execLanePartComplete l T s = .next (if ((s.to2 T).closeForced l.val).2 = false then ((s.to2 T).closeForced l.val).1
      else (((s.to2 T).closeForced l.val).1.partWalked l.val c).partDone l.val c) := by
  rw [execLanePartComplete, h]
  dsimp only
  obtain ⟨u, ok⟩ := (s.to2 T).closeForced l.val
  cases ok with
  | false => rfl
  | true => rfl

section
variable (s : State) (T : Nat)

theorem State.to2_fld (g : Fld) : (s.to2 T).fld g = s.fld g := by rw [State.fld, State.reg, State.to2_regs]; rfl

theorem State.to2_lane (k : Nat) : (s.to2 T).lane k = s.lane k := by rw [State.lane, State.to2_lanes]; rfl

theorem State.to2_cls (k : Nat) : (s.to2 T).cls k = s.cls k := by rw [State.cls, State.to2_classes]; rfl

theorem State.to2_windowLen : (s.to2 T).windowLen = s.windowLen := by rw [State.windowLen, State.to2_fld]; rfl

theorem State.to2_test : (s.to2 T).flag R.cmpCtrlTest = s.flag R.cmpCtrlTest := by rw [State.flag, State.to2_fld]; rfl

end

section
variable {s : State} {l : Fin 8}

/-- What the end of a part whose window passed leaves. -/
theorem State.partEnd_spec (u : State) (l c : Nat) :
    let t := (u.partWalked l c).partDone l c
    t.lane l = (u.lane l).partDone c ∧ t.reports = u.reports ∧
      (t.cls c = if (u.cls c).inFlight ∧ ((u.cls c).partDone l).parts = 0 then
        { (u.cls c).partDone l with complete := true, completeAt := t.tb 2 } else (u.cls c).partDone l) ∧
      ∀ g : Fld, g.addr ≠ (R.laneState l).addr → t.fld g = u.fld g := by
  intro t
  refine ⟨?_, ?_, ?_, fun g hg => ?_⟩
  · exact (State.partDone_lane ..).trans (u.partWalked_lane l c)
  · exact (State.partDone_reports ..).trans (u.partWalked_reports l c)
  · rw [← u.partWalked_cls l c]; exact (u.partWalked l c).partDone_cls l c
  · exact (State.partDone_fld ..).trans (u.partWalked_fld l c hg)

/-- The part whose halves agree. -/
theorem State.lanePartComplete_pass {c : Fin 8} {T : Nat} (hc : s.partClass l.val = some c.val) (htest : s.flag R.cmpCtrlTest = false)
    (hfolds : (s.lane l.val).main.folds < s.windowLen) (hmain : (s.lane l.val).main.extra = []) (hchk : (s.lane l.val).chk.extra = [])
    (hsig : (s.lane l.val).main.sig = (s.lane l.val).chk.sig) :
    ∃ t, execLanePartComplete l T s = .next t ∧ t.lane l.val = (s.lane l.val).restarted.partDone c.val ∧ t.reports = s.reports ∧
      t.cls c.val = (if (s.cls c.val).inFlight ∧ ((s.cls c.val).partDone l.val).parts = 0 then
        { (s.cls c.val).partDone l.val with complete := true, completeAt := t.tb 2 } else (s.cls c.val).partDone l.val) ∧
      t.fld (R.laneWinWindows l.val) = (s.fld (R.laneWinWindows l.val) + 1) % 2 ^ (R.laneWinWindows l.val).len := by
  rw [← State.to2_lane s T] at hfolds hmain hchk hsig
  rw [← State.to2_windowLen s T] at hfolds
  rw [← State.to2_test s T] at htest
  rw [State.execLanePartComplete_eq hc, State.closeForced, if_pos hfolds, State.closeWindow_eq htest (.inl rfl), if_pos hsig, if_neg (by simp)]
  obtain ⟨hlane, hrep, hcls, hfld⟩ := ((s.to2 T).windowClosed l.val).partEnd_spec l.val c.val
  have hwin := hfld (R.laneWinWindows l.val) (by simp only [R.laneWinWindows, R.laneState]; omega)
  rw [State.windowClosed_restarted hmain hchk, State.to2_lane] at hlane
  rw [State.windowClosed_reports, State.to2_reports] at hrep
  rw [State.windowClosed_cls, State.to2_cls] at hcls
  rw [State.windowClosed_windows, State.to2_fld] at hwin
  exact ⟨_, rfl, hlane, hrep, hcls, hwin⟩

/-- The part, or the full window, whose halves differ. -/
theorem State.lanePartComplete_fail {c : Fin 8} {T : Nat} (hc : s.partClass l.val = some c.val) (htest : s.flag R.cmpCtrlTest = false)
    (hfolds : (s.lane l.val).main.folds < s.windowLen ∨
      (s.lane l.val).main.folds = s.windowLen ∧ (s.lane l.val).chk.folds = s.windowLen)
    (hsig : (s.lane l.val).main.sig ≠ (s.lane l.val).chk.sig) :
    ∃ t, execLanePartComplete l T s = .next t ∧ LaneFaulted s t l 0 := by
  rw [← State.to2_lane s T] at hfolds hsig
  rw [← State.to2_windowLen s T] at hfolds
  rw [← State.to2_test s T] at htest
  have hclose : (s.to2 T).closeForced l.val = (((s.to2 T).windowClosed l.val).laneFault l.val 0, false) := by
    rw [State.closeForced]
    rcases hfolds with hopen | hfull
    · rw [if_pos hopen, State.closeWindow_eq htest (.inl rfl), if_neg hsig]
    · rw [if_neg (by omega), State.closeWindow_eq htest (.inr hfull), if_neg hsig]
      rfl
  rw [State.execLanePartComplete_eq hc, hclose, if_pos rfl]
  exact ⟨_, rfl, ((s.to2 T).windowClosed_faulted l).of_before (fun k _ => s.to2_lane T k) (fun g _ => s.to2_fld T g) (s.to2_reports T) (s.to2_mem T)
    (s.to2_classes T)⟩

/-! ### A full window, a late checker, a stall (R245, R248) -/

theorem State.execWindowClose_eq (hstop : (s.lane l.val).stopped = false) (hhalt : (s.lane l.val).main.halted = false)
    (hbusy : s.flag (R.laneStateBusy l.val) = true) : execWindowClose l s = .next (s.closeWindow l.val false).1 :=
  if_neg (by simp [hstop, hhalt, hbusy])

theorem State.windowClose_pass (hstop : (s.lane l.val).stopped = false) (hmain : (s.lane l.val).main.extra = [])
    (hchk : (s.lane l.val).chk.extra = []) :
    let t := s.windowClosed l.val
    t = { s with regs := t.regs, lanes := t.lanes } ∧ FldsKept s t [R.laneSigMainSig l.val, R.laneWinWindows l.val] ∧
      t.fld (R.laneSigMainSig l.val) = (s.lane l.val).main.sig.toNat ∧
      t.fld (R.laneWinWindows l.val) = (s.fld (R.laneWinWindows l.val) + 1) % 2 ^ (R.laneWinWindows l.val).len ∧
      (t.lane l.val).main = { (s.lane l.val).main with sig := 0, folds := 0 } ∧
      (t.lane l.val).chk = { (s.lane l.val).chk with sig := 0, folds := 0 } ∧ (t.lane l.val).stopped = false := by
  intro t
  have hlane : t.lane l.val = (s.lane l.val).restarted := State.windowClosed_restarted hmain hchk
  exact ⟨(s.windowClosed_only l).1.trans rfl, (s.windowClosed_only l).2, s.windowClosed_sig l, s.windowClosed_windows l, congrArg LaneSt.main hlane,
    congrArg LaneSt.chk hlane, (congrArg LaneSt.stopped hlane).trans hstop⟩

theorem State.checkerLate_faulted (hstop : (s.lane l.val).stopped = false) (hhalt : (s.lane l.val).main.halted = false)
    (htest : s.flag R.cmpCtrlTest = false) : ∃ t, execCheckerLate l s = .next t ∧ LaneFaulted s t l 3 :=
  ⟨_, (if_neg (by simp [hstop, hhalt])).trans (if_neg (by simp [htest])), s.laneFault_faulted l (by decide)⟩

theorem State.laneStall_faulted (hstop : (s.lane l.val).stopped = false) (hhalt : (s.lane l.val).main.halted = false)
    (htest : s.flag R.cmpCtrlTest = false) (hbusy : s.flag (R.laneStateBusy l.val) = true) :
    ∃ t, execLaneStall l s = .next t ∧ LaneFaulted s t l 4 :=
  ⟨_, (if_neg (by simp [hstop, hhalt, hbusy])).trans (if_neg (by simp [htest])), s.laneFault_faulted l (by decide)⟩

end

/-! ### Injections armed (R252) -/

/-- A write of a whole word that reaches its register, whatever acts on it: the fields, then the action, then the answer. -/
theorem State.slotWriteBy_wide {s : State} {m : Fin 16} {f : Fld} (h : s.reaches m f = true) (hal : f.addr % 8 = 0) {r : RegRow}
    (hr : regOf f.addr = some r) (hd : f.addr ≠ R.dbgGate.addr) (act : Nat → W64 → W64 → State → State × Bool) (v : W64) :
    let x := s.wordWrite m.val f.addr v allBits
    let y := act f.addr v v (x.1.reply false 0)
    s.slotWriteBy act m.val f.addr 8 v = y.1.reply (x.2 || y.2 || y.1.bus.err) 0 := by
  simp only [State.reaches, Bool.and_eq_true, Option.isNone_iff_eq_none, Bool.not_eq_true'] at h
  obtain ⟨hgate, hisl⟩ := h
  have hopen : (s.wordWrite m.val f.addr v allBits).1.flag R.dbgGateOpen = s.flag R.dbgGateOpen :=
    congrArg (fun w => getBits w 0 1 != 0) ((State.wordWrite_spec hr s m.val _ _).1.2.1 R.dbgGate.addr (Ne.symm hd))
  have hword : f.addr / 8 * 8 = f.addr := by omega
  have hbits : v &&& allBits = v := BitVec.and_allOnes
  have hfull : v ||| (s.reg f.addr &&& ~~~allBits) = v := by rw [show ~~~allBits = 0#64 from rfl, BitVec.and_zero, BitVec.or_zero]
  unfold State.slotWriteBy
  dsimp only
  rw [if_neg (fun k => k.2 (by simp [slotForm, hal])), hgate]
  dsimp only
  rw [if_neg (by rw [hisl]; simp), if_pos rfl, if_pos rfl, hword, show (0xFFFFFFFFFFFFFFFF : W64) = allBits from rfl, hbits, hfull, hr, hopen,
    Bool.and_not_self]
  rfl

theorem State.fld_reply (s : State) (err : Bool) (data : W64) (g : Fld) : (s.reply err data).fld g = s.fld g := by
  rw [State.fld, State.reg, State.reply_regs]; rfl

theorem State.lane_reply (s : State) (err : Bool) (data : W64) (k : Nat) : (s.reply err data).lane k = s.lane k := by
  rw [State.lane, State.reply_lanes]; rfl

/-- What CMP_INJ arms in a lane. -/
def LaneSt.armed (ln : LaneSt) (i : Inj) : LaneSt := { ln with inj := some i, testStep := injStep (some i) }

/-- CMP_INJ as written, for one lane. -/
def State.injArmLane (s : State) (l : Nat) : State :=
  if s.bit R.cmpInjLanes l then
    if s.flag R.cmpInjDelay then (s.setStep l (385 + s.fld R.cmpInjStage)).testOutcome l (385 + s.fld R.cmpInjStage) true
    else if s.fld R.cmpInjTarget = 0 then s
    else
      let i : Inj := ⟨s.fld R.cmpInjTarget, s.flag R.cmpInjPol, s.fld R.cmpInjBit, 0⟩
      (s.setStep l (injStep (some i))).setInj l (some i)
  else s

theorem State.injArm_eq {s : State} (htest : s.flag R.cmpCtrlTest = true) : s.injArm = (List.range 8).foldl State.injArmLane s := by
  rw [State.injArm, if_neg (by simp [htest])]
  rfl

section
variable {s : State} {i : Inj} (hdelay : s.flag R.cmpInjDelay = false) (htarget : s.fld R.cmpInjTarget ≠ 0)
  (hi : (⟨s.fld R.cmpInjTarget, s.flag R.cmpInjPol, s.fld R.cmpInjBit, 0⟩ : Inj) = i)
include hdelay htarget hi

/-- An injection into a signature arms the lane that LANES names. -/
theorem State.injArmLane_lane (l k : Nat) :
    (s.injArmLane l).lane k = if k = l ∧ s.bit R.cmpInjLanes l = true then (s.lane k).armed i else s.lane k := by
  rw [State.injArmLane]
  by_cases hbit : s.bit R.cmpInjLanes l = true
  · rw [if_pos hbit, if_neg (by simp [hdelay]), if_neg htarget]
    dsimp only
    rw [hi, State.setInj, State.setStep]
    by_cases hk : k = l
    · rw [if_pos ⟨hk, hbit⟩, hk, State.lane_modLane_same, State.lane_modLane_same]; rfl
    · rw [if_neg (fun h => hk h.1), State.lane_modLane_ne _ _ hk, State.lane_modLane_ne _ _ hk]
  · rw [if_neg hbit, if_neg (fun h => hbit h.2)]

omit hi in
theorem State.injArmLane_regs (l : Nat) : (s.injArmLane l).regs = s.regs := by
  rw [State.injArmLane]
  by_cases hbit : s.bit R.cmpInjLanes l = true
  · rw [if_pos hbit, if_neg (by simp [hdelay]), if_neg htarget]; rfl
  · rw [if_neg hbit]

theorem State.injArmLanes (n : Nat) :
    let t := (List.range n).foldl State.injArmLane s
    t.regs = s.regs ∧ ∀ k, t.lane k = if k < n ∧ s.bit R.cmpInjLanes k = true then (s.lane k).armed i else s.lane k := by
  induction n with
  | zero => exact ⟨rfl, fun k => by simp⟩
  | succ n ih =>
    obtain ⟨hregs, hlane⟩ := ih
    simp only [List.range_succ, List.foldl_append, List.foldl_cons, List.foldl_nil]
    generalize (List.range n).foldl State.injArmLane s = u at hregs hlane
    have hfld : ∀ g : Fld, u.fld g = s.fld g := fun g => by rw [State.fld, State.reg, hregs]; rfl
    have hd : u.flag R.cmpInjDelay = false := by rw [State.flag, hfld]; exact hdelay
    have ht : u.fld R.cmpInjTarget ≠ 0 := by rw [hfld]; exact htarget
    have hu : (⟨u.fld R.cmpInjTarget, u.flag R.cmpInjPol, u.fld R.cmpInjBit, 0⟩ : Inj) = i := by
      rw [State.flag, hfld, hfld, hfld]; exact hi
    refine ⟨(State.injArmLane_regs hd ht n).trans hregs, fun k => ?_⟩
    rw [State.injArmLane_lane hd ht hu, hlane, show u.bit R.cmpInjLanes n = s.bit R.cmpInjLanes n from congrArg (·.testBit n) (hfld _)]
    by_cases hk : k = n
    · simp [hk]
    · simp [hk, show k < n + 1 ↔ k < n by omega]

end

/-- The fields of CMP_INJ that arm an injection into a signature: they are written while the lock is open. -/
theorem cmpInj_rows : ∃ r, regOf R.cmpInj.addr = some r ∧ ∀ p ∈ [(0, 8), (8, 2), (10, 1), (11, 6), (17, 1)],
    ∃ f ∈ r.fields, f.lo = p.1 ∧ f.len = p.2 ∧ f.acc = .rwl ∧ ownRow R.cmpInj.addr f.lo = false := ⟨_, rfl, by decide⟩

/-- With its lock open CMP_INJ takes every field as written (R270). -/
theorem State.wordWrite_cmpInj {s : State} (hlock : s.flag R.cmpCtrlLocked = false) (m : Nat) (w : W64) :
    let x := (s.wordWrite m R.cmpInj.addr w allBits).1
    RegsMoved (· = R.cmpInj.addr) s x ∧ x.fld R.cmpInjLanes = getBits w 0 8 ∧ x.fld R.cmpInjTarget = getBits w 8 2 ∧
      x.fld R.cmpInjPol = getBits w 10 1 ∧ x.fld R.cmpInjBit = getBits w 11 6 ∧ x.fld R.cmpInjDelay = getBits w 17 1 := by
  intro x
  obtain ⟨r, hr, hrows⟩ := cmpInj_rows
  have hfld : ∀ p ∈ [(0, 8), (8, 2), (10, 1), (11, 6), (17, 1)], x.fld ⟨R.cmpInj.addr, p.1, p.2⟩ = getBits w p.1 p.2 := fun p hp => by
    obtain ⟨f, hf, hlo, hlen, hacc, hown⟩ := hrows p hp
    obtain ⟨full, ho⟩ := State.fieldOutcome_wide hr s m w hf
    have hwrite : ∀ old new, s.fieldWrite m R.cmpInj.addr f old new full = (new, false) := fun old new => by
      have hopen : s.lockClosed (R.cmpInj.addr / 0x10000) = false := hlock
      have hcol : R.cmpInj.addr ≠ R.fcolCfg.addr := by decide
      have hcan : ¬R.cmpInj.addr < 0xC0180 := by decide
      have hctrl : R.cmpInj.addr ≠ R.cmpCtrl.addr := by decide
      simp only [State.fieldWrite, hacc, hopen, hown, hcol, hcan, hctrl, false_and, and_false, Bool.false_eq_true, if_false]
    rw [← hlo, ← hlen, State.wordWrite_fld hr s m w allBits hf, ho, hwrite]
    exact Nat.mod_eq_of_lt (getBits_lt ..)
  exact ⟨(State.wordWrite_spec hr s m w allBits).1, hfld (0, 8) (by simp), hfld (8, 2) (by simp), hfld (10, 1) (by simp), hfld (11, 6) (by simp),
    hfld (17, 1) (by simp)⟩

/-- The injection that a word of CMP_INJ stands for, and the step of the test that it is (R252). -/
theorem LaneSt.armed_of_word (ln : LaneSt) (w : W64) :
    ln.armed ⟨getBits w 8 2, getBits w 10 1 != 0, getBits w 11 6, 0⟩ = { ln with
      inj := some (⟨getBits w 8 2, getBits w 10 1 == 1, getBits w 11 6, 0⟩ : Inj),
      testStep := 1 + 128 * (getBits w 8 2 - 1) + 64 * getBits w 10 1 + getBits w 11 6 } := by
  have hpol : getBits w 10 1 = 0 ∨ getBits w 10 1 = 1 := by have := getBits_lt w 10 1; omega
  rcases hpol with h | h <;> rw [h] <;> rfl

theorem State.cmpInj_arms {s : State} {m : Fin 16} {w : W64} (h : s.reaches m R.cmpInj = true) (hlock : s.flag R.cmpCtrlLocked = false)
    (htest : s.flag R.cmpCtrlTest = true) (htarget : getBits w 8 2 ≠ 0) (hdelay : getBits w 17 1 = 0) :
    ∃ t, execCmpInjArm m w s = .next t ∧ t.fld R.cmpInjLanes = getBits w 0 8 ∧ t.fld R.cmpInjTarget = getBits w 8 2 ∧
      ∀ k < 8, t.lane k = if (getBits w 0 8).testBit k then (s.lane k).armed ⟨getBits w 8 2, getBits w 10 1 != 0, getBits w 11 6, 0⟩
        else s.lane k := by
  obtain ⟨r, hr, -⟩ := cmpInj_rows
  obtain ⟨hmoved, hlanes, htarg, hpol, hbit, hdel⟩ := State.wordWrite_cmpInj hlock m.val w
  rw [execCmpInjArm, State.slotWriteBy_wide h (by decide) hr (by decide)]
  refine ⟨_, rfl, ?_⟩
  dsimp only
  generalize s.wordWrite m.val R.cmpInj.addr w allBits = x at hmoved hlanes htarg hpol hbit hdel
  obtain ⟨hx, hkept, -⟩ := hmoved
  have hlane : ∀ k, (x.1.reply false 0).lane k = s.lane k := fun k => by rw [hx]; rfl
  generalize hv : x.1.reply false 0 = v at hlane
  have hfld : ∀ g, v.fld g = x.1.fld g := fun g => by rw [← hv, State.fld_reply]
  rw [State.injArm_eq (by rw [State.flag, hfld, State.fld, hkept _ (by decide)]; exact htest)]
  obtain ⟨hregs, harmed⟩ := State.injArmLanes (s := v) (i := ⟨getBits w 8 2, getBits w 10 1 != 0, getBits w 11 6, 0⟩)
    (by rw [State.flag, hfld, hdel, hdelay]; rfl) (by rw [hfld, htarg]; exact htarget) (by rw [State.flag, hfld, hfld, hfld, htarg, hpol, hbit]) 8
  generalize (List.range 8).foldl State.injArmLane v = u at hregs harmed
  have hfld' : ∀ g, u.fld g = x.1.fld g := fun g => by rw [← hfld, State.fld, State.reg, hregs]; rfl
  refine ⟨(State.fld_reply ..).trans ((hfld' _).trans hlanes), (State.fld_reply ..).trans ((hfld' _).trans htarg), fun k hk =>
    (State.lane_reply ..).trans ((harmed k).trans ?_)⟩
  rw [State.bit, hfld, hlanes, hlane]
  simp [hk]

/-- Settles O37: outside the test a close compares what both halves have folded, and passes or is a fault of KIND 0; the part whose close passes is
taken from its class. -/
theorem signaturesAreCompared : Obligations.SignaturesAreCompared := by
  unfold Obligations.SignaturesAreCompared
  refine fun s l => ⟨fun c T hc htest => ⟨fun hfolds hmain hchk hsig => ?pass, State.lanePartComplete_fail hc htest⟩,
    fun hstop hhalt htest hbusy hmain hchk => ⟨fun hx hy hsig => ⟨_, ?window, State.windowClose_pass hstop hx hy⟩,
      fun hsig => ⟨_, ?mismatch, s.windowClosed_faulted l⟩⟩,
    fun hstop hhalt htest => ⟨State.checkerLate_faulted hstop hhalt htest, State.laneStall_faulted hstop hhalt htest⟩,
    fun m w h hlock htest htarget hdelay => ?inject⟩
  case pass =>
    obtain ⟨t, ht, hlane, hrep, hcls, hwin⟩ := State.lanePartComplete_pass (T := T) hc htest hfolds hmain hchk hsig
    refine ⟨t, ht, fun i => ?_, by rw [hlane]; rfl, by rw [hlane]; rfl, ?_, hrep, fun i => ?_, fun hfly hlast => ?_, fun i hi hmore => ?_, hwin⟩
    · rw [hlane, LaneSt.partDone_ready]; rfl
    · rw [hlane]; exact State.not_stopped_of_partClass hc
    · rw [← ClassSt.partDone_parts, hcls]; split_ifs <;> rfl
    · rw [hcls, if_pos ⟨hfly, ClassSt.partDone_last hlast⟩]; exact ⟨rfl, rfl⟩
    · rw [hcls, if_neg fun h => ClassSt.partDone_more hi hmore h.2]; rfl
  case window =>
    refine (State.execWindowClose_eq hstop hhalt hbusy).trans ?_
    rw [State.closeWindow_eq htest (.inr ⟨hmain, hchk⟩), if_pos hsig]
  case mismatch =>
    refine (State.execWindowClose_eq hstop hhalt hbusy).trans ?_
    rw [State.closeWindow_eq htest (.inr ⟨hmain, hchk⟩), if_neg hsig]
  case inject =>
    obtain ⟨t, ht, hlanes, htarg, hlane⟩ := State.cmpInj_arms h hlock htest htarget hdelay
    exact ⟨t, ht, hlanes, htarg, fun k hk => by rw [hlane k hk, LaneSt.armed_of_word]⟩

end Sys2Proof.Machine
end

section
/-! PROOFS. The transfers of a cycle complete: back-fill, crossing copy, store drain (O35). -/

namespace Sys2Proof.Machine

/-! ### The back-fill and the commit (R61, R62, R287) -/

section
variable {A : Nat → Prop}

theorem State.cls_modCls (s : State) (c : Nat) (f : ClassSt → ClassSt) (d : Nat) : (s.modCls c f).cls d = if d = c then f (s.cls d) else s.cls d := by
  split_ifs with h
  · rw [h, State.cls_modCls_same]
  · exact State.cls_modCls_ne s f h

/-- The same change made to a class of both states, of which its course depends on the course alone. -/
theorem CourseKept.modCls_congr {s t : State} (h : CourseKept A s t) (c : Nat) {f : ClassSt → ClassSt} (hf : ∀ k, (f k).course = f k.course) :
    CourseKept A (s.modCls c f) (t.modCls c f) := by
  refine ⟨h.reg, h.lanes, fun d => ?_, h.lagging, h.oldActive⟩
  rw [State.cls_modCls, State.cls_modCls]
  split_ifs
  · rw [hf, hf, h.cls]
  · exact h.cls d

theorem State.copyQuad_kept (s : State) (src dst : Bool) (skip : Nat → Bool) (under : Nat → Option Rec) (q : Nat) :
    CourseKept A s (s.copyQuad src dst skip under q) :=
  .foldl (fun s _ _ => .ite (fun _ => .refl s) fun _ => s.setRec_kept ..) s

/-- No quad of the kind waits any longer. -/
def ClassSt.filled (kind : Nat) (k : ClassSt) : ClassSt := if kind = 1 then { k with backIn := [] } else { k with backOut := [] }

theorem ClassSt.filled_course (kind : Nat) (k : ClassSt) : (k.filled kind).course = k.course.filled kind := by
  unfold ClassSt.filled
  split_ifs <;> rfl

theorem State.finishBack_kept (s : State) (c kind : Nat) : CourseKept A (s.modCls c (.filled kind)) (s.finishBack c kind) :=
  CourseKept.modCls_congr (.foldl (fun s _ _ => s.copyQuad_kept ..) s) c (ClassSt.filled_course kind)

/-- Nothing more is due or left to ship. -/
def ClassSt.committed (k : ClassSt) : ClassSt :=
  { k with ship := [], shipOld := [], shipTurn := false, shipLate := false, shipSkipped := false, commitDue := false }

/-- The registers that a Commit record of the class moves. -/
def commitReg (c a : Nat) : Prop := logReg a ∨ ownfltReg a ∨ a = (R.pairClassPending c).addr

/-- A Commit record moves the registers of the Logbook and the commits that are pending. -/
theorem State.sendCommit_kept (s : State) {c : Nat} (hc : c < 8) :
    CourseKept (commitReg c) (s.modCls c .committed) (s.sendCommit c) ∧ (s.sendCommit c).fld (R.pairClassPending c) =
      if s.mirrored then min (s.fld (R.pairClassPending c) + 1) (2 ^ (R.pairClassPending c).len - 1) else s.fld (R.pairClassPending c) := by
  have hlog : ∀ f : Fld, f.addr < 0x100000 → ¬logReg f.addr := fun f hf h => by unfold logReg at h; omega
  have hpend : ¬logReg (R.pairClassPending c).addr := hlog _ (by simp only [R.pairClassPending]; omega)
  obtain ⟨u, es, f, hu, ht⟩ : ∃ u es f, CourseKept logReg (s.modCls c .committed) u ∧
      s.sendCommit c = if u.mirrored then (u.addSat (R.pairClassPending c) 1).linkSends es f else u :=
    ⟨_, _, _, (State.logEntries_kept ..).trans (State.logCkptEnd_kept _), rfl⟩
  have hmir : u.mirrored = s.mirrored := hu.mirrored (hlog _ (by decide)) (hlog _ (by decide))
  have hfld : u.fld (R.pairClassPending c) = s.fld (R.pairClassPending c) := hu.fld hpend
  have hu' : CourseKept (commitReg c) (s.modCls c .committed) u := hu.mono fun _ => .inl
  rw [ht, hmir]
  split_ifs
  · refine ⟨hu'.trans ((CourseKept.setFld (A := commitReg c) u _ _ (.inr (.inr rfl))).trans (State.linkSends_kept ..)), ?_⟩
    rw [(State.linkSends_kept (A := fun _ => False) ..).fld id, State.fld_addSat _ _ (by decide : 48 + 4 ≤ 64), hfld]
  · exact ⟨hu', hfld⟩

/-- A back-fill whose commit is due. -/
theorem State.backfillCommit_kept (s : State) {c : Nat} (hc : c < 8) (wake : Nat) :
    let t := ((s.finishBack c 0).pubSoundings c wake).sendCommit c
    CourseKept (commitReg c) ((s.modCls c (.filled 0)).modCls c .committed) t ∧ t.fld (R.pairClassPending c) =
      if s.mirrored then min (s.fld (R.pairClassPending c) + 1) (2 ^ (R.pairClassPending c).len - 1) else s.fld (R.pairClassPending c) := by
  intro t
  have hown : ∀ f : Fld, f.addr < 0x100000 → ¬ownfltReg f.addr := fun f hf h => by
    have : R.dirOwnflt.addr = 0x320008 := rfl
    unfold ownfltReg at h; omega
  have hpend : ¬ownfltReg (R.pairClassPending c).addr := hown _ (by simp only [R.pairClassPending]; omega)
  have hv : CourseKept ownfltReg (s.modCls c (.filled 0)) ((s.finishBack c 0).pubSoundings c wake) :=
    (s.finishBack_kept c 0).trans (State.pubSoundings_kept ..)
  have hmir : ((s.finishBack c 0).pubSoundings c wake).mirrored = s.mirrored := hv.mirrored (hown _ (by decide)) (hown _ (by decide))
  have hfld : ((s.finishBack c 0).pubSoundings c wake).fld (R.pairClassPending c) = s.fld (R.pairClassPending c) := hv.fld hpend
  obtain ⟨hkept, hcount⟩ := State.sendCommit_kept ((s.finishBack c 0).pubSoundings c wake) hc
  rw [hmir, hfld] at hcount
  exact ⟨((hv.mono fun _ h => Or.inr (.inl h)).modCls_congr c (f := .committed) fun _ => rfl).trans hkept, hcount⟩

end

/-- The old active of a handover done: nothing but that changes (R308). -/
theorem State.oldDone_fields (s : State) : s.oldDone.regs = s.regs ∧ s.oldDone.lanes = s.lanes ∧ s.oldDone.classes = s.classes := by
  unfold State.oldDone
  split_ifs <;> exact ⟨rfl, rfl, rfl⟩

/-- A part of a class that its course has. -/
theorem CourseKept.part {A : Nat → Prop} {r t : State} (h : CourseKept A r t) {α : Type} (p : ClassSt → α) (hp : ∀ k, p k.course = p k) (d : Nat) :
    p (t.cls d) = p (r.cls d) := by rw [← hp, h.cls, hp]

/-- A change of one class that leaves whether it is in flight and its mode. -/
theorem State.modCls_runs (s : State) (c : Nat) {f : ClassSt → ClassSt} (hf : ∀ k, (f k).inFlight = k.inFlight ∧ (f k).mode = k.mode) (d : Nat) :
    ((s.modCls c f).cls d).inFlight = (s.cls d).inFlight ∧ ((s.modCls c f).cls d).mode = (s.cls d).mode := by
  rw [State.cls_modCls]
  split_ifs
  · exact hf _
  · exact ⟨rfl, rfl⟩

theorem ClassSt.filled_runs (kind : Nat) (k : ClassSt) : (k.filled kind).inFlight = k.inFlight ∧ (k.filled kind).mode = k.mode := by
  unfold ClassSt.filled
  split_ifs <;> exact ⟨rfl, rfl⟩

/-- What every back-fill leaves: no quad of its kind waits, no page bit and no lane has moved, the classes run as before. -/
structure BackfillEnds (s t : State) (c : Nat) (out : Bool) : Prop where
  backOut : (t.cls c).backOut = if out then [] else (s.cls c).backOut
  backIn : (t.cls c).backIn = if out then (s.cls c).backIn else []
  front : ∀ d kind, t.front d kind = s.front d kind
  lanes : t.lanes = s.lanes
  runs : ∀ d, (t.cls d).inFlight = (s.cls d).inFlight ∧ (t.cls d).mode = (s.cls d).mode

theorem State.finishBack_ends (s : State) (c : Nat) (out : Bool) : BackfillEnds s (s.finishBack c (if out then 0 else 1)) c out := by
  have h : CourseKept (fun _ => False) _ _ := s.finishBack_kept c (if out then 0 else 1)
  refine ⟨?_, ?_, h.front id, h.lanes, fun d => ?_⟩
  · rw [h.part ClassSt.backOut fun _ => rfl, State.cls_modCls_same]
    cases out <;> rfl
  · rw [h.part ClassSt.backIn fun _ => rfl, State.cls_modCls_same]
    cases out <;> rfl
  · rw [h.part ClassSt.inFlight fun _ => rfl, h.part ClassSt.mode fun _ => rfl]
    exact s.modCls_runs c (ClassSt.filled_runs _) d

/-- The back-fill of PAGE_OUT where a commit is due: its Commit record is formed. -/
theorem State.backfillCommit_ends {s t : State} {c : Fin 8} {wake : Nat}
    (ht : t = (((s.finishBack c.val 0).pubSoundings c.val wake).sendCommit c.val).oldDone) :
    BackfillEnds s t c.val true ∧ (t.cls c.val).commitDue = false ∧ (t.cls c.val).ship = [] ∧ (t.cls c.val).shipOld = [] ∧
      t.fld (R.pairClassPending c.val) = if s.mirrored then min (s.fld (R.pairClassPending c.val) + 1) (2 ^ (R.pairClassPending c.val).len - 1)
        else s.fld (R.pairClassPending c.val) := by
  obtain ⟨h, hcount⟩ := s.backfillCommit_kept c.isLt wake
  generalize ((s.finishBack c.val 0).pubSoundings c.val wake).sendCommit c.val = u at h hcount ht
  obtain ⟨hregs, hlanes, hclasses⟩ := u.oldDone_fields
  rw [← ht] at hregs hlanes hclasses
  have hpage : ¬commitReg c.val R.dirPage.addr := by
    have : R.dirPage.addr = 0x320000 := rfl
    have : R.dirOwnflt.addr = 0x320008 := rfl
    simp only [commitReg, logReg, ownfltReg, R.pairClassPending]; omega
  have hfld : ∀ g : Fld, t.fld g = u.fld g := fun g => by rw [State.fld, State.reg, hregs]; rfl
  have hcls : ∀ d, t.cls d = u.cls d := fun d => by rw [State.cls, hclasses]; rfl
  have hfront : ∀ d kind, t.front d kind = u.front d kind := fun d kind => by rw [State.front, State.bit, State.bit, hfld, hfld]; rfl
  have hruns := fun d => (s.modCls c.val (.filled 0)).modCls_runs c.val (f := .committed) (fun _ => ⟨rfl, rfl⟩) d
  refine ⟨⟨?_, ?_, fun d kind => (hfront d kind).trans (h.front hpage d kind), hlanes.trans h.lanes, fun d => ?_⟩, ?_, ?_, ?_, (hfld _).trans hcount⟩
  · rw [hcls, h.part ClassSt.backOut fun _ => rfl, State.cls_modCls_same, State.cls_modCls_same]; rfl
  · rw [hcls, h.part ClassSt.backIn fun _ => rfl, State.cls_modCls_same, State.cls_modCls_same]; rfl
  · rw [hcls, h.part ClassSt.inFlight fun _ => rfl, h.part ClassSt.mode fun _ => rfl, (hruns d).1, (hruns d).2]
    exact s.modCls_runs c.val (ClassSt.filled_runs 0) d
  · rw [hcls, h.part ClassSt.commitDue fun _ => rfl, State.cls_modCls_same]; rfl
  · rw [hcls, h.part ClassSt.ship fun _ => rfl, State.cls_modCls_same]; rfl
  · rw [hcls, h.part ClassSt.shipOld fun _ => rfl, State.cls_modCls_same]; rfl

/-- Whether a commit is due does not depend on the back-fill. -/
theorem State.finishBack_commitDue (s : State) (c kind : Nat) : ((s.finishBack c kind).cls c).commitDue = (s.cls c).commitDue := by
  rw [(s.finishBack_kept (A := fun _ => False) c kind).part ClassSt.commitDue fun _ => rfl, State.cls_modCls_same, ClassSt.filled]
  split_ifs <;> rfl

theorem State.execBackfillDone_commit {s : State} {c : Fin 8} (hdue : (s.cls c.val).commitDue = true) :
    execBackfillDone c true s =
      .next (((s.finishBack c.val 0).pubSoundings c.val ((s.finishBack c.val 0).cls c.val).shipWake).sendCommit c.val).oldDone :=
  if_pos ⟨rfl, (s.finishBack_commitDue c.val 0).trans hdue⟩

theorem State.execBackfillDone_only {s : State} {c : Fin 8} {out : Bool} (h : ¬(out = true ∧ (s.cls c.val).commitDue = true)) :
    execBackfillDone c out s = .next (s.finishBack c.val (if out then 0 else 1)) :=
  if_neg fun k => h ⟨k.1, (s.finishBack_commitDue c.val _).symm.trans k.2⟩

/-! ### The crossing copy (R70, R72, R90) -/

/-- The lane has a list of the class and is not failed: it takes part. -/
def State.takesPart (s : State) (c l : Nat) : Bool := s.fld (R.laneListCount l c) != 0 && !s.bit R.cmpStatusFailed l

/-- The list of class `c` to be walked from its start. -/
def LaneSt.begins (ln : LaneSt) (c : Nat) : LaneSt :=
  { ln with ready := if ln.ready.testBit c then ln.ready else ln.ready + 2 ^ c, next := mdel ln.next c }

/-- A lane that begins its part of class `c`. -/
def State.beginLane (s : State) (c l : Nat) : State := (s.modLane l (·.begins c)).setFlag (R.laneStateBusy l) true

/-- The class in flight whose crossing copy is done, its parts those of the lanes `ls`. -/
def ClassSt.crossed (k : ClassSt) (ls : List Nat) (now : Nat) : ClassSt :=
  { k with crossDone := true, parts := ls.foldl (fun w l => w + 2 ^ l) 0, complete := ls.isEmpty, completeAt := now }

/-- Lane `l` has begun its part of class `c`. -/
structure LaneBegun (c l : Nat) (s : State) : Prop where
  ready : (s.lane l).ready.testBit c = true
  next : mget 0 (s.lane l).next c = 0
  busy : s.flag (R.laneStateBusy l) = true

/-- The registers that a crossing copy moves. -/
def crossReg (a : Nat) : Prop := (∃ l < 8, a = (R.laneState l).addr) ∨ (∃ c < 8, a = (R.pairClass c).addr) ∨ logReg a

theorem State.beginLanes_eq (s : State) (c : Nat) : s.beginLanes c =
    (((List.range 8).filter (s.takesPart c)).foldl (·.beginLane c) s).modCls c
      (·.crossed ((List.range 8).filter (s.takesPart c)) ((((List.range 8).filter (s.takesPart c)).foldl (·.beginLane c) s).tb 2)) := rfl

section
variable (s : State) (c : Nat)

theorem State.beginLane_lane (l k : Nat) : (s.beginLane c l).lane k = (s.modLane l (·.begins c)).lane k := rfl

theorem State.beginLane_begun (l : Nat) : LaneBegun c l (s.beginLane c l) := by
  have hlane : (s.beginLane c l).lane l = (s.lane l).begins c := (s.beginLane_lane c l l).trans (State.lane_modLane_same ..)
  refine ⟨?_, by rw [hlane]; exact mget_mdel_same .., State.flag_setFlag_same _ true (by decide : 3 + 1 ≤ 64) (by decide : 0 < 1)⟩
  rw [hlane, LaneSt.begins]
  dsimp only
  split_ifs with hready
  · exact hready
  · rw [Nat.add_comm, testBit_two_pow_add (Bool.eq_false_iff.2 hready)]; simp

variable {s c} in
theorem LaneBegun.beginLane {k : Nat} (h : LaneBegun c k s) (l : Nat) : LaneBegun c k (s.beginLane c l) := by
  by_cases hk : k = l
  · rw [hk]; exact s.beginLane_begun c l
  · have hlane : (s.beginLane c l).lane k = s.lane k := (s.beginLane_lane c l k).trans (State.lane_modLane_ne s _ hk)
    have haddr : (R.laneStateBusy k).addr ≠ (R.laneStateBusy l).addr := by simp only [R.laneStateBusy]; omega
    refine ⟨by rw [hlane]; exact h.ready, by rw [hlane]; exact h.next, ?_⟩
    rw [State.beginLane, State.flag, State.setFlag, State.fld_setFld_ne _ _ (by decide : 3 + 1 ≤ 64) (.inl haddr)]
    exact h.busy

theorem State.beginLane_reg {l a : Nat} (ha : a ≠ (R.laneState l).addr) : (s.beginLane c l).reg a = s.reg a := State.reg_setReg_ne _ _ ha

/-- Lanes that begin one after another: each has begun, nothing but their lane state has changed. -/
theorem State.beginLane_fold (ls : List Nat) :
    let t := ls.foldl (·.beginLane c) s
    (∀ a, (∀ l ∈ ls, a ≠ (R.laneState l).addr) → t.reg a = s.reg a) ∧ (∀ d, t.cls d = s.cls d) ∧
      ∀ k, k ∈ ls ∨ LaneBegun c k s → LaneBegun c k t := by
  induction ls generalizing s with
  | nil => exact ⟨fun _ _ => rfl, fun _ => rfl, fun k h => h.resolve_left (List.not_mem_nil)⟩
  | cons l ls ih =>
    obtain ⟨hreg, hcls, hbegun⟩ := ih (s.beginLane c l)
    refine ⟨fun a ha => ?_, hcls, fun k h => hbegun k ?_⟩
    · rw [List.foldl_cons, hreg a fun l' hl' => ha l' (by simp [hl']), s.beginLane_reg c (ha l (by simp))]
    · rcases h with h | h
      · rcases List.mem_cons.1 h with rfl | h
        · exact .inr (s.beginLane_begun c k)
        · exact .inl h
      · exact .inr (h.beginLane l)

end

/-- The mask of a list of lanes. -/
theorem testBit_foldl_two_pow {ls : List Nat} (hn : ls.Nodup) {w : Nat} (hw : ∀ l ∈ ls, w.testBit l = false) (k : Nat) :
    (ls.foldl (fun w l => w + 2 ^ l) w).testBit k = (w.testBit k || decide (k ∈ ls)) := by
  induction ls generalizing w with
  | nil => simp
  | cons l ls ih =>
    obtain ⟨hl, hn⟩ := List.nodup_cons.1 hn
    have hbit : ∀ j, (w + 2 ^ l).testBit j = (decide (j = l) || w.testBit j) := fun j => by
      rw [Nat.add_comm, testBit_two_pow_add (hw l (by simp))]
    rw [List.foldl_cons, ih hn fun j hj => ?_, hbit]
    · by_cases hk : k = l <;> simp [hk, Bool.or_comm]
    · rw [hbit, hw j (by simp [hj]), decide_eq_false fun e : j = l => hl (e ▸ hj)]; rfl

theorem State.mem_takesPart {s : State} {c k : Nat} : k ∈ (List.range 8).filter (s.takesPart c) ↔ k < 8 ∧ s.takesPart c k = true := by
  rw [List.mem_filter, List.mem_range]

/-- A class whose lanes begin, or whose crossing copy is made, of `s`: what it shows in `t` (R70, R90). -/
structure Crossed (s t : State) (c : Nat) : Prop where
  reg : ∀ a, ¬crossReg a → t.reg a = s.reg a
  done : (t.cls c).crossDone = true
  parts : ∀ k < 8, (t.cls c).parts.testBit k = s.takesPart c k
  others : ∀ d, d ≠ c → (t.cls d).crossDone = (s.cls d).crossDone
  begun : ∀ k < 8, s.takesPart c k = true → LaneBegun c k t

theorem State.beginLanes_crossed (s : State) (c : Nat) : Crossed s (s.beginLanes c) c := by
  obtain ⟨hreg, hcls, hbegun⟩ := s.beginLane_fold c ((List.range 8).filter (s.takesPart c))
  rw [State.beginLanes_eq]
  generalize ((List.range 8).filter (s.takesPart c)).foldl (·.beginLane c) s = u at hreg hcls hbegun
  refine ⟨fun a ha => hreg a fun l hl e => ha (.inl ⟨l, (State.mem_takesPart.1 hl).1, e⟩), ?_, fun k hk => ?_, fun d hd => ?_, fun k hk hpart => ?_⟩
  · rw [State.cls_modCls_same]; rfl
  · rw [State.cls_modCls_same]
    refine (testBit_foldl_two_pow (List.nodup_range.filter _) (fun _ _ => Nat.zero_testBit _) k).trans ?_
    rw [Nat.zero_testBit, Bool.false_or]
    simp [hk]
  · rw [State.cls_modCls_ne _ _ hd, hcls]
  · obtain ⟨hready, hnext, hbusy⟩ := hbegun k (.inl (State.mem_takesPart.2 ⟨hk, hpart⟩))
    exact ⟨hready, hnext, hbusy⟩

/-- The registers that an Input record moves. -/
def inputReg (c a : Nat) : Prop := logReg a ∨ a = (R.pairClass c).addr

theorem State.sendInput_kept (s : State) (c how : Nat) : CourseKept (inputReg c) s (s.sendInput c how) := by
  unfold State.sendInput
  extract_lets k noexec wake start ctime all prev es kept pair noted put entered sent answered due
  have hnoted : CourseKept (inputReg c) s noted := .of_eq rfl rfl rfl rfl rfl
  have hentered : CourseKept (inputReg c) noted entered := ((State.logPut_kept ..).trans (State.logEntries_kept ..)).mono fun _ => .inl
  have hanswered : CourseKept (inputReg c) entered answered := .ite (fun _ => .refl _) fun _ => .setFld _ (R.pairClassInputOk c) _ (.inr rfl)
  have hdue : CourseKept (inputReg c) answered due := .modCls _ _ fun _ => rfl
  exact hnoted.trans (hentered.trans (hanswered.trans (hdue.trans (.ite (fun _ => State.linkSends_kept ..) fun _ => .refl _))))

theorem State.crossCopy_crossed (s : State) {c : Nat} (hc : c < 8) : Crossed s (s.crossCopy c) c := by
  have hsnap : CourseKept (fun _ => False) s ((s.cls c).crossSnap.foldl (fun s e => s.setRec (0x1000000 + e.1 * 16) e.2) s) :=
    .foldl (fun s _ _ => s.setRec_kept ..) s
  unfold State.crossCopy
  dsimp only
  generalize (s.cls c).crossSnap.foldl (fun s e => s.setRec (0x1000000 + e.1 * 16) e.2) s = u at hsnap
  have hpart : ∀ k, u.takesPart c k = s.takesPart c k := fun k => by rw [State.takesPart, State.bit, hsnap.fld id, hsnap.fld id]; rfl
  have hu := u.beginLanes_crossed c
  have ht := (u.beginLanes c).sendInput_kept c (if (s.cls c).mode = 3 then 4 else 0)
  generalize (u.beginLanes c).sendInput c (if (s.cls c).mode = 3 then 4 else 0) = t at ht
  refine ⟨fun a ha => ?_, ?_, fun k hk => ?_, fun d hd => ?_, fun k hk h => ?_⟩
  · rw [ht.reg a fun h => ha (.inr (h.symm.imp (fun h => ⟨c, hc, h⟩) id)), hu.reg a ha, hsnap.reg a id]
  · rw [ht.part ClassSt.crossDone fun _ => rfl]; exact hu.done
  · rw [ht.part ClassSt.parts fun _ => rfl, hu.parts k hk, hpart]
  · rw [ht.part ClassSt.crossDone fun _ => rfl, hu.others d hd, hsnap.part ClassSt.crossDone fun _ => rfl]
  · obtain ⟨hready, hnext, hbusy⟩ := hu.begun k hk ((hpart k).trans h)
    have hlane : t.lane k = (u.beginLanes c).lane k := by rw [State.lane, ht.lanes]; rfl
    have hst : ¬inputReg c (R.laneStateBusy k).addr := by
      simp only [inputReg, logReg, R.laneStateBusy, R.pairClass]; omega
    exact ⟨by rw [hlane]; exact hready, by rw [hlane]; exact hnext, by rw [State.flag, ht.fld hst]; exact hbusy⟩

/-- Crossing copies one after another: each of them is done. -/
theorem State.crossCopy_fold (s : State) {ds : List Nat} (hds : ∀ d ∈ ds, d < 8) :
    let t := ds.foldl (·.crossCopy ·) s
    (∀ a, ¬crossReg a → t.reg a = s.reg a) ∧ ∀ d, d ∈ ds ∨ (s.cls d).crossDone = true → (t.cls d).crossDone = true := by
  induction ds generalizing s with
  | nil => exact ⟨fun _ _ => rfl, fun d h => h.resolve_left List.not_mem_nil⟩
  | cons d ds ih =>
    have hd := s.crossCopy_crossed (hds d (by simp))
    obtain ⟨hreg, hdone⟩ := ih (s.crossCopy d) fun e he => hds e (by simp [he])
    refine ⟨fun a ha => (hreg a ha).trans (hd.reg a ha), fun e he => hdone e ?_⟩
    by_cases hed : e = d
    · exact .inr (hed ▸ hd.done)
    · rw [hd.others e hed]
      exact he.imp_left fun h => (List.mem_cons.1 h).resolve_left hed

/-- A register of a block above the lanes. -/
theorem not_crossReg_above {a : Nat} (ha : 0x280000 ≤ a) : ¬crossReg a := by
  rintro (⟨l, hl, h⟩ | ⟨c, hc, h⟩ | h)
  · simp only [R.laneState] at h; omega
  · simp only [R.pairClass] at h; omega
  · unfold logReg at h; omega

theorem not_crossReg_listCount {k c : Nat} (hk : k < 8) (hc : c < 8) : ¬crossReg (R.laneListCount k c).addr := by
  simp only [R.laneListCount]
  rintro (⟨l, hl, h⟩ | ⟨d, hd, h⟩ | h)
  · simp only [R.laneState] at h; omega
  · simp only [R.pairClass] at h; omega
  · unfold logReg at h; omega

/-- A class whose copy comes before that of class `c`: due, started at the same instant (R72). -/
def State.copiedFirst (s : State) (c d : Nat) : Bool := s.crossDue d && (s.cls d).cycStart == (s.cls c).cycStart

/-- The crossing copy of a class of which one is due. -/
theorem State.crossingCopyDone_completes {s : State} {c : Fin 8} (hdue : s.crossDue c.val = true) :
    ∃ t, execCrossingCopyDone c s = .next t ∧ (t.cls c.val).crossDone = true ∧
      (∀ d < c.val, s.crossDue d = true → (s.cls d).cycStart = (s.cls c.val).cycStart → (t.cls d).crossDone = true) ∧
      (∀ d k, t.front d k = s.front d k) ∧
      ∀ k < 8, (t.cls c.val).parts.testBit k = s.takesPart c.val k ∧ (s.takesPart c.val k = true → LaneBegun c.val k t) := by
  have hds : ∀ d ∈ (List.range c.val).filter (s.copiedFirst c.val), d < 8 := fun d hd =>
    (List.mem_range.1 (List.mem_filter.1 hd).1).trans c.isLt
  have hexec : execCrossingCopyDone c s = .next ((((List.range c.val).filter (s.copiedFirst c.val)).foldl (·.crossCopy ·) s).crossCopy c.val) :=
    (if_pos hdue).trans (congrArg Host.Outcome.next List.foldl_append)
  have hmem : ∀ d < c.val, s.crossDue d = true → (s.cls d).cycStart = (s.cls c.val).cycStart → d ∈ (List.range c.val).filter (s.copiedFirst c.val) :=
    fun d hd h he => List.mem_filter.2 ⟨List.mem_range.2 hd, by simp [State.copiedFirst, h, he]⟩
  obtain ⟨hreg, hdone⟩ := s.crossCopy_fold hds
  rw [hexec]
  generalize ((List.range c.val).filter (s.copiedFirst c.val)).foldl (·.crossCopy ·) s = u at hreg hdone
  have hc := u.crossCopy_crossed c.isLt
  have hpart : ∀ k < 8, u.takesPart c.val k = s.takesPart c.val k := fun k hk => by
    have hcount : u.fld (R.laneListCount k c.val) = s.fld (R.laneListCount k c.val) :=
      congrArg (getBits · (R.laneListCount k c.val).lo (R.laneListCount k c.val).len) (hreg _ (not_crossReg_listCount hk c.isLt))
    have hfailed : u.fld R.cmpStatusFailed = s.fld R.cmpStatusFailed :=
      congrArg (getBits · R.cmpStatusFailed.lo R.cmpStatusFailed.len) (hreg _ (not_crossReg_above (by decide)))
    rw [State.takesPart, State.bit, hcount, hfailed]
    rfl
  refine ⟨_, rfl, hc.done, fun d hd h he => ?_, fun d k => State.front_of_reg ?_ d k, fun k hk => ⟨?_, fun h => hc.begun k hk ((hpart k hk).trans h)⟩⟩
  · rw [hc.others d hd.ne]; exact hdone d (.inl (hmem d hd h he))
  · have hpage : ¬crossReg R.dirPage.addr := not_crossReg_above (by decide)
    rw [hc.reg _ hpage, hreg _ hpage]
  · rw [hc.parts k hk, hpart k hk]

theorem State.crossDue_of {s : State} {c : Nat} (hrun : s.book.running.isSome = true) (hact : s.isActive = true) (hfly : (s.cls c).inFlight = true)
    (hdone : (s.cls c).crossDone = false) (hheld : ∀ h ∈ s.pair.held, h.cls = c → h.noexec = true) : s.crossDue c = true := by
  have hfree : (s.pair.held.any fun h => h.cls == c && !h.noexec) = false := List.any_eq_false.2 fun h hm => by
    by_cases hc : h.cls = c
    · simp [hheld h hm hc]
    · simp [hc]
  rw [State.crossDue, State.runs, hrun, hact, hfly, hdone, hfree]
  rfl

/-! ### The store drain (R164, R241) -/

theorem State.setBytes_rest (s : State) (a : Nat) (bs : List Byte) : (s.setBytes a bs).book = s.book ∧ (s.setBytes a bs).pair = s.pair := by
  obtain ⟨m, hm⟩ := s.setBytes_mem a bs
  rw [hm]
  exact ⟨rfl, rfl⟩

theorem State.writeBack_rest (s : State) (sig : Nat) (value : W64) (stamp qual : Nat) :
    (s.writeBack sig value stamp qual).book = s.book ∧ (s.writeBack sig value stamp qual).pair = s.pair := by
  rw [State.writeBack]
  dsimp only
  rw [State.markWritten, State.modCls_book, State.modCls_pair, State.setRec]
  exact State.setBytes_rest ..

theorem State.ownerFault_rest (s : State) (sig master cls : Nat) :
    (s.ownerFault sig master cls).book = s.book ∧ (s.ownerFault sig master cls).pair = s.pair := by
  unfold State.ownerFault
  dsimp only
  rw [State.report_book, State.report_pair]
  by_cases h : s.flag R.dirOwnfltValid = true
  · rw [if_pos h]
    exact ⟨State.incSat_book .., State.incSat_pair ..⟩
  · rw [if_neg h, State.setFld_book, State.setFlag_book, State.setFld_book, State.setFld_book, State.setFld_book, State.setFld_pair,
      State.setFlag_pair, State.setFld_pair, State.setFld_pair, State.setFld_pair]
    exact ⟨rfl, rfl⟩

/-- A checked write touches neither the Book nor PAIR, and its answer is an error unless DIR lets it pass (R65, R66). -/
theorem State.ownedWrite_answer (s : State) (master cls sig : Nat) (value : W64) (stamp qual : Nat) :
    (s.ownedWrite master cls sig value stamp qual).book = s.book ∧ (s.ownedWrite master cls sig value stamp qual).pair = s.pair ∧
      (s.ownedWrite master cls sig value stamp qual).bus.err = decide (s.ownerCheck sig master cls ≠ .ok) := by
  unfold State.ownedWrite
  cases s.ownerCheck sig master cls with
  | ok =>
    dsimp only
    rw [State.reply_book, State.reply_pair, State.reply_bus]
    obtain ⟨hbook, hpair⟩ := s.writeBack_rest sig (Machine.canonical (s.dirEntry sig).typ value) stamp (writtenQual qual)
    exact ⟨hbook, hpair, rfl⟩
  | directory => exact ⟨rfl, rfl, rfl⟩
  | owner =>
    dsimp only
    rw [State.reply_book, State.reply_pair, State.reply_bus]
    obtain ⟨hbook, hpair⟩ := s.ownerFault_rest sig master cls
    exact ⟨hbook, hpair, rfl⟩

/-- The lane whose oldest store has gone. -/
def LaneSt.drained (ln : LaneSt) (rest : List Store) : LaneSt := { ln with storeQ := rest, chkQ := ln.chkQ.tail }

theorem State.foldBoth_lanes (s : State) (l : Nat) (m c : W64) : (∃ x, s.foldBoth l m c = { s with lanes := x }) ∧
    ((s.foldBoth l m c).lane l).storeQ = (s.lane l).storeQ ∧ ∀ k, k ≠ l → (s.foldBoth l m c).lane k = s.lane k := by
  unfold State.foldBoth
  dsimp only
  split_ifs
  · exact ⟨⟨_, rfl⟩, by rw [State.lane_modLane_same], fun k hk => State.lane_modLane_ne s _ hk⟩
  · exact ⟨⟨_, rfl⟩, rfl, fun _ _ => rfl⟩

/-- What a store drain does of the lane and of the state around it, whatever its signal. -/
theorem State.storeDrain_completes {s : State} {l : Fin 8} {st : Store} {rest : List Store} (hstop : (s.lane l.val).stopped = false)
    (hq : (s.lane l.val).storeQ = st :: rest) :
    ∃ t, execStoreDrain l s = .next t ∧ (t.lane l.val).storeQ = rest ∧ (∀ k, k ≠ l.val → t.lane k = s.lane k) ∧
      (∀ d k, t.front d k = s.front d k) ∧ t.book = s.book ∧ t.pair = s.pair ∧
      t.bus.err = decide (s.ownerCheck st.sig l.val st.cls ≠ .ok) := by
  obtain ⟨m, c, hexec⟩ : ∃ m c, execStoreDrain l s =
      .next (((s.modLane l.val (·.drained rest)).foldBoth l.val m c).ownedWrite l.val st.cls st.sig st.value st.stamp st.qual) := by
    rw [execStoreDrain]
    dsimp only
    rw [hstop, hq]
    exact ⟨_, _, rfl⟩
  obtain ⟨⟨x, hx⟩, hqueue, hothers⟩ := (s.modLane l.val (·.drained rest)).foldBoth_lanes l.val m c
  rw [State.lane_modLane_same] at hqueue
  rw [hexec]
  have hu : (s.modLane l.val (·.drained rest)).foldBoth l.val m c = { s with lanes := x } := hx
  rw [hu] at hqueue hothers ⊢
  obtain ⟨hbook, hpair, herr⟩ := State.ownedWrite_answer { s with lanes := x } l.val st.cls st.sig st.value st.stamp st.qual
  have hkept := State.ownedWrite_kept { s with lanes := x } l.val st.cls st.sig st.value st.stamp st.qual
  generalize State.ownedWrite { s with lanes := x } l.val st.cls st.sig st.value st.stamp st.qual = t at hbook hpair herr hkept
  have hlane : ∀ k, t.lane k = ({ s with lanes := x } : State).lane k := fun k => by rw [State.lane, hkept.lanes]; rfl
  refine ⟨t, rfl, by rw [hlane, hqueue]; rfl, fun k hk => ?_, fun d k => ?_, hbook, hpair, herr⟩
  · rw [hlane, hothers k hk, State.lane_modLane_ne _ _ hk]
  · exact hkept.front (by unfold ownfltReg; decide) d k

/-- Settles O35: the back-fill and the records of the pair link leave the course of the classes, the copy begins the lanes that take part, and a store
leaves the queue before DIR judges it. -/
theorem cycleTransfersComplete : Obligations.CycleTransfersComplete := by
  unfold Obligations.CycleTransfersComplete
  refine fun s c l => ⟨fun out => ?backfill, fun hrun hact hfly hdone hheld => ?crossing, fun st rest => State.storeDrain_completes⟩
  case backfill =>
    by_cases h : out = true ∧ (s.cls c.val).commitDue = true
    · obtain ⟨rfl, hdue⟩ := h
      obtain ⟨hends, hcommit, hship, hold, hpend⟩ := State.backfillCommit_ends (s := s) (c := c) rfl
      refine ⟨_, State.execBackfillDone_commit hdue, hends.backOut, hends.backIn, hends.front, hends.lanes, hends.runs, fun _ _ =>
        ⟨hcommit, hship, hold, fun hm => ?_, fun hm => ?_⟩⟩
      · rw [hpend, if_pos hm]
      · rw [hpend, if_neg (by simp [hm])]
    · have hends := s.finishBack_ends c.val out
      exact ⟨_, State.execBackfillDone_only h, hends.backOut, hends.backIn, hends.front, hends.lanes, hends.runs, fun ho hd => absurd ⟨ho, hd⟩ h⟩
  case crossing =>
    obtain ⟨t, ht, hcopied, hfirst, hfront, hlanes⟩ := State.crossingCopyDone_completes (State.crossDue_of hrun hact hfly hdone hheld)
    refine ⟨t, ht, hcopied, hfirst, hfront, fun k hk => ⟨(hlanes k hk).1, fun hlist hfailed => ?_⟩⟩
    obtain ⟨hready, hnext, hbusy⟩ := (hlanes k hk).2 (by simp [State.takesPart, hlist, hfailed])
    exact ⟨hbusy, hready, hnext⟩

end Sys2Proof.Machine
end

section
/-! PROOFS. What the steps of a nominal start and of a flip leave of the cycle of a class. -/

namespace Sys2Proof.Machine

/-- A class as the statements about its nominal starts read it: without what its forces, holds, stops and overrun events note, and without the
records that its crossing copy took. -/
def ClassSt.cycle (k : ClassSt) : ClassSt :=
  { k.course with wrMisc := [], underIn := [], underOut := [], backIn := [], backOut := [], crossSnap := [], ovrAt := none, ovrSkips := 0,
                  stopped := false, stopDue := false, stopTime := 0, holdFrom := none, holdFired := false }

theorem ClassSt.cycle_backIn (k : ClassSt) (qs : List Nat) : ({ k with backIn := qs } : ClassSt).cycle = k.cycle := rfl

/-- From `s` to `t` the cycle of every class, the Books with the commands that wait, and the fabric have stayed, and every register outside `A`. -/
structure CycleKept (A : Nat → Prop) (s t : State) : Prop where
  reg : ∀ a, ¬A a → t.reg a = s.reg a
  cls : ∀ d, (t.cls d).cycle = (s.cls d).cycle
  book : t.book = s.book
  fab : t.fab = s.fab

section
variable {A B : Nat → Prop} {s t u : State}

theorem CycleKept.refl (s : State) : CycleKept A s s := ⟨fun _ _ => rfl, fun _ => rfl, rfl, rfl⟩

theorem CycleKept.trans (h : CycleKept A s t) (k : CycleKept A t u) : CycleKept A s u :=
  ⟨fun a ha => (k.reg a ha).trans (h.reg a ha), fun d => (k.cls d).trans (h.cls d), k.book.trans h.book, k.fab.trans h.fab⟩

theorem CycleKept.mono (h : CycleKept A s t) (hAB : ∀ a, A a → B a) : CycleKept B s t :=
  ⟨fun a ha => h.reg a fun k => ha (hAB a k), h.cls, h.book, h.fab⟩

theorem CycleKept.of_none (h : CycleKept (fun _ => False) s t) : CycleKept A s t := h.mono fun _ => False.elim

theorem CycleKept.foldl {α : Type} {f : State → α → State} (hf : ∀ s x, CycleKept A s (f s x)) (xs : List α) (s : State) :
    CycleKept A s (xs.foldl f s) :=
  List.foldlRecOn xs f (motive := CycleKept A s) (.refl s) fun _ h x _ => h.trans (hf _ x)

theorem CycleKept.ite {p : Prop} [Decidable p] (ht : CycleKept A s t) (hu : CycleKept A s u) : CycleKept A s (if p then t else u) := by
  split_ifs
  · exact ht
  · exact hu

/-- What leaves the course of the classes leaves their cycle. -/
theorem CourseKept.cycle (h : CourseKept A s t) (hbook : t.book = s.book) (hfab : t.fab = s.fab) : CycleKept A s t :=
  ⟨h.reg, fun d => by rw [ClassSt.cycle, h.cls]; rfl, hbook, hfab⟩

/-- Nothing but memory, the Logbook, outputs and the like has changed. -/
theorem CycleKept.of_eq (hregs : t.regs = s.regs) (hcls : t.classes = s.classes) (hbook : t.book = s.book) (hfab : t.fab = s.fab) : CycleKept A s t :=
  ⟨fun a _ => by simp only [State.reg, hregs], fun d => by simp only [State.cls, hcls], hbook, hfab⟩

theorem CycleKept.of_moved (h : RegsMoved A s t) : CycleKept A s t := (CourseKept.of_moved h).cycle (by rw [h.1]) (by rw [h.1])

theorem CycleKept.setFld (s : State) (f : Fld) (v : Nat) (hA : A f.addr) : CycleKept A s (s.setFld f v) := (CourseKept.setFld s f v hA).cycle rfl rfl

/-- A change made to a class in one state and not in the other, of which the cycle does not speak. -/
theorem CycleKept.modCls (s : State) (c : Nat) {f : ClassSt → ClassSt} (hf : ∀ k, (f k).cycle = k.cycle) : CycleKept A s (s.modCls c f) := by
  refine ⟨fun _ _ => rfl, fun d => ?_, rfl, rfl⟩
  rw [State.cls_modCls]
  split_ifs
  · exact hf _
  · rfl

/-- The same change made to a class of both states, of which its cycle depends on the cycle alone. -/
theorem CycleKept.modCls_congr (h : CycleKept A s t) (c : Nat) {f : ClassSt → ClassSt} (hf : ∀ k, (f k).cycle = (f k.cycle).cycle) :
    CycleKept A (s.modCls c f) (t.modCls c f) := by
  refine ⟨h.reg, fun d => ?_, h.book, h.fab⟩
  rw [State.cls_modCls, State.cls_modCls]
  split_ifs
  · rw [hf, h.cls, ← hf]
  · exact h.cls d

/-- A field of a register outside `A`. -/
theorem CycleKept.fld (h : CycleKept A s t) {f : Fld} (hf : ¬A f.addr) : t.fld f = s.fld f := by rw [State.fld, h.reg _ hf]; rfl

theorem CycleKept.front (h : CycleKept A s t) (hp : ¬A R.dirPage.addr) (d kind : Nat) : t.front d kind = s.front d kind :=
  State.front_of_reg (h.reg _ hp) d kind

theorem CycleKept.flag (h : CycleKept A s t) {f : Fld} (hf : ¬A f.addr) : t.flag f = s.flag f := by rw [State.flag, h.fld hf]; rfl

/-- A part of a class that its cycle has. -/
theorem CycleKept.part (h : CycleKept A s t) {α : Type} (p : ClassSt → α) (hp : ∀ k, p k.cycle = p k) (d : Nat) : p (t.cls d) = p (s.cls d) := by
  rw [← hp, h.cls, hp]

end

section
variable (s : State) (d : Nat) (f : ClassSt → ClassSt)

theorem State.reg_modCls (a : Nat) : (s.modCls d f).reg a = s.reg a := rfl

theorem State.fld_modCls (g : Fld) : (s.modCls d f).fld g = s.fld g := rfl

theorem State.front_modCls (c kind : Nat) : (s.modCls d f).front c kind = s.front c kind := rfl

end

/-! ### Events, the Logbook, the pair link, memory -/

section
variable {A : Nat → Prop} (s : State)

theorem State.raise_cycle (code : Nat) (data : List Byte) : CycleKept A s (s.raise code data) := by
  have hpost : ∀ v, (s.vecPost v).book = s.book ∧ (s.vecPost v).fab = s.fab := fun v => by
    unfold State.vecPost
    split_ifs <;> exact ⟨rfl, rfl⟩
  have hraised : (s.raise code data).book = s.book ∧ (s.raise code data).fab = s.fab := by
    unfold State.raise
    cases eventVec code with
    | none => exact ⟨rfl, rfl⟩
    | some v => exact hpost v
  exact (s.raise_kept code data).cycle hraised.1 hraised.2

theorem State.report_cycle (src detail : Nat) : CycleKept A s (s.report src detail) := .of_eq rfl rfl rfl rfl

theorem State.logRate_cycle : CycleKept logReg s s.logRate :=
  (CycleKept.setFld (A := logReg) s R.logbStatusRate _ rfl).trans (.setFld _ R.logbStatusBacklog _ rfl)

theorem State.logPut_cycle (typ flags cls wake : Nat) (body : List Nat) (gs : List GrainEntry) (image : List Host.Cell) (whole : Nat) :
    CycleKept logReg s (s.logPut typ flags cls wake body gs image whole) := by
  have hlog : ∀ g : LogSt, CycleKept logReg s { s with log := g } := fun _ => .of_eq rfl rfl rfl rfl
  unfold State.logPut
  exact .ite (.refl s) (.ite (hlog _) ((hlog _).trans (State.logRate_cycle _)))

theorem State.logEntries_cycle (c wake : Nat) (es : List GrainEntry) : CycleKept logReg s (s.logEntries c wake es) := by
  have put := s.logPut_cycle 7 0 c wake [es.length] es [] 0
  unfold State.logEntries
  split
  · split
    · exact .ite (.refl s) put
    · exact .ite (.refl s) put
  · exact .refl s

theorem State.linkSends_cycle (es : List GrainEntry) (f : Bool → List GrainEntry → PairRec) : CycleKept A s (s.linkSends es f) :=
  .foldl (fun s p => by rw [State.linkSend_frame]; exact .of_eq rfl rfl rfl rfl) _ s

theorem State.setBytes_cycle (a : Nat) (bs : List Byte) : CycleKept A s (s.setBytes a bs) := by
  obtain ⟨m, hm⟩ := s.setBytes_mem a bs
  rw [hm]
  exact .of_eq rfl rfl rfl rfl

theorem State.setRec_cycle (a : Nat) (r : Rec) : CycleKept A s (s.setRec a r) := s.setBytes_cycle a _

theorem State.copyQuad_cycle (src dst : Bool) (skip : Nat → Bool) (under : Nat → Option Rec) (q : Nat) :
    CycleKept A s (s.copyQuad src dst skip under q) :=
  .foldl (fun s _ => .ite (.refl s) (s.setRec_cycle _ _)) _ s

theorem State.finishBack_cycle (c kind : Nat) : CycleKept A s (s.finishBack c kind) :=
  CycleKept.trans (.foldl (fun s _ => s.copyQuad_cycle ..) _ s) (.modCls _ c fun k => by split_ifs <;> rfl)

theorem State.sendInput_cycle (c how : Nat) : CycleKept (inputReg c) s (s.sendInput c how) := by
  unfold State.sendInput
  extract_lets k noexec wake start ctime all prev es kept pair noted put entered sent answered due
  have hnoted : CycleKept (inputReg c) s noted := .of_eq rfl rfl rfl rfl
  have hentered : CycleKept (inputReg c) noted entered := ((State.logPut_cycle ..).trans (State.logEntries_cycle ..)).mono fun _ => .inl
  have hanswered : CycleKept (inputReg c) entered answered := .ite (.refl _) (.setFld _ (R.pairClassInputOk c) _ (.inr rfl))
  have hdue : CycleKept (inputReg c) answered due := .modCls _ _ fun _ => rfl
  exact hnoted.trans (hentered.trans (hanswered.trans (hdue.trans (.ite (State.linkSends_cycle ..) (.refl _)))))

end

/-! ### The flip of PAGE_IN (R57 to R61, R226, R293) -/

/-- DIR_PAGE, and FORCE_STATUS with the entries that a flip does not apply. -/
def flipReg (a : Nat) : Prop := a = R.dirPage.addr ∨ a = R.forceStatus.addr

/-- From `s` to `t` PAGE_IN of a class has flipped, its PAGE_OUT stands, and the cycle of the classes has stayed. -/
structure PageInFlipped (A : Nat → Prop) (c : Nat) (s t : State) : Prop where
  kept : CycleKept A s t
  pageIn : t.front c 1 = !s.front c 1
  pageOut : t.front c 0 = s.front c 0

section
variable {A B : Nat → Prop} {c : Nat} {s t u : State}

theorem PageInFlipped.after (h : PageInFlipped A c u t) (k : CycleKept B s u) (hB : ¬B R.dirPage.addr) (hBA : ∀ a, B a → A a) : PageInFlipped A c s t :=
  ⟨(k.mono hBA).trans h.kept, by rw [h.pageIn, k.front hB], by rw [h.pageOut, k.front hB]⟩

theorem PageInFlipped.before (h : PageInFlipped A c s u) (k : CycleKept B u t) (hB : ¬B R.dirPage.addr) (hBA : ∀ a, B a → A a) : PageInFlipped A c s t :=
  ⟨h.kept.trans (k.mono hBA), by rw [k.front hB, h.pageIn], by rw [k.front hB, h.pageOut]⟩

theorem PageInFlipped.mono (h : PageInFlipped A c s t) (hAB : ∀ a, A a → B a) : PageInFlipped B c s t := ⟨h.kept.mono hAB, h.pageIn, h.pageOut⟩

theorem PageInFlipped.modCls_congr (h : PageInFlipped A c s t) (d : Nat) {f : ClassSt → ClassSt} (hf : ∀ k, (f k).cycle = (f k.cycle).cycle) :
    PageInFlipped A c (s.modCls d f) (t.modCls d f) := ⟨h.kept.modCls_congr d hf, h.pageIn, h.pageOut⟩

end

section
variable {A : Nat → Prop} (s : State)

theorem State.incSat_cycle (f : Fld) : CycleKept (· = f.addr) s (s.incSat f) := .setFld s f _ rfl

theorem State.setBit_cycle (f : Fld) (i : Nat) (b : Bool) : CycleKept (· = f.addr) s (s.setBit f i b) := .setFld s f _ rfl

/-- What a flip does with an entry of the force table that it applies (R226, R228). -/
theorem State.forced_cycle {c : Nat} (i a b : Nat) (under r : Rec) {h : ClassSt → ClassSt} (hh : ∀ k, (h k).cycle = k.cycle) :
    CycleKept A s (((((s.setRec a under).forceSeal i).forceShip c i).setRec b r).modCls c h) := by
  have hsealed : CycleKept A (s.setRec a under) ((s.setRec a under).forceSeal i) := State.setBytes_cycle _ _ _
  have hshipped : CycleKept A ((s.setRec a under).forceSeal i) (((s.setRec a under).forceSeal i).forceShip c i) := .modCls _ _ fun _ => rfl
  exact (s.setRec_cycle a under).trans (hsealed.trans (hshipped.trans ((State.setRec_cycle _ _ _).trans (.modCls _ c hh))))

theorem State.applyForces_cycle (c kind : Nat) : CycleKept (· = R.forceStatus.addr) s (s.applyForces c kind) := by
  refine CycleKept.foldl (fun s i => ?_) s.forceValid s
  have hcounted : CycleKept (· = R.forceStatus.addr) s (s.incSat R.forceStatusFaults) := s.incSat_cycle R.forceStatusFaults
  dsimp only
  split_ifs
  · exact .refl s
  · exact hcounted.trans (State.report_cycle _ _ _)
  · exact s.forced_cycle i _ _ _ _ fun _ => rfl
  · exact s.forced_cycle i _ _ _ _ fun _ => rfl
  · exact s.report_cycle _ _

end

section
variable (s : State) {c : Nat} (hc : c < 8)
include hc

theorem State.togglePage_flipped : PageInFlipped flipReg c s (s.togglePage c 1) := by
  have htoggled : s.togglePage c 1 = s.setBit R.dirPagePageIn c (!s.bit R.dirPagePageIn c) := rfl
  have hin := (s.bit_setBit (f := R.dirPagePageIn) (by decide) hc (!s.bit R.dirPagePageIn c) c).trans (if_pos rfl)
  have hout := (s.setBit_only (f := R.dirPagePageIn) c (!s.bit R.dirPagePageIn c) (by decide)).2 R.dirPagePageOut (by unfold apart; decide)
  rw [htoggled]
  refine ⟨(s.setBit_cycle _ _ _).mono fun _ => .inl, hin, ?_⟩
  show State.bit _ R.dirPagePageOut c = s.bit R.dirPagePageOut c
  rw [State.bit, hout]
  rfl

/-- A flip of PAGE_IN of the active (R59 to R61, R226). -/
theorem State.flip_flipped : PageInFlipped flipReg c s (s.flip c 1) := by
  unfold State.flip
  extract_lets filled toggled k qs cleared forced k' fq
  have hfilled : CycleKept (fun _ => False) s filled := s.finishBack_cycle c 1
  have hcleared : CycleKept (fun _ => False) toggled cleared := .modCls _ _ fun _ => rfl
  have hforced : CycleKept (· = R.forceStatus.addr) cleared forced := cleared.applyForces_cycle c 1
  have hlisted : CycleKept (fun _ => False) forced (s.flip c 1) := CycleKept.modCls _ c fun k => k.cycle_backIn _
  exact ((((filled.togglePage_flipped hc).after hfilled id fun _ => False.elim).before hcleared id fun _ => False.elim).before hforced
    (by decide) fun _ => .inr).before hlisted id fun _ => False.elim

/-- A flip of PAGE_IN of a follower (R293). -/
theorem State.followFlip_flipped : PageInFlipped flipReg c s (s.followFlip c 1) := by
  have hcopied : CycleKept (fun _ => False) (s.togglePage c 1) (s.followFlip c 1) :=
    CycleKept.trans (.foldl (fun s q => .foldl (fun s i => s.setRec_cycle _ _) _ s) _ _) (.modCls _ c fun _ => rfl)
  exact (s.togglePage_flipped hc).before hcopied id fun _ => False.elim

end

end Sys2Proof.Machine
end

section
/-! PROOFS. What a nominal start of a class does (O32). -/

namespace Sys2Proof.Machine

/-! ### The Wake number and the window of a nominal start (R92, R121) -/

/-- A nominal start taken: its Wake number, its instant, its cycle time. -/
def State.startTaken (s : State) (c t : Nat) : State := (s.takeWake c t).modCls c fun k => { k with cycTime := (s.takeWake c t).stampNow }

/-- A class that has begun at TB2 `t`. -/
def ClassSt.startedAt (t : Nat) (k : ClassSt) : ClassSt := { k with begun := true, start := t, stepped := false, pubDone := false }

/-- The same with its cycle time. -/
def ClassSt.begunAt (k : ClassSt) (t now : Nat) : ClassSt := { k.startedAt t with cycTime := now }

theorem ClassSt.begunAt_inFlight (k : ClassSt) (t now : Nat) : (k.begunAt t now).inFlight = k.inFlight := rfl

/-- The Wake number of the next start of a class (R92). -/
def State.nextWake (s : State) (c : Nat) : Nat := if (s.cls c).begun then (s.fld (R.bookTcWakeWake c) + 1) % 2 ^ 48 else 0

theorem State.takeWake_eq (s : State) (c t : Nat) :
    ∃ v, v % 2 ^ 48 = s.nextWake c ∧ s.takeWake c t = (s.setFld (R.bookTcWakeWake c) v).modCls c (.startedAt t) := by
  unfold State.takeWake State.nextWake
  split_ifs
  · exact ⟨_, rfl, rfl⟩
  · exact ⟨0, rfl, rfl⟩

theorem State.startTaken_cls (s : State) (c t : Nat) : (s.startTaken c t).cls c = (s.cls c).begunAt t (s.takeWake c t).stampNow := by
  obtain ⟨v, -, hv⟩ := s.takeWake_eq c t
  have hcls : (s.takeWake c t).cls c = (s.cls c).startedAt t := by rw [hv, State.cls_modCls_same]; rfl
  rw [State.startTaken, State.cls_modCls_same, hcls, ClassSt.begunAt]

/-- A start moves BOOK_TCn_WAKE to the next Wake number, and no other register. -/
theorem State.startTaken_moved (s : State) (c t : Nat) :
    (∀ a, a ≠ (R.bookTcWake c).addr → (s.startTaken c t).reg a = s.reg a) ∧ (s.startTaken c t).fld (R.bookTcWakeWake c) = s.nextWake c ∧
      (s.startTaken c t).book = s.book ∧ (s.startTaken c t).fab = s.fab := by
  obtain ⟨v, hwake, hv⟩ := s.takeWake_eq c t
  rw [State.startTaken, State.fld_modCls, State.modCls_book, State.modCls_fab]
  simp only [State.reg_modCls]
  rw [hv, State.fld_modCls]
  exact ⟨fun a ha => (State.reg_modCls ..).trans (State.reg_setFld_ne s v ha), (s.fld_setFld_same v (by decide : 0 + 48 ≤ 64)).trans hwake, rfl, rfl⟩

/-- What BOOK_TCn_LAST and COUNT tell after a nominal start (R121). -/
structure Latched (t : State) (c : Nat) (published overrun skip held stopped : Bool) (skips : Nat) : Prop where
  lastPublished : t.flag (R.bookTcLastPublished c) = published
  lastOverrun : t.flag (R.bookTcLastOverrun c) = overrun
  lastSkip : t.flag (R.bookTcLastSkip c) = skip
  lastHeld : t.flag (R.bookTcLastHeld c) = held
  lastStopped : t.flag (R.bookTcLastStopped c) = stopped
  countSkips : t.fld (R.bookTcCountSkips c) = skips

/-- SKIPS after a nominal start (R96, R121). -/
def State.skipsAfter (u : State) (c : Nat) (skip : Bool) : Nat :=
  if skip then min (u.fld (R.bookTcCountSkips c) + 1) (2 ^ (R.bookTcCountSkips c).len - 1) else u.fld (R.bookTcCountSkips c)

theorem State.skipsAfter_modCls (u : State) (d : Nat) (f : ClassSt → ClassSt) (c : Nat) (skip : Bool) :
    (u.modCls d f).skipsAfter c skip = u.skipsAfter c skip := rfl

/-- The registers that hold what became of the windows of a class. -/
def windowReg (c a : Nat) : Prop := a = (R.bookTcLast c).addr ∨ a = (R.bookTcMax c).addr ∨ a = (R.bookTcCount c).addr

theorem Latched.kept {A : Nat → Prop} {t v : State} {c n : Nat} {published overrun skip held stopped : Bool}
    (h : Latched t c published overrun skip held stopped n) (hk : CycleKept A t v) (hA : ∀ a, windowReg c a → ¬A a) :
    Latched v c published overrun skip held stopped n := by
  have hlast := hA _ (.inl rfl)
  exact ⟨(hk.flag (f := R.bookTcLastPublished c) hlast).trans h.lastPublished, (hk.flag (f := R.bookTcLastOverrun c) hlast).trans h.lastOverrun,
    (hk.flag (f := R.bookTcLastSkip c) hlast).trans h.lastSkip, (hk.flag (f := R.bookTcLastHeld c) hlast).trans h.lastHeld,
    (hk.flag (f := R.bookTcLastStopped c) hlast).trans h.lastStopped, (hk.fld (f := R.bookTcCountSkips c) (hA _ (.inr (.inr rfl)))).trans h.countSkips⟩

theorem Latched.modCls {t : State} {c n : Nat} {published overrun skip held stopped : Bool} (h : Latched t c published overrun skip held stopped n)
    (d : Nat) (f : ClassSt → ClassSt) : Latched (t.modCls d f) c published overrun skip held stopped n :=
  ⟨h.lastPublished, h.lastOverrun, h.lastSkip, h.lastHeld, h.lastStopped, h.countSkips⟩

/-- The next window begins. -/
def ClassSt.windowEnded (k : ClassSt) : ClassSt := { k with winPub := false, winOver := false, winRun := 0, winSlack := 0 }

theorem ClassSt.windowEnded_cycle (k : ClassSt) : k.windowEnded.cycle = k.cycle.windowEnded.cycle := rfl

theorem State.latchLast_flags (u : State) (c : Nat) (skip held stopped : Bool) :
    let t := u.latchLast c skip held stopped
    t.flag (R.bookTcLastPublished c) = (u.cls c).winPub ∧ t.flag (R.bookTcLastOverrun c) = (u.cls c).winOver ∧
      t.flag (R.bookTcLastSkip c) = skip ∧ t.flag (R.bookTcLastHeld c) = held ∧ t.flag (R.bookTcLastStopped c) = stopped := by
  have hbit : ∀ b : Bool, ((if b = true then 1 else 0) % 2 ^ 1 != 0) = b := by decide
  unfold State.latchLast
  simp (disch := simp only [R.bookTcLastRunTime, R.bookTcLastPublished, R.bookTcLastOverrun, R.bookTcLastSkip, R.bookTcLastHeld, R.bookTcLastStopped]; omega)
    only [State.flag, State.setFlag, State.fld_setFld_same, State.fld_setFld_ne]
  exact ⟨hbit _, hbit _, hbit _, hbit _, hbit _⟩

theorem State.latchWindow_moved (v : State) (c : Nat) (k : ClassSt) (skip : Bool) :
    RegsMoved (fun a => a = (R.bookTcMax c).addr ∨ a = (R.bookTcCount c).addr) v (v.latchWindow c k skip) := by
  have put : ∀ (u : State) (f : Fld) (n : Nat), f.addr = (R.bookTcMax c).addr ∨ f.addr = (R.bookTcCount c).addr →
      RegsMoved (fun a => a = (R.bookTcMax c).addr ∨ a = (R.bookTcCount c).addr) u (u.setFld f n) := fun u f n h =>
    (RegsMoved.setFld u f n).mono fun _ ha => ha ▸ h
  have putIf : ∀ (u : State) (p : Bool) (f : Fld) (n : Nat), f.addr = (R.bookTcMax c).addr ∨ f.addr = (R.bookTcCount c).addr →
      RegsMoved (fun a => a = (R.bookTcMax c).addr ∨ a = (R.bookTcCount c).addr) u (if p = true then u.setFld f n else u) := fun u p f n h => by
    split_ifs
    · exact put u f n h
    · exact .refl _ u
  exact (((putIf v k.winPub (R.bookTcMaxMaxRun c) _ (.inl rfl)).trans (put _ (R.bookTcMaxMinSlack c) _ (.inl rfl))).trans
    (putIf _ k.winOver (R.bookTcCountOverruns c) _ (.inr rfl))).trans (putIf _ skip (R.bookTcCountSkips c) _ (.inr rfl))

theorem State.latchStats_latched (u : State) (c : Nat) (skip held stopped : Bool) :
    Latched (u.latchStats c skip held stopped) c (u.cls c).winPub (u.cls c).winOver skip held stopped (u.skipsAfter c skip) ∧
      CycleKept (windowReg c) (u.modCls c .windowEnded) (u.latchStats c skip held stopped) := by
  obtain ⟨hpub, hover, hskip, hheld, hstop⟩ := u.latchLast_flags c skip held stopped
  obtain ⟨-, -, -, hskips⟩ := (u.latchLast c skip held stopped).latchWindow_counts c (u.cls c) skip
  have hmoved := (u.latchLast c skip held stopped).latchWindow_moved c (u.cls c) skip
  have hwindow := CycleKept.of_moved hmoved
  have hlast : ¬((R.bookTcLast c).addr = (R.bookTcMax c).addr ∨ (R.bookTcLast c).addr = (R.bookTcCount c).addr) := by
    simp only [R.bookTcLast, R.bookTcMax, R.bookTcCount]; omega
  have hcount : (u.latchLast c skip held stopped).fld (R.bookTcCountSkips c) = u.fld (R.bookTcCountSkips c) :=
    (CycleKept.of_moved (u.latchLast_moved c skip held stopped)).fld (by simp only [R.bookTcLast, R.bookTcCountSkips]; omega)
  rw [hcount] at hskips
  refine ⟨⟨(hwindow.flag (f := R.bookTcLastPublished c) hlast).trans hpub, (hwindow.flag (f := R.bookTcLastOverrun c) hlast).trans hover,
    (hwindow.flag (f := R.bookTcLastSkip c) hlast).trans hskip, (hwindow.flag (f := R.bookTcLastHeld c) hlast).trans hheld,
    (hwindow.flag (f := R.bookTcLastStopped c) hlast).trans hstop, hskips⟩, ?_⟩
  have hall : RegsMoved (windowReg c) u ((u.latchLast c skip held stopped).latchWindow c (u.cls c) skip) :=
    ((u.latchLast_moved c skip held stopped).mono fun _ => .inl).trans (hmoved.mono fun _ => .inr)
  exact (CycleKept.of_moved hall).modCls_congr c ClassSt.windowEnded_cycle

/-! ### A skipped start (R95, R96, R97) -/

section
variable {A : Nat → Prop} (s : State)

theorem State.overrunEvent_cycle (c : Nat) : CycleKept A s (s.overrunEvent c) := by
  have hnoted : ∀ f : ClassSt → ClassSt, (∀ k, (f k).cycle = k.cycle) → CycleKept A s (s.modCls c f) := fun f hf => .modCls s c hf
  unfold State.overrunEvent
  extract_lets k n due
  refine .ite (CycleKept.trans (hnoted _ ?_) (State.raise_cycle _ _ _)) (hnoted _ ?_)
  · exact fun _ => rfl
  · exact fun _ => rfl

end

/-- One start more that found the class in flight. -/
def ClassSt.skippedOnce (k : ClassSt) : ClassSt := { k with cycSkips := k.cycSkips + 1 }

/-- The registers that a skipped start moves beside BOOK_TCn_WAKE. -/
def skipReg (c a : Nat) : Prop := windowReg c a ∨ logReg a

theorem not_skipReg_dirPage (c : Nat) : ¬skipReg c R.dirPage.addr := by
  simp only [skipReg, windowReg, logReg, R.dirPage, R.bookTcLast, R.bookTcMax, R.bookTcCount]
  omega

theorem not_skipReg_wake (c : Nat) : ¬skipReg c (R.bookTcWake c).addr := by
  simp only [skipReg, windowReg, logReg, R.bookTcWake, R.bookTcLast, R.bookTcMax, R.bookTcCount]
  omega

theorem not_logReg_of_windowReg {c a : Nat} (hc : c < 8) (h : windowReg c a) : ¬logReg a := by
  simp only [windowReg, logReg, R.bookTcLast, R.bookTcMax, R.bookTcCount] at *
  omega

theorem State.startClass_skipped {s : State} {c : Nat} (hc : c < 8) {t : Nat} (hfly : (s.cls c).inFlight = true) :
    let u := s.startTaken c t
    CycleKept (skipReg c) ((u.modCls c .skippedOnce).modCls c .windowEnded) (s.startClass c t) ∧
      Latched (s.startClass c t) c (u.cls c).winPub (u.cls c).winOver true false false (u.skipsAfter c true) := by
  intro u
  have hfly' : (u.cls c).inFlight = true := by rw [State.startTaken_cls, ClassSt.begunAt_inFlight, hfly]
  unfold State.startClass
  extract_lets taken timed skipped latched noted
  rw [if_pos (show (timed.cls c).inFlight = true from hfly')]
  obtain ⟨hlatched, hkept⟩ := skipped.latchStats_latched c true false false
  have hrest : CycleKept logReg latched (noted.logRec 1 1 c (noted.fld (R.bookTcWakeWake c)) [t, noted.stampNow, 0]) :=
    (latched.overrunEvent_cycle c).trans (noted.logPut_cycle ..)
  have hskipped : skipped = u.modCls c .skippedOnce := rfl
  have hwindow : (skipped.cls c).winPub = (u.cls c).winPub ∧ (skipped.cls c).winOver = (u.cls c).winOver := by
    rw [hskipped, State.cls_modCls_same]
    generalize u.cls c = k
    exact ⟨rfl, rfl⟩
  rw [hwindow.1, hwindow.2, hskipped, State.skipsAfter_modCls, ← hskipped] at hlatched
  rw [← hskipped]
  exact ⟨(hkept.mono fun _ => .inl).trans (hrest.mono fun _ => .inr), hlatched.kept hrest fun _ => not_logReg_of_windowReg hc⟩

/-! ### The mode of a class (R107, R109, R115) -/

/-- The mode in which a class makes a start that is not skipped. -/
def ClassSt.startMode (k : ClassSt) : Nat :=
  match k.modeTo with
  | some m => m
  | none => if k.mode = 3 then 2 else k.mode

def ClassSt.modeApplied (k : ClassSt) : ClassSt := { k with mode := k.startMode, modeTo := none }

/-- BOOK_MODE and the registers of LOGB. -/
def modeReg (a : Nat) : Prop := a = R.bookMode.addr ∨ logReg a

/-- Two changes of one class that agree on its cycle. -/
theorem CycleKept.modCls_both {A : Nat → Prop} (s : State) {c : Nat} {f g : ClassSt → ClassSt} (h : (g (s.cls c)).cycle = (f (s.cls c)).cycle) :
    CycleKept A (s.modCls c f) (s.modCls c g) := by
  refine ⟨fun _ _ => rfl, fun d => ?_, rfl, rfl⟩
  rw [State.cls_modCls, State.cls_modCls]
  split_ifs with hd
  · rw [hd]; exact h
  · rfl

/-- A change of a class that leaves its cycle, not made. -/
theorem CycleKept.modCls_undone {A : Nat → Prop} (s : State) {c : Nat} {f : ClassSt → ClassSt} (h : (f (s.cls c)).cycle = (s.cls c).cycle) :
    CycleKept A (s.modCls c f) s := by
  refine ⟨fun _ _ => rfl, fun d => ?_, rfl, rfl⟩
  rw [State.cls_modCls]
  split_ifs with hd
  · rw [hd]; exact h.symm
  · rfl

theorem State.applyMode_cycle (s : State) (c : Nat) : CycleKept modeReg (s.modCls c .modeApplied) (s.applyMode c) := by
  have hheld : ∀ (u : State) (b : Bool), CycleKept modeReg u (u.setBit R.bookModeHeld c b) := fun u b => (u.setBit_cycle _ _ _).mono fun _ => .inl
  have hmode : ∀ f : ClassSt → ClassSt, (f (s.cls c)).cycle = (s.cls c).modeApplied.cycle → CycleKept modeReg (s.modCls c .modeApplied) (s.modCls c f) :=
    fun f hf => .modCls_both s hf
  unfold State.applyMode
  extract_lets k
  cases hto : k.modeTo with
  | some m =>
    dsimp only
    refine (hmode _ ?_).trans ((hheld _ _).trans (((State.logPut_cycle ..).mono fun _ => .inr).trans (State.raise_cycle ..)))
    rw [ClassSt.modeApplied, ClassSt.startMode, show (s.cls c).modeTo = some m from hto]
    rfl
  | none =>
    dsimp only
    have hstart : (s.cls c).startMode = if (s.cls c).mode = 3 then 2 else (s.cls c).mode := by
      rw [ClassSt.startMode, show (s.cls c).modeTo = none from hto]
    split_ifs with h3
    · refine (hmode _ ?_).trans (hheld _ _)
      rw [ClassSt.modeApplied, hstart, if_pos h3, ← show (s.cls c).modeTo = none from hto]
    · refine .modCls_undone s ?_
      rw [ClassSt.modeApplied, hstart, if_neg h3, ← show (s.cls c).modeTo = none from hto]

/-! ### The crossing copy taken (R69, R70, R72) -/

/-- What the crossing copy of a class took is what the front shows (R69). -/
def State.crossTaken (s : State) (c : Nat) : Prop :=
  ∀ e ∈ s.crossOf c, s.dirOk e.1 = true → (e.2, s.frontRec e.1) ∈ (s.cls c).crossSnap

theorem State.dirReads_eq (s : State) (xs : List (Nat × Nat)) :
    ∃ (r : List Report) (n : Nat), xs.foldl (fun s e => s.dirRead e.1) s = { s with reports := r, free := n } := by
  refine List.foldlRecOn xs _ (motive := fun u => ∃ (r : List Report) (n : Nat), u = { s with reports := r, free := n }) ⟨s.reports, s.free, rfl⟩ fun u hu e _ => ?_
  obtain ⟨r, n, rfl⟩ := hu
  unfold State.dirRead
  split_ifs <;> exact ⟨_, _, rfl⟩

/-- The records that the crossing copy of a class takes, at their places. -/
def State.crossRecs (s : State) (c : Nat) : List (Nat × Rec) := ((s.crossOf c).filter fun e => s.dirOk e.1).map fun e => (e.2, s.frontRec e.1)

/-- A class whose crossing copy takes records. -/
def ClassSt.taking (recs : List (Nat × Rec)) (k : ClassSt) : ClassSt := { k with crossSnap := recs }

theorem State.crossTake_eq (s : State) (c : Nat) :
    ∃ r n, s.crossTake c = State.modCls { s with reports := r, free := n } c (.taking (s.crossRecs c)) := by
  obtain ⟨r, n, h⟩ := s.dirReads_eq (s.crossOf c)
  refine ⟨r, n, ?_⟩
  unfold State.crossTake
  dsimp only
  rw [h]
  rfl

theorem State.crossTake_cycle {A : Nat → Prop} (s : State) (c : Nat) : CycleKept A s (s.crossTake c) := by
  obtain ⟨r, n, h⟩ := s.crossTake_eq c
  have hread : CycleKept A s { s with reports := r, free := n } := .of_eq rfl rfl rfl rfl
  rw [h]
  exact hread.trans (.modCls _ c fun _ => rfl)

theorem State.crossOf_taking (s : State) (c : Nat) (recs : List (Nat × Rec)) : (s.modCls c (.taking recs)).crossOf c = s.crossOf c := by
  have hturned : (s.modCls c (.taking recs)).turned c = s.turned c := by
    rw [State.turned, State.cls_modCls_same]
    rfl
  rw [State.crossOf, State.clsBook, hturned]
  rfl

theorem State.crossTake_taken (s : State) (c : Nat) : (s.crossTake c).crossTaken c := by
  obtain ⟨r, n, h⟩ := s.crossTake_eq c
  rw [h]
  intro e he hok
  rw [State.crossOf_taking] at he
  rw [State.cls_modCls_same]
  exact List.mem_map.2 ⟨e, List.mem_filter.2 ⟨he, hok⟩, rfl⟩

/-- The copies of the other classes taken anew leave everything but those, reports and free values. -/
theorem State.crossAfter_eq (s : State) (z t : Nat) : ∃ x r n, s.crossAfter z t = { s with classes := x, reports := r, free := n } ∧
    mget ClassSt.init x z = s.cls z := by
  refine List.foldlRecOn (List.range 8) _ (motive := fun u => ∃ x r n, u = { s with classes := x, reports := r, free := n } ∧
    mget ClassSt.init x z = s.cls z) ⟨s.classes, s.reports, s.free, rfl, rfl⟩ fun u hu c _ => ?_
  obtain ⟨x, r, n, rfl, hx⟩ := hu
  dsimp only
  split_ifs with h
  · obtain ⟨r', n', ht⟩ := State.crossTake_eq { s with classes := x, reports := r, free := n } c
    rw [ht]
    exact ⟨_, _, _, rfl, (mget_mmod_ne _ _ _ (Ne.symm h.1)).trans hx⟩
  · exact ⟨_, _, _, rfl, hx⟩

/-! ### A start that is not skipped (R59, R86, R107) -/

theorem State.turnAt_unarmed {s : State} (h : s.flag R.bookTurnArmed = false) (c t : Nat) : s.turnAt c t = s := by
  rw [State.turnAt, h, if_neg fun h => Bool.false_ne_true h.1]

theorem State.applied_nothing {s : State} (h : s.book.pend = []) (c wake : Nat) (p : PendApply → Bool) : s.applied c wake p = s := by
  have hbook : ({ s.book with pend := [] } : BookSt) = s.book := by rw [← h]
  unfold State.applied
  rw [h, List.filter_nil, List.filter_nil, List.foldl_nil, hbook]

theorem State.startPend_nothing {s : State} (h : s.book.pend = []) (c t wake : Nat) : s.startPend c t wake = s := by
  unfold State.startPend
  dsimp only
  rw [h, List.filter_nil, List.foldl_nil]
  exact State.applied_nothing h ..

/-- The registers that a start not skipped moves beside BOOK_TCn_WAKE. -/
def startReg (c a : Nat) : Prop := modeReg a ∨ windowReg c a ∨ flipReg a ∨ inputReg c a

/-- The class after the start of a cycle at TB2 `t` of a Wake number. -/
def ClassSt.flown (k : ClassSt) (t wake : Nat) : ClassSt :=
  { k with inFlight := true, cycStart := t, cycWake := wake, flyTime := k.cycTime, crossDone := false, parts := 0, complete := false, cycSkips := 0 }

theorem ClassSt.flown_cycle (k : ClassSt) (t wake : Nat) : (k.flown t wake).cycle = (k.cycle.flown t wake).cycle := rfl

theorem CycleKept.skipsAfter {A : Nat → Prop} {s t : State} {c : Nat} (h : CycleKept A s t) (hA : ¬A (R.bookTcCount c).addr) (skip : Bool) :
    t.skipsAfter c skip = s.skipsAfter c skip := by
  rw [State.skipsAfter, h.fld (f := R.bookTcCountSkips c) hA]
  rfl

theorem not_flipReg_of_windowReg {c a : Nat} (h : windowReg c a) : ¬flipReg a := by
  simp only [windowReg, flipReg, R.dirPage, R.forceStatus, R.bookTcLast, R.bookTcMax, R.bookTcCount] at *
  omega

section
variable {c : Nat} (hc : c < 8)
include hc

theorem not_modeReg_of_windowReg {a : Nat} (h : windowReg c a) : ¬modeReg a := by
  simp only [windowReg, modeReg, logReg, R.bookMode, R.bookTcLast, R.bookTcMax, R.bookTcCount] at *
  omega

theorem not_inputReg_of_windowReg {a : Nat} (h : windowReg c a) : ¬inputReg c a := by
  simp only [windowReg, inputReg, logReg, R.pairClass, R.bookTcLast, R.bookTcMax, R.bookTcCount] at *
  omega

theorem not_windowReg_dirPage : ¬windowReg c R.dirPage.addr := by
  simp only [windowReg, R.dirPage, R.bookTcLast, R.bookTcMax, R.bookTcCount]
  omega

theorem not_inputReg_dirPage : ¬inputReg c R.dirPage.addr := by
  simp only [inputReg, logReg, R.dirPage, R.pairClass]
  omega

theorem not_startReg_wake : ¬startReg c (R.bookTcWake c).addr := by
  simp only [startReg, windowReg, modeReg, flipReg, inputReg, logReg, R.bookMode, R.dirPage, R.forceStatus, R.pairClass, R.bookTcWake, R.bookTcLast,
    R.bookTcMax, R.bookTcCount]
  omega

/-- Up to its flip, a start that is not skipped: the pending mode, the window, PAGE_IN (R107, R121, R59). -/
theorem State.startFlip_flipped (u : State) :
    let m := (u.cls c).startMode
    let v := ((u.applyMode c).latchStats c false (m == 2) (m == 0)).flip c 1
    PageInFlipped (startReg c) c ((u.modCls c .modeApplied).modCls c .windowEnded) v ∧
      Latched v c (u.cls c).winPub (u.cls c).winOver false (m == 2) (m == 0) (u.skipsAfter c false) := by
  intro m v
  have hmode := u.applyMode_cycle c
  have hwindow : ((u.applyMode c).cls c).winPub = (u.cls c).winPub ∧ ((u.applyMode c).cls c).winOver = (u.cls c).winOver := by
    rw [hmode.part ClassSt.winPub fun _ => rfl, hmode.part ClassSt.winOver fun _ => rfl, State.cls_modCls_same]
    generalize u.cls c = k
    exact ⟨rfl, rfl⟩
  have hskips : (u.applyMode c).skipsAfter c false = u.skipsAfter c false :=
    (hmode.skipsAfter (not_modeReg_of_windowReg hc (.inr (.inr rfl))) false).trans (u.skipsAfter_modCls ..)
  obtain ⟨hlatched, hstats⟩ := (u.applyMode c).latchStats_latched c false (m == 2) (m == 0)
  rw [hwindow.1, hwindow.2, hskips] at hlatched
  have hflip := ((u.applyMode c).latchStats c false (m == 2) (m == 0)).flip_flipped hc
  refine ⟨?_, hlatched.kept hflip.kept fun _ => not_flipReg_of_windowReg⟩
  exact (((hflip.mono fun _ h => .inr (.inr (.inl h))).after hstats (not_windowReg_dirPage hc) fun _ h => .inr (.inl h)).after
    (hmode.modCls_congr c ClassSt.windowEnded_cycle) (by unfold modeReg logReg; decide) fun _ => .inl)

theorem State.startClass_unskipped {s u : State} {t : Nat} (hu : u = s.startTaken c t) (hidle : (s.cls c).inFlight = false)
    (harmed : s.flag R.bookTurnArmed = false) (hpend : s.book.pend = []) :
    Latched (s.startClass c t) c (u.cls c).winPub (u.cls c).winOver false ((u.cls c).startMode == 2) ((u.cls c).startMode == 0) (u.skipsAfter c false) ∧
    ((u.cls c).startMode = 1 ∨ (u.cls c).startMode = 3 →
      PageInFlipped (startReg c) c (((u.modCls c .modeApplied).modCls c .windowEnded).modCls c (·.flown t (s.nextWake c))) (s.startClass c t) ∧
      (s.startClass c t).crossTaken c) ∧
    (¬((u.cls c).startMode = 1 ∨ (u.cls c).startMode = 3) →
      PageInFlipped (startReg c) c ((u.modCls c .modeApplied).modCls c .windowEnded) (s.startClass c t)) := by
  obtain ⟨hreg, hwake, hbook, -⟩ := s.startTaken_moved c t
  have hcls := s.startTaken_cls c t
  rw [← hu] at hreg hwake hbook hcls
  have hfly : ¬(u.cls c).inFlight = true := by rw [hcls, ClassSt.begunAt_inFlight, hidle]; exact Bool.false_ne_true
  have hunarmed : u.flag R.bookTurnArmed = false := by
    rw [State.flag, State.fld, hreg _ (by simp only [R.bookTurnArmed, R.bookTcWake]; omega)]
    exact harmed
  obtain ⟨hflip, hlatched⟩ := u.startFlip_flipped hc
  unfold State.startClass
  extract_lets taken timed _ _ _ turned applied m stats pended flipped k stopped
  have htimed : timed = u := hu.symm
  clear_value timed
  subst htimed
  rw [if_neg hfly]
  have happlied : applied = timed.applyMode c := congrArg (State.applyMode · c) (State.turnAt_unarmed hunarmed c t)
  have hm : m = (timed.cls c).startMode := by
    have hmode := (timed.applyMode_cycle c).part ClassSt.mode (fun _ => rfl) c
    rw [State.cls_modCls_same, ← happlied] at hmode
    exact hmode
  have hstats : stats = (timed.applyMode c).latchStats c false ((timed.cls c).startMode == 2) ((timed.cls c).startMode == 0) := by
    rw [← hm, ← happlied]
  have hquiet : stats.book.pend = [] := by
    rw [hstats, ((timed.applyMode c).latchStats_latched c _ _ _).2.book, State.modCls_book, (timed.applyMode_cycle c).book, State.modCls_book, hbook, hpend]
  have hflipped : flipped = stats.flip c 1 := by
    have hpended : pended = stats := State.startPend_nothing hquiet ..
    have hstill : (pended.flip c 1).book.pend = [] := by rw [hpended, (stats.flip_flipped hc).kept.book, hquiet]
    exact (State.applied_nothing hstill ..).trans (by rw [hpended])
  rw [← hstats, ← hflipped] at hflip hlatched
  have hwake' : flipped.fld (R.bookTcWakeWake c) = s.nextWake c := by
    rw [hflip.kept.fld (f := R.bookTcWakeWake c) (not_startReg_wake hc), State.fld_modCls, State.fld_modCls, hwake]
  rw [hwake', hm]
  have hstopped : CycleKept (fun _ => False) flipped stopped := .ite (.modCls _ c fun _ => rfl) (.refl _)
  clear_value stopped flipped
  by_cases hruns : (timed.cls c).startMode = 1 ∨ (timed.cls c).startMode = 3
  · rw [if_pos hruns]
    generalize hv : State.crossTake _ c = v
    have hv : (flipped.modCls c (·.flown t (s.nextWake c))).crossTake c = v := hv
    have htaken := (flipped.modCls c (·.flown t (s.nextWake c))).crossTake_cycle (A := fun _ => False) c
    rw [hv] at htaken
    refine ⟨(hlatched.modCls c _).kept htaken fun _ _ => id, fun _ => ⟨?_, hv ▸ State.crossTake_taken _ c⟩, fun h => absurd hruns h⟩
    exact (hflip.modCls_congr c fun k => k.flown_cycle t _).before htaken id fun _ => False.elim
  · rw [if_neg hruns]
    have hsent := stopped.sendInput_cycle c (if (timed.cls c).startMode = 0 then 3 else 2)
    refine ⟨(hlatched.kept hstopped fun _ _ => id).kept hsent fun _ => not_inputReg_of_windowReg hc, fun h => absurd h hruns, fun _ => ?_⟩
    exact (hflip.before hstopped id fun _ => False.elim).before hsent (not_inputReg_dirPage hc) fun _ h => .inr (.inr (.inr h))

end

/-! ### The command -/

/-- What every nominal start brings on the module that runs the program (R86, R92). -/
structure NominalStart (s t : State) (c T : Nat) : Prop where
  wake : t.fld (R.bookTcWakeWake c) = s.nextWake c
  begun : (t.cls c).begun = true
  start : (t.cls c).start = T
  pubDone : (t.cls c).pubDone = false
  pageOut : t.front c 0 = s.front c 0
  fab : t.fab = s.fab

theorem NominalStart.of_cycle {s t : State} {c T : Nat} {k : ClassSt} (h : (t.cls c).cycle = k.cycle) (hbegun : k.begun = true) (hstart : k.start = T)
    (hdone : k.pubDone = false) (hwake : t.fld (R.bookTcWakeWake c) = s.nextWake c) (hout : t.front c 0 = s.front c 0) (hfab : t.fab = s.fab) :
    NominalStart s t c T :=
  ⟨hwake, (congrArg ClassSt.begun h).trans hbegun, (congrArg ClassSt.start h).trans hstart, (congrArg ClassSt.pubDone h).trans hdone, hout, hfab⟩

theorem State.skipsAfter_true (s : State) (c : Nat) :
    s.skipsAfter c true = min (s.fld (R.bookTcCountSkips c) + 1) (2 ^ (R.bookTcCountSkips c).len - 1) := if_pos rfl

theorem State.skipsAfter_false (s : State) (c : Nat) : s.skipsAfter c false = s.fld (R.bookTcCountSkips c) := if_neg Bool.false_ne_true

theorem State.startTaken_skipsAfter (s : State) (c t : Nat) (skip : Bool) : (s.startTaken c t).skipsAfter c skip = s.skipsAfter c skip := by
  have hfld : (s.startTaken c t).fld (R.bookTcCountSkips c) = s.fld (R.bookTcCountSkips c) := by
    rw [State.fld, (s.startTaken_moved c t).1 _ (by simp only [R.bookTcCountSkips, R.bookTcWake]; omega)]
    rfl
  rw [State.skipsAfter, hfld]
  rfl

theorem State.startTaken_front {s : State} {c : Nat} (hc : c < 8) (t d kind : Nat) : (s.startTaken c t).front d kind = s.front d kind :=
  State.front_of_reg ((s.startTaken_moved c t).1 _ (by simp only [R.dirPage, R.bookTcWake]; omega)) d kind

theorem ClassSt.begunAt_window (k : ClassSt) (t now : Nat) :
    (k.begunAt t now).winPub = k.winPub ∧ (k.begunAt t now).winOver = k.winOver ∧ (k.begunAt t now).startMode = k.startMode := ⟨rfl, rfl, rfl⟩

section
variable {s : State} {c : Nat} (hc : c < 8) {k : ClassSt} (hk : s.cls c = k) {T : Nat}
include hc hk

omit hk hc in
/-- A flip after which class `c` has the cycle of `k`, from a state with the pages, the Wake number and the fabric of the start taken. -/
theorem PageInFlipped.nominalStart {r t : State} (h : PageInFlipped (startReg c) c r t) {k : ClassSt} (hcycle : (t.cls c).cycle = k.cycle)
    (hbegun : k.begun = true) (hstart : k.start = T) (hdone : k.pubDone = false)
    (hwake : r.fld (R.bookTcWakeWake c) = (s.startTaken c T).fld (R.bookTcWakeWake c))
    (hfront : ∀ kind, r.front c kind = (s.startTaken c T).front c kind) (hfab : r.fab = (s.startTaken c T).fab) (hc : c < 8) :
    NominalStart s t c T ∧ t.front c 1 = !s.front c 1 := by
  obtain ⟨-, htaken, -, hsame⟩ := s.startTaken_moved c T
  have hout := h.pageOut
  have hin := h.pageIn
  rw [hfront, State.startTaken_front hc] at hout hin
  exact ⟨.of_cycle hcycle hbegun hstart hdone (((h.kept.fld (f := R.bookTcWakeWake c) (not_startReg_wake hc)).trans hwake).trans htaken) hout ((h.kept.fab.trans hfab).trans hsame), hin⟩

/-- The start of a class in flight (R95, R96, R97). -/
theorem State.startClass_skips (hfly : k.inFlight = true) :
    NominalStart s (s.startClass c T) c T ∧ Latched (s.startClass c T) c k.winPub k.winOver true false false (s.skipsAfter c true) ∧
      (s.startClass c T).front c 1 = s.front c 1 ∧ ∃ now, ((s.startClass c T).cls c).cycle = ((k.begunAt T now).skippedOnce.windowEnded).cycle := by
  obtain ⟨-, hwake, -, hfab⟩ := s.startTaken_moved c T
  obtain ⟨hkept, hlatched⟩ := State.startClass_skipped hc (t := T) (hk ▸ hfly)
  have hcls := s.startTaken_cls c T
  rw [hk] at hcls
  obtain ⟨hpub, hover, -⟩ := k.begunAt_window T (s.takeWake c T).stampNow
  rw [State.startTaken_skipsAfter, hcls, hpub, hover] at hlatched
  have hcycle := hkept.cls c
  rw [State.cls_modCls_same, State.cls_modCls_same, hcls] at hcycle
  have hpages : ∀ kind, (s.startClass c T).front c kind = s.front c kind := fun kind => by
    rw [hkept.front (not_skipReg_dirPage c), State.front_modCls, State.front_modCls, State.startTaken_front hc]
  have hwake' : (s.startClass c T).fld (R.bookTcWakeWake c) = s.nextWake c := by
    rw [hkept.fld (f := R.bookTcWakeWake c) (not_skipReg_wake c), State.fld_modCls, State.fld_modCls, hwake]
  have hfab' : (s.startClass c T).fab = s.fab := by rw [hkept.fab, State.modCls_fab, State.modCls_fab, hfab]
  exact ⟨.of_cycle hcycle rfl rfl rfl hwake' (hpages 0) hfab', hlatched, hpages 1, _, hcycle⟩

/-- The start of a class that is not in flight (R59, R86, R107): where it runs or steps, its cycle begins and its crossing copy is taken. -/
theorem State.startClass_flips (hidle : k.inFlight = false) (harmed : s.flag R.bookTurnArmed = false) (hpend : s.book.pend = []) :
    NominalStart s (s.startClass c T) c T ∧
      Latched (s.startClass c T) c k.winPub k.winOver false (k.startMode == 2) (k.startMode == 0) (s.skipsAfter c false) ∧
      (s.startClass c T).front c 1 = (!s.front c 1) ∧
      (k.startMode = 1 ∨ k.startMode = 3 → (s.startClass c T).crossTaken c ∧
        ∃ now, ((s.startClass c T).cls c).cycle = ((k.begunAt T now).modeApplied.windowEnded.flown T (s.nextWake c)).cycle) ∧
      (¬(k.startMode = 1 ∨ k.startMode = 3) → ∃ now, ((s.startClass c T).cls c).cycle = (k.begunAt T now).modeApplied.windowEnded.cycle) := by
  obtain ⟨hlatched, hruns, hstands⟩ := State.startClass_unskipped hc (u := s.startTaken c T) rfl (hk ▸ hidle) harmed hpend
  have hcls := s.startTaken_cls c T
  rw [hk] at hcls
  obtain ⟨hpub, hover, hmode⟩ := k.begunAt_window T (s.takeWake c T).stampNow
  rw [State.startTaken_skipsAfter, hcls, hpub, hover, hmode] at hlatched
  rw [hcls, hmode] at hruns hstands
  by_cases hrun : k.startMode = 1 ∨ k.startMode = 3
  · obtain ⟨hflip, htaken⟩ := hruns hrun
    have hcycle := hflip.kept.cls c
    rw [State.cls_modCls_same, State.cls_modCls_same, State.cls_modCls_same, hcls] at hcycle
    obtain ⟨hs, hin⟩ := hflip.nominalStart (s := s) (T := T) hcycle rfl rfl rfl (by rw [State.fld_modCls, State.fld_modCls, State.fld_modCls])
      (fun _ => by rw [State.front_modCls, State.front_modCls, State.front_modCls]) (by rw [State.modCls_fab, State.modCls_fab, State.modCls_fab]) hc
    exact ⟨hs, hlatched, hin, fun _ => ⟨htaken, _, hcycle⟩, fun h => absurd hrun h⟩
  · have hflip := hstands hrun
    have hcycle := hflip.kept.cls c
    rw [State.cls_modCls_same, State.cls_modCls_same, hcls] at hcycle
    obtain ⟨hs, hin⟩ := hflip.nominalStart (s := s) (T := T) hcycle rfl rfl rfl (by rw [State.fld_modCls, State.fld_modCls])
      (fun _ => by rw [State.front_modCls, State.front_modCls]) (by rw [State.modCls_fab, State.modCls_fab]) hc
    exact ⟨hs, hlatched, hin, fun h => absurd h hrun, fun _ => ⟨_, hcycle⟩⟩

end

/-- A start of a follower takes the Wake number and flips (R93). -/
theorem State.followStart (s : State) {c : Nat} (hc : c < 8) (T : Nat) : NominalStart s ((s.startTaken c T).followFlip c 1) c T ∧
    ((s.startTaken c T).followFlip c 1).front c 1 = !s.front c 1 := by
  obtain ⟨-, hwake, -, hfab⟩ := s.startTaken_moved c T
  have hflip := (s.startTaken c T).followFlip_flipped hc
  have hcycle := hflip.kept.cls c
  rw [State.startTaken_cls] at hcycle
  have hnow := hflip.kept.fld (f := R.bookTcWakeWake c) (by simp only [flipReg, R.dirPage, R.forceStatus, R.bookTcWakeWake]; omega)
  exact ⟨.of_cycle hcycle rfl rfl rfl (hnow.trans hwake) (hflip.pageOut.trans (State.startTaken_front hc ..)) (hflip.kept.fab.trans hfab),
    by rw [hflip.pageIn, State.startTaken_front hc]⟩

/-- No sounding waits: none is written at the flip (R383). -/
theorem State.fabWaiting_none {s : State} (h : ∀ u, (s.sub u).waits = false) (c : Nat) : s.fabWaiting c = s :=
  List.foldlRecOn _ _ (motive := (· = s)) rfl fun v hv u _ => by rw [hv, h u, if_neg fun h => Bool.false_ne_true h.1]

theorem State.crossAfter_cycle {A : Nat → Prop} (s : State) (z t : Nat) : CycleKept A s (s.crossAfter z t) :=
  .foldl (fun s c => .ite (s.crossTake_cycle c) (.refl s)) _ s

/-- The copies of the other classes taken anew leave what the class itself took. -/
theorem State.crossAfter_taken {s : State} {c : Nat} (h : s.crossTaken c) (t : Nat) : (s.crossAfter c t).crossTaken c := by
  obtain ⟨x, r, n, ht, hx⟩ := s.crossAfter_eq c t
  have hcls : ({ s with classes := x, reports := r, free := n } : State).cls c = s.cls c := hx
  have hturned : ({ s with classes := x, reports := r, free := n } : State).turned c = s.turned c := by rw [State.turned, hcls]; rfl
  have hcross : ({ s with classes := x, reports := r, free := n } : State).crossOf c = s.crossOf c := by
    rw [State.crossOf, State.clsBook, hturned]
    rfl
  rw [ht]
  intro e he hok
  rw [hcross] at he
  rw [hcls]
  exact h e he hok

theorem NominalStart.kept {s v t : State} {c T : Nat} (h : NominalStart s v c T) (hk : CycleKept (fun _ => False) v t) : NominalStart s t c T :=
  .of_cycle (hk.cls c) h.begun h.start h.pubDone ((hk.fld id).trans h.wake) ((hk.front id c 0).trans h.pageOut) (hk.fab.trans h.fab)

section
variable (s : State) (T : Nat)

theorem State.to2_front (c kind : Nat) : (s.to2 T).front c kind = s.front c kind :=
  State.front_of_reg (by rw [State.reg, State.to2_regs]; rfl) c kind

theorem State.to2_flag (f : Fld) : (s.to2 T).flag f = s.flag f := by rw [State.flag, State.to2_fld]; rfl

theorem State.to2_isActive : (s.to2 T).isActive = s.isActive := by rw [State.isActive, State.pstate, State.to2_fld]; rfl

theorem State.to2_isFollower : (s.to2 T).isFollower = s.isFollower := by rw [State.isFollower, State.pstate, State.to2_fld]; rfl

theorem State.to2_skipsAfter (c : Nat) (skip : Bool) : (s.to2 T).skipsAfter c skip = s.skipsAfter c skip := by
  rw [State.skipsAfter, State.to2_fld]; rfl

theorem State.to2_nextWake (c : Nat) : (s.to2 T).nextWake c = s.nextWake c := by rw [State.nextWake, State.to2_fld, State.to2_cls]; rfl

theorem NominalStart.of_to2 {s t : State} {c T : Nat} (h : NominalStart (s.to2 T) t c T) : NominalStart s t c T :=
  ⟨h.wake.trans (s.to2_nextWake T c), h.begun, h.start, h.pubDone, h.pageOut.trans (s.to2_front T c 0), h.fab.trans (s.to2_fab T)⟩

end

/-- A class with no publication at an instant. -/
theorem State.pubDue_none {s : State} {d T : Nat} (h : s.used d = true → (s.cls d).begun = true → (s.cls d).pubDone = true ∨ s.pubInstant d ≠ T) :
    s.pubDue d T = s := by
  rw [State.pubDue, if_neg]
  rintro ⟨hused, hbegun, hdone, hinst⟩
  exact (h hused hbegun).elim hdone fun hne => hne hinst

/-- The command at a nominal start where no other class publishes (R86, R91). -/
theorem State.execClassNominalStart_eq {s : State} {c : Fin 8} {T : Nat} (hstart : s.isStart c.val T = true)
    (hlater : (s.cls c.val).stepped = false → (s.cls c.val).begun = true → (s.cls c.val).start < T) (hstep : (s.cls c.val).stepped = true → s.tb 2 ≤ T)
    (hrun : s.book.running.isSome = true)
    (hothers : ∀ d < 8, d ≠ c.val → s.used d = true → (s.cls d).begun = true → (s.cls d).pubDone = true ∨ s.pubInstant d ≠ T) :
    execClassNominalStart c T s =
      if (s.to2 T).runs then .next ((((s.to2 T).startClass c.val T).crossAfter c.val T).fabWaiting c.val)
      else if (s.to2 T).isFollower then .next ((((s.to2 T).startTaken c.val T).followFlip c.val 1).fabWaiting c.val)
      else .next (s.to2 T) := by
  have hfold : (List.range 8).foldl (fun s d => if d = c.val then s else s.pubDue d T) (s.to2 T) = s.to2 T := by
    refine List.foldlRecOn _ _ (motive := (· = s.to2 T)) rfl fun v hv d hd => ?_
    rw [hv]
    split_ifs with hdc
    · rfl
    · refine State.pubDue_none fun hused hbegun => ?_
      rw [State.used, State.to2_fld] at hused
      rw [State.to2_cls] at hbegun ⊢
      rw [State.pubInstant, State.periodNs, State.marginNs, State.to2_cls, State.to2_fld, State.to2_fld]
      exact hothers d (List.mem_range.1 hd) hdc hused hbegun
  have hnow : ¬(¬s.isStart c.val T = true ∨ (if (s.cls c.val).stepped = true then T < s.tb 2 else (s.cls c.val).begun = true ∧ T ≤ (s.cls c.val).start) ∨
      s.book.running.isNone = true) := by
    rintro (h | h | h)
    · exact h hstart
    · cases hs : (s.cls c.val).stepped with
      | true => rw [if_pos hs] at h; exact absurd (hstep hs) (by omega)
      | false =>
        rw [if_neg (by rw [hs]; exact Bool.false_ne_true)] at h
        exact absurd (hlater hs h.1) (by omega)
    · rw [Option.isNone_iff_eq_none] at h
      rw [h] at hrun
      exact Bool.false_ne_true hrun
  unfold execClassNominalStart
  dsimp only
  rw [if_neg hnow, hfold]
  rfl

/-- A module that follows runs no program as the active. -/
theorem State.not_isActive_of_isFollower {s : State} (h : s.isFollower = true) : s.isActive = false := by
  simp only [State.isFollower, State.isActive, psStandby, psSyncing, psActive, psSolo, Bool.or_eq_true, beq_iff_eq, Bool.or_eq_false_iff,
    beq_eq_false_iff_ne] at *
  omega

/-- No sounding waits after a start either. -/
theorem NominalStart.fabWaiting_none {s v : State} {c T : Nat} (h : NominalStart s v c T) (hquiet : ∀ u, (s.sub u).waits = false) :
    v.fabWaiting c = v :=
  State.fabWaiting_none (fun u => by rw [State.sub, h.fab]; exact hquiet u) c

section
variable {s t : State} {c T : Nat} (hc : c < 8) (hquiet : ∀ u, (s.sub u).waits = false)
  (ht : t = (((s.to2 T).startClass c T).crossAfter c T).fabWaiting c)
include hc hquiet ht

/-- A nominal start on the active that finds its class in flight. -/
theorem State.activeStart_skips (hfly : (s.cls c).inFlight = true) :
    NominalStart s t c T ∧ Latched t c (s.cls c).winPub (s.cls c).winOver true false false (s.skipsAfter c true) ∧ t.front c 1 = s.front c 1 ∧
      ∃ now, (t.cls c).cycle = (((s.cls c).begunAt T now).skippedOnce.windowEnded).cycle := by
  obtain ⟨hstart, hlatched, hin, now, hcycle⟩ := State.startClass_skips hc (s.to2_cls T c) (T := T) hfly
  have hcross := ((s.to2 T).startClass c T).crossAfter_cycle (A := fun _ => False) c T
  have hs := hstart.of_to2.kept hcross
  rw [hs.fabWaiting_none hquiet] at ht
  rw [State.to2_skipsAfter] at hlatched
  rw [← ht] at hcross hs
  exact ⟨hs, hlatched.kept hcross fun _ _ => id, by rw [hcross.front id, hin, State.to2_front], now, (hcross.cls c).trans hcycle⟩

/-- A nominal start on the active that finds its class not in flight. -/
theorem State.activeStart_flips (hidle : (s.cls c).inFlight = false) (harmed : s.flag R.bookTurnArmed = false) (hpend : s.book.pend = []) :
    let k := s.cls c
    NominalStart s t c T ∧ Latched t c k.winPub k.winOver false (k.startMode == 2) (k.startMode == 0) (s.skipsAfter c false) ∧
      t.front c 1 = (!s.front c 1) ∧
      (k.startMode = 1 ∨ k.startMode = 3 → t.crossTaken c ∧
        ∃ now, (t.cls c).cycle = ((k.begunAt T now).modeApplied.windowEnded.flown T (s.nextWake c)).cycle) ∧
      (¬(k.startMode = 1 ∨ k.startMode = 3) → ∃ now, (t.cls c).cycle = (k.begunAt T now).modeApplied.windowEnded.cycle) := by
  intro k
  obtain ⟨hstart, hlatched, hin, hruns, hstands⟩ := State.startClass_flips hc (s.to2_cls T c) (T := T) hidle ((s.to2_flag T _).trans harmed)
    ((congrArg BookSt.pend (s.to2_book T)).trans hpend)
  have hcross := ((s.to2 T).startClass c T).crossAfter_cycle (A := fun _ => False) c T
  have hs := hstart.of_to2.kept hcross
  rw [hs.fabWaiting_none hquiet] at ht
  rw [State.to2_skipsAfter] at hlatched
  rw [State.to2_nextWake] at hruns
  rw [← ht] at hcross hs
  refine ⟨hs, hlatched.kept hcross fun _ _ => id, by rw [hcross.front id, hin, State.to2_front], fun h => ?_, fun h => ?_⟩
  · obtain ⟨htaken, now, hcycle⟩ := hruns h
    exact ⟨ht ▸ State.crossAfter_taken htaken T, now, (hcross.cls c).trans hcycle⟩
  · obtain ⟨now, hcycle⟩ := hstands h
    exact ⟨now, (hcross.cls c).trans hcycle⟩

end

/-- A class that a start left as `k` describes: what the statement reads of it. -/
theorem ClassSt.of_cycle {k k' : ClassSt} (h : k.cycle = k'.cycle) :
    k.mode = k'.mode ∧ k.modeTo = k'.modeTo ∧ k.inFlight = k'.inFlight ∧ k.cycStart = k'.cycStart ∧ k.cycWake = k'.cycWake ∧
      k.cycSkips = k'.cycSkips ∧ k.crossDone = k'.crossDone := by
  have hpart : ∀ {α : Type} (f : ClassSt → α), (∀ k, f k.cycle = f k) → f k = f k' := fun f hf => by rw [← hf k, h, hf]
  exact ⟨hpart ClassSt.mode fun _ => rfl, hpart ClassSt.modeTo fun _ => rfl, hpart ClassSt.inFlight fun _ => rfl,
    hpart ClassSt.cycStart fun _ => rfl, hpart ClassSt.cycWake fun _ => rfl, hpart ClassSt.cycSkips fun _ => rfl, hpart ClassSt.crossDone fun _ => rfl⟩

/-- Settles O32: what else falls on the start leaves the state; then the start is skipped, or it flips PAGE_IN and its mode decides whether a cycle
begins; on a follower it takes the Wake number and flips. -/
theorem classNominalStarts : Obligations.ClassNominalStarts := by
  unfold Obligations.ClassNominalStarts
  intro s c T hstart hlater hstep hrun harmed hpend hquiet hothers
  have hexec := State.execClassNominalStart_eq hstart hlater hstep hrun hothers
  have hskips := State.activeStart_skips c.isLt hquiet (T := T) rfl
  have hflips := fun hidle => State.activeStart_flips c.isLt hquiet (T := T) rfl hidle harmed hpend
  have hwake : s.nextWake c.val = if (s.cls c.val).begun = true then (s.fld (R.bookTcWakeWake c.val) + 1) % 2 ^ 48 else 0 := rfl
  generalize s.cls c.val = k at *
  intro _ wake mode
  have hmode : k.startMode = mode := rfl
  have hwake : s.nextWake c.val = wake := hwake
  clear_value wake mode
  refine ⟨fun hact => ⟨_, hexec.trans (if_pos ?runs), ?_⟩, fun hfollow => ⟨_, hexec.trans ((if_neg ?idle).trans (if_pos ?follows)), ?_⟩⟩
  case runs => rw [State.runs, State.to2_book, hrun, State.to2_isActive, hact]; rfl
  case idle => rw [State.runs, State.to2_isActive, State.not_isActive_of_isFollower hfollow, Bool.and_false]; exact Bool.false_ne_true
  case follows => rw [State.to2_isFollower, hfollow]
  · generalize (((s.to2 T).startClass c.val T).crossAfter c.val T).fabWaiting c.val = t at *
    cases hfly : k.inFlight with
    | true =>
      obtain ⟨hs, hl, hin, now, hcycle⟩ := hskips hfly
      obtain ⟨hm, hto, hfly', -, -, hskips, -⟩ := ClassSt.of_cycle hcycle
      refine ⟨hs.wake.trans hwake, hs.begun, hs.start, hs.pubDone, hs.pageOut, hl.lastPublished, hl.lastOverrun, hl.lastSkip, fun _ => ?_,
        fun h => absurd h (by decide)⟩
      exact ⟨hin, hfly'.trans hfly, hskips, hm, hto, hl.countSkips.trans (s.skipsAfter_true c.val)⟩
    | false =>
      obtain ⟨hs, hl, hin, hruns, hstands⟩ := hflips hfly
      rw [hmode] at hl hruns hstands
      refine ⟨hs.wake.trans hwake, hs.begun, hs.start, hs.pubDone, hs.pageOut, hl.lastPublished, hl.lastOverrun, hl.lastSkip,
        fun h => absurd h (by decide), fun _ => ?_⟩
      have hcount := hl.countSkips.trans (s.skipsAfter_false c.val)
      by_cases hrun : mode = 1 ∨ mode = 3
      · obtain ⟨htaken, now, hcycle⟩ := hruns hrun
        obtain ⟨hm, hto, hfly', hfrom, hnum, hskips, hcross⟩ := ClassSt.of_cycle hcycle
        exact ⟨hin, hm.trans hmode, hto, hfly'.trans (by rcases hrun with h | h <;> rw [h] <;> rfl), hcount, hl.lastHeld, hl.lastStopped,
          fun _ => ⟨hfrom, hnum.trans hwake, hskips, hcross, htaken⟩⟩
      · obtain ⟨now, hcycle⟩ := hstands hrun
        obtain ⟨hm, hto, hfly', -⟩ := ClassSt.of_cycle hcycle
        exact ⟨hin, hm.trans hmode, hto, (hfly'.trans hfly).trans (by simpa using hrun), hcount, hl.lastHeld, hl.lastStopped, fun h => absurd h hrun⟩
  · obtain ⟨hs, hin⟩ := (s.to2 T).followStart c.isLt T
    have hs := hs.of_to2
    rw [hs.fabWaiting_none hquiet]
    exact ⟨hs.wake.trans hwake, hs.start, by rw [hin, State.to2_front], hs.pageOut⟩

end Sys2Proof.Machine
end

section
/-! PROOFS. The word of every lane instruction decodes to that instruction (O14). -/

namespace Sys2Proof.Machine

/-! ### The fields of a word as the decoder reads them (R144, R145) -/

theorem wordField_of_wordBits {w : BitVec 32} {lo len : Nat} {x : BitVec len} (h : wordBits w lo len = x.toNat) : wordField w lo len = x := by
  rw [wordField, h, BitVec.ofNat_toNat, BitVec.setWidth_eq]

/-- The low three bits of a six-bit field name a predicate (R146). -/
theorem wordField_of_low {w : BitVec 32} {lo : Nat} {x : BitVec 6} (h : wordBits w lo 3 = x.toNat % 8) : wordField w lo 3 = x.setWidth 3 :=
  wordField_of_wordBits (by rw [h, BitVec.toNat_setWidth])

/-- A predicate's number in the low bits of a six-bit field (R146). -/
theorem setWidth_low (x : BitVec 3) : (x.setWidth 6).setWidth 3 = x := by
  rw [BitVec.setWidth_setWidth_of_le _ (by decide), BitVec.setWidth_eq]

section
variable {op : Nat} {neg : Bool} {pr t : BitVec 3} {d a b : BitVec 6} {w : BitVec 32}

theorem wordR_decoded (hw : wordR op neg pr d a b = w) (hop : op < 256) :
    wordBits w 24 8 = op ∧ wordNot w = neg ∧ wordField w 20 3 = pr ∧ wordField w 14 6 = d ∧ wordField w 8 6 = a ∧ wordField w 2 6 = b ∧
      wordField w 8 3 = a.setWidth 3 := by
  subst hw
  obtain ⟨h1, h2, h3, h4, h5, h6⟩ := wordR_fields hop neg pr d a b
  refine ⟨h1, h3, wordField_of_wordBits h2, wordField_of_wordBits h4, wordField_of_wordBits h5, wordField_of_wordBits h6, wordField_of_low ?_⟩
  rw [← h5, wordBits, wordBits]; omega

theorem wordC_decoded (hw : wordC op neg pr t a b = w) (hop : op < 256) :
    wordBits w 24 8 = op ∧ wordNot w = neg ∧ wordField w 20 3 = pr ∧ wordField w 14 3 = t ∧ wordField w 8 6 = a ∧ wordField w 2 6 = b ∧
      wordField w 8 3 = a.setWidth 3 ∧ wordField w 2 3 = b.setWidth 3 := by
  subst hw
  obtain ⟨h1, h2, h3, h4, h5, h6, h7, h8⟩ := wordC_fields hop neg pr t a b
  exact ⟨h1, h3, wordField_of_wordBits h2, wordField_of_wordBits h4, wordField_of_wordBits h5, wordField_of_wordBits h6,
    wordField_of_low h7, wordField_of_low h8⟩

theorem wordI_decoded {imm : BitVec 14} (hw : wordI op neg pr d imm = w) (hop : op < 256) :
    wordBits w 24 8 = op ∧ wordNot w = neg ∧ wordField w 20 3 = pr ∧ wordField w 14 6 = d ∧ wordField w 0 14 = imm := by
  subst hw
  obtain ⟨h1, h2, h3, h4, h5⟩ := wordI_fields hop neg pr d imm
  exact ⟨h1, h3, wordField_of_wordBits h2, wordField_of_wordBits h4, wordField_of_wordBits h5⟩

theorem wordM_decoded {x : BitVec 12} (hw : wordM op neg pr d x = w) (hop : op < 256) :
    wordBits w 24 8 = op ∧ wordNot w = neg ∧ wordField w 20 3 = pr ∧ wordField w 14 6 = d ∧ wordField w 0 12 = x := by
  subst hw
  obtain ⟨h1, h2, h3, h4, h5⟩ := wordM_fields hop neg pr d x
  exact ⟨h1, h3, wordField_of_wordBits h2, wordField_of_wordBits h4, wordField_of_wordBits h5⟩

theorem wordS_decoded {conn : BitVec 8} (hw : wordS op neg pr d a conn = w) (hop : op < 256) :
    wordBits w 24 8 = op ∧ wordNot w = neg ∧ wordField w 20 3 = pr ∧ wordField w 14 6 = d ∧ wordField w 14 3 = d.setWidth 3 ∧
      wordField w 8 6 = a ∧ wordField w 0 8 = conn := by
  subst hw
  obtain ⟨h1, h2, h3, h4, h5, h6, h7⟩ := wordS_fields hop neg pr d a conn
  exact ⟨h1, h3, wordField_of_wordBits h2, wordField_of_wordBits h4, wordField_of_low h5, wordField_of_wordBits h6, wordField_of_wordBits h7⟩

end

/-- OP and the bits below it of any word (R144). -/
theorem wordBits_opRest (op : BitVec 8) (rest : BitVec 24) :
    wordBits (BitVec.ofNat 32 (op.toNat * 2 ^ 24 + rest.toNat)) 24 8 = op.toNat ∧
      wordBits (BitVec.ofNat 32 (op.toNat * 2 ^ 24 + rest.toNat)) 0 24 = rest.toNat := by
  have ho := op.isLt
  have hr := rest.isLt
  constructor <;> rw [wordBits_ofNat _ _ _ (by omega)] <;> omega

/-- A word whose opcode no table assigns decodes to UNASSIGNED_OPCODE (R141). -/
theorem decodeLaneWord_unassigned (l : Fin 8) {w : BitVec 32} (h : opAssigned (wordBits w 24 8) = false) :
    decodeLaneWord l w = .unassignedOpcode l (wordField w 24 8) (wordField w 0 24) := by
  unfold decodeLaneWord
  split
  case h_77 => rfl
  all_goals
    rename_i hop
    rw [hop] at h
    exact absurd h (by decide)

/-- Settles O14: the decoder reads the opcode and the fields of the instruction's format. -/
theorem laneWordsDecodeToTheirInstruction : Obligations.LaneWordsDecodeToTheirInstruction := by
  unfold Obligations.LaneWordsDecodeToTheirInstruction
  intro i l w h hop
  unfold Instr.laneWord at h
  split at h
  case h_78 => cases h
  all_goals
    simp only [Option.some.injEq, Prod.mk.injEq] at h
    obtain ⟨rfl, hw⟩ := h
  case h_77 op rest =>
    obtain ⟨h1, h2⟩ := wordBits_opRest op rest
    rw [← hw, decodeLaneWord_unassigned _ (by rw [h1]; exact hop _ _ rfl), wordField_of_wordBits h1, wordField_of_wordBits h2]
  -- format I: LDI, LDK, GET
  case h_4 | h_5 | h_6 =>
    obtain ⟨h1, h2, h3, h4, h5⟩ := wordI_decoded hw (by decide)
    rw [decodeLaneWord, h1, h2, h3, h4, h5]; rfl
  -- format M: LDF, STF
  case h_68 | h_69 =>
    obtain ⟨h1, h2, h3, h4, h5⟩ := wordM_decoded hw (by decide)
    rw [decodeLaneWord, h1, h2, h3, h4, h5]; rfl
  -- format S: LDSV, LDSM, STS, STSR
  case h_72 | h_73 | h_74 | h_75 =>
    obtain ⟨h1, h2, h3, h4, _, h6, h7⟩ := wordS_decoded hw (by decide)
    rw [decodeLaneWord, h1, h2, h3, h4, h6, h7]; rfl
  case h_76 => -- TSTC
    obtain ⟨h1, h2, h3, _, h5, _, h7⟩ := wordS_decoded hw (by decide)
    rw [decodeLaneWord, h1, h2, h3, h5, h7, setWidth_low]; rfl
  -- format C with predicate operands: PAND, POR, PNOT; PMOV
  case h_41 | h_42 =>
    obtain ⟨h1, h2, h3, h4, _, _, h7, h8⟩ := wordC_decoded hw (by decide)
    rw [decodeLaneWord, h1, h2, h3, h4, h7, h8, setWidth_low, setWidth_low]; rfl
  case h_43 =>
    obtain ⟨h1, h2, h3, h4, _, _, h7, _⟩ := wordC_decoded hw (by decide)
    rw [decodeLaneWord, h1, h2, h3, h4, h7, setWidth_low]; rfl
  case h_44 =>
    obtain ⟨h1, h2, h3, h4, _, _, h7⟩ := wordR_decoded hw (by decide)
    rw [decodeLaneWord, h1, h2, h3, h4, h7, setWidth_low]; rfl
  -- format C: the comparisons and TST
  case h_32 | h_33 | h_34 | h_35 | h_36 | h_37 | h_38 | h_39 | h_40 =>
    obtain ⟨h1, h2, h3, h4, h5, h6, _, _⟩ := wordC_decoded hw (by decide)
    rw [decodeLaneWord, h1, h2, h3, h4, h5, h6]; rfl
  -- format R: every other
  all_goals
    obtain ⟨h1, h2, h3, h4, h5, h6, _⟩ := wordR_decoded hw (by decide)
    rw [decodeLaneWord, h1, h2, h3, h4, h5, h6]; rfl

end Sys2Proof.Machine
end

section
/-! PROOFS. What the register and predicate instructions write (O1, O2, O3, O7). -/

namespace Sys2Proof.Machine

/-! ### A command for a lane instruction -/

section
variable {s : State} {l : Fin 8} {neg : Bool} {pr : BitVec 3} {c : Instr} {w : BitVec 32} {P : State → Prop}

theorem State.due_of_laneWord (hw : c.laneWord = some (l, w)) : s.due c = s.laneDue l.val w := by
  rw [State.due, hw]; rfl

/-- A command that issues the word of its lane instruction. -/
theorem State.issues_of_issue (hw : c.laneWord = some (l, w)) (hx : exec c s = .next (s.laneIssue l.val w))
    (h : s.laneDue l.val w = true → P (s.laneIssue l.val w)) : s.issues c P :=
  fun hd => ⟨_, hx, h (State.due_of_laneWord hw ▸ hd)⟩

variable {op : Nat} (h : s.laneTakes l neg pr = true)
include h

/-- A register instruction of format R (R147 to R151). -/
theorem State.issues_aluR {d a b : BitVec 6} {v : W64} (hw : c.laneWord = some (l, wordR op neg pr d a b))
    (hx : exec c s = .next (s.laneIssue l.val (wordR op neg pr d a b))) (hop : op < 256 ∧ op ≠ 1)
    (hv : aluX op (s.laneX l d) (s.laneX l a) (s.laneX l b) = some v) (hP : ∀ t, LaneWrites s t l d v → P t) : s.issues c P :=
  State.issues_of_issue hw hx fun hd => hP _ (State.laneIssue_aluR h hd hop.1 hop.2 hv)

/-- A predicate instruction of format C (R150). -/
theorem State.issues_aluC {p : BitVec 3} {a b : BitVec 6} {v : Bool} (hw : c.laneWord = some (l, wordC op neg pr p a b))
    (hx : exec c s = .next (s.laneIssue l.val (wordC op neg pr p a b))) (hop : op < 256 ∧ op ≠ 1) (hn : ∀ x y z, aluX op x y z = none)
    (hv : aluP op (s.laneX l a) (s.laneX l b) ((s.lane l.val).main.pr (a.toNat % 8)) ((s.lane l.val).main.pr (b.toNat % 8)) = some v) :
    s.issues c fun t => LaneDecides s t l p v :=
  State.issues_of_issue hw hx fun hd => State.laneIssue_aluC h hd hop.1 hop.2 hn hv

end

/-! ### Integer results (R148, R156) -/

/-- A number that INT64 holds is the value of its word. -/
theorem toInt_ofInt64 {n : Int} (h : -(2 ^ 63) ≤ n ∧ n < 2 ^ 63) : (BitVec.ofInt 64 n).toInt = n :=
  BitVec.toInt_ofInt_eq_self (by decide) h.1 h.2

theorem toInt_bounds64 (x : W64) : -(2 ^ 63) ≤ x.toInt ∧ x.toInt < 2 ^ 63 := ⟨BitVec.le_toInt x, BitVec.toInt_lt⟩

/-- Saturation gives the nearest number of INT64 (R156). -/
theorem satI64_toInt (n : Int) : (satI64 n).toInt = clamp64 n := by
  unfold satI64 clamp64 i64Max i64Min
  rw [toInt_ofInt64] <;> split_ifs <;> omega

theorem clamp64_of_mem {n : Int} (h : -(2 ^ 63) ≤ n ∧ n < 2 ^ 63) : clamp64 n = n := by
  unfold clamp64; omega

theorem toInt_eq_zero_iff (y : W64) : y.toInt = 0 ↔ y = 0 := by
  rw [← BitVec.toInt_zero (w := 64), BitVec.toInt_inj]; rfl

theorem opIDiv_toInt (x y : W64) : (opIDiv x y).toInt =
    if y.toInt = 0 then (if x.toInt > 0 then 2 ^ 63 - 1 else if x.toInt < 0 then -(2 ^ 63) else 0) else clamp64 (x.toInt.tdiv y.toInt) := by
  unfold opIDiv
  simp only [toInt_eq_zero_iff]
  split
  · split
    · decide
    · split <;> decide
  · exact satI64_toInt _

/-- The remainder is below the divisor in magnitude, so INT64 holds it. -/
theorem opIRem_toInt (x y : W64) : (opIRem x y).toInt = if y.toInt = 0 then 0 else x.toInt - y.toInt * x.toInt.tdiv y.toInt := by
  unfold opIRem
  simp only [toInt_eq_zero_iff]
  split
  · decide
  · next hy =>
    have hy0 : y.toInt ≠ 0 := fun h => hy ((toInt_eq_zero_iff y).1 h)
    have hb := toInt_bounds64 y
    have hr : (x.toInt.tmod y.toInt).natAbs < y.toInt.natAbs := by
      rw [Int.natAbs_tmod]
      exact Nat.mod_lt _ (by omega)
    rw [toInt_ofInt64 (by omega), Int.tmod_def]

theorem opISat32_toInt (x : W64) : (opISat32 x).toInt = max (-(2 ^ 31)) (min (2 ^ 31 - 1) x.toInt) := by
  unfold opISat32
  rw [toInt_ofInt64] <;> split_ifs <;> omega

/-- A number wrapped to 64 bits (R148). -/
theorem bmod_modEq64 (n : Int) : n.bmod (2 ^ 64) ≡ n [ZMOD 2 ^ 64] := Int.bmod_emod

/-- Settles O1: each instruction writes one word, whose number is the clamped, wrapped or divided result. -/
theorem integerInstructionsWriteResults : Obligations.IntegerInstructionsWriteResults := by
  unfold Obligations.IntegerInstructionsWriteResults
  intro s l neg pr d a b h
  refine ⟨?iadd, ?isub, ?imul, ?idiv, ?irem, ?ineg, ?iabs, ?imin, ?imax, ?isat32, ?iaddw, ?isubw, ?imulw⟩
  case iadd => exact State.issues_aluR h rfl rfl (by decide) rfl fun t ht => ⟨_, ht, satI64_toInt _⟩
  case isub => exact State.issues_aluR h rfl rfl (by decide) rfl fun t ht => ⟨_, ht, satI64_toInt _⟩
  case imul => exact State.issues_aluR h rfl rfl (by decide) rfl fun t ht => ⟨_, ht, satI64_toInt _⟩
  case idiv => exact State.issues_aluR h rfl rfl (by decide) rfl fun t ht => ⟨_, ht, opIDiv_toInt _ _⟩
  case irem => exact State.issues_aluR h rfl rfl (by decide) rfl fun t ht => ⟨_, ht, opIRem_toInt _ _⟩
  case ineg => exact State.issues_aluR h rfl rfl (by decide) rfl fun t ht => ⟨_, ht, satI64_toInt _⟩
  case iabs => exact State.issues_aluR h rfl rfl (by decide) rfl fun t ht => ⟨_, ht, by rw [satI64_toInt, Int.abs_eq_natAbs]⟩
  case imin =>
    exact State.issues_aluR h rfl rfl (by decide) rfl fun t ht => ⟨_, ht, by rw [apply_ite BitVec.toInt, min_def]⟩
  case imax =>
    exact State.issues_aluR h rfl rfl (by decide) rfl fun t ht => ⟨_, ht, by rw [apply_ite BitVec.toInt, max_def]⟩
  case isat32 => exact State.issues_aluR h rfl rfl (by decide) rfl fun t ht => ⟨_, ht, opISat32_toInt _⟩
  case iaddw =>
    exact State.issues_aluR h rfl rfl (by decide) rfl fun t ht => ⟨_, ht, by rw [BitVec.toInt_add]; exact bmod_modEq64 _⟩
  case isubw =>
    exact State.issues_aluR h rfl rfl (by decide) rfl fun t ht => ⟨_, ht, by rw [BitVec.toInt_sub]; exact bmod_modEq64 _⟩
  case imulw =>
    exact State.issues_aluR h rfl rfl (by decide) rfl fun t ht => ⟨_, ht, by rw [BitVec.toInt_mul]; exact bmod_modEq64 _⟩

/-! ### Bits (R149) -/

theorem popc_eq_countP (x : W64) (n : Nat) : popc x n = (List.range n).countP fun i => x.getLsbD i := by
  induction n with
  | zero => rfl
  | succ n ih =>
    rw [popc, ih, List.range_succ, List.countP_append, List.countP_singleton]
    rfl

/-- The number of 1 bits fits its word. -/
theorem popc_le (x : W64) (n : Nat) : popc x n ≤ n := by
  rw [popc_eq_countP]
  exact List.countP_le_length.trans_eq List.length_range

theorem popc_toNat (x : W64) : (BitVec.ofNat 64 (popc x 64)).toNat = (List.range 64).countP fun i => x.getLsbD i := by
  have hle := popc_le x 64
  have hlt : popc x 64 < 2 ^ 64 := lt_of_le_of_lt hle (by norm_num)
  rw [BitVec.toNat_ofNat, Nat.mod_eq_of_lt hlt, popc_eq_countP]

theorem opQof_toNat (x : W64) :
    (opQof x).toNat = if x.toNat / 2 ^ 48 % 256 ≤ 4 then x.toNat / 2 ^ 48 % 256 else 0 := by
  rw [opQof, BitVec.toNat_ofNat, writtenQual]
  show (if x.toNat / 2 ^ 48 % 256 ≤ 4 then x.toNat / 2 ^ 48 % 256 else 0) % 2 ^ 64 = _
  split <;> omega

/-- A rotation takes bit i to bit i + n around the word. -/
theorem getLsbD_rotateLeft_add (x : W64) {n i : Nat} (hn : n < 64) (hi : i < 64) : (x.rotateLeft n).getLsbD ((i + n) % 64) = x.getLsbD i := by
  rw [BitVec.getLsbD_rotateLeft, Nat.mod_eq_of_lt hn]
  rcases Nat.lt_or_ge (i + n) 64 with hlt | hge
  · rw [Nat.mod_eq_of_lt hlt]
    simp [hlt]
  · have hmod : (i + n) % 64 = i + n - 64 := by omega
    have hidx : 64 - n + (i + n - 64) = i := by omega
    have hback : i + n - 64 < n := by omega
    simp [hmod, hidx, hback]

/-- The sign bit is shifted in: beyond bit 63 every bit is bit 63. -/
theorem getLsbD_sshiftRight_min (x : W64) {n i : Nat} (hi : i < 64) : (x.sshiftRight n).getLsbD i = x.getLsbD (min 63 (i + n)) := by
  rw [BitVec.getLsbD_sshiftRight, BitVec.msb_eq_getLsbD_last, Nat.add_comm n i]
  rcases Nat.lt_or_ge (i + n) 64 with hlt | hge
  · rw [if_pos hlt, min_eq_right (by omega)]; simp [hi]
  · rw [if_neg (by omega), min_eq_left (by omega)]; simp [hi]

/-- Settles O2: each instruction writes one word, whose bits are those of the operation. -/
theorem bitInstructionsWriteResults : Obligations.BitInstructionsWriteResults := by
  unfold Obligations.BitInstructionsWriteResults
  intro s l neg pr d a b h
  have hn : (s.laneX l b).toNat % 64 < 64 := Nat.mod_lt _ (by decide)
  refine ⟨?mov, ?and, ?or, ?xor, ?not, ?shl, ?shr, ?sar, ?rol, ?popc, ?bnot, ?boolOf, ?qof⟩
  case mov => exact State.issues_aluR h rfl rfl (by decide) rfl fun t ht => ht
  case and => exact State.issues_aluR h rfl rfl (by decide) rfl fun t ht => ⟨_, ht, fun i _ => BitVec.getLsbD_and⟩
  case or => exact State.issues_aluR h rfl rfl (by decide) rfl fun t ht => ⟨_, ht, fun i _ => BitVec.getLsbD_or⟩
  case xor => exact State.issues_aluR h rfl rfl (by decide) rfl fun t ht => ⟨_, ht, fun i _ => BitVec.getLsbD_xor⟩
  case not => exact State.issues_aluR h rfl rfl (by decide) rfl fun t ht => ⟨_, ht, fun i hi => by simp [hi]⟩
  case shl =>
    exact State.issues_aluR h rfl rfl (by decide) rfl fun t ht => ⟨_, ht, fun i hi => by
      rw [BitVec.getLsbD_shiftLeft]; simp only [hi, decide_true, Bool.true_and, ← decide_not, Nat.not_lt]⟩
  case shr =>
    exact State.issues_aluR h rfl rfl (by decide) rfl fun t ht => ⟨_, ht, fun i _ => by
      rw [BitVec.getLsbD_ushiftRight, Nat.add_comm]⟩
  case sar => exact State.issues_aluR h rfl rfl (by decide) rfl fun t ht => ⟨_, ht, fun i hi => getLsbD_sshiftRight_min _ hi⟩
  case rol => exact State.issues_aluR h rfl rfl (by decide) rfl fun t ht => ⟨_, ht, fun i hi => getLsbD_rotateLeft_add _ hn hi⟩
  case popc => exact State.issues_aluR h rfl rfl (by decide) rfl fun t ht => ⟨_, ht, popc_toNat _⟩
  case bnot => exact State.issues_aluR h rfl rfl (by decide) rfl fun t ht => ht
  case boolOf => exact State.issues_aluR h rfl rfl (by decide) rfl fun t ht => ht
  case qof => exact State.issues_aluR h rfl rfl (by decide) rfl fun t ht => ⟨_, ht, opQof_toNat _⟩

/-! ### Floating point (R151, R157 to R160) -/

/-- Settles O3: the table of register results gives the operation of each opcode. -/
theorem floatInstructionsWriteResults : Obligations.FloatInstructionsWriteResults := by
  unfold Obligations.FloatInstructionsWriteResults
  intro s l neg pr d a b h
  refine ⟨?_, ?_, ?_, ?_, ?_, ?_, ?_, ?_, ?_, ?_, ?_, ?_, ?_, ?_, ?_, ?_, ?_, ?_, ?_, ?_, ?_, ?_, ?_⟩
  all_goals exact State.issues_aluR h rfl rfl (by decide) rfl fun t ht => ht

/-! ### Predicates (R150, R159) -/

/-- PMOV writes X[D]: its effect stands beside the tables of register and predicate results. -/
theorem State.effect_pmov {s : State} {l : LaneSt} {e : Engine} {w : BitVec 32} (h : wordBits w 24 8 = 0x3C) :
    s.effect l e w = { xw := some (wordBits w 14 6, if e.pr (wordBits w 8 3) then 1 else 0) } := by
  unfold State.effect
  rw [h]
  rfl

/-- The number of a predicate in the low bits of its field (R146). -/
theorem toNat_setWidth_low (p : BitVec 3) : (p.setWidth 6).toNat % 8 = p.toNat := by
  rw [BitVec.toNat_setWidth]; omega

theorem State.laneP_low (s : State) (l : Fin 8) (p : BitVec 3) : (s.lane l.val).main.pr ((p.setWidth 6).toNat % 8) = s.laneP l p := by
  rw [toNat_setWidth_low]; rfl

/-- Settles O7: the table of predicate results gives the decision of each opcode; `Engine.setP` ignores a write to P0. -/
theorem predicateInstructionsWriteResults : Obligations.PredicateInstructionsWriteResults := by
  unfold Obligations.PredicateInstructionsWriteResults
  intro s l neg pr p q r d a b h
  refine ⟨?ieq, ?ilt, ?ile, ?ult, ?feq, ?flt, ?fle, ?funo, ?tst, ?pand, ?por, ?pnot, ?pmov⟩
  case ilt | ile | ult | feq | flt | fle | funo =>
    exact State.issues_aluC h rfl rfl (by decide) (fun _ _ _ => rfl) rfl
  case ieq => exact State.issues_aluC h rfl rfl (by decide) (fun _ _ _ => rfl) rfl
  case tst => exact State.issues_aluC h rfl rfl (by decide) (fun _ _ _ => rfl) (congrArg some (decide_not ..).symm)
  case pand => exact State.issues_aluC h rfl rfl (by decide) (fun _ _ _ => rfl) (by rw [State.laneP_low, State.laneP_low]; rfl)
  case por => exact State.issues_aluC h rfl rfl (by decide) (fun _ _ _ => rfl) (by rw [State.laneP_low, State.laneP_low]; rfl)
  case pnot => exact State.issues_aluC h rfl rfl (by decide) (fun _ _ _ => rfl) (by rw [State.laneP_low]; rfl)
  case pmov =>
    refine State.issues_of_issue rfl rfl fun hd => ?_
    obtain ⟨f1, f2, f3, f4, f5, f6⟩ := wordR_fields (op := 0x3C) (by decide) neg pr d (q.setWidth 6) 0
    have hlow : wordBits (wordR 0x3C neg pr d (q.setWidth 6) 0) 8 3 = q.toNat := by
      rw [← toNat_setWidth_low, ← f5, wordBits, wordBits]; omega
    refine State.laneIssue_writes h hd f2 f3 (by rw [f1]; decide) ?_
    rw [State.effect_pmov f1, f4, hlow]
    rfl

end Sys2Proof.Machine
end

section
/-! PROOFS. The words of binary64: their parts, the canonical NaN, the special cases, the order (O4, O5). -/

namespace Sys2Proof.Machine

/-! ### The parts of a word -/

/-- A word is a NaN where its bits below the sign exceed those of an infinity (R158). -/
theorem isNaN_iff (w : W64) : isNaN w = true ↔ 2047 * 2 ^ 52 < w.toNat % 2 ^ 63 := by
  simp only [isNaN, Bool.and_eq_true, beq_iff_eq, bne_iff_ne]
  omega

theorem isInf_iff (w : W64) : isInf w = true ↔ w.toNat % 2 ^ 63 = 2047 * 2 ^ 52 := by
  simp only [isInf, fExp, fFrac, Bool.and_eq_true, beq_iff_eq]
  omega

theorem isZero_iff (w : W64) : isZero w = true ↔ w.toNat % 2 ^ 63 = 0 := by
  simp only [isZero, beq_iff_eq]

theorem fNeg_iff (w : W64) : fNeg w = true ↔ 2 ^ 63 ≤ w.toNat := by
  have := w.isLt
  simp only [fNeg, beq_iff_eq]
  omega

/-- The sign bit inverted leaves the bits below it. -/
theorem toNat_xor_sign (w : W64) : (w ^^^ 0x8000000000000000).toNat % 2 ^ 63 = w.toNat % 2 ^ 63 ∧
    (w ^^^ 0x8000000000000000).toNat / 2 ^ 63 = 1 - w.toNat / 2 ^ 63 := by
  have hlt := w.isLt
  rw [BitVec.toNat_xor, Nat.xor_mod_two_pow, Nat.xor_div_two_pow]
  have h1 : (0x8000000000000000 : W64).toNat % 2 ^ 63 = 0 := by decide
  have h2 : (0x8000000000000000 : W64).toNat / 2 ^ 63 = 1 := by decide
  have h3 : w.toNat / 2 ^ 63 = 0 ∨ w.toNat / 2 ^ 63 = 1 := by omega
  rw [h1, h2, Nat.xor_zero]
  refine ⟨rfl, ?_⟩
  rcases h3 with h | h <;> rw [h] <;> rfl

theorem toNat_and_mag (w : W64) : (w &&& 0x7FFFFFFFFFFFFFFF).toNat = w.toNat % 2 ^ 63 := by
  rw [BitVec.toNat_and]
  exact Nat.and_two_pow_sub_one_eq_mod _ 63

/-- A word of a sign and the 63 bits below it. -/
def signed (neg : Bool) (n : Nat) : W64 := BitVec.ofNat 64 ((if neg then 2 ^ 63 else 0) + n)

theorem signed_toNat (neg : Bool) {n : Nat} (h : n < 2 ^ 63) : (signed neg n).toNat = (if neg then 2 ^ 63 else 0) + n := by
  rw [signed, BitVec.toNat_ofNat]
  cases neg <;> simp only [if_true, if_false, Bool.false_eq_true] <;> omega

theorem signed_mag (neg : Bool) {n : Nat} (h : n < 2 ^ 63) : (signed neg n).toNat % 2 ^ 63 = n := by
  rw [signed_toNat neg h]
  cases neg <;> simp only [if_true, if_false, Bool.false_eq_true] <;> omega

theorem fNeg_signed (neg : Bool) {n : Nat} (h : n < 2 ^ 63) : fNeg (signed neg n) = neg := by
  rw [Bool.eq_iff_iff, fNeg_iff, signed_toNat neg h]
  cases neg <;> simp only [if_true, if_false, Bool.false_eq_true, iff_true, iff_false] <;> omega

theorem fZero_eq (neg : Bool) : fZero neg = signed neg 0 := by cases neg <;> rfl

theorem fInf_eq (neg : Bool) : fInf neg = signed neg (2047 * 2 ^ 52) := by cases neg <;> rfl

/-! ### The rounded number (R157) -/

/-- The exponent to which `roundPack` rounds `m × 2 ^ e`. -/
def roundLsb (m : Nat) (e : Int) : Int := max (e + bitLen m - 53) (-1074)

/-- The number of units of `2 ^ roundLsb m e` to which `roundPack` rounds `m × 2 ^ e`. -/
def roundUnits (m : Nat) (e : Int) (sticky : Bool) : Nat :=
  if roundLsb m e ≤ e then m * 2 ^ (e - roundLsb m e).toNat else shrRne m (roundLsb m e - e).toNat sticky

/-- The word of fewer than 2 ^ 53 units of `2 ^ e`. -/
def packUnits (neg : Bool) (q : Nat) (e : Int) : W64 :=
  if q < 2 ^ 52 then signed neg q
  else if (e + 1075).toNat ≥ 2047 then fInf neg
  else signed neg ((e + 1075).toNat * 2 ^ 52 + (q - 2 ^ 52))

/-- A rounding that carries to 2 ^ 53 units gives 2 ^ 52 of twice the size. -/
theorem roundPack_eq (neg : Bool) {m : Nat} (hm : m ≠ 0) (e : Int) (sticky : Bool) :
    roundPack neg m e sticky =
      if roundUnits m e sticky = 2 ^ 53 then packUnits neg (2 ^ 52) (roundLsb m e + 1) else packUnits neg (roundUnits m e sticky) (roundLsb m e) := by
  unfold roundPack packUnits roundUnits roundLsb signed
  rw [if_neg hm]
  generalize max (e + (bitLen m : Int) - 53) (-1074) = lsb
  dsimp only
  generalize (if lsb ≤ e then m * 2 ^ (e - lsb).toNat else shrRne m (lsb - e).toNat sticky) = q
  by_cases h : q = 2 ^ 53
  · rw [if_pos h, if_pos h]
    simp only [Nat.add_assoc]
  · rw [if_neg h, if_neg h]
    simp only [Nat.add_assoc]

theorem lt_two_pow_bitLen (m : Nat) : m < 2 ^ bitLen m := by
  unfold bitLen
  split
  · omega
  · exact Nat.lt_log2_self

theorem two_pow_bitLen_le {m : Nat} (hm : m ≠ 0) : 2 ^ bitLen m ≤ 2 * m := by
  unfold bitLen
  rw [if_neg hm, Nat.pow_succ, Nat.mul_comm]
  exact Nat.mul_le_mul_left 2 (Nat.log2_self_le hm)

theorem shrRne_le (m sh : Nat) (sticky : Bool) : shrRne m sh sticky ≤ m / 2 ^ sh + 1 := by
  unfold shrRne
  dsimp only
  split_ifs with h1
  · subst h1; simp
  · exact le_rfl
  · exact Nat.le_succ _

/-- Rounding keeps 53 bits, or carries to 2 ^ 53. -/
theorem roundUnits_le (m : Nat) (e : Int) (sticky : Bool) : roundUnits m e sticky ≤ 2 ^ 53 := by
  have hlsb : e + bitLen m - 53 ≤ roundLsb m e := le_max_left _ _
  have hm := lt_two_pow_bitLen m
  unfold roundUnits
  split
  · next h =>
    calc m * 2 ^ (e - roundLsb m e).toNat ≤ 2 ^ bitLen m * 2 ^ (e - roundLsb m e).toNat := Nat.mul_le_mul_right _ hm.le
      _ = 2 ^ (bitLen m + (e - roundLsb m e).toNat) := (pow_add ..).symm
      _ ≤ 2 ^ 53 := Nat.pow_le_pow_right (by decide) (by omega)
  · next h =>
    have hdiv : m / 2 ^ (roundLsb m e - e).toNat < 2 ^ 53 := by
      rw [Nat.div_lt_iff_lt_mul (by positivity), ← pow_add]
      exact hm.trans_le (Nat.pow_le_pow_right (by decide) (by omega))
    exact (shrRne_le ..).trans hdiv

/-! ### The canonical NaN (R158) -/

theorem isNaN_eq_false {w : W64} (h : w.toNat % 2 ^ 63 ≤ 2047 * 2 ^ 52) : isNaN w = false := by
  rw [Bool.eq_false_iff, Ne, isNaN_iff]; omega

theorem isNaN_fZero (neg : Bool) : isNaN (fZero neg) = false := by cases neg <;> decide

theorem isNaN_fInf (neg : Bool) : isNaN (fInf neg) = false := by cases neg <;> decide

theorem isNaN_packUnits (neg : Bool) {q : Nat} (hq : q < 2 ^ 53) (e : Int) : isNaN (packUnits neg q e) = false := by
  unfold packUnits
  split_ifs
  · exact isNaN_eq_false (by rw [signed_mag neg (by omega)]; omega)
  · exact isNaN_fInf neg
  · exact isNaN_eq_false (by rw [signed_mag neg (by omega)]; omega)

theorem isNaN_roundPack (neg : Bool) (m : Nat) (e : Int) (sticky : Bool) : isNaN (roundPack neg m e sticky) = false := by
  by_cases hm : m = 0
  · rw [hm, roundPack, if_pos rfl]; exact isNaN_fZero neg
  · have hle := roundUnits_le m e sticky
    rw [roundPack_eq neg hm]
    split
    · exact isNaN_packUnits neg (by norm_num) _
    · exact isNaN_packUnits neg (by omega) _

theorem isNaN_roundInt (m e : Int) (z : Bool) : isNaN (roundInt m e z) = false := by
  unfold roundInt
  split
  · exact isNaN_fZero z
  · exact isNaN_roundPack ..

theorem isNaN_ziv (f : Nat → Int × Int × Nat) (ps : List Nat) : isNaN (ziv f ps) = false := by
  induction ps with
  | nil => rw [ziv]; decide
  | cons p ps ih =>
    cases ps with
    | nil => exact isNaN_roundInt ..
    | cons p' ps =>
      rw [ziv.eq_3 f p (p' :: ps) (by simp)]
      dsimp only
      split
      · exact isNaN_roundInt ..
      · exact ih

theorem isNaN_xor_sign (w : W64) : isNaN (w ^^^ 0x8000000000000000) = isNaN w := by
  rw [Bool.eq_iff_iff, isNaN_iff, isNaN_iff, (toNat_xor_sign w).1]

theorem isNaN_and_mag (w : W64) : isNaN (w &&& 0x7FFFFFFFFFFFFFFF) = isNaN w := by
  rw [Bool.eq_iff_iff, isNaN_iff, isNaN_iff, toNat_and_mag, Nat.mod_mod]

/-- The word is no NaN but the canonical one. -/
def NaNCanonical (w : W64) : Prop := isNaN w = true → w = canonNaN

theorem NaNCanonical.of_not {w : W64} (h : isNaN w = false) : NaNCanonical w := fun h' => by rw [h] at h'; cases h'

theorem NaNCanonical.of_not' {w : W64} (h : ¬isNaN w = true) : NaNCanonical w := fun h' => absurd h' h

theorem nanCanonical_canonNaN : NaNCanonical canonNaN := fun _ => rfl

section
variable (x y z : W64)

theorem opFAdd_canonical : NaNCanonical (opFAdd x y) := by
  unfold opFAdd
  split_ifs with h
  · exact nanCanonical_canonNaN
  · exact nanCanonical_canonNaN
  · exact .of_not' fun hx => h (.inl hx)
  · exact .of_not' fun hy => h (.inr hy)
  · exact .of_not (isNaN_roundInt ..)

theorem opFMul_canonical : NaNCanonical (opFMul x y) := by
  unfold opFMul
  split_ifs
  · exact nanCanonical_canonNaN
  · exact nanCanonical_canonNaN
  · exact .of_not (isNaN_fInf _)
  · exact .of_not (isNaN_roundPack ..)

theorem opFDiv_canonical : NaNCanonical (opFDiv x y) := by
  unfold opFDiv
  split_ifs
  · exact nanCanonical_canonNaN
  · exact nanCanonical_canonNaN
  · exact .of_not (isNaN_fInf _)
  · exact .of_not (isNaN_fZero _)
  · exact nanCanonical_canonNaN
  · exact .of_not (isNaN_fInf _)
  · exact .of_not (isNaN_roundPack ..)

theorem opFSqrt_canonical : NaNCanonical (opFSqrt x) := by
  unfold opFSqrt
  split_ifs with h
  · exact nanCanonical_canonNaN
  · exact .of_not' h
  · exact nanCanonical_canonNaN
  · exact .of_not' h
  · exact .of_not (isNaN_roundPack ..)

theorem opFMA_canonical : NaNCanonical (opFMA x y z) := by
  unfold opFMA
  dsimp only
  split_ifs with h
  · exact nanCanonical_canonNaN
  · exact nanCanonical_canonNaN
  · exact nanCanonical_canonNaN
  · exact .of_not (isNaN_fInf _)
  · exact .of_not' fun hz => h (.inr (.inr hz))
  · exact .of_not (isNaN_roundInt ..)
  · exact .of_not (isNaN_roundInt ..)

theorem opFUn_iff : opFUn x y = true ↔ isNaN x = true ∨ isNaN y = true := by rw [opFUn, Bool.or_eq_true]

theorem opFMin_canonical : NaNCanonical (opFMin x y) := by
  unfold opFMin
  split_ifs with h
  · exact nanCanonical_canonNaN
  · exact .of_not' fun hx => h ((opFUn_iff x y).2 (.inl hx))
  · exact .of_not' fun hy => h ((opFUn_iff x y).2 (.inr hy))

theorem opFMax_canonical : NaNCanonical (opFMax x y) := by
  unfold opFMax
  split_ifs with h
  · exact nanCanonical_canonNaN
  · exact .of_not' fun hy => h ((opFUn_iff x y).2 (.inr hy))
  · exact .of_not' fun hx => h ((opFUn_iff x y).2 (.inl hx))

theorem opFAbs_canonical : NaNCanonical (opFAbs x) := by
  unfold opFAbs
  split_ifs with h
  · exact nanCanonical_canonNaN
  · exact .of_not' (by rwa [isNaN_and_mag])

theorem opFNeg_canonical : NaNCanonical (opFNeg x) := by
  unfold opFNeg
  split_ifs with h
  · exact nanCanonical_canonNaN
  · exact .of_not' (by rwa [isNaN_xor_sign])

theorem opFInt_canonical (m : RMode) : NaNCanonical (opFInt m x) := by
  unfold opFInt
  dsimp only
  split_ifs with h
  · exact nanCanonical_canonNaN
  · exact .of_not' h
  · exact .of_not (isNaN_fZero _)
  · exact .of_not (isNaN_roundPack ..)

theorem opFExp_canonical : NaNCanonical (opFExp x) := by
  unfold opFExp
  split_ifs with h
  · exact nanCanonical_canonNaN
  · exact .of_not (by decide)
  · exact .of_not' h
  · exact .of_not (by decide)
  · exact .of_not (isNaN_fInf _)
  · exact .of_not (by decide)
  · exact .of_not (isNaN_ziv ..)

theorem opFLn_canonical : NaNCanonical (opFLn x) := by
  unfold opFLn
  split_ifs with h
  · exact nanCanonical_canonNaN
  · exact .of_not (isNaN_fInf _)
  · exact nanCanonical_canonNaN
  · exact .of_not' h
  · exact .of_not (by decide)
  · exact .of_not (isNaN_ziv ..)

theorem opFSin_canonical : NaNCanonical (opFSin x) := by
  unfold opFSin
  split_ifs with h
  · exact nanCanonical_canonNaN
  · exact .of_not' fun hx => h (.inl hx)
  · exact .of_not (isNaN_ziv ..)

theorem opFCos_canonical : NaNCanonical (opFCos x) := by
  unfold opFCos
  split_ifs with h
  · exact nanCanonical_canonNaN
  · exact .of_not (by decide)
  · exact .of_not (isNaN_ziv ..)

theorem isNaN_signTaken (neg : Bool) {w : W64} (h : isNaN w = false) : isNaN (if neg then w ^^^ 0x8000000000000000 else w) = false := by
  cases neg
  · exact h
  · exact (isNaN_xor_sign w).trans h

theorem opFAtan2_canonical : NaNCanonical (opFAtan2 x y) := by
  have hz : ∀ f ps, NaNCanonical (if fNeg x then ziv f ps ^^^ 0x8000000000000000 else ziv f ps) := fun f ps =>
    .of_not (isNaN_signTaken _ (isNaN_ziv f ps))
  have h0 : NaNCanonical (fZero (fNeg x)) := .of_not (isNaN_fZero _)
  unfold opFAtan2
  dsimp only
  split
  · exact nanCanonical_canonNaN
  split
  · split
    · split <;> exact hz _ _
    · exact hz _ _
  split
  · split
    · exact hz _ _
    · exact h0
  split
  · split
    · exact hz _ _
    · exact h0
  split <;> exact hz _ _

/-- A NaN on either side makes a sum the canonical NaN, and so on for each operation. -/
theorem opFAdd_of_nan (h : isNaN x = true ∨ isNaN y = true) : opFAdd x y = canonNaN := by rw [opFAdd, if_pos h]

theorem opFSub_of_nan (h : isNaN x = true ∨ isNaN y = true) : opFSub x y = canonNaN := by
  refine opFAdd_of_nan _ _ (h.imp_right fun hy => ?_)
  rw [if_pos hy]; decide

theorem opFMul_of_nan (h : isNaN x = true ∨ isNaN y = true) : opFMul x y = canonNaN := by unfold opFMul; exact if_pos h

theorem opFDiv_of_nan (h : isNaN x = true ∨ isNaN y = true) : opFDiv x y = canonNaN := by unfold opFDiv; exact if_pos h

theorem opFMA_of_nan (h : isNaN x = true ∨ isNaN y = true ∨ isNaN z = true) : opFMA x y z = canonNaN := by unfold opFMA; exact if_pos h

theorem opFMin_of_nan (h : isNaN x = true ∨ isNaN y = true) : opFMin x y = canonNaN := by rw [opFMin, if_pos ((opFUn_iff x y).2 h)]

theorem opFMax_of_nan (h : isNaN x = true ∨ isNaN y = true) : opFMax x y = canonNaN := by rw [opFMax, if_pos ((opFUn_iff x y).2 h)]

theorem opFAtan2_of_nan (h : isNaN x = true ∨ isNaN y = true) : opFAtan2 x y = canonNaN := by unfold opFAtan2; exact if_pos h

theorem unary_of_nan (h : isNaN x = true) : opFSqrt x = canonNaN ∧ opFAbs x = canonNaN ∧ opFNeg x = canonNaN ∧
    (∀ m, opFInt m x = canonNaN) ∧ opFExp x = canonNaN ∧ opFLn x = canonNaN ∧ opFSin x = canonNaN ∧ opFCos x = canonNaN :=
  ⟨if_pos h, if_pos h, if_pos h, fun _ => if_pos h, if_pos h, if_pos h, if_pos (.inl h), if_pos (.inl h)⟩
end

/-- Settles O4: every operation ends in `canonNaN`, in an operand that is no NaN, or in a rounded number, which is none. -/
theorem naNOperandsGiveCanonicalNaN : Obligations.NaNOperandsGiveCanonicalNaN := by
  unfold Obligations.NaNOperandsGiveCanonicalNaN
  refine ⟨fun x => ?_, fun x y z v m hv => ?_, fun x y z h => ?_⟩
  · simp only [isNaN, Bool.and_eq_true, beq_iff_eq, bne_iff_ne]
    exact Iff.rfl
  · refine (?_ : ∀ u ∈ _, NaNCanonical u) v hv
    simp only [List.forall_mem_cons]
    exact ⟨opFAdd_canonical x y, opFAdd_canonical x _, opFMul_canonical x y, opFDiv_canonical x y, opFSqrt_canonical x, opFMA_canonical x y z,
      opFMin_canonical x y, opFMax_canonical x y, opFMin_canonical _ y, opFAbs_canonical x, opFNeg_canonical x, opFInt_canonical x m,
      opFExp_canonical x, opFLn_canonical x, opFSin_canonical x, opFCos_canonical x, opFAtan2_canonical x y, .of_not (isNaN_roundInt ..),
      fun _ h => absurd h List.not_mem_nil⟩
  · obtain ⟨hsqrt, habs, hneg, hint, hexp, hln, hsin, hcos⟩ := unary_of_nan x h
    exact ⟨opFAdd_of_nan x y (.inl h), opFAdd_of_nan y x (.inr h), opFSub_of_nan x y (.inl h), opFSub_of_nan y x (.inr h),
      opFMul_of_nan x y (.inl h), opFMul_of_nan y x (.inr h), opFDiv_of_nan x y (.inl h), opFDiv_of_nan y x (.inr h), hsqrt,
      opFMA_of_nan x y z (.inl h), opFMA_of_nan y x z (.inr (.inl h)), opFMA_of_nan y z x (.inr (.inr h)), opFMin_of_nan x y (.inl h),
      opFMin_of_nan y x (.inr h), opFMax_of_nan x y (.inl h), opFMax_of_nan y x (.inr h), habs, hneg, hint, hexp, hln, hsin, hcos,
      opFAtan2_of_nan x y (.inl h), opFAtan2_of_nan y x (.inr h)⟩

/-! ### Special cases (R157) -/

theorem fZero_parts (n : Bool) : isNaN (fZero n) = false ∧ isInf (fZero n) = false ∧ isZero (fZero n) = true ∧ fNeg (fZero n) = n := by
  revert n; decide

theorem opFDiv_zero {x : W64} (n : Bool) (hnan : isNaN x = false) (hinf : isInf x = false) (hzero : isZero x = false) :
    opFDiv x (fZero n) = fInf (fNeg x != n) := by
  obtain ⟨zn, zi, zz, zs⟩ := fZero_parts n
  simp only [opFDiv, hnan, hinf, hzero, zn, zi, zz, zs, or_self, if_true, if_false, Bool.false_eq_true]

theorem opFSqrt_neg {x : W64} (hnan : isNaN x = false) (hzero : isZero x = false) (hneg : fNeg x = true) : opFSqrt x = canonNaN := by
  simp only [opFSqrt, hnan, hzero, hneg, if_true, if_false, Bool.false_eq_true]

/-! ### Comparisons and orderings (R150, R159) -/

/-- Words of one key are one word. -/
theorem fKey_inj {x y : W64} : fKey x = fKey y ↔ x = y := by
  refine ⟨fun h => BitVec.eq_of_toNat_eq ?_, congrArg _⟩
  have hx := x.isLt
  have hy := y.isLt
  have nx := fNeg_iff x
  have ny := fNeg_iff y
  unfold fKey at h
  cases hsx : fNeg x <;> cases hsy : fNeg y <;>
    simp only [hsx, hsy, if_true, if_false, Bool.false_eq_true, false_iff, true_iff, not_le] at h nx ny <;> omega

theorem opFEq_iff {x y : W64} (hx : isNaN x = false) (hy : isNaN y = false) :
    opFEq x y = true ↔ fKey x = fKey y ∨ (isZero x = true ∧ isZero y = true) := by
  simp only [opFEq, hx, hy, Bool.not_false, Bool.true_and, Bool.or_eq_true, beq_iff_eq, Bool.and_eq_true, fKey_inj]

theorem opFLt_iff {x y : W64} (hx : isNaN x = false) (hy : isNaN y = false) :
    opFLt x y = true ↔ fKey x < fKey y ∧ ¬(isZero x = true ∧ isZero y = true) := by
  simp only [opFLt, hx, hy, Bool.not_false, Bool.true_and, Bool.and_eq_true, Bool.not_eq_true', ← Bool.not_eq_true, decide_eq_true_eq, and_comm]

/-- A comparison with a NaN is false (R159). -/
theorem compare_nan {x y : W64} (h : (isNaN x || isNaN y) = true) : opFEq x y = false ∧ opFLt x y = false ∧ opFLe x y = false := by
  have heq : opFEq x y = false := by
    rcases (Bool.or_eq_true ..).mp h with hn | hn <;> simp [opFEq, hn]
  have hlt : opFLt x y = false := by
    rcases (Bool.or_eq_true ..).mp h with hn | hn <;> simp [opFLt, hn]
  exact ⟨heq, hlt, by rw [opFLe, heq, hlt]; rfl⟩

/-- Of two numbers exactly one of less, equal, greater holds (R159). -/
theorem opFLt_trichotomy {x y : W64} (hx : isNaN x = false) (hy : isNaN y = false) :
    (opFLt x y || opFEq x y || opFLt y x) = true ∧ (opFLt x y && opFLt y x) = false := by
  rw [Bool.eq_false_iff]
  simp only [Ne, Bool.or_eq_true, Bool.and_eq_true, opFLt_iff hx hy, opFLt_iff hy hx, opFEq_iff hx hy]
  constructor
  · rcases lt_trichotomy (fKey x) (fKey y) with h | h | h <;> tauto
  · rintro ⟨⟨h, _⟩, h', _⟩
    exact absurd h h'.not_gt

/-- FCLAMP between limits out of order gives the upper one (R159). -/
theorem opFMin_opFMax_crossed {x lo hi : W64} (hx : isNaN x = false) (hlo : isNaN lo = false) (hhi : isNaN hi = false)
    (h : opFLt hi lo = true) : opFMin (opFMax x lo) hi = hi := by
  have hkey : fKey hi < fKey lo := ((opFLt_iff hhi hlo).1 h).1
  have hmax : opFMax x lo = if fKey x ≤ fKey lo then lo else x := by
    rw [opFMax, opFUn, hx, hlo]; rfl
  have hnan : isNaN (opFMax x lo) = false := by rw [hmax]; split <;> assumption
  have hle : ¬fKey (opFMax x lo) ≤ fKey hi := by rw [hmax]; split <;> omega
  rw [opFMin, opFUn, hnan, hhi, if_neg (by decide), if_neg hle]

/-- Settles O5. -/
theorem floatSpecialCasesAndOrderings : Obligations.FloatSpecialCasesAndOrderings := by
  unfold Obligations.FloatSpecialCasesAndOrderings
  refine ⟨⟨fun x n hnan hinf hzero => opFDiv_zero n hnan hinf hzero, by decide +kernel, fun x hnan hzero hneg => opFSqrt_neg hnan hzero hneg,
    by decide +kernel⟩, fun x y h => compare_nan h, fun x y => rfl, by decide +kernel, by decide +kernel, by decide +kernel, fun x y h => ?_,
    by decide +kernel, by decide +kernel, by decide +kernel, by decide +kernel, fun x lo hi hx hlo hhi h => opFMin_opFMax_crossed hx hlo hhi h⟩
  obtain ⟨hx, hy⟩ := (Bool.or_eq_false_iff ..).mp h
  exact ⟨rfl, opFLt_trichotomy hx hy⟩

end Sys2Proof.Machine
end

section
/-! PROOFS. Sums, differences and products are rounded to nearest (O6). -/

namespace Sys2Proof.Machine

/-! ### The number of a packed word (R157) -/

/-- The factor of a sign. -/
def signOf (neg : Bool) : ℚ := if neg then -1 else 1

theorem signOf_mul_self (neg : Bool) : signOf neg * signOf neg = 1 := by cases neg <;> norm_num [signOf]

theorem abs_signOf_mul (neg : Bool) (v : ℚ) : |signOf neg * v| = |v| := by cases neg <;> simp [signOf]

theorem signOf_bne (a b : Bool) : signOf (a != b) = signOf a * signOf b := by cases a <;> cases b <;> norm_num [signOf]

theorem signOf_not (a : Bool) : signOf (!a) = -signOf a := by cases a <;> norm_num [signOf]

theorem fVal_eq (w : W64) : fVal w = signOf (fNeg w) * (fMant w : ℚ) * (2 : ℚ) ^ fLsb w := rfl

theorem fExp_signed (neg : Bool) {n : Nat} (h : n < 2 ^ 63) : fExp (signed neg n) = n / 2 ^ 52 := by
  have := signed_mag neg h
  unfold fExp; omega

theorem fFrac_signed (neg : Bool) {n : Nat} (h : n < 2 ^ 63) : fFrac (signed neg n) = n % 2 ^ 52 := by
  have := signed_mag neg h
  unfold fFrac; omega

/-- A number below 2 ^ 52 units of the smallest subnormal. -/
theorem fVal_subnormal (neg : Bool) {q : Nat} (hq : q < 2 ^ 52) : fVal (signed neg q) = signOf neg * q * (2 : ℚ) ^ (-1074 : ℤ) := by
  have hexp : fExp (signed neg q) = 0 := by rw [fExp_signed neg (by omega), Nat.div_eq_of_lt hq]
  have hfrac : fFrac (signed neg q) = q := by rw [fFrac_signed neg (by omega), Nat.mod_eq_of_lt hq]
  rw [fVal_eq, fNeg_signed neg (by omega), fMant, fLsb, if_pos hexp, if_pos hexp, hfrac]

/-- A number of 53 bits. -/
theorem fVal_normal (neg : Bool) {b f : Nat} (hb : 0 < b) (hb' : b < 2047) (hf : f < 2 ^ 52) :
    fVal (signed neg (b * 2 ^ 52 + f)) = signOf neg * (2 ^ 52 + f : ℕ) * (2 : ℚ) ^ ((b : ℤ) - 1075) := by
  have hlt : b * 2 ^ 52 + f < 2 ^ 63 := by omega
  have hexp : fExp (signed neg (b * 2 ^ 52 + f)) = b := by rw [fExp_signed neg hlt]; omega
  have hfrac : fFrac (signed neg (b * 2 ^ 52 + f)) = f := by rw [fFrac_signed neg hlt]; omega
  have h0 : ¬b = 0 := by omega
  rw [fVal_eq, fNeg_signed neg hlt, fMant, fLsb, hexp, if_neg h0, if_neg h0, hfrac, Nat.add_comm f]

theorem not_fFinite_fInf (neg : Bool) : ¬fFinite (fInf neg) = true := by cases neg <;> decide

theorem fVal_packUnits {neg : Bool} {q : Nat} {e : Int} (hq : q < 2 ^ 53) (he : -1074 ≤ e) (hsub : q < 2 ^ 52 → e = -1074)
    (hfin : fFinite (packUnits neg q e) = true) : fVal (packUnits neg q e) = signOf neg * q * (2 : ℚ) ^ e := by
  unfold packUnits at hfin ⊢
  split_ifs at hfin ⊢ with hlow hbig
  · rw [fVal_subnormal neg hlow, hsub hlow]
  · exact absurd hfin (not_fFinite_fInf neg)
  · have hexp : ((e + 1075).toNat : ℤ) - 1075 = e := by omega
    have hman : 2 ^ 52 + (q - 2 ^ 52) = q := by omega
    rw [fVal_normal neg (by omega) (by omega) (by omega), hexp, hman]

/-! ### What the rounding keeps -/

theorem le_shrRne (m sh : Nat) (sticky : Bool) : m / 2 ^ sh ≤ shrRne m sh sticky := by
  unfold shrRne
  dsimp only
  split_ifs with h1
  · subst h1; simp
  · exact Nat.le_succ _
  · exact le_rfl

/-- Above the smallest exponent the rounded number has 53 bits. -/
theorem le_roundUnits {m : Nat} (hm : m ≠ 0) {e : Int} (sticky : Bool) (h : roundLsb m e ≠ -1074) : 2 ^ 52 ≤ roundUnits m e sticky := by
  have hlsb : roundLsb m e = e + bitLen m - 53 := by unfold roundLsb at h ⊢; omega
  have hm2 := two_pow_bitLen_le hm
  have hpos : 0 < bitLen m := by unfold bitLen; rw [if_neg hm]; omega
  have hhalf : 2 ^ (bitLen m - 1) ≤ m := by
    have : 2 ^ bitLen m = 2 * 2 ^ (bitLen m - 1) := by rw [← pow_succ', Nat.sub_add_cancel hpos]
    omega
  unfold roundUnits
  split
  · next hle =>
    calc 2 ^ 52 = 2 ^ (bitLen m - 1 + (e - roundLsb m e).toNat) := by congr 1; omega
      _ = 2 ^ (bitLen m - 1) * 2 ^ (e - roundLsb m e).toNat := pow_add ..
      _ ≤ m * 2 ^ (e - roundLsb m e).toNat := Nat.mul_le_mul_right _ hhalf
  · next hle =>
    refine le_trans ?_ (le_shrRne ..)
    rw [Nat.le_div_iff_mul_le (by positivity), ← pow_add]
    exact le_trans (Nat.pow_le_pow_right (by decide) (by omega)) hhalf

/-- The number of a rounded word that does not overflow. -/
theorem fVal_roundPack {neg : Bool} {m : Nat} (hm : m ≠ 0) {e : Int} {sticky : Bool} (hfin : fFinite (roundPack neg m e sticky) = true) :
    fVal (roundPack neg m e sticky) = signOf neg * roundUnits m e sticky * (2 : ℚ) ^ roundLsb m e := by
  have hle := roundUnits_le m e sticky
  have hlsb : -1074 ≤ roundLsb m e := le_max_right _ _
  rw [roundPack_eq neg hm] at hfin ⊢
  split_ifs at hfin ⊢ with h
  · rw [fVal_packUnits (by norm_num) (by omega) (fun hlt => absurd hlt (lt_irrefl _)) hfin, h, zpow_add_one₀ (by norm_num)]
    push_cast
    ring
  · refine fVal_packUnits (by omega) hlsb (fun hlow => ?_) hfin
    by_contra hne
    exact absurd (le_roundUnits hm sticky hne) (by omega)

/-! ### Nearest -/

/-- A shift to nearest is off by at most half a unit. -/
theorem shrRne_half (m sh : Nat) : 2 * |(shrRne m sh false : ℤ) * 2 ^ sh - m| ≤ 2 ^ sh := by
  rcases Nat.eq_zero_or_pos sh with rfl | hsh
  · rw [shrRne, if_pos rfl]; simp
  · have hdiv : (m : ℤ) = (m / 2 ^ sh : ℕ) * 2 ^ sh + (m % 2 ^ sh : ℕ) := by
      have := Nat.div_add_mod' m (2 ^ sh)
      exact_mod_cast this.symm
    have htwo : (2 : ℤ) ^ sh = 2 * (2 ^ (sh - 1) : ℕ) := by
      rw [Nat.cast_pow, Nat.cast_two, ← pow_succ', Nat.sub_add_cancel hsh]
    have hlt : ((m % 2 ^ sh : ℕ) : ℤ) < 2 ^ sh := by
      exact_mod_cast Nat.mod_lt m (by positivity)
    unfold shrRne
    rw [if_neg hsh.ne', hdiv]
    simp only [Bool.false_eq_true, false_or]
    generalize m % 2 ^ sh = r at *
    generalize m / 2 ^ sh = q at *
    generalize 2 ^ (sh - 1) = half at *
    generalize (2 : ℤ) ^ sh = unit at *
    split_ifs with h
    · have hdiff : ((q + 1 : ℕ) : ℤ) * unit - (q * unit + r) = unit - r := by push_cast; ring
      rw [hdiff, abs_of_nonneg (by omega)]
      omega
    · have hdiff : (q : ℤ) * unit - (q * unit + r) = -r := by ring
      rw [hdiff, abs_neg, abs_of_nonneg (by omega)]
      omega

theorem two_zpow_split {a b : ℤ} (h : a ≤ b) : (2 : ℚ) ^ b = ((2 ^ (b - a).toNat : ℕ) : ℚ) * (2 : ℚ) ^ a := by
  have hb : b = ((b - a).toNat : ℤ) + a := by omega
  conv_lhs => rw [hb, zpow_add₀ (by norm_num), zpow_natCast]
  push_cast
  rfl

/-- Rounding is off by at most half a unit of the last place. -/
theorem roundUnits_half (m : Nat) (e : Int) :
    2 * |(roundUnits m e false : ℚ) * (2 : ℚ) ^ roundLsb m e - m * (2 : ℚ) ^ e| ≤ (2 : ℚ) ^ roundLsb m e := by
  unfold roundUnits
  split
  · next h =>
    rw [two_zpow_split h, Nat.cast_mul, mul_assoc, sub_self, abs_zero, mul_zero]
    positivity
  · next h =>
    have hhalf : 2 * |(shrRne m (roundLsb m e - e).toNat false : ℚ) * 2 ^ (roundLsb m e - e).toNat - m| ≤ 2 ^ (roundLsb m e - e).toNat := by
      exact_mod_cast shrRne_half m (roundLsb m e - e).toNat
    have hpos : (0 : ℚ) < (2 : ℚ) ^ e := by positivity
    rw [two_zpow_split (not_le.1 h).le, ← mul_assoc, ← sub_mul, abs_mul, abs_of_pos hpos, ← mul_assoc]
    refine mul_le_mul_of_nonneg_right ?_ hpos.le
    exact_mod_cast hhalf

/-- A whole number of units within half a unit of a number is the nearest. -/
theorem abs_le_of_half {c n : ℤ} {unit x : ℚ} (h : 2 * |c * unit - x| ≤ unit) : |c * unit - x| ≤ |n * unit - x| := by
  have hunit : 0 ≤ unit := le_trans (by positivity) h
  rcases eq_or_ne n c with rfl | hne
  · exact le_rfl
  · have hone : (1 : ℚ) ≤ |((n - c : ℤ) : ℚ)| := by exact_mod_cast Int.one_le_abs (sub_ne_zero.2 hne)
    have hstep : unit ≤ |(n * unit - x) - (c * unit - x)| := by
      have : (n * unit - x) - (c * unit - x) = ((n - c : ℤ) : ℚ) * unit := by push_cast; ring
      rw [this, abs_mul, abs_of_nonneg hunit]
      exact le_mul_of_one_le_left hunit hone
    have := abs_sub (n * unit - x) (c * unit - x)
    linarith

theorem fMant_lt (w : W64) : fMant w < 2 ^ 53 := by
  unfold fMant fFrac; split <;> omega

theorem le_fLsb (w : W64) : -1074 ≤ fLsb w := by
  unfold fLsb; split <;> omega

/-- No magnitude that a word holds is nearer than the rounded one (R157). -/
theorem roundUnits_nearest {m : Nat} (hm : m ≠ 0) (e : Int) {k : Nat} (hk : k < 2 ^ 53) {j : Int} (hj : -1074 ≤ j) :
    |(roundUnits m e false : ℚ) * (2 : ℚ) ^ roundLsb m e - m * (2 : ℚ) ^ e| ≤ |(k : ℚ) * (2 : ℚ) ^ j - m * (2 : ℚ) ^ e| := by
  have hhalf := roundUnits_half m e
  have near (n : ℤ) : |(roundUnits m e false : ℚ) * (2 : ℚ) ^ roundLsb m e - m * (2 : ℚ) ^ e| ≤ |(n : ℚ) * (2 : ℚ) ^ roundLsb m e - m * (2 : ℚ) ^ e| :=
    abs_le_of_half (c := roundUnits m e false) (by exact_mod_cast hhalf)
  rcases le_or_gt (roundLsb m e) j with h | h
  · -- a whole number of units
    have := near (k * 2 ^ (j - roundLsb m e).toNat : ℕ)
    rw [two_zpow_split h]
    push_cast at this ⊢
    rwa [mul_assoc] at this
  · -- smaller units: the word holds less than 2 ^ 52 of the result's units, and the number is no less
    have hlsb : roundLsb m e = e + bitLen m - 53 := by unfold roundLsb at h ⊢; omega
    have hbelow : (k : ℚ) * (2 : ℚ) ^ j ≤ 2 ^ 52 * (2 : ℚ) ^ roundLsb m e := by
      have hk' : (k : ℚ) ≤ 2 ^ 52 * 2 := by exact_mod_cast hk.le
      calc (k : ℚ) * (2 : ℚ) ^ j ≤ 2 ^ 52 * 2 * (2 : ℚ) ^ j := mul_le_mul_of_nonneg_right hk' (by positivity)
        _ = 2 ^ 52 * (2 : ℚ) ^ (j + 1) := by rw [zpow_add_one₀ (by norm_num)]; ring
        _ ≤ 2 ^ 52 * (2 : ℚ) ^ roundLsb m e :=
          mul_le_mul_of_nonneg_left (zpow_le_zpow_right₀ (by norm_num) (by omega)) (by norm_num)
    have habove : 2 ^ 52 * (2 : ℚ) ^ roundLsb m e ≤ m * (2 : ℚ) ^ e := by
      have hm2 : ((2 ^ bitLen m : ℕ) : ℚ) ≤ 2 * m := by exact_mod_cast two_pow_bitLen_le hm
      have hpow : 2 ^ 52 * (2 : ℚ) ^ roundLsb m e = ((2 ^ bitLen m : ℕ) : ℚ) * (2 : ℚ) ^ (e - 1) := by
        push_cast
        rw [← zpow_natCast (2 : ℚ) 52, ← zpow_natCast (2 : ℚ) (bitLen m), ← zpow_add₀ (by norm_num), ← zpow_add₀ (by norm_num)]
        congr 1
        omega
      calc 2 ^ 52 * (2 : ℚ) ^ roundLsb m e ≤ 2 * m * (2 : ℚ) ^ (e - 1) := hpow ▸ mul_le_mul_of_nonneg_right hm2 (by positivity)
        _ = m * (2 : ℚ) ^ e := by rw [zpow_sub_one₀ (by norm_num)]; ring
    have hnear := near (2 ^ 52 : ℕ)
    push_cast at hnear
    refine hnear.trans ?_
    rw [abs_sub_comm _ (m * (2 : ℚ) ^ e), abs_sub_comm _ (m * (2 : ℚ) ^ e), abs_of_nonneg (by linarith), abs_of_nonneg (by linarith)]
    linarith

/-! ### The arithmetic instructions -/

theorem abs_fVal (w : W64) : |fVal w| = (fMant w : ℚ) * (2 : ℚ) ^ fLsb w := by
  rw [fVal_eq, mul_assoc, abs_signOf_mul, abs_of_nonneg (by positivity)]

theorem fVal_fZero (z : Bool) : fVal (fZero z) = 0 := by
  have : fMant (fZero z) = 0 := by cases z <;> decide
  rw [fVal_eq, this]; simp

/-- Rounding a signed magnitude is rounding to nearest (R157). -/
theorem roundPack_nearest {neg : Bool} {m : Nat} {e : Int} (hfin : fFinite (roundPack neg m e false) = true) (w : W64) :
    |fVal (roundPack neg m e false) - signOf neg * (m * (2 : ℚ) ^ e)| ≤ |fVal w - signOf neg * (m * (2 : ℚ) ^ e)| := by
  rcases eq_or_ne m 0 with rfl | hm
  · rw [roundPack, if_pos rfl, fVal_fZero]; simp
  · have hside (v : ℚ) : |v - signOf neg * (m * (2 : ℚ) ^ e)| = |signOf neg * v - m * (2 : ℚ) ^ e| := by
      rw [← abs_signOf_mul neg, mul_sub, ← mul_assoc, signOf_mul_self, one_mul]
    have hval : signOf neg * fVal (roundPack neg m e false) = roundUnits m e false * (2 : ℚ) ^ roundLsb m e := by
      rw [fVal_roundPack hm hfin, mul_assoc, ← mul_assoc, signOf_mul_self, one_mul]
    have habs : |(m : ℚ) * (2 : ℚ) ^ e| = m * (2 : ℚ) ^ e := abs_of_nonneg (by positivity)
    rw [hside, hside, hval]
    calc _ ≤ |(fMant w : ℚ) * (2 : ℚ) ^ fLsb w - m * (2 : ℚ) ^ e| := roundUnits_nearest hm e (fMant_lt w) (le_fLsb w)
      _ = |(|signOf neg * fVal w| - |(m : ℚ) * (2 : ℚ) ^ e|)| := by rw [abs_signOf_mul, abs_fVal, habs]
      _ ≤ |signOf neg * fVal w - m * (2 : ℚ) ^ e| := abs_abs_sub_abs_le ..

theorem roundInt_nearest {m e : Int} {z : Bool} (hfin : fFinite (roundInt m e z) = true) (w : W64) :
    |fVal (roundInt m e z) - m * (2 : ℚ) ^ e| ≤ |fVal w - m * (2 : ℚ) ^ e| := by
  unfold roundInt at hfin ⊢
  split_ifs at hfin ⊢ with h
  · subst h; rw [fVal_fZero]; simp
  · have hm : (m : ℚ) = signOf (decide (m < 0)) * m.natAbs := by
      rw [Nat.cast_natAbs, Int.cast_abs]
      unfold signOf
      split_ifs with hneg
      · rw [abs_of_neg (by exact_mod_cast of_decide_eq_true hneg)]; ring
      · rw [abs_of_nonneg (by exact_mod_cast not_lt.1 (of_decide_eq_false (Bool.eq_false_iff.2 hneg)))]; ring
    rw [hm, mul_assoc]
    exact roundPack_nearest hfin w

theorem fVal_sMant (w : W64) : fVal w = sMant w * (2 : ℚ) ^ fLsb w := by
  rw [fVal_eq, sMant, signOf]
  split_ifs <;> push_cast <;> ring

/-- The sum of two numbers as one, without rounding. -/
theorem dyAdd_exact (a ea b eb : Int) : ((dyAdd a ea b eb).1 : ℚ) * (2 : ℚ) ^ (dyAdd a ea b eb).2 = a * (2 : ℚ) ^ ea + b * (2 : ℚ) ^ eb := by
  have ha := two_zpow_split (min_le_left ea eb)
  have hb := two_zpow_split (min_le_right ea eb)
  simp only [dyAdd]
  rw [ha, hb]
  push_cast
  ring

theorem finite_parts {w : W64} (h : fFinite w = true) : isNaN w = false ∧ isInf w = false := by
  have hexp : fExp w ≠ 2047 := by simpa only [fFinite, bne_iff_ne] using h
  constructor
  · rw [Bool.eq_false_iff, Ne, isNaN_iff]; unfold fExp at hexp; omega
  · rw [Bool.eq_false_iff, Ne, isInf_iff]; unfold fExp at hexp; omega

section
variable {x y : W64} (hx : fFinite x = true) (hy : fFinite y = true)
include hx hy

theorem opFAdd_nearest (hfin : fFinite (opFAdd x y) = true) (w : W64) : |fVal (opFAdd x y) - (fVal x + fVal y)| ≤ |fVal w - (fVal x + fVal y)| := by
  obtain ⟨xn, xi⟩ := finite_parts hx
  obtain ⟨yn, yi⟩ := finite_parts hy
  have hsum : opFAdd x y = roundInt (dyAdd (sMant x) (fLsb x) (sMant y) (fLsb y)).1 (dyAdd (sMant x) (fLsb x) (sMant y) (fLsb y)).2
      (fNeg x && fNeg y) := by
    simp only [opFAdd, xn, xi, yn, yi, Bool.false_eq_true, or_self, if_false]
  rw [fVal_sMant x, fVal_sMant y, ← dyAdd_exact]
  rw [hsum] at hfin ⊢
  exact roundInt_nearest hfin w

theorem opFMul_nearest (hfin : fFinite (opFMul x y) = true) (w : W64) : |fVal (opFMul x y) - fVal x * fVal y| ≤ |fVal w - fVal x * fVal y| := by
  obtain ⟨xn, xi⟩ := finite_parts hx
  obtain ⟨yn, yi⟩ := finite_parts hy
  have hprod : opFMul x y = roundPack (fNeg x != fNeg y) (fMant x * fMant y) (fLsb x + fLsb y) false := by
    simp only [opFMul, xn, xi, yn, yi, Bool.false_eq_true, or_self, false_and, and_false, if_false]
  have hval : fVal x * fVal y = signOf (fNeg x != fNeg y) * ((fMant x * fMant y : ℕ) * (2 : ℚ) ^ (fLsb x + fLsb y)) := by
    rw [fVal_eq, fVal_eq, signOf_bne, zpow_add₀ (by norm_num)]
    push_cast
    ring
  rw [hval]
  rw [hprod] at hfin ⊢
  exact roundPack_nearest hfin w

end

/-- A sign inverted negates the number. -/
theorem neg_sign (y : W64) : fFinite (y ^^^ 0x8000000000000000) = fFinite y ∧ fVal (y ^^^ 0x8000000000000000) = -fVal y := by
  obtain ⟨hmag, hsign⟩ := toNat_xor_sign y
  have hlt := y.isLt
  have hexp : fExp (y ^^^ 0x8000000000000000) = fExp y := by unfold fExp; omega
  have hfrac : fFrac (y ^^^ 0x8000000000000000) = fFrac y := by unfold fFrac; omega
  have hneg : fNeg (y ^^^ 0x8000000000000000) = !fNeg y := by
    rw [Bool.eq_iff_iff, Bool.not_eq_true', ← Bool.not_eq_true, fNeg_iff, fNeg_iff]; omega
  have hmant : fMant (y ^^^ 0x8000000000000000) = fMant y := by rw [fMant, fMant, hexp, hfrac]
  have hlsb : fLsb (y ^^^ 0x8000000000000000) = fLsb y := by rw [fLsb, fLsb, hexp]
  refine ⟨by rw [fFinite, fFinite, hexp], ?_⟩
  rw [fVal_eq, fVal_eq, hmant, hlsb, hneg, signOf_not, neg_mul, neg_mul]

theorem opFSub_nearest {x y : W64} (hx : fFinite x = true) (hy : fFinite y = true) (hfin : fFinite (opFSub x y) = true) (w : W64) :
    |fVal (opFSub x y) - (fVal x - fVal y)| ≤ |fVal w - (fVal x - fVal y)| := by
  obtain ⟨hfin', hval⟩ := neg_sign y
  have hsub : opFSub x y = opFAdd x (y ^^^ 0x8000000000000000) := by
    simp only [opFSub, opFNeg, (finite_parts hy).1, Bool.false_eq_true, if_false]
  rw [sub_eq_add_neg (fVal x), ← hval]
  rw [hsub] at hfin ⊢
  exact opFAdd_nearest hx (hfin'.trans hy) hfin w

/-- Settles O6: the exact result is rounded once, and the rounded magnitude is the nearest that a word holds. -/
theorem floatSumsAndProductsAreNearest : Obligations.FloatSumsAndProductsAreNearest := by
  unfold Obligations.FloatSumsAndProductsAreNearest
  exact fun x y w hx hy _ => ⟨fun h => opFAdd_nearest hx hy h w, fun h => opFSub_nearest hx hy h w, fun h => opFMul_nearest hx hy h w⟩

end Sys2Proof.Machine
end

section
/-! PROOFS. Constants, cycle values, signal instructions and NOP: what they read and write (O8, O11). -/

namespace Sys2Proof.Machine

/-! ### The effect of each instruction (R147, R152, R154, R155) -/

section
variable {s : State} {l : LaneSt} {e : Engine} {w : BitVec 32}

theorem State.effect_ldi (h : wordBits w 24 8 = 0x03) :
    s.effect l e w = { xw := some (wordBits w 14 6, (BitVec.ofNat 14 (wordBits w 0 14)).signExtend 64) } := by
  unfold State.effect; rw [h]; rfl

theorem State.effect_ldk {sc : Scan} (h : wordBits w 24 8 = 0x04) (hs : l.scan = some sc) :
    s.effect l e w = { xw := some (wordBits w 14 6, e.code64 sc.bank (sc.code + 131072 - 2 * (wordBits w 0 14 + 2))) } := by
  unfold State.effect; rw [h, hs]; rfl

theorem State.effect_get (h : wordBits w 24 8 = 0x05) (hi : wordBits w 0 14 < 8) :
    s.effect l e w = { xw := some (wordBits w 14 6, s.getValue l e (wordBits w 0 14)) } := by
  have hf : decide (wordBits w 0 14 > 7) = false := decide_eq_false (by omega)
  unfold State.effect; rw [h, hf]; rfl

theorem State.effect_ldf {v : W64} (h : wordBits w 24 8 = 0x60) (hv : l.frameWord e (wordBits w 0 12) = some v) :
    s.effect l e w = { xw := some (wordBits w 14 6, v) } := by
  unfold State.effect; rw [h]; dsimp only; rw [hv]; rfl

theorem State.effect_stf {v : W64} (h : wordBits w 24 8 = 0x61) (hv : l.frameWord e (wordBits w 0 12) = some v) :
    s.effect l e w = { fw := some (wordBits w 0 12, e.xr (wordBits w 14 6)) } := by
  unfold State.effect; rw [h]; dsimp only; rw [hv]; rfl

theorem State.effect_ldfx {v : W64} (h : wordBits w 24 8 = 0x62)
    (hv : l.frameWord e (e.xr (wordBits w 8 6) + e.xr (wordBits w 2 6)).toNat = some v) :
    s.effect l e w = { xw := some (wordBits w 14 6, v) } := by
  unfold State.effect; rw [h]; dsimp only; rw [hv]; rfl

theorem State.effect_ldfx_out (h : wordBits w 24 8 = 0x62)
    (hv : l.frameWord e (e.xr (wordBits w 8 6) + e.xr (wordBits w 2 6)).toNat = none) :
    s.effect l e w = { xw := some (wordBits w 14 6, 0), oof := true } := by
  unfold State.effect; rw [h]; dsimp only; rw [hv]; rfl

theorem State.effect_ldsv {r : Rec} {j : Nat} (h : wordBits w 24 8 = 0x70) (hj : wordBits w 0 8 = j) (hr : l.conn j = some r) :
    s.effect l e w = { xw := some (wordBits w 14 6, r.value) } := by
  unfold State.effect; rw [h, hj]; dsimp only; rw [hr]; rfl

theorem State.effect_ldsm {r : Rec} {j : Nat} (h : wordBits w 24 8 = 0x71) (hj : wordBits w 0 8 = j) (hr : l.conn j = some r) :
    s.effect l e w = { xw := some (wordBits w 14 6, metaWord r) } := by
  unfold State.effect; rw [h, hj]; dsimp only; rw [hr]; rfl

theorem State.effect_sts (h : wordBits w 24 8 = 0x72) :
    s.effect l e w = { st := (l.storeOf e (wordBits w 0 8) (e.xr (wordBits w 14 6)) ((l.scan.map fun sc => (s.cls sc.cls).flyTime).getD 0)
      (getBits (e.xr (wordBits w 8 6)) 0 8)) } := by
  unfold State.effect; rw [h]; rfl

theorem State.effect_stsr (h : wordBits w 24 8 = 0x73) :
    s.effect l e w = { st := (l.storeOf e (wordBits w 0 8) (e.xr (wordBits w 14 6)) (getBits (e.xr (wordBits w 8 6)) 0 48)
      (getBits (e.xr (wordBits w 8 6)) 48 8)) } := by
  unfold State.effect; rw [h]; rfl

theorem State.effect_tstc {cw : W64} {j : Nat} (h : wordBits w 24 8 = 0x74) (hj : wordBits w 0 8 = j) (hv : l.frameWord e (j + 1) = some cw) :
    s.effect l e w = { pw := some (wordBits w 14 3, connKind cw != 3) } := by
  unfold State.effect; rw [h, hj]; dsimp only; rw [hv]; rfl

theorem State.effect_nop (h : wordBits w 24 8 = 0) : s.effect l e w = {} := by unfold State.effect; rw [h]; rfl

theorem State.effect_end (h : wordBits w 24 8 = 1) : s.effect l e w = {} := by unfold State.effect; rw [h]; rfl

theorem aluX_unassigned {op : Nat} (h : opAssigned op = false) (x y z : W64) : aluX op x y z = none := by
  unfold aluX
  split
  case h_50 => rfl
  all_goals exact absurd h (by decide)

theorem aluP_unassigned {op : Nat} (h : opAssigned op = false) (x y : W64) (p q : Bool) : aluP op x y p q = none := by
  unfold aluP
  split
  case h_13 => rfl
  all_goals exact absurd h (by decide)

/-- An opcode that no table assigns has no effect on an engine (R141). -/
theorem State.effect_unassigned (h : opAssigned (wordBits w 24 8) = false) : s.effect l e w = {} := by
  unfold State.effect
  generalize wordBits w 24 8 = op at h
  dsimp only
  rw [aluX_unassigned h, aluP_unassigned h]
  dsimp only
  split
  case h_14 => rfl
  all_goals exact absurd h (by decide)

end

/-! ### One issue, by its effect -/

section
variable {s : State} {l : Fin 8} {w : BitVec 32}

/-- The effect that an issue has on the half H of a lane: none where the predicate does not hold (R127). -/
def State.issueEffect (s : State) (l : Fin 8) (w : BitVec 32) : Effect :=
  (s.issueOn (s.lane l.val) (s.lane l.val).main (s.flag (R.laneStateBusy l.val)) w).2

theorem State.issueEffect_takes {neg : Bool} {pr : BitVec 3} (h : s.laneTakes l neg pr = true) (hp : wordBits w 20 3 = pr.toNat)
    (hn : (wordBits w 23 1 == 1) = neg) : s.issueEffect l w = s.effect (s.lane l.val) (s.lane l.val).main w := by
  rw [State.issueEffect, State.issueOn_effect, hp, hn, if_pos (State.laneTakes_iff h).2]

/-- An instruction that takes effect and does not end the scan. -/
theorem State.issues_effect {c : Instr} {P : State → Prop} {neg : Bool} {pr : BitVec 3} {op : Nat} {f : Effect} (h : s.laneTakes l neg pr = true)
    (hw : c.laneWord = some (l, w)) (hx : exec c s = .next (s.laneIssue l.val w)) (hop : wordBits w 24 8 = op) (h1 : op ≠ 1)
    (hp : wordBits w 20 3 = pr.toNat) (hn : (wordBits w 23 1 == 1) = neg) (he : s.effect (s.lane l.val) (s.lane l.val).main w = f)
    (hP : s.issueEffect l w = f → P (s.laneIssueGo l.val w)) : s.issues c P :=
  State.issues_of_issue hw hx fun hd => by
    rw [State.laneIssue_goes (State.laneTakes_iff h).1 hd, if_neg fun hh => h1 (hop ▸ hh.1)]
    exact hP ((State.issueEffect_takes h hp hn).trans he)

/-- An issue without effect: only the lane's place in the code moves on. -/
theorem State.laneIssueGo_keeps (hf : s.issueEffect l w = {}) : LaneKeeps s (s.laneIssueGo l.val w) l := by
  rw [State.issueEffect] at hf
  obtain ⟨hmain, hscan, hstore, hrest, hdirty⟩ := State.laneIssueGo_lane s l.val w (by rw [hf]) (by rw [hf])
  have heng := State.issueOn_engine s (s.lane l.val) (s.lane l.val).main (s.flag (R.laneStateBusy l.val)) w
  rw [hf] at hstore hdirty heng
  refine ⟨State.laneIssueGo_only s l w (by rw [hf]) (by rw [hf]), ?_, hscan, ?_⟩
  · rw [hrest, hdirty rfl, hstore]; rfl
  · rw [Engine.went, hmain, heng]; rfl

/-- An issue whose effect is a store, or a dropped one. -/
theorem State.laneIssueGo_queues {st : Option Store} (hf : s.issueEffect l w = { st := st }) : LaneQueues s (s.laneIssueGo l.val w) l st.toList := by
  rw [State.issueEffect] at hf
  obtain ⟨hmain, hscan, hstore, hrest, hdirty⟩ := State.laneIssueGo_lane s l.val w (by rw [hf]) (by rw [hf])
  have heng := State.issueOn_engine s (s.lane l.val) (s.lane l.val).main (s.flag (R.laneStateBusy l.val)) w
  rw [hf] at hstore hdirty heng
  have hqueue : ((s.laneIssueGo l.val w).lane l.val).storeQ = (s.lane l.val).storeQ ++ st.toList := by
    rw [hstore]; cases st <;> simp
  refine ⟨State.laneIssueGo_only s l w (by rw [hf]) (by rw [hf]), hscan, ?_, ?_⟩
  · rw [hrest, hdirty rfl, hqueue]; rfl
  · rw [Engine.went, hmain, heng]; rfl

/-- An instruction whose effect is one register write. -/
theorem State.issues_writes {c : Instr} {P : State → Prop} {neg : Bool} {pr : BitVec 3} {op : Nat} {d : BitVec 6} {v : W64}
    (h : s.laneTakes l neg pr = true) (hw : c.laneWord = some (l, w)) (hx : exec c s = .next (s.laneIssue l.val w))
    (hop : wordBits w 24 8 = op) (h1 : op ≠ 1) (hp : wordBits w 20 3 = pr.toNat) (hn : (wordBits w 23 1 == 1) = neg)
    (he : s.effect (s.lane l.val) (s.lane l.val).main w = { xw := some (d.toNat, v) }) (hP : ∀ t, LaneWrites s t l d v → P t) : s.issues c P :=
  State.issues_of_issue hw hx fun hd => hP _ (State.laneIssue_writes h hd hp hn (hop ▸ h1) he)

end

/-! ### Constants and cycle values (R138, R147, R155) -/

/-- A 64-bit constant: its two words, the low half lower (R138). -/
theorem Engine.code64_toNat (e : Engine) (bank a : Nat) :
    (e.code64 bank a).toNat = (e.codeAt bank a).toNat + 2 ^ 32 * (e.codeAt bank (a + 1)).toNat := by
  have h1 := (e.codeAt bank a).isLt
  have h2 := (e.codeAt bank (a + 1)).isLt
  rw [Engine.code64, BitVec.toNat_ofNat]
  omega

theorem toNat_ofNat_getBits (w : W64) (lo : Nat) {len : Nat} (h : len ≤ 64) : (BitVec.ofNat 64 (getBits w lo len)).toNat = w.toNat / 2 ^ lo % 2 ^ len := by
  rw [BitVec.toNat_ofNat, Nat.mod_eq_of_lt ((getBits_lt w lo len).trans_le (Nat.pow_le_pow_right (by decide) h))]
  rfl

/-- Settles O8. -/
theorem constantsAndCycleValues : Obligations.ConstantsAndCycleValues := by
  unfold Obligations.ConstantsAndCycleValues
  intro s l neg pr d imm h
  refine ⟨?ldi, fun sc hs => ⟨?ldk, fun himm => ?get⟩⟩
  case ldi =>
    obtain ⟨f1, f2, f3, f4, f5⟩ := wordI_fields (op := 0x03) (by decide) neg pr d imm
    refine State.issues_writes h rfl rfl f1 (by decide) f2 f3 (by rw [State.effect_ldi f1, f4, f5]) fun t ht => ⟨_, ht, ?_⟩
    rw [BitVec.ofNat_toNat, BitVec.setWidth_eq, BitVec.toInt_signExtend_of_le (by decide)]
  case ldk =>
    obtain ⟨f1, f2, f3, f4, f5⟩ := wordI_fields (op := 0x04) (by decide) neg pr d imm
    exact State.issues_writes h rfl rfl f1 (by decide) f2 f3 (by rw [State.effect_ldk f1 hs, f4, f5]) fun t ht => ⟨_, ht, Engine.code64_toNat ..⟩
  case get =>
    obtain ⟨f1, f2, f3, f4, f5⟩ := wordI_fields (op := 0x05) (by decide) neg pr d imm
    refine State.issues_writes h rfl rfl f1 (by decide) f2 f3 (by rw [State.effect_get f1 (by omega), f4, f5]) fun t ht => ⟨_, ht, ?_⟩
    unfold State.getValue
    rw [hs]
    refine ⟨fun k => ?_, fun k => ?_, fun k => ?_, fun k => ?_, fun k => ?_, fun k => ?_, fun k => ?_⟩ <;> rw [k]
    case refine_5 => exact toNat_ofNat_getBits _ 48 (by decide)
    case refine_6 =>
      refine (toNat_ofNat_getBits _ 0 (by decide)).trans ?_
      rw [pow_zero, Nat.div_one]; rfl
    case refine_7 => exact toNat_ofNat_getBits _ 32 (by decide)
    all_goals rfl

/-! ### Signal instructions (R154, R163, R164) -/

/-- What LDSV and LDSM give: the prefetched record with a quality above 04h as 00h, GOOD and zeros where the connection has none. -/
theorem LaneSt.conn_eq {ln : LaneSt} {sc : Scan} {j : Nat} (hs : ln.scan = some sc) (hj : j < sc.nconn) {r : Rec}
    (hr : (mget none ln.recs j).getD ⟨0, 0, 4, 0⟩ = r) : ln.conn j = some { r with qual := writtenQual r.qual } := by
  subst hr
  unfold LaneSt.conn
  rw [hs]
  dsimp only
  rw [if_pos hj]
  cases mget none ln.recs j <;> rfl

theorem metaWord_toNat (r : Rec) : (metaWord r).toNat = r.stamp % 2 ^ 48 + r.qual % 256 * 2 ^ 48 + r.flags % 256 * 2 ^ 56 := by
  rw [metaWord, BitVec.toNat_ofNat]; omega

/-- KIND 00 and OUT 1 of a connection word (R136). -/
theorem connOut_iff (cw : W64) : (connKind cw = 0 ∧ connOut cw = true) ↔ cw.toNat / 2 ^ 62 = 0 ∧ cw.toNat / 2 ^ 61 % 2 = 1 := by
  have := cw.isLt
  simp only [connKind, connOut, getBits, beq_iff_eq]
  omega

/-- KIND 11 of a connection word (R136). -/
theorem connKind_ne (cw : W64) : (connKind cw != 3) = decide (cw.toNat / 2 ^ 62 ≠ 3) := by
  have := cw.isLt
  have hkind : connKind cw = cw.toNat / 2 ^ 62 := by rw [connKind, getBits]; omega
  rw [hkind, bne, beq_eq_decide, decide_not]

theorem getBits_mod (w : W64) (lo n : Nat) : getBits w lo n % 2 ^ n = getBits w lo n := Nat.mod_mod ..

theorem getBits_byte (w : W64) (lo : Nat) : getBits w lo 8 % 256 = w.toNat / 2 ^ lo % 256 := Nat.mod_mod _ 256

theorem getBits_low (w : W64) (n : Nat) : getBits w 0 n = w.toNat % 2 ^ n := by rw [getBits, pow_zero, Nat.div_one]

/-- The store of a connection: none where OUT is 0 (R164). -/
theorem LaneSt.storeOf_eq {ln : LaneSt} {e : Engine} {sc : Scan} {cw : W64} {j : Nat} (hs : ln.scan = some sc) (hc : ln.frameWord e (j + 1) = some cw)
    (v : W64) (stamp qual : Nat) : (ln.storeOf e j v stamp qual).toList =
      if cw.toNat / 2 ^ 62 = 0 ∧ cw.toNat / 2 ^ 61 % 2 = 1 then [⟨cw.toNat % 2 ^ 18, v, stamp % 2 ^ 48, qual % 256, sc.cls⟩] else [] := by
  unfold LaneSt.storeOf
  rw [hs, hc]
  dsimp only
  simp only [connOut_iff, getBits_low]
  split <;> rfl

/-- Settles O11. -/
theorem signalInstructionsUseTheirConnection : Obligations.SignalInstructionsUseTheirConnection := by
  unfold Obligations.SignalInstructionsUseTheirConnection
  intro s l neg pr p d a conn sc cw h hs hj hc
  refine ⟨?ldsv, ?ldsm, ?sts, ?stsr, ?tstc⟩
  case ldsv =>
    obtain ⟨f1, f2, f3, f4, _, _, f7⟩ := wordS_fields (op := 0x70) (by decide) neg pr d 0 conn
    have he := State.effect_ldsv (s := s) (e := (s.lane l.val).main) f1 f7 (LaneSt.conn_eq hs hj rfl)
    exact State.issues_writes h rfl rfl f1 (by decide) f2 f3 (f4 ▸ he) fun t ht => ht
  case ldsm =>
    obtain ⟨f1, f2, f3, f4, _, _, f7⟩ := wordS_fields (op := 0x71) (by decide) neg pr d 0 conn
    have he := State.effect_ldsm (s := s) (e := (s.lane l.val).main) f1 f7 (LaneSt.conn_eq hs hj rfl)
    exact State.issues_writes h rfl rfl f1 (by decide) f2 f3 (f4 ▸ he) fun t ht =>
      ⟨_, ht, (metaWord_toNat _).trans (by simp only [writtenQual])⟩
  case sts =>
    obtain ⟨f1, f2, f3, f4, _, f6, f7⟩ := wordS_fields (op := 0x72) (by decide) neg pr d a conn
    refine State.issues_effect h rfl rfl f1 (by decide) f2 f3 (State.effect_sts f1) fun hf => ?_
    have hq := State.laneIssueGo_queues hf
    rw [f4, f6, f7, LaneSt.storeOf_eq hs hc, hs, getBits_byte, pow_zero, Nat.div_one] at hq
    exact hq
  case stsr =>
    obtain ⟨f1, f2, f3, f4, _, f6, f7⟩ := wordS_fields (op := 0x73) (by decide) neg pr d a conn
    refine State.issues_effect h rfl rfl f1 (by decide) f2 f3 (State.effect_stsr f1) fun hf => ?_
    have hq := State.laneIssueGo_queues hf
    rw [f4, f6, f7, LaneSt.storeOf_eq hs hc, getBits_mod, getBits_low, getBits_byte] at hq
    exact hq
  case tstc =>
    refine State.issues_of_issue rfl rfl fun hd => ?_
    obtain ⟨f1, f2, f3, _, f5, _, f7⟩ := wordS_fields (op := 0x74) (by decide) neg pr (p.setWidth 6) 0 conn
    refine State.laneIssue_decides h hd f2 f3 (by rw [f1]; decide) ?_
    rw [State.effect_tstc f1 f7 hc, f5, toNat_setWidth_low, connKind_ne]

end Sys2Proof.Machine
end

section
/-! PROOFS. Frame words and accesses outside the frame (O9, O10). -/

namespace Sys2Proof.Machine

/-! ### Words of the frame in the Frame Cache (R134, R142) -/

/-- A line holds one grain. -/
theorem LaneSt.line_tag {ln : LaneSt} {g i : Nat} (h : ln.line g = some i) : mget 0 ln.tags i = g + 1 := by
  unfold LaneSt.line at h
  obtain ⟨e, he, rfl⟩ := Option.map_eq_some_iff.1 h
  simpa using List.find?_some he

/-- What a word of a grain reads as once word `k'` of grain `g'` is written: two words of the cache coincide where grain and place do. -/
theorem LaneSt.word_mput (ln : LaneSt) (e : Engine) {g g' k k' i : Nat} (hi : ln.line (g' + k' / 8) = some i) (v : W64) :
    ln.word { e with fc := mput 0 e.fc (i * 8 + k' % 8) v } g k = if g + k / 8 = g' + k' / 8 ∧ k % 8 = k' % 8 then some v else ln.word e g k := by
  unfold LaneSt.word
  cases hj : ln.line (g + k / 8) with
  | none =>
    rw [if_neg fun h => by rw [h.1, hi] at hj; cases hj]
    rfl
  | some j =>
    have hti := ln.line_tag hi
    have htj := ln.line_tag hj
    simp only [Option.map_some, mget_mput]
    by_cases hc : g + k / 8 = g' + k' / 8 ∧ k % 8 = k' % 8
    · rw [hc.1, hi] at hj
      cases hj
      rw [if_pos hc, if_pos (by rw [hc.2])]
    · rw [if_neg hc, if_neg]
      intro hcell
      have hij : j = i := by omega
      subst hij
      omega

section
variable {ln : LaneSt} {e : Engine} {sc : Scan} {w : Nat}

theorem LaneSt.frameWord_eq (hs : ln.scan = some sc) : ln.frameWord e w = if w < sc.grains * 8 then ln.word e sc.frame w else none := by
  rw [LaneSt.frameWord, hs]

/-- Word `w` written is word `w` read, and every other word of the frame keeps its value. -/
theorem LaneSt.frameWord_putWord (hw : (ln.frameWord e w).isSome = true) (v : W64) (k : Nat) :
    ln.frameWord (ln.putWord e w v) k = if k = w then some v else ln.frameWord e k := by
  cases hs : ln.scan with
  | none => rw [LaneSt.frameWord, hs] at hw; cases hw
  | some sc =>
    rw [LaneSt.frameWord_eq hs] at hw
    rw [LaneSt.frameWord_eq hs, LaneSt.frameWord_eq hs]
    have hlt : w < sc.grains * 8 := by
      by_contra hge
      rw [if_neg hge] at hw; cases hw
    rw [if_pos hlt, LaneSt.word, Option.isSome_map, Option.isSome_iff_exists] at hw
    obtain ⟨i, hi⟩ := hw
    have hput : ln.putWord e w v = { e with fc := mput 0 e.fc (i * 8 + w % 8) v } := by rw [LaneSt.putWord, hs]; dsimp only; rw [hi]
    rw [hput, LaneSt.word_mput ln e hi]
    by_cases hk : k = w
    · subst hk; rw [if_pos hlt, if_pos ⟨rfl, rfl⟩, if_pos rfl]
    · rw [if_neg hk]
      split
      · rw [if_neg (by omega)]
      · rfl

end

/-- The words of the frame that an engine holds, from its Frame Cache alone. -/
theorem LaneSt.frameWord_congr (ln : LaneSt) {e e' : Engine} (h : e'.fc = e.fc) (k : Nat) : ln.frameWord e' k = ln.frameWord e k := by
  unfold LaneSt.frameWord LaneSt.word; rw [h]

theorem LaneSt.frameWord_of_tags {ln ln' : LaneSt} (htags : ln'.tags = ln.tags) (hscan : ln'.scan = ln.scan.map Scan.on) (e : Engine) (k : Nat) :
    ln'.frameWord e k = ln.frameWord e k := by
  unfold LaneSt.frameWord LaneSt.word LaneSt.line
  rw [hscan, htags]
  cases ln.scan <;> rfl

/-! ### The engine after an effect -/

section
variable (ln : LaneSt) (e : Engine)

theorem LaneSt.putWord_eq (w : Nat) (v : W64) : ln.putWord e w v = { e with fc := (ln.putWord e w v).fc } := by
  unfold LaneSt.putWord
  cases ln.scan with
  | none => rfl
  | some sc =>
    dsimp only
    cases ln.line (sc.frame + w / 8) <;> rfl

theorem LaneSt.putWord_xr (w : Nat) (v : W64) (n : Nat) : (ln.putWord e w v).xr n = e.xr n := by rw [LaneSt.putWord_eq]; rfl

theorem LaneSt.putWord_pr (w : Nat) (v : W64) (n : Nat) : (ln.putWord e w v).pr n = e.pr n := by rw [LaneSt.putWord_eq]; rfl

theorem Engine.setP_xr (n : Nat) (b : Bool) (k : Nat) : (e.setP n b).xr k = e.xr k := by unfold Engine.setP; split <;> rfl

theorem Engine.setP_fc (n : Nat) (b : Bool) : (e.setP n b).fc = e.fc := by unfold Engine.setP; split <;> rfl

theorem Engine.setX_pr (n : Nat) (v : W64) (k : Nat) : (e.setX n v).pr k = e.pr k := rfl

theorem Engine.setX_fc (n : Nat) (v : W64) : (e.setX n v).fc = e.fc := rfl

theorem LaneSt.apply_xr (f : Effect) (k : Nat) : (ln.apply e f).xr k = f.xw.elim (e.xr k) fun x => if k = x.1 then x.2 else e.xr k := by
  obtain ⟨xw, pw, fw, st, oof, free⟩ := f
  unfold LaneSt.apply
  rcases fw with _ | ⟨w, u⟩ <;> rcases pw with _ | ⟨n, b⟩ <;> rcases xw with _ | ⟨d, v⟩ <;> dsimp only [Option.elim] <;>
    simp only [LaneSt.putWord_xr, Engine.setP_xr, Engine.xr_setX]

/-- Without a predicate write the predicates stay. -/
theorem LaneSt.apply_pr {f : Effect} (h : f.pw = none) (k : Nat) : (ln.apply e f).pr k = e.pr k := by
  obtain ⟨xw, pw, fw, st, oof, free⟩ := f
  subst h
  unfold LaneSt.apply
  rcases fw with _ | ⟨w, u⟩ <;> rcases xw with _ | ⟨d, v⟩ <;> dsimp only <;> simp only [LaneSt.putWord_pr, Engine.setX_pr]

/-- Without a frame write the Frame Cache stays. -/
theorem LaneSt.apply_fc {f : Effect} (h : f.fw = none) : (ln.apply e f).fc = e.fc := by
  obtain ⟨xw, pw, fw, st, oof, free⟩ := f
  subst h
  unfold LaneSt.apply
  rcases pw with _ | ⟨n, b⟩ <;> rcases xw with _ | ⟨d, v⟩ <;> dsimp only <;> simp only [Engine.setP_fc, Engine.setX_fc]

end

/-! ### What every issue leaves, an access outside the frame included (R126, R172, R272) -/

/-- The counts and latches after the engines have issued. -/
def State.issueDone (s : State) (l : Nat) (f : Effect) (inst : Nat) : State :=
  let s := s.incMod (R.laneRetireRetired l)
  let s := if f.free then s.nextFree else s
  let s := if f.oof then s.oofLatch l inst else s
  s.dbgStat l

section
variable (s : State) (l : Nat)

theorem State.oofCounted_moved : RegsMoved (· = (R.laneOof l).addr) s (s.incSat (R.laneOofCount l)) := RegsMoved.setFld s (R.laneOofCount l) _

/-- LANEl_OOF with a block latched in it. -/
def State.oofLatched (inst : Nat) : State :=
  ((s.setFld (R.laneOofInstance l) inst).setFlag (R.laneOofValid l) true).setFld (R.laneOofCount l) 1

theorem State.oofLatched_moved (inst : Nat) : RegsMoved (· = (R.laneOof l).addr) s (s.oofLatched l inst) :=
  ((RegsMoved.setFld s (R.laneOofInstance l) _).trans (RegsMoved.setFld _ (R.laneOofValid l) _)).trans (RegsMoved.setFld _ (R.laneOofCount l) _)

/-- An access outside the frame is counted where something is latched, else latched and raised as event 0005h (R172, R173). -/
theorem State.oofLatch_cases (inst : Nat) : (s.flag (R.laneOofValid l) = true → s.oofLatch l inst = s.incSat (R.laneOofCount l)) ∧
    (s.flag (R.laneOofValid l) = false → ∃ e, s.oofLatch l inst = { s.oofLatched l inst with events := s.events ++ [e] } ∧ e.code = 5) := by
  refine ⟨fun h => by rw [State.oofLatch, if_pos h], fun h => ?_⟩
  obtain ⟨e, he, hcode, _⟩ := State.raise_unvectored (s.oofLatched l inst) (code := evFrameIndex) (by decide) (leBytes 1 l ++ leBytes 4 inst)
  have hev : (s.oofLatched l inst).events = s.events := by
    rw [State.oofLatched, State.setFld_events, State.setFlag_events, State.setFld_events]
  rw [hev] at he
  exact ⟨e, by rw [State.oofLatch, if_neg (by rw [h]; decide)]; exact he, hcode⟩

end

/-- Beside registers at the addresses `A`, only the free-value counter and the events have moved. -/
def CountsMoved (A : Nat → Prop) (s t : State) : Prop :=
  t = { s with regs := t.regs, free := t.free, events := t.events } ∧ ∀ a, ¬A a → t.reg a = s.reg a

theorem CountsMoved.trans {A : Nat → Prop} {s t u : State} (h : CountsMoved A s t) (k : CountsMoved A t u) : CountsMoved A s u := by
  refine ⟨?_, fun a ha => (k.2 a ha).trans (h.2 a ha)⟩
  rw [k.1, h.1]

theorem CountsMoved.mono {A B : Nat → Prop} {s t : State} (h : CountsMoved A s t) (hAB : ∀ a, A a → B a) : CountsMoved B s t :=
  ⟨h.1, fun a ha => h.2 a fun k => ha (hAB a k)⟩

theorem CountsMoved.with_events {A : Nat → Prop} {s t : State} (h : CountsMoved A s t) (ev : List Event) : CountsMoved A s { t with events := ev } := by
  obtain ⟨heq, hreg⟩ := h
  refine ⟨?_, hreg⟩
  rw [heq]

theorem RegsMoved.counts {A : Nat → Prop} {s t : State} (h : RegsMoved A s t) : CountsMoved A s t := by
  refine ⟨?_, h.2.1⟩
  conv_lhs => rw [h.1]
  rw [h.1]

section
variable (s : State) (l : Nat)

theorem State.dbgStat_counts : CountsMoved (· = (R.laneDbgstat l).addr) s (s.dbgStat l) :=
  ((RegsMoved.setFld s (R.laneDbgstatDepth l) _).trans (RegsMoved.setFld _ (R.laneDbgstatPending l) _)).counts

theorem State.oofLatch_counts (inst : Nat) : CountsMoved (· = (R.laneOof l).addr) s (s.oofLatch l inst) := by
  obtain ⟨hcount, hlatch⟩ := s.oofLatch_cases l inst
  cases h : s.flag (R.laneOofValid l) with
  | true => rw [hcount h]; exact (s.oofCounted_moved l).counts
  | false =>
    obtain ⟨e, he, _⟩ := hlatch h
    rw [he]
    exact (s.oofLatched_moved l inst).counts.with_events _

/-- The registers that follow RETIRED in an issue. -/
def latchesReg (a : Nat) : Prop := a = (R.laneOof l).addr ∨ a = (R.laneDbgstat l).addr

/-- What comes after RETIRED changes no lane and, beside the latches, only the free-value counter and the events. -/
theorem State.issueDone_counts (f : Effect) (inst : Nat) :
    CountsMoved (latchesReg l) (s.incMod (R.laneRetireRetired l)) (s.issueDone l f inst) := by
  have hfree : ∀ u : State, CountsMoved (latchesReg l) u (if f.free then u.nextFree else u) := fun u => by
    split <;> exact ⟨rfl, fun _ _ => rfl⟩
  have hoof : ∀ u : State, CountsMoved (latchesReg l) u (if f.oof then u.oofLatch l inst else u) := fun u => by
    split
    · exact (u.oofLatch_counts l inst).mono fun _ => .inl
    · exact ⟨rfl, fun _ _ => rfl⟩
  exact ((hfree _).trans (hoof _)).trans ((State.dbgStat_counts _ l).mono fun _ => .inr)

/-- RETIRED counts the instruction. -/
theorem State.issueDone_retired (f : Effect) (inst : Nat) :
    (s.issueDone l f inst).fld (R.laneRetireRetired l) = (s.fld (R.laneRetireRetired l) + 1) % 2 ^ 64 := by
  have hne : ¬latchesReg l (R.laneRetireRetired l).addr := by
    simp only [latchesReg, R.laneRetireRetired, R.laneOof, R.laneDbgstat]; omega
  rw [State.fld, (s.issueDone_counts l f inst).2 _ hne]
  exact State.fld_setFld_same s _ (retire_range l)

theorem State.issueDone_rest (f : Effect) (inst : Nat) :
    s.issueDone l f inst =
      { s with regs := (s.issueDone l f inst).regs, free := (s.issueDone l f inst).free, events := (s.issueDone l f inst).events } :=
  (((RegsMoved.setFld s (R.laneRetireRetired l) _).counts.mono fun _ _ => trivial).trans
    ((s.issueDone_counts l f inst).mono fun _ _ => trivial) : CountsMoved (fun _ => True) s _).1

theorem State.issueDone_lane (f : Effect) (inst k : Nat) : (s.issueDone l f inst).lane k = s.lane k := by
  rw [State.lane, s.issueDone_rest l f inst]; rfl

end

/-- What LDF, STF, LDFX and STFX leave on every operand (R126, R272): the lane on its next word, one instruction more counted, and every predicate,
store, other lane and byte of memory. -/
def IssueDone (s t : State) (l : Fin 8) : Prop :=
  (t.lane l.val).scan = (s.lane l.val).scan.map Scan.on ∧ (t.lane l.val).main.issued = (s.lane l.val).main.issued + 1 ∧
    t.fld (R.laneRetireRetired l.val) = (s.fld (R.laneRetireRetired l.val) + 1) % 2 ^ 64 ∧
    (∀ p, t.laneP l p = s.laneP l p) ∧ (t.lane l.val).storeQ = (s.lane l.val).storeQ ∧ (∀ k, k ≠ l.val → t.lane k = s.lane k) ∧
    t.mem = s.mem ∧ t.classes = s.classes ∧ t.book = s.book ∧ t.pair = s.pair

section
variable (s : State) (l : Fin 8) (w : BitVec 32)

theorem State.laneIssueGo_eq : ∃ c q cq d, s.laneIssueGo l.val w = (s.modLane l.val fun ln =>
      { ln with
        main := (s.issueOn (s.lane l.val) (s.lane l.val).main (s.flag (R.laneStateBusy l.val)) w).1, chk := c, dbgQ := q, dirty := d
        storeQ := ln.storeQ ++ (s.issueEffect l w).st.toList, chkQ := cq, scan := ln.scan.map Scan.on }).issueDone l.val (s.issueEffect l w)
        (getBits (((s.lane l.val).frameWord (s.lane l.val).main 0).getD 0) 0 32) := by
  have hst : ∀ q : List Store, (match (s.issueEffect l w).st with | some st => q ++ [st] | none => q) = q ++ (s.issueEffect l w).st.toList := by
    intro q; cases (s.issueEffect l w).st <;> simp
  simp only [← hst]
  exact ⟨_, _, _, _, rfl⟩

/-- The lane after an issue, whatever its effect. -/
theorem State.laneIssueGo_after : ∃ c q cq d, (s.laneIssueGo l.val w).lane l.val =
    { s.lane l.val with
      main := (s.issueOn (s.lane l.val) (s.lane l.val).main (s.flag (R.laneStateBusy l.val)) w).1, chk := c, dbgQ := q, dirty := d
      storeQ := (s.lane l.val).storeQ ++ (s.issueEffect l w).st.toList, chkQ := cq, scan := (s.lane l.val).scan.map Scan.on } := by
  obtain ⟨c, q, cq, d, h⟩ := s.laneIssueGo_eq l w
  exact ⟨c, q, cq, d, by rw [h, State.issueDone_lane, State.lane_modLane_same]⟩

theorem State.laneIssueGo_engine : ∃ sg n x, ((s.laneIssueGo l.val w).lane l.val).main =
    { (s.lane l.val).apply (s.lane l.val).main (s.issueEffect l w) with sig := sg, folds := n, extra := x, issued := (s.lane l.val).main.issued + 1 } := by
  obtain ⟨c, q, cq, d, h⟩ := s.laneIssueGo_after l w
  have he := State.issueOn_engine s (s.lane l.val) (s.lane l.val).main (s.flag (R.laneStateBusy l.val)) w
  rw [LaneSt.apply_issued] at he
  exact ⟨_, _, _, by rw [h]; exact he⟩

/-- An issue that stores nothing and writes no predicate. -/
theorem State.laneIssueGo_done (hst : (s.issueEffect l w).st = none) (hpw : (s.issueEffect l w).pw = none) : IssueDone s (s.laneIssueGo l.val w) l := by
  obtain ⟨c, q, cq, d, hlane⟩ := s.laneIssueGo_after l w
  obtain ⟨sg, n, x, hmain⟩ := s.laneIssueGo_engine l w
  obtain ⟨c', q', cq', d', heq⟩ := s.laneIssueGo_eq l w
  refine ⟨by rw [hlane], by rw [hmain], ?_, fun p => ?_, ?_, fun k hk => ?_, ?_⟩
  · rw [heq, State.issueDone_retired]; rfl
  · rw [State.laneP, hmain]; exact LaneSt.apply_pr _ _ hpw p.toNat
  · rw [hlane, hst]; exact List.append_nil _
  · rw [heq, State.issueDone_lane, State.lane_modLane_ne _ _ hk]
  · rw [heq, State.issueDone_rest]
    exact ⟨rfl, rfl, rfl, rfl⟩

theorem State.laneIssueGo_laneX (n : BitVec 6) : (s.laneIssueGo l.val w).laneX l n =
    (s.issueEffect l w).xw.elim (s.laneX l n) fun x => if n.toNat = x.1 then x.2 else s.laneX l n := by
  obtain ⟨sg, m, x, hmain⟩ := s.laneIssueGo_engine l w
  rw [State.laneX, hmain]
  exact LaneSt.apply_xr _ _ _ n.toNat

/-- The frame after an issue: as the Frame Cache holds it after the effect. -/
theorem State.laneIssueGo_laneFrame (k : Nat) : (s.laneIssueGo l.val w).laneFrame l k =
    (s.lane l.val).frameWord ((s.lane l.val).apply (s.lane l.val).main (s.issueEffect l w)) k := by
  obtain ⟨c, q, cq, d, hlane⟩ := s.laneIssueGo_after l w
  obtain ⟨sg, m, x, hmain⟩ := s.laneIssueGo_engine l w
  rw [State.laneFrame, LaneSt.frameWord_of_tags (ln := s.lane l.val) (by rw [hlane]) (by rw [hlane]), hmain]
  exact LaneSt.frameWord_congr _ rfl k

end

/-! ### Loads and stores of frame words (R152, R172, R173) -/

section
variable {s : State} {l : LaneSt} {e : Engine} {w : BitVec 32}

theorem State.effect_ldf_out (h : wordBits w 24 8 = 0x60) (hv : l.frameWord e (wordBits w 0 12) = none) :
    s.effect l e w = { xw := some (wordBits w 14 6, Config.freeWord s.free), free := true } := by
  unfold State.effect; rw [h]; dsimp only; rw [hv]; rfl

theorem State.effect_stf_out (h : wordBits w 24 8 = 0x61) (hv : l.frameWord e (wordBits w 0 12) = none) : s.effect l e w = {} := by
  unfold State.effect; rw [h]; dsimp only; rw [hv]; rfl

/-- STFX inside the frame and above NCONN. -/
theorem State.effect_stfx {sc : Scan} {i : Nat} {v : W64} (h : wordBits w 24 8 = 0x63) (hs : l.scan = some sc)
    (hi : (e.xr (wordBits w 8 6) + e.xr (wordBits w 2 6)).toNat = i) (hv : l.frameWord e i = some v) (hc : sc.nconn < i) :
    s.effect l e w = { fw := some (i, e.xr (wordBits w 14 6)) } := by
  have hle : ¬i ≤ sc.nconn := Nat.not_le.2 hc
  unfold State.effect; rw [h]; dsimp only; rw [hi, hv, hs]; exact if_neg hle

/-- STFX outside the frame, or at NCONN or below, is dropped. -/
theorem State.effect_stfx_out {i : Nat} (h : wordBits w 24 8 = 0x63) (hi : (e.xr (wordBits w 8 6) + e.xr (wordBits w 2 6)).toNat = i)
    (hc : ∀ sc v, l.scan = some sc → l.frameWord e i = some v → i ≤ sc.nconn) : s.effect l e w = { oof := true } := by
  unfold State.effect; rw [h]; dsimp only; rw [hi]
  cases hs : l.scan with
  | none => rfl
  | some sc =>
    cases hv : l.frameWord e i with
    | none => rfl
    | some v => exact if_pos (hc sc v hs hv)

/-- What LDF and LDFX can do: one register write. -/
theorem State.effect_loads (h : wordBits w 24 8 = 0x60 ∨ wordBits w 24 8 = 0x62) :
    ∃ v b c, s.effect l e w = { xw := some (wordBits w 14 6, v), free := b, oof := c } := by
  rcases h with h | h
  · cases hv : l.frameWord e (wordBits w 0 12) with
    | none => exact ⟨_, _, _, State.effect_ldf_out h hv⟩
    | some v => exact ⟨_, _, _, State.effect_ldf h hv⟩
  · cases hv : l.frameWord e (e.xr (wordBits w 8 6) + e.xr (wordBits w 2 6)).toNat with
    | none => exact ⟨_, _, _, State.effect_ldfx_out h hv⟩
    | some v => exact ⟨_, _, _, State.effect_ldfx h hv⟩

/-- What STF and STFX can do: one frame write, or none. -/
theorem State.effect_stores (h : wordBits w 24 8 = 0x61 ∨ wordBits w 24 8 = 0x63) : ∃ o c, s.effect l e w = { fw := o, oof := c } := by
  rcases h with h | h
  · cases hv : l.frameWord e (wordBits w 0 12) with
    | none => exact ⟨_, _, State.effect_stf_out h hv⟩
    | some v => exact ⟨_, _, State.effect_stf h hv⟩
  · by_cases hc : ∀ sc v, l.scan = some sc → l.frameWord e (e.xr (wordBits w 8 6) + e.xr (wordBits w 2 6)).toNat = some v →
        (e.xr (wordBits w 8 6) + e.xr (wordBits w 2 6)).toNat ≤ sc.nconn
    · exact ⟨_, _, State.effect_stfx_out h rfl hc⟩
    · push Not at hc
      obtain ⟨sc, v, hs, hv, hlt⟩ := hc
      exact ⟨_, _, State.effect_stfx h hs rfl hv hlt⟩

end

section
variable {s : State} {l : Fin 8} {w : BitVec 32} {c : Instr} {neg : Bool} {pr : BitVec 3} {op : Nat} {d : BitVec 6}

theorem State.issues_loads (h : s.laneTakes l neg pr = true) (hw : c.laneWord = some (l, w)) (hx : exec c s = .next (s.laneIssue l.val w))
    (hop : wordBits w 24 8 = op) (hld : op = 0x60 ∨ op = 0x62) (hp : wordBits w 20 3 = pr.toNat) (hn : (wordBits w 23 1 == 1) = neg)
    (hd : wordBits w 14 6 = d.toNat) : s.issues c fun t => IssueDone s t l ∧ ∀ n, n ≠ d → t.laneX l n = s.laneX l n := by
  obtain ⟨v, b, o, he⟩ := State.effect_loads (s := s) (l := s.lane l.val) (e := (s.lane l.val).main) (hop ▸ hld)
  refine State.issues_effect h hw hx hop (by omega) hp hn he fun hf => ⟨s.laneIssueGo_done l w (by rw [hf]) (by rw [hf]), fun n hne => ?_⟩
  rw [State.laneIssueGo_laneX, hf]
  exact if_neg fun hnd => hne (BitVec.eq_of_toNat_eq (hnd.trans hd))

theorem State.issues_stores (h : s.laneTakes l neg pr = true) (hw : c.laneWord = some (l, w)) (hx : exec c s = .next (s.laneIssue l.val w))
    (hop : wordBits w 24 8 = op) (hst : op = 0x61 ∨ op = 0x63) (hp : wordBits w 20 3 = pr.toNat) (hn : (wordBits w 23 1 == 1) = neg) :
    s.issues c fun t => IssueDone s t l ∧ ∀ n, t.laneX l n = s.laneX l n := by
  obtain ⟨o, b, he⟩ := State.effect_stores (s := s) (l := s.lane l.val) (e := (s.lane l.val).main) (hop ▸ hst)
  refine State.issues_effect h hw hx hop (by omega) hp hn he fun hf => ⟨s.laneIssueGo_done l w (by rw [hf]) (by rw [hf]), fun n => ?_⟩
  rw [State.laneIssueGo_laneX, hf]
  rfl

end

/-- Settles O10. -/
theorem frameInstructionsComplete : Obligations.FrameInstructionsComplete := by
  unfold Obligations.FrameInstructionsComplete
  intro s l neg pr d a b w h
  refine ⟨?ldf, ?ldfx, ?stf, ?stfx⟩
  case ldf =>
    obtain ⟨f1, f2, f3, f4, _⟩ := wordM_fields (op := 0x60) (by decide) neg pr d w
    exact State.issues_loads h rfl rfl f1 (by decide) f2 f3 f4
  case ldfx =>
    obtain ⟨f1, f2, f3, f4, _⟩ := wordR_fields (op := 0x62) (by decide) neg pr d a b
    exact State.issues_loads h rfl rfl f1 (by decide) f2 f3 f4
  case stf =>
    obtain ⟨f1, f2, f3, _⟩ := wordM_fields (op := 0x61) (by decide) neg pr d w
    exact State.issues_stores h rfl rfl f1 (by decide) f2 f3
  case stfx =>
    obtain ⟨f1, f2, f3, _⟩ := wordR_fields (op := 0x63) (by decide) neg pr d a b
    exact State.issues_stores h rfl rfl f1 (by decide) f2 f3

/-! ### Frame words written, and accesses outside the frame -/

section
variable {s : State} {l : Fin 8} {w : BitVec 32}

theorem LaneSt.apply_frames (ln : LaneSt) (e : Engine) (k : Nat) (v : W64) : ln.apply e { fw := some (k, v) } = ln.putWord e k v := rfl

/-- An issue whose effect is one write of a word of the frame. -/
theorem State.laneIssueGo_frames {k : Nat} {v : W64} (hf : s.issueEffect l w = { fw := some (k, v) }) (hk : (s.laneFrame l k).isSome = true) :
    LaneFrames s (s.laneIssueGo l.val w) l k v := by
  have hf' := hf
  rw [State.issueEffect] at hf
  obtain ⟨_, hscan, hstore, hrest, _⟩ := State.laneIssueGo_lane s l.val w (by rw [hf]) (by rw [hf])
  rw [hf] at hstore
  obtain ⟨sg, n, x, hmain⟩ := s.laneIssueGo_engine l w
  rw [hf', LaneSt.apply_frames, LaneSt.putWord_eq] at hmain
  refine ⟨State.laneIssueGo_only s l w (by rw [hf]) (by rw [hf]), hscan, ?_, ?_, fun j => ?_⟩
  · rw [hrest, hstore]; rfl
  · rw [Engine.went, hmain]
  · rw [State.laneIssueGo_laneFrame, hf', LaneSt.apply_frames]
    exact LaneSt.frameWord_putWord hk v j

/-- An issue that writes no word of the frame. -/
theorem State.laneIssueGo_frameSame (hf : (s.issueEffect l w).fw = none) (k : Nat) : (s.laneIssueGo l.val w).laneFrame l k = s.laneFrame l k := by
  rw [State.laneIssueGo_laneFrame]
  exact LaneSt.frameWord_congr _ (LaneSt.apply_fc _ _ hf) k

end

/-- The fields of LANEl_OOF lie in one register, each in 64 bits. -/
theorem laneOof_range (l : Nat) : (R.laneOofInstance l).lo + (R.laneOofInstance l).len ≤ 64 ∧ (R.laneOofCount l).lo + (R.laneOofCount l).len ≤ 64 ∧
    (R.laneOofValid l).lo + (R.laneOofValid l).len ≤ 64 := ⟨by simp [R.laneOofInstance], by simp [R.laneOofCount], by simp [R.laneOofValid]⟩

/-- An access outside the frame latched or counted, and raised where it was latched (R172, R173). -/
def OofCounted (s t : State) (l inst : Nat) : Prop :=
  (s.flag (R.laneOofValid l) = false → t.flag (R.laneOofValid l) = true ∧ t.fld (R.laneOofInstance l) = inst % 2 ^ 32 ∧ t.fld (R.laneOofCount l) = 1 ∧
    ∃ e, t.events = s.events ++ [e] ∧ e.code = 5) ∧
  (s.flag (R.laneOofValid l) = true → t.fld (R.laneOofInstance l) = s.fld (R.laneOofInstance l) ∧
    t.fld (R.laneOofCount l) = min (s.fld (R.laneOofCount l) + 1) (2 ^ (R.laneOofCount l).len - 1) ∧ t.events = s.events)

theorem OofCounted.congr {s s' t t' : State} {l inst : Nat} (h : OofCounted s t l inst) (hs : s'.reg (R.laneOof l).addr = s.reg (R.laneOof l).addr)
    (ht : t'.reg (R.laneOof l).addr = t.reg (R.laneOof l).addr) (hes : s'.events = s.events) (het : t'.events = t.events) : OofCounted s' t' l inst := by
  have fs : ∀ f : Fld, f.addr = (R.laneOof l).addr → s'.fld f = s.fld f := fun f hf => by rw [State.fld, State.fld, hf, hs]
  have ft : ∀ f : Fld, f.addr = (R.laneOof l).addr → t'.fld f = t.fld f := fun f hf => by rw [State.fld, State.fld, hf, ht]
  unfold OofCounted State.flag
  rw [fs (R.laneOofValid l) rfl, fs (R.laneOofInstance l) rfl, fs (R.laneOofCount l) rfl, ft (R.laneOofValid l) rfl, ft (R.laneOofInstance l) rfl,
    ft (R.laneOofCount l) rfl, hes, het]
  exact h

/-- LANEl_OOF with a block latched: its number, a count of 1 and VALID. -/
theorem State.oofLatched_fields (s : State) (l inst : Nat) : (s.oofLatched l inst).flag (R.laneOofValid l) = true ∧
    (s.oofLatched l inst).fld (R.laneOofInstance l) = inst % 2 ^ 32 ∧ (s.oofLatched l inst).fld (R.laneOofCount l) = 1 := by
  obtain ⟨hi, hc, hv⟩ := laneOof_range l
  refine ⟨?_, ?_, ?_⟩
  · rw [State.flag, State.oofLatched, State.fld_setFld_ne _ _ hc (.inr (.inl (by simp [R.laneOofCount, R.laneOofValid]))), ← State.flag]
    exact State.flag_setFlag_same _ _ hv (by simp [R.laneOofValid])
  · rw [State.oofLatched, State.fld_setFld_ne _ _ hc (.inr (.inr (by simp [R.laneOofCount, R.laneOofInstance]))),
      State.fld_setFlag_ne _ _ hv (.inr (.inr (by simp [R.laneOofValid, R.laneOofInstance]))), State.fld_setFld_same _ _ hi]
    rfl
  · rw [State.oofLatched, State.fld_setFld_same _ _ hc]
    rfl

theorem OofCounted.of_latched {s u : State} {l inst : Nat} (h : s.flag (R.laneOofValid l) = false) {e : Event} (hcode : e.code = 5)
    (hu : u.flag (R.laneOofValid l) = true ∧ u.fld (R.laneOofInstance l) = inst % 2 ^ 32 ∧ u.fld (R.laneOofCount l) = 1) :
    OofCounted s { u with events := s.events ++ [e] } l inst := by
  obtain ⟨hvalid, hinst, hone⟩ := hu
  refine ⟨fun _ => ⟨hvalid, hinst, hone, e, rfl, hcode⟩, fun h' => ?_⟩
  rw [h] at h'; cases h'

theorem OofCounted.of_counted {s : State} {l inst : Nat} (h : s.flag (R.laneOofValid l) = true) :
    OofCounted s (s.incSat (R.laneOofCount l)) l inst := by
  obtain ⟨_, hc, _⟩ := laneOof_range l
  refine ⟨fun h' => ?_, fun _ => ⟨?_, ?_, ?_⟩⟩
  · rw [h] at h'; cases h'
  · rw [State.incSat, State.addSat, State.fld_setFld_ne s _ hc (.inr (.inr (by simp [R.laneOofCount, R.laneOofInstance])))]
  · rw [State.incSat, State.fld_addSat s 1 hc]
  · rw [State.incSat, State.addSat, State.setFld_events]

theorem State.oofLatch_counted (s : State) (l inst : Nat) : OofCounted s (s.oofLatch l inst) l inst := by
  obtain ⟨hcount, hlatch⟩ := s.oofLatch_cases l inst
  cases h : s.flag (R.laneOofValid l) with
  | true => rw [hcount h]; exact .of_counted h
  | false =>
    obtain ⟨e, he, hcode⟩ := hlatch h
    rw [he]
    exact .of_latched h hcode (s.oofLatched_fields l inst)

theorem State.dbgStat_events (s : State) (l : Nat) : (s.dbgStat l).events = s.events :=
  (State.setFlag_events ..).trans (State.setFld_events ..)

/-- An indexed access outside the frame, as the issue leaves it. -/
theorem State.issueDone_counted (s : State) (l : Nat) {f : Effect} (inst : Nat) (hoof : f.oof = true) (hfree : f.free = false) :
    OofCounted s (s.issueDone l f inst) l inst := by
  have hdone : s.issueDone l f inst = ((s.incMod (R.laneRetireRetired l)).oofLatch l inst).dbgStat l := by
    unfold State.issueDone; rw [hoof, hfree]; simp only [Bool.false_eq_true, if_false, if_true]
  rw [hdone]
  refine (State.oofLatch_counted (s.incMod (R.laneRetireRetired l)) l inst).congr ?_ ?_ (State.incMod_events s _).symm (State.dbgStat_events ..)
  · rw [State.incMod, State.reg_setFld_ne _ _ (by simp only [R.laneRetireRetired, R.laneOof]; omega)]
  · exact (State.dbgStat_counts _ l).2 _ (by simp only [R.laneDbgstat, R.laneOof]; omega)

/-- An issue that reaches outside the frame. -/
theorem State.laneIssueGo_counted {s : State} {l : Fin 8} {w : BitVec 32} (hoof : (s.issueEffect l w).oof = true)
    (hfree : (s.issueEffect l w).free = false) :
    OofCounted s (s.laneIssueGo l.val w) l.val (getBits ((s.laneFrame l 0).getD 0) 0 32) := by
  obtain ⟨c, q, cq, d, heq⟩ := s.laneIssueGo_eq l w
  rw [heq]
  exact (State.issueDone_counted _ l.val _ hoof hfree).congr (by rw [State.reg, State.reg, State.modLane_regs]) rfl (State.modLane_events ..).symm rfl

theorem LaneSt.frameWord_none {ln : LaneSt} {e : Engine} {sc : Scan} {k : Nat} (hs : ln.scan = some sc) (hk : sc.grains * 8 ≤ k) :
    ln.frameWord e k = none := by
  rw [LaneSt.frameWord_eq hs, if_neg (Nat.not_lt.2 hk)]

/-- Settles O9. -/
theorem frameInstructionsReachTheFrame : Obligations.FrameInstructionsReachTheFrame := by
  unfold Obligations.FrameInstructionsReachTheFrame
  refine ⟨fun s l neg pr d a b w sc h hs hin => ?frame, fun s l neg pr d a b sc hd h hs hhd hout => ?counted⟩
  case frame =>
    have held : ∀ k < sc.grains * 8, ∃ v, (s.lane l.val).frameWord (s.lane l.val).main k = some v := fun k hk =>
      Option.isSome_iff_exists.1 (hin k hk)
    refine ⟨fun hw => ?ldf, fun hw => ?stf, fun hi => ?ldfx, fun hi => ?ldfxOut, fun hc hi => ?stfx, fun hi => ?stfxOut⟩
    case ldf =>
      obtain ⟨f1, f2, f3, f4, f5⟩ := wordM_fields (op := 0x60) (by decide) neg pr d w
      obtain ⟨v, hv⟩ := held _ hw
      exact State.issues_writes h rfl rfl f1 (by decide) f2 f3 (f4 ▸ State.effect_ldf f1 (f5.symm ▸ hv)) fun t ht => ⟨v, ht, hv⟩
    case stf =>
      obtain ⟨f1, f2, f3, f4, f5⟩ := wordM_fields (op := 0x61) (by decide) neg pr d w
      obtain ⟨v, hv⟩ := held _ hw
      refine State.issues_effect h rfl rfl f1 (by decide) f2 f3 (State.effect_stf f1 (f5.symm ▸ hv)) fun hf => ?_
      rw [f4, f5] at hf
      exact State.laneIssueGo_frames hf (hin _ hw)
    case ldfx =>
      obtain ⟨f1, f2, f3, f4, f5, f6⟩ := wordR_fields (op := 0x62) (by decide) neg pr d a b
      obtain ⟨v, hv⟩ := held _ hi
      exact State.issues_writes h rfl rfl f1 (by decide) f2 f3 (f4 ▸ State.effect_ldfx f1 (by rw [f5, f6]; exact hv)) fun t ht => ⟨v, ht, hv⟩
    case ldfxOut =>
      obtain ⟨f1, f2, f3, f4, f5, f6⟩ := wordR_fields (op := 0x62) (by decide) neg pr d a b
      refine State.issues_effect h rfl rfl f1 (by decide) f2 f3
        (State.effect_ldfx_out f1 (by rw [f5, f6]; exact LaneSt.frameWord_none hs hi)) fun hf n => ?_
      rw [State.laneIssueGo_laneX, hf, f4]
      simp only [Option.elim_some, BitVec.toNat_inj]
    case stfx =>
      obtain ⟨f1, f2, f3, f4, f5, f6⟩ := wordR_fields (op := 0x63) (by decide) neg pr d a b
      obtain ⟨v, hv⟩ := held _ hi
      refine State.issues_effect h rfl rfl f1 (by decide) f2 f3 (State.effect_stfx f1 hs (by rw [f5, f6]; rfl) hv hc) fun hf => ?_
      rw [f4] at hf
      exact State.laneIssueGo_frames hf (hin _ hi)
    case stfxOut =>
      obtain ⟨f1, f2, f3, f4, f5, f6⟩ := wordR_fields (op := 0x63) (by decide) neg pr d a b
      refine State.issues_effect h rfl rfl f1 (by decide) f2 f3
        (State.effect_stfx_out (i := (s.laneX l a + s.laneX l b).toNat) f1 (by rw [f5, f6]; rfl) fun sc' v hs' hv => ?_) fun hf =>
          ⟨State.laneIssueGo_frameSame (by rw [hf]), fun n => by rw [State.laneIssueGo_laneX, hf]; rfl⟩
      obtain rfl : sc = sc' := Option.some.inj (hs.symm.trans hs')
      rcases hi with hi | hi
      · exact hi
      · rw [LaneSt.frameWord_none hs hi] at hv; cases hv
  case counted =>
    obtain ⟨f1, f2, f3, f4, f5, f6⟩ := wordR_fields (op := 0x62) (by decide) neg pr d a b
    refine State.issues_effect h rfl rfl f1 (by decide) f2 f3
      (State.effect_ldfx_out f1 (by rw [f5, f6]; exact LaneSt.frameWord_none hs hout)) fun hf => ?_
    have hcounted := State.laneIssueGo_counted (s := s) (l := l) (by rw [hf]) (by rw [hf])
    rw [hhd] at hcounted
    rw [Option.getD_some, getBits_low] at hcounted
    unfold OofCounted at hcounted
    rw [Nat.mod_mod] at hcounted
    exact hcounted

end Sys2Proof.Machine
end

section
/-! PROOFS. NOP, END and words without effect (O12). -/

namespace Sys2Proof.Machine

/-! ### The command of a lane instruction's word -/

theorem State.laneP_wordField (s : State) (l : Fin 8) (w : BitVec 32) : s.laneP l (wordField w 20 3) = (s.lane l.val).main.pr (wordBits w 20 3) := by
  have hlt : wordBits w 20 3 < 2 ^ 3 := Nat.mod_lt _ (by decide)
  rw [State.laneP, wordField, BitVec.toNat_ofNat, Nat.mod_eq_of_lt hlt]

/-- An issue whose predicate does not hold has no effect (R127). -/
theorem State.issueEffect_skips {s : State} {l : Fin 8} {w : BitVec 32} (h : s.laneP l (wordField w 20 3) = wordNot w) : s.issueEffect l w = {} := by
  rw [State.laneP_wordField, wordNot] at h
  rw [State.issueEffect, State.issueOn_effect, h, bne_self_eq_false]
  exact if_neg (by decide)

theorem exec_unassignedOpcode (s : State) (l : Fin 8) (op : BitVec 8) (rest : BitVec 24) :
    exec (.unassignedOpcode l op rest) s = .next (s.unassigned l.val (BitVec.ofNat 32 (op.toNat * 2 ^ 24 + rest.toNat))) := rfl

/-- Every lane instruction but UNASSIGNED_OPCODE issues its word. -/
theorem exec_laneWord {s : State} {i : Instr} {l : Fin 8} {w : BitVec 32} (hw : i.laneWord = some (l, w))
    (hi : ∀ op rest, i ≠ .unassignedOpcode l op rest) : exec i s = .next (s.laneIssue l.val w) := by
  unfold Instr.laneWord at hw
  split at hw
  case h_78 => cases hw
  all_goals
    simp only [Option.some.injEq, Prod.mk.injEq] at hw
    obtain ⟨rfl, rfl⟩ := hw
  case h_77 op rest => exact absurd rfl (hi op rest)
  all_goals rfl

/-- A word that is not the next of the scan does nothing. -/
theorem exec_notDue {s : State} {i : Instr} {l : Fin 8} {w : BitVec 32} (hw : i.laneWord = some (l, w)) (hd : s.due i = false) : exec i s = .next s := by
  rw [State.due_of_laneWord hw] at hd
  by_cases hi : ∀ op rest, i ≠ .unassignedOpcode l op rest
  · rw [exec_laneWord hw hi, State.laneIssue_notDue hd]
  · push Not at hi
    obtain ⟨op, rest, rfl⟩ := hi
    obtain ⟨_, rfl⟩ := Prod.mk.inj (Option.some.inj hw)
    rw [exec_unassignedOpcode, State.unassigned]
    exact congrArg Host.Outcome.next (if_pos (.inr (.inr (.inr hd))))

/-- An instruction whose predicate does not hold only moves on (R127). -/
theorem State.issues_skipped {s : State} {i : Instr} {l : Fin 8} {w : BitVec 32} (hw : i.laneWord = some (l, w))
    (hi : ∀ op rest, i ≠ .unassignedOpcode l op rest) (hg : s.laneGoes l = true) (hp : s.laneP l (wordField w 20 3) = wordNot w) :
    s.issues i fun t => LaneKeeps s t l := by
  refine State.issues_of_issue hw (exec_laneWord hw hi) fun hd => ?_
  rw [State.laneIssue_goes hg hd, if_neg]
  · exact State.laneIssueGo_keeps (State.issueEffect_skips hp)
  · rintro ⟨_, htakes⟩
    rw [← State.laneP_wordField, hp, wordNot, bne_self_eq_false] at htakes
    cases htakes

/-- UNASSIGNED_OPCODE moves the lane on as NOP does and reports the word (R141). -/
theorem State.unassigned_keeps {s : State} {l : Fin 8} {w : BitVec 32} (hg : s.laneGoes l = true) (hop : opAssigned (wordBits w 24 8) = false)
    (hd : s.laneDue l.val w = true) :
    s.unassigned l.val w = (s.laneIssueGo l.val w).report (0x10 + l.val) (((s.lane l.val).scan.map (·.pc)).getD 0 + 2 ^ 17) ∧
      LaneKeeps s (s.laneIssueGo l.val w) l := by
  simp only [State.laneGoes, Bool.and_eq_true, Bool.not_eq_true'] at hg
  obtain ⟨⟨hstopped, hhalted⟩, _⟩ := hg
  constructor
  · unfold State.unassigned
    dsimp only
    rw [hstopped, hhalted, hop, hd]
    exact if_neg (by decide)
  · apply State.laneIssueGo_keeps
    rw [State.issueEffect, State.issueOn_effect, State.effect_unassigned hop, ite_self]

/-! ### The end of a scan (R126, R131) -/

/-- Half H with FIRST cleared in the frame header. -/
def LaneSt.firstCleared (ln : LaneSt) (hd : W64) : Engine := if getBits hd 48 1 = 1 then ln.putWord ln.main 0 (putBits hd 48 1 0) else ln.main

section
variable {ln : LaneSt} {hd : W64}

theorem LaneSt.firstCleared_xr (n : Nat) : (ln.firstCleared hd).xr n = ln.main.xr n := by
  unfold LaneSt.firstCleared
  split
  · exact LaneSt.putWord_xr ..
  · rfl

theorem LaneSt.firstCleared_pr (n : Nat) : (ln.firstCleared hd).pr n = ln.main.pr n := by
  unfold LaneSt.firstCleared
  split
  · exact LaneSt.putWord_pr ..
  · rfl

/-- The header after it: its bit 48 is 0. -/
theorem LaneSt.firstCleared_header (h : ln.frameWord ln.main 0 = some hd) :
    ∃ v, ln.frameWord (ln.firstCleared hd) 0 = some v ∧ v.toNat = hd.toNat - hd.toNat / 2 ^ 48 % 2 * 2 ^ 48 := by
  unfold LaneSt.firstCleared
  by_cases hf : getBits hd 48 1 = 1
  · rw [if_pos hf]
    refine ⟨putBits hd 48 1 0, by rw [LaneSt.frameWord_putWord (by rw [h]; rfl), if_pos rfl], ?_⟩
    rw [getBits] at hf
    rw [putBits_toNat _ _ (by decide)]
    omega
  · rw [if_neg hf]
    refine ⟨hd, h, ?_⟩
    rw [getBits] at hf
    omega

theorem LaneSt.word_of_tags {ln' : LaneSt} (h : ln'.tags = ln.tags) (e : Engine) (g k : Nat) : ln'.word e g k = ln.word e g k := by
  unfold LaneSt.word LaneSt.line; rw [h]

theorem LaneSt.word_of_frameWord {e : Engine} {sc : Scan} {v : W64} {k : Nat} (hs : ln.scan = some sc) (h : ln.frameWord e k = some v) :
    ln.word e sc.frame k = some v := by
  rw [LaneSt.frameWord_eq hs] at h
  split at h
  · exact h
  · cases h

end

/-- The end of a scan: both engines' headers, the class's place in its list, and the block counted. -/
theorem State.endScanGo_eq {s : State} {l : Nat} {sc : Scan} {hd : W64} (hs : (s.lane l).scan = some sc)
    (hw : (s.lane l).frameWord (s.lane l).main 0 = some hd) : ∃ f, s.endScanGo l = (s.modLane l f).incMod (R.laneBlocksExecuted l) ∧
      ∃ c d, f (s.lane l) = { s.lane l with
        main := (s.lane l).firstCleared hd, chk := c, dirty := d, scan := none, next := mput 0 (s.lane l).next sc.cls (sc.pos + 1) } := by
  unfold State.endScanGo
  dsimp only
  rw [hs]
  refine ⟨_, rfl, ?_⟩
  simp only [hw]
  exact ⟨_, _, rfl⟩

theorem blocks_range (l : Nat) : (R.laneBlocksExecuted l).lo + (R.laneBlocksExecuted l).len ≤ 64 := by simp [R.laneBlocksExecuted]

/-- What END leaves, from a lane whose issue has kept everything else. -/
theorem LaneKeeps.ended {s u : State} {l : Fin 8} {sc : Scan} {hd : W64} (hk : LaneKeeps s u l) (hs : (s.lane l.val).scan = some sc)
    (hw : u.laneFrame l 0 = some hd) :
    let t := u.endScanGo l.val
    (t.lane l.val).scan = none ∧ mget 0 (t.lane l.val).next sc.cls = sc.pos + 1 ∧
      (∀ n, t.laneX l n = s.laneX l n) ∧ (∀ p, t.laneP l p = s.laneP l p) ∧
      (∃ v, (t.lane l.val).word (t.lane l.val).main sc.frame 0 = some v ∧ v.toNat = hd.toNat - hd.toNat / 2 ^ 48 % 2 * 2 ^ 48) ∧
      t.fld (R.laneBlocksExecuted l.val) = (s.fld (R.laneBlocksExecuted l.val) + 1) % 2 ^ (R.laneBlocksExecuted l.val).len ∧
      (∀ k, k ≠ l.val → t.lane k = s.lane k) ∧ t.mem = s.mem := by
  intro t
  obtain ⟨⟨hfrom, hother, hregs, _⟩, _, hscan, hwent⟩ := hk
  rw [hs, Option.map_some] at hscan
  obtain ⟨f, ht, c, d, hf⟩ := State.endScanGo_eq hscan hw
  have hlane : t.lane l.val = { u.lane l.val with
      main := (u.lane l.val).firstCleared hd, chk := c, dirty := d, scan := none, next := mput 0 (u.lane l.val).next sc.cls (sc.pos + 1) } := by
    rw [show t = _ from ht, State.incMod_lane, State.lane_modLane_same, hf]
    rfl
  refine ⟨by rw [hlane], by rw [hlane]; dsimp only; rw [mget_mput_same], fun n => ?_, fun p => ?_, ?_, ?_, fun k hne => ?_, ?_⟩
  · rw [State.laneX, hlane, LaneSt.firstCleared_xr, hwent]; rfl
  · rw [State.laneP, hlane, LaneSt.firstCleared_pr, hwent]; rfl
  · obtain ⟨v, hv, hval⟩ := LaneSt.firstCleared_header hw
    refine ⟨v, ?_, hval⟩
    rw [LaneSt.word_of_tags (ln := u.lane l.val) (by rw [hlane]), hlane]
    exact LaneSt.word_of_frameWord (sc := sc.on) hscan hv
  · have hsame : u.fld (R.laneBlocksExecuted l.val) = s.fld (R.laneBlocksExecuted l.val) := by
      rw [State.fld, State.fld, hregs _ (by simp only [R.laneBlocksExecuted, R.laneRetireRetired]; omega)
        (by simp only [R.laneBlocksExecuted, R.laneDbgstat]; omega)]
    rw [show t = _ from ht, State.incMod, State.fld_setFld_same _ _ (blocks_range _), ← hsame, State.fld, State.fld, State.reg, State.modLane_regs]
    rfl
  · rw [show t = _ from ht, State.incMod_lane, State.lane_modLane_ne _ _ hne]
    exact hother k hne
  · rw [show t = _ from ht, State.incMod_mem, State.modLane_mem, hfrom]

/-- Settles O12. -/
theorem nopEndAndWordsWithoutEffect : Obligations.NopEndAndWordsWithoutEffect := by
  unfold Obligations.NopEndAndWordsWithoutEffect
  refine ⟨fun s l neg pr h => ⟨?nop, fun sc hd hs hhd => ?ended⟩, fun s l op rest hg hop hdue => ?unassigned,
    fun s i l w hw hi hg hp => State.issues_skipped hw hi hg hp, fun s i l w hw hd => exec_notDue hw hd⟩
  case nop =>
    obtain ⟨f1, f2, f3, _⟩ := wordR_fields (op := 0x00) (by decide) neg pr 0 0 0
    exact State.issues_effect h rfl rfl f1 (by decide) f2 f3 (State.effect_nop f1) State.laneIssueGo_keeps
  case ended =>
    obtain ⟨f1, f2, f3, _⟩ := wordR_fields (op := 0x01) (by decide) neg pr 0 0 0
    obtain ⟨hg, htakes⟩ := State.laneTakes_iff h
    have hf : s.issueEffect l (wordR 0x01 neg pr 0 0 0) = {} := (State.issueEffect_takes h f2 f3).trans (State.effect_end f1)
    refine State.issues_of_issue rfl rfl fun hd => ?_
    rw [State.laneIssue_goes hg hd, if_pos ⟨f1, by rw [f2, f3]; exact htakes⟩]
    exact (State.laneIssueGo_keeps hf).ended hs ((State.laneIssueGo_frameSame (by rw [hf]) 0).trans hhd)
  case unassigned =>
    obtain ⟨f1, _⟩ := wordBits_opRest op rest
    obtain ⟨hreport, hkeeps⟩ := State.unassigned_keeps hg (f1.symm ▸ hop) ((State.due_of_laneWord rfl).symm.trans hdue)
    refine ⟨_, _, by rw [exec_unassignedOpcode, hreport], hkeeps, fun sc hs => ?_⟩
    rw [hs]; rfl

end Sys2Proof.Machine
end

section
/-! PROOFS. Starts of scans, grain transfers and frame write-backs (O36). -/

namespace Sys2Proof.Machine

/-! ### Lines of the Frame Cache (R142) -/

/-- What a table reads as, other than its default, it lists. -/
theorem mem_key_of_mget_ne {α : Type} {d : α} {m : NMap α} {k : Nat} (h : mget d m k ≠ d) : ∃ e ∈ m, e.1 = k := by
  induction m with
  | nil => exact absurd rfl h
  | cons e m ih =>
    obtain ⟨a, v⟩ := e
    by_cases ha : a = k
    · exact ⟨(a, v), List.mem_cons_self .., ha⟩
    · rw [mget, if_neg ha] at h
      obtain ⟨e, he, hk⟩ := ih h
      exact ⟨e, List.mem_cons_of_mem _ he, hk⟩

/-- The one line that holds a grain is the line of the grain. -/
theorem LaneSt.line_eq_some {ln : LaneSt} {g i : Nat} (h : ∀ k, mget 0 ln.tags k = g + 1 ↔ k = i) : ln.line g = some i := by
  obtain ⟨e, he, rfl⟩ := mem_key_of_mget_ne (d := 0) (m := ln.tags) (k := i) (by rw [(h i).2 rfl]; omega)
  have hsome : (ln.tags.find? fun x => mget 0 ln.tags x.1 == g + 1).isSome = true :=
    List.find?_isSome.2 ⟨e, he, beq_iff_eq.2 ((h e.1).2 rfl)⟩
  obtain ⟨x, hx⟩ := Option.isSome_iff_exists.1 hsome
  have hxi : x.1 = e.1 := (h x.1).1 (by simpa using List.find?_some hx)
  rw [LaneSt.line, hx, Option.map_some, hxi]

theorem LaneSt.line_eq_none {ln : LaneSt} {g : Nat} (h : ∀ k, mget 0 ln.tags k ≠ g + 1) : ln.line g = none := by
  rw [LaneSt.line, List.find?_eq_none.2 fun e _ => by rw [beq_iff_eq]; exact h e.1]
  rfl

/-- The words of a line set are the words of that line. -/
theorem Engine.mget_setLine (e : Engine) (i : Nat) (ws : List W64) (j : Nat) :
    mget 0 (e.setLine i ws).fc j = if i * 8 ≤ j ∧ j < i * 8 + 8 then ws.getD (j - i * 8) 0 else mget 0 e.fc j := by
  have hfold : ∀ n, mget 0 ((List.range n).foldl (fun m w => mput 0 m (i * 8 + w) (ws.getD w 0)) e.fc) j =
      if i * 8 ≤ j ∧ j < i * 8 + n then ws.getD (j - i * 8) 0 else mget 0 e.fc j := by
    intro n
    induction n with
    | zero => rw [if_neg (by omega)]; rfl
    | succ n ih =>
      rw [List.range_succ, List.foldl_append, List.foldl_cons, List.foldl_nil, mget_mput, ih]
      by_cases hj : j = i * 8 + n
      · subst hj
        rw [if_pos rfl, if_pos (by omega), Nat.add_sub_cancel_left]
      · rw [if_neg hj]
        by_cases hin : i * 8 ≤ j ∧ j < i * 8 + n
        · rw [if_pos hin, if_pos (by omega)]
        · rw [if_neg hin, if_neg (by omega)]
  exact hfold 8

/-! ### The fill of an empty Frame Cache (R131 step 2) -/

/-- The first `n` grains of the frame stand in the lines from 0 up, clean, as Signal SRAM holds them; beside the lane nothing has changed. -/
structure FrameFilled (s t : State) (l frame n : Nat) : Prop where
  others : ∃ x, t = { s with lanes := x }
  tags : ∀ k, mget 0 (t.lane l).tags k = if k < n then frame + k + 1 else 0
  clean : (t.lane l).dirty = []
  words : ∀ k < n, ∀ w < 8, mget 0 (t.lane l).main.fc (k * 8 + w) = s.rd64 (frameAddr (frame + k) + 8 * w)

section
variable {s t : State} {l frame n : Nat}

theorem FrameFilled.line (h : FrameFilled s t l frame n) {k : Nat} (hk : k < n) : (t.lane l).line (frame + k) = some k := by
  refine LaneSt.line_eq_some fun j => ?_
  rw [h.tags]
  split <;> omega

theorem FrameFilled.line_next (h : FrameFilled s t l frame n) : (t.lane l).line (frame + n) = none := by
  refine LaneSt.line_eq_none fun k => ?_
  rw [h.tags]
  split <;> omega

theorem FrameFilled.freeLine (h : FrameFilled s t l frame n) (hn : n < 896) : freeLine (t.lane l).tags = some n := by
  rw [Machine.freeLine, List.find?_range_eq_some]
  refine ⟨?_, List.mem_range.2 hn, fun j hj => ?_⟩
  · rw [h.tags, if_neg (lt_irrefl n)]; rfl
  · rw [h.tags, if_pos hj]; rfl

/-- A word of the frame, of a grain that is in the cache. -/
theorem FrameFilled.word (h : FrameFilled s t l frame n) {w : Nat} (hw : w < 8 * n) :
    (t.lane l).word (t.lane l).main frame w = some (s.rd64 (frameAddr frame + 8 * w)) := by
  have hk : w / 8 < n := by omega
  rw [LaneSt.word, h.line hk, Option.map_some, h.words _ hk _ (Nat.mod_lt _ (by decide))]
  congr 2
  simp only [frameAddr]
  omega

/-- The lane with the words of a grain in a line. -/
def LaneSt.filled (ln : LaneSt) (i g : Nat) (ws : List W64) : LaneSt :=
  LaneSt.touch { ln with tags := mput 0 ln.tags i (g + 1), main := ln.main.setLine i ws, chk := ln.chk.setLine i ws } i

section
variable (ln : LaneSt) (i g : Nat) (ws : List W64)

theorem LaneSt.filled_tags : (ln.filled i g ws).tags = mput 0 ln.tags i (g + 1) := rfl

theorem LaneSt.filled_dirty : (ln.filled i g ws).dirty = ln.dirty := rfl

theorem LaneSt.filled_main : (ln.filled i g ws).main = ln.main.setLine i ws := rfl

end

/-- The grain that follows goes to the line that follows. -/
theorem FrameFilled.fillGrain (h : FrameFilled s t l frame n) (hn : n < 896) (keep : Nat → Bool) :
    ∃ u, t.fillGrain l keep (frame + n) = some u ∧ FrameFilled s u l frame (n + 1) := by
  have hline := h.line_next
  have hfree := h.freeLine hn
  obtain ⟨⟨x, hx⟩, htags, hclean, hwords⟩ := h
  have hgrain : t.grain (frameAddr (frame + n)) = s.grain (frameAddr (frame + n)) := by rw [hx]; rfl
  have hback : t.lineBack l n = t := by
    unfold State.lineBack; dsimp only; rw [hclean]; exact if_pos rfl
  refine ⟨t.modLane l (·.filled n (frame + n) (s.grain (frameAddr (frame + n)))), ?_, ⟨_, by rw [hx]; rfl⟩,
    fun k => ?tags, ?clean, fun k hk w hw => ?words⟩
  · unfold State.fillGrain
    dsimp only
    rw [hline, hfree]
    dsimp only [Option.orElse_some]
    rw [hclean, hback, hgrain]
    exact if_neg fun k => k.1 rfl
  all_goals rw [State.lane_modLane_same]
  case tags =>
    rw [LaneSt.filled_tags, mget_mput, htags]
    split_ifs <;> omega
  case clean => rw [LaneSt.filled_dirty, hclean]
  case words =>
    rw [LaneSt.filled_main, Engine.mget_setLine]
    by_cases hkn : k = n
    · subst hkn
      rw [if_pos (by omega), Nat.add_sub_cancel_left, State.grain, List.getD_eq_getElem _ _ (by simpa using hw)]
      simp
    · rw [if_neg (by omega), hwords k (by omega) w hw]

/-- A frame that fits into an empty Frame Cache is filled whole. -/
theorem State.fillFrame_filled (htags : (s.lane l).tags = []) (hdirty : (s.lane l).dirty = []) {grains : Nat} (hg : grains ≤ 896) :
    ∃ t, s.fillFrame l frame grains = some t ∧ FrameFilled s t l frame grains := by
  have hfold : ∀ n ≤ grains, ∃ t, (List.range n).foldl (fun o g => o.bind fun s => s.fillGrain l (inFrame frame grains) (frame + g)) (some s) = some t ∧
      FrameFilled s t l frame n := by
    intro n
    induction n with
    | zero =>
      exact fun _ => ⟨s, rfl, ⟨_, rfl⟩, fun k => by rw [htags, if_neg (Nat.not_lt_zero k)]; rfl, hdirty, fun k hk => absurd hk (Nat.not_lt_zero k)⟩
    | succ n ih =>
      intro hn
      obtain ⟨t, ht, hfilled⟩ := ih (by omega)
      obtain ⟨u, hu, hnext⟩ := hfilled.fillGrain (by omega) (inFrame frame grains)
      refine ⟨u, ?_, hnext⟩
      rw [List.range_succ, List.foldl_append, ht]
      exact hu
  exact hfold grains le_rfl

end

/-! ### Steps 3 to 5 of a scan (R131) -/

section
variable (s : State)

theorem State.dirCheckConn_eq (cw : W64) : ∃ r n, s.dirCheckConn cw = { s with reports := r, free := n } := by
  unfold State.dirCheckConn State.dirRead
  split
  · split
    · exact ⟨_, _, rfl⟩
    · exact ⟨_, _, rfl⟩
  · exact ⟨_, _, rfl⟩

/-- The prefetch of the connections reports and draws free values. -/
theorem State.prefetch_eq (l g : Nat) (js : List Nat) (recs : NMap (Option Rec)) : ∃ r n m,
    js.foldl (fun (x : State × NMap (Option Rec)) j =>
      (x.1.dirCheckConn (x.1.laneWord l g (j + 1)), mput none x.2 j (x.1.fetchConn l (x.1.laneWord l g (j + 1))))) (s, recs) =
      ({ s with reports := r, free := n }, m) := by
  refine List.foldlRecOn js _ (motive := fun x => ∃ r n m, x = ({ s with reports := r, free := n }, m)) ⟨s.reports, s.free, recs, rfl⟩ fun x hx j _ => ?_
  obtain ⟨r, n, m, rfl⟩ := hx
  obtain ⟨r', n', h⟩ := State.dirCheckConn_eq { s with reports := r, free := n } (({ s with reports := r, free := n } : State).laneWord l g (j + 1))
  exact ⟨r', n', _, Prod.ext h rfl⟩

/-- The scan of a block of a custom type that is not conditional: its connections fetched, the registers cleared, the entry word next. -/
theorem State.scanGo_custom {l c pos : Nat} {e : ListEntry} (hc : e.cond = false) (ht : 184 ≤ getBits (s.laneWord l e.frame 0) 32 13) :
    ∃ r n recs bank nconn, s.scanGo l c pos e = ({ s with reports := r, free := n } : State).modLane l fun ln =>
      { ln with recs := recs, scan := some ⟨e.frame, e.grains, e.code, bank, c, pos, e.code, nconn⟩
                main := ln.main.clearRegs, chk := ln.chk.clearRegs } := by
  unfold State.scanGo
  dsimp only
  have hnot : ¬getBits (s.laneWord l e.frame 0) 32 13 < 184 := Nat.not_lt.2 ht
  simp only [hc, hnot, if_false, Bool.false_eq_true, Option.elim_none]
  obtain ⟨r, n, m, h⟩ := s.prefetch_eq l e.frame
    (List.range (getBits ((s.lane l).main.code64 (if s.bit (R.laneBankBank l) c = true then 1 else 0) (e.code + 65536 - 2)) 0 9)) []
  rw [h]
  exact ⟨r, n, m, _, _, rfl⟩

end

/-! ### The start of a scan (R125, R131, R172) -/

/-- The class of a lane's next scan is one of eight. -/
theorem State.topClass_lt {s : State} {p : Nat → Bool} {c : Nat} (h : s.topClass p = some c) : c < 8 := by
  revert h
  unfold State.topClass
  refine List.foldlRecOn (List.range 8) _ (motive := fun b => b = some c → c < 8) (fun h => by cases h) fun b hb d hd => ?_
  have hd8 : some d = some c → c < 8 := fun h => Option.some.inj h ▸ List.mem_range.1 hd
  split
  · split
    · exact hd8
    · split
      · exact hd8
      · exact hb
  · exact hb

theorem laneState_range (l : Nat) : (R.laneStateClass l).lo + (R.laneStateClass l).len ≤ 64 ∧ (R.laneStateBusy l).lo + (R.laneStateBusy l).len ≤ 64 ∧
    (R.laneStateSuspended l).lo + (R.laneStateSuspended l).len ≤ 64 ∧ (R.laneStatePos l).lo + (R.laneStatePos l).len ≤ 64 :=
  ⟨by simp [R.laneStateClass], by simp [R.laneStateBusy], by simp [R.laneStateSuspended], by simp [R.laneStatePos]⟩

/-- The status names the class being served, and the lane is BUSY. -/
theorem State.laneStatus_served (s : State) (l : Nat) {c : Nat} (hc : c < 8) (pos : Nat) :
    (s.laneStatus l (some c) pos).fld (R.laneStateClass l) = c ∧ (s.laneStatus l (some c) pos).flag (R.laneStateBusy l) = true := by
  obtain ⟨hclass, hbusy, hsusp, hpos⟩ := laneState_range l
  unfold State.laneStatus
  dsimp only
  constructor
  · rw [State.fld_setFld_ne _ _ hpos (.inr (.inr (by simp [R.laneStateClass, R.laneStatePos]))),
      State.fld_setFld_ne _ _ hsusp (.inr (.inr (by simp [R.laneStateClass, R.laneStateSuspended]))),
      State.fld_setFlag_ne _ _ hbusy (.inr (.inr (by simp [R.laneStateClass, R.laneStateBusy]))), State.fld_setFld_same _ _ hclass]
    exact Nat.mod_eq_of_lt hc
  · rw [State.flag, State.fld_setFld_ne _ _ hpos (.inr (.inr (by simp [R.laneStateBusy, R.laneStatePos]))),
      State.fld_setFld_ne _ _ hsusp (.inr (.inr (by simp [R.laneStateBusy, R.laneStateSuspended]))), ← State.flag,
      State.flag_setFlag_same _ _ hbusy (by simp [R.laneStateBusy])]
    rfl

theorem Engine.clearRegs_xr (e : Engine) (n : Nat) : e.clearRegs.xr n = 0 := rfl

theorem Engine.clearRegs_pr (e : Engine) (p : BitVec 3) : e.clearRegs.pr p.toNat = decide (p = 0) := by
  revert p
  exact show ∀ p : BitVec 3, (p.toNat == 0 || (1#8).getLsbD p.toNat) = decide (p = 0) by decide

section
variable {s : State} {l : Fin 8} {c : Nat} {e : ListEntry}

/-- The start of the scan of a block of a custom type that is not conditional, with the frame filled. -/
theorem State.scanStart_filled (hstop : (s.lane l.val).stopped = false) (hhalt : (s.lane l.val).main.halted = false) (hscan : (s.lane l.val).scan = none)
    (hclass : s.scanClass l.val = some c) (hentry : s.listEntry l.val c (mget 0 (s.lane l.val).next c) = e)
    (ht : 184 ≤ getBits (s.laneWord l.val e.frame 0) 32 13) {u : State}
    (hu : (s.laneStatus l.val (some c) (mget 0 (s.lane l.val).next c)).fillFrame l.val e.frame e.grains = some u) :
    s.scanStart l.val = u.scanGo l.val c (mget 0 (s.lane l.val).next c) e := by
  have hgo : ¬((s.lane l.val).stopped = true ∨ (s.lane l.val).main.halted = true ∨ (s.lane l.val).scan.isSome = true) := by
    rw [hstop, hhalt, hscan]; decide
  have htyp : ¬getBits (s.laneWord l.val e.frame 0) 32 13 < 184 := Nat.not_lt.2 ht
  unfold State.scanStart
  dsimp only
  rw [if_neg hgo, hclass]
  dsimp only
  rw [hentry, if_neg fun h => htyp h.1, hu]

/-- With an empty Frame Cache a word of a frame is that of Signal SRAM. -/
theorem State.laneWord_empty (htags : (s.lane l.val).tags = []) (g w : Nat) : s.laneWord l.val g w = s.rd64 (frameAddr g + 8 * w) := by
  rw [State.laneWord, LaneSt.word, LaneSt.line, htags]; rfl

/-- What the start of a scan leaves (R125, R131, R172). -/
theorem State.scanStart_scans (hstop : (s.lane l.val).stopped = false) (hhalt : (s.lane l.val).main.halted = false) (hscan : (s.lane l.val).scan = none)
    (hclass : s.scanClass l.val = some c) (htags : (s.lane l.val).tags = []) (hdirty : (s.lane l.val).dirty = [])
    (hentry : s.listEntry l.val c (mget 0 (s.lane l.val).next c) = e) (hcond : e.cond = false) (hpos : 0 < e.grains) (hfit : e.grains ≤ 896)
    (ht : 184 ≤ getBits (s.rd64 (frameAddr e.frame)) 32 13) :
    let t := s.scanStart l.val
    t.mem = s.mem ∧ (∀ n, t.laneX l n = 0) ∧ (∀ p, t.laneP l p = decide (p = 0)) ∧
      (∃ sc, (t.lane l.val).scan = some sc ∧ sc.frame = e.frame ∧ sc.grains = e.grains ∧ sc.cls = c ∧ sc.pos = mget 0 (s.lane l.val).next c ∧
        sc.pc = e.code) ∧
      (∀ w < 8 * e.grains, t.laneFrame l w = some (s.rd64 (frameAddr e.frame + 8 * w))) ∧
      t.fld (R.laneStateClass l.val) = c ∧ t.flag (R.laneStateBusy l.val) = true := by
  intro t
  obtain ⟨hserved, hbusy⟩ := s.laneStatus_served l.val (State.topClass_lt hclass) (mget 0 (s.lane l.val).next c)
  obtain ⟨hstatus, _⟩ := s.laneStatus_only l.val (some c) (mget 0 (s.lane l.val).next c)
  obtain ⟨regs, hregs⟩ : ∃ r, s.laneStatus l.val (some c) (mget 0 (s.lane l.val).next c) = { s with regs := r } := ⟨_, hstatus⟩
  obtain ⟨u, hu, hfilled⟩ := State.fillFrame_filled (s := s.laneStatus l.val (some c) (mget 0 (s.lane l.val).next c)) (l := l.val) (frame := e.frame)
    (by rw [hregs]; exact htags) (by rw [hregs]; exact hdirty) hfit
  have hgo : t = _ := State.scanStart_filled hstop hhalt hscan hclass hentry (by rw [State.laneWord_empty htags]; exact ht) hu
  have hword : ∀ w < 8 * e.grains, (u.lane l.val).word (u.lane l.val).main e.frame w = some (s.rd64 (frameAddr e.frame + 8 * w)) := fun w hw => by
    rw [hfilled.word hw, hregs]; rfl
  have htyp : u.laneWord l.val e.frame 0 = s.rd64 (frameAddr e.frame) := by
    rw [State.laneWord, hword 0 (by omega)]; rfl
  obtain ⟨r, n, recs, bank, nconn, hcustom⟩ := State.scanGo_custom u (l := l.val) (c := c) (pos := mget 0 (s.lane l.val).next c) hcond (htyp.symm ▸ ht)
  obtain ⟨x, hx⟩ := hfilled.others
  rw [hcustom] at hgo
  have hlane : t.lane l.val = { u.lane l.val with
      recs := recs, scan := some ⟨e.frame, e.grains, e.code, bank, c, mget 0 (s.lane l.val).next c, e.code, nconn⟩
      main := (u.lane l.val).main.clearRegs, chk := (u.lane l.val).chk.clearRegs } := by
    rw [hgo, State.lane_modLane_same]; rfl
  have hfld : ∀ f, t.fld f = (s.laneStatus l.val (some c) (mget 0 (s.lane l.val).next c)).fld f := fun f => by
    rw [hgo, hx]; rfl
  refine ⟨?mem, fun k => ?cleared, fun p => ?preds, ⟨_, by rw [hlane], rfl, rfl, rfl, rfl, rfl⟩, fun w hw => ?frame, (hfld _).trans hserved, ?busy⟩
  case mem => rw [hgo, State.modLane_mem, hx, hregs]
  case cleared => rw [State.laneX, hlane]; rfl
  case preds => rw [State.laneP, hlane]; exact Engine.clearRegs_pr _ p
  case frame =>
    rw [State.laneFrame, LaneSt.frameWord_eq (by rw [hlane]), if_pos (by dsimp only; omega), LaneSt.word_of_tags (ln := u.lane l.val) (by rw [hlane]), hlane]
    exact hword w hw
  case busy => rw [State.flag, hfld]; exact hbusy

end

/-! ### The write-back of a dirty line (R133, R292) -/

section
variable (s : State)

theorem State.setWords_nil (a : Nat) : s.setWords a [] = s := rfl

theorem State.setWords_cons (a : Nat) (w : W64) (ws : List W64) : s.setWords a (w :: ws) = (s.wr64 a w).setWords (a + 8) ws := by
  conv_lhs => unfold State.setWords

theorem State.wr64_mem (a : Nat) (w : W64) : ∃ m, s.wr64 a w = { s with mem := m } := by
  rw [State.wr64, State.writeN]; exact s.setBytes_mem a _

theorem State.setWords_mem (a : Nat) (ws : List W64) : ∃ m, s.setWords a ws = { s with mem := m } := by
  induction ws generalizing s a with
  | nil => exact ⟨s.mem, by rw [State.setWords_nil]⟩
  | cons w ws ih =>
    obtain ⟨m, hm⟩ := s.wr64_mem a w
    obtain ⟨m', hm'⟩ := ih (s.wr64 a w) (a + 8)
    exact ⟨m', by rw [State.setWords_cons, hm', hm]⟩

/-- Words written from an address change no byte before it nor after their end. -/
theorem State.byte_setWords (a : Nat) (ws : List W64) {b : Nat} (h : b < a ∨ a + 8 * ws.length ≤ b) : (s.setWords a ws).byte b = s.byte b := by
  induction ws generalizing s a with
  | nil => rw [State.setWords_nil]
  | cons w ws ih =>
    rw [List.length_cons] at h
    rw [State.setWords_cons, ih _ _ (by omega), State.byte_wr64, if_neg (by omega)]

theorem State.rd64_setWords_before (a : Nat) (ws : List W64) {b : Nat} (h : b + 8 ≤ a) : (s.setWords a ws).rd64 b = s.rd64 b := by
  induction ws generalizing s a with
  | nil => rw [State.setWords_nil]
  | cons w ws ih => rw [State.setWords_cons, ih _ _ (by omega), State.rd64_wr64_ne _ _ (.inl h)]

/-- Words written are the words read. -/
theorem State.rd64_setWords (a : Nat) (ws : List W64) {k : Nat} (h : k < ws.length) : (s.setWords a ws).rd64 (a + 8 * k) = ws[k] := by
  induction ws generalizing s a k with
  | nil => exact absurd h (Nat.not_lt_zero k)
  | cons w ws ih =>
    rw [State.setWords_cons]
    cases k with
    | zero =>
      show ((s.wr64 a w).setWords (a + 8) ws).rd64 a = w
      rw [State.rd64_setWords_before _ _ _ le_rfl, State.rd64_wr64_same]
    | succ k =>
      rw [show a + 8 * (k + 1) = a + 8 + 8 * k by omega, ih _ _ (by simpa using h)]
      rfl

theorem State.stagingSave_classes (c g : Nat) : ∃ k, s.stagingSave c g = { s with classes := k } := by
  unfold State.stagingSave
  dsimp only
  split
  · exact ⟨_, rfl⟩
  · exact ⟨_, rfl⟩

theorem State.foldBoth_dirty (l : Nat) (m c : W64) : ((s.foldBoth l m c).lane l).dirty = (s.lane l).dirty := by
  unfold State.foldBoth
  dsimp only
  split
  · rw [State.lane_modLane_same]
  · rfl

end

section
variable {s : State} {l : Fin 8} {line : Fin 896} {g c : Nat}

theorem State.lineBack_eq (hd : mget 0 (s.lane l.val).dirty line.val = c + 1) (ht : mget 0 (s.lane l.val).tags line.val = g + 1)
    (hundo : s.undoBase (s.homeLane l.val) = none) : ∃ mo co, s.lineBack l.val line.val =
      ((((s.stagingSave c g).setWords (frameAddr g) ((s.lane l.val).main.lineWords line.val)).modCls c fun k =>
        { k with wrFrm := mput false k.wrFrm (frameAddr g / 64) true }).modLane l.val fun ln => { ln with dirty := mdel ln.dirty line.val }).foldBoth
          l.val mo co := by
  have hsave : s.undoSave (s.homeLane l.val) c g = s := by rw [State.undoSave, hundo]
  unfold State.lineBack
  dsimp only
  rw [hd, ht, if_neg (Nat.succ_ne_zero c), Nat.add_sub_cancel, Nat.add_sub_cancel, hsave]
  exact ⟨_, _, rfl⟩

/-- What the write-back of a dirty line leaves (R133). -/
theorem State.lineBack_writes (hd : mget 0 (s.lane l.val).dirty line.val = c + 1) (ht : mget 0 (s.lane l.val).tags line.val = g + 1)
    (hundo : s.undoBase (s.homeLane l.val) = none) :
    let t := s.lineBack l.val line.val
    t = { s with mem := t.mem, lanes := t.lanes, classes := t.classes } ∧
      (∀ w < 8, t.rd64 (frameAddr g + 8 * w) = mget 0 (s.lane l.val).main.fc (line.val * 8 + w)) ∧
      (∀ a, a < frameAddr g ∨ frameAddr g + 64 ≤ a → t.byte a = s.byte a) ∧ mget 0 (t.lane l.val).dirty line.val = 0 ∧
      mget false (t.cls c).wrFrm (frameAddr g / 64) = true ∧ ∀ k, k ≠ l.val → t.lane k = s.lane k := by
  intro t
  obtain ⟨mo, co, hback⟩ := State.lineBack_eq hd ht hundo
  obtain ⟨k, hk⟩ := s.stagingSave_classes c g
  generalize hws : (s.lane l.val).main.lineWords line.val = ws at hback
  have hlen : ws.length = 8 := by rw [← hws]; rfl
  rw [hk] at hback
  have hbytes := fun b => ({ s with classes := k } : State).byte_setWords (frameAddr g) ws (b := b)
  have hwords := fun j => ({ s with classes := k } : State).rd64_setWords (frameAddr g) ws (k := j)
  obtain ⟨m, hm⟩ := ({ s with classes := k } : State).setWords_mem (frameAddr g) ws
  rw [hm] at hback hbytes hwords
  generalize hv : (({ s with classes := k, mem := m } : State).modCls c fun k => { k with wrFrm := mput false k.wrFrm (frameAddr g / 64) true }).modLane l.val
    (fun ln => { ln with dirty := mdel ln.dirty line.val }) = v at hback
  obtain ⟨⟨x, hx⟩, _, hothers⟩ := v.foldBoth_lanes l.val mo co
  have hdirty := v.foldBoth_dirty l.val mo co
  rw [show v.foldBoth l.val mo co = t from hback.symm] at hx hothers hdirty
  refine ⟨?_, fun w hw => ?_, fun a ha => ?_, ?_, ?_, fun j hj => ?_⟩
  · rw [hx, ← hv]; rfl
  · have hread : t.rd64 (frameAddr g + 8 * w) = ws[w]'(by omega) := by
      rw [← hwords w (by omega), hx, ← hv]; rfl
    rw [hread]
    subst hws
    simp [Engine.lineWords]
  · have hread : t.byte a = s.byte a := by
      rw [← show _ = s.byte a from hbytes a (by omega), hx, ← hv]; rfl
    exact hread
  · rw [hdirty, ← hv, State.lane_modLane_same]
    exact mget_mdel_same ..
  · have hcls : t.cls c = v.cls c := by rw [hx]; rfl
    rw [hcls, ← hv, State.cls, State.modLane_classes, ← State.cls, State.cls_modCls_same]
    exact mget_mput_same false _ (frameAddr g / 64) true
  · rw [hothers j hj, ← hv, State.lane_modLane_ne _ _ hj]; rfl

end

/-- Settles O36. -/
theorem scansFillsAndWriteBacks : Obligations.ScansFillsAndWriteBacks := by
  unfold Obligations.ScansFillsAndWriteBacks
  intro s l
  refine ⟨fun c hstop hhalt hscan hclass htags hdirty hcond hpos hfit ht =>
      ⟨_, rfl, State.scanStart_scans hstop hhalt hscan hclass htags hdirty rfl hcond hpos hfit ht⟩,
    fun grain parity hstop => ?bad, fun grain hstop htest => ?parity, fun line g c hstop hd ht hundo hfree => ?back,
    fun line g c hstop hd ht hfull => ?waits⟩
  case bad =>
    refine ⟨(s.report 0x19 (frameAddr grain / 64)).modLane l.val fun ln => { ln with stopped := true }, ?_, ?_, ?_, fun k hk => ?_⟩
    · rw [show exec (.grainTransferDone l grain true parity) s = execGrainTransferDone l grain true parity s from rfl, execGrainTransferDone]
      dsimp only
      rw [hstop]
      rfl
    · have hgrain : frameAddr grain / 64 = 0x40000 + grain := by rw [frameAddr]; omega
      rw [hgrain]; rfl
    · rw [State.lane_modLane_same]; rfl
    · rw [State.lane_modLane_ne _ _ hk]; rfl
  case parity =>
    refine ⟨s.laneFault l.val 2, ?_, s.laneFault_faulted l (by decide)⟩
    rw [show exec (.grainTransferDone l grain false true) s = execGrainTransferDone l grain false true s from rfl, execGrainTransferDone]
    dsimp only
    rw [hstop, htest]
    rfl
  case back =>
    refine ⟨s.lineBack l.val line.val, ?_, State.lineBack_writes hd ht hundo⟩
    rw [show exec (.frameWriteBack l line) s = execFrameWriteBack l line s from rfl, execFrameWriteBack]
    rw [hstop, hd, ht, Nat.add_sub_cancel, Nat.add_sub_cancel, hfree]
    exact (if_neg (by simp)).trans (if_pos rfl)
  case waits =>
    rw [show exec (.frameWriteBack l line) s = execFrameWriteBack l line s from rfl, execFrameWriteBack]
    rw [hstop, hd, ht, Nat.add_sub_cancel, Nat.add_sub_cancel, hfull]
    exact (if_neg (by simp)).trans (if_neg (by decide))

end Sys2Proof.Machine
end

section
/-! PROOFS. The two engines of a lane in step (O13). -/

namespace Sys2Proof.Machine

/-! ### What an engine does does not depend on its count of instructions -/

/-- The engine with its count of instructions set: engines in step may differ in it alone. -/
def Engine.counted (e : Engine) (n : Nat) : Engine := { e with issued := n }

section
variable (s : State) (l : LaneSt) (e : Engine) (n : Nat)

theorem State.effect_counted (w : BitVec 32) : s.effect l (e.counted n) w = s.effect l e w := rfl

theorem Engine.setX_counted (d : Nat) (v : W64) : (e.counted n).setX d v = (e.setX d v).counted n := rfl

theorem Engine.setP_counted (p : Nat) (b : Bool) : (e.counted n).setP p b = (e.setP p b).counted n := by
  unfold Engine.setP; split <;> rfl

theorem LaneSt.putWord_counted (w : Nat) (v : W64) : l.putWord (e.counted n) w v = (l.putWord e w v).counted n := by
  unfold LaneSt.putWord
  cases l.scan with
  | none => rfl
  | some sc =>
    dsimp only
    cases l.line (sc.frame + w / 8) <;> rfl

theorem LaneSt.apply_counted (f : Effect) : l.apply (e.counted n) f = (l.apply e f).counted n := by
  obtain ⟨xw, pw, fw, st, oof, free⟩ := f
  unfold LaneSt.apply
  rcases xw with _ | ⟨d, v⟩ <;> rcases pw with _ | ⟨p, b⟩ <;> rcases fw with _ | ⟨w, u⟩ <;> dsimp only <;>
    simp only [Engine.setX_counted, Engine.setP_counted, LaneSt.putWord_counted]

theorem Engine.fold1_counted (w : Nat) (o : W64) : (e.counted n).fold1 w o = (e.fold1 w o).counted n :=
  (apply_ite (Engine.counted · n) (e.folds < w) { e with sig := foldSig e.sig o, folds := e.folds + 1 } { e with extra := e.extra ++ [o] }).symm

theorem Engine.foldN_counted (w : Nat) (o : W64) (k : Nat) : (e.counted n).foldN w o k = (e.foldN w o k).counted n :=
  List.foldl_hom (Engine.counted · n) fun e o => e.fold1_counted n w o

/-- Engines that differ in their counts alone do so after an issue of one word, with the same effect. -/
theorem State.issueOn_counted (busy : Bool) (w : BitVec 32) : s.issueOn l (e.counted n) busy w =
    ((s.issueOn l e busy w).1.counted (n + 1), (s.issueOn l e busy w).2) := by
  have hpr : ∀ p, (e.counted n).pr p = e.pr p := fun _ => rfl
  unfold State.issueOn
  simp only [hpr, State.effect_counted, LaneSt.apply_counted, Engine.foldN_counted]
  cases busy <;> rfl

end

/-! ### Lanes in step (R240, R241) -/

section
variable {ln : LaneSt}

/-- In step: the checker is the main engine, its count of instructions aside. -/
theorem LaneSt.inStep_iff : ln.inStep ↔ (∃ n, ln.chk = ln.main.counted n) ∧ ln.storeQ = ln.chkQ ∧ ln.dbgQ = [] := by
  constructor
  · rintro ⟨hx, hp, hfc, hcode, hsig, hfolds, hextra, hhalted, hst, hq⟩
    refine ⟨⟨ln.chk.issued, ?_⟩, hst, hq⟩
    rw [Engine.counted, hx, hp, hfc, hcode, hsig, hfolds, hextra, hhalted]
  · rintro ⟨⟨n, hchk⟩, hst, hq⟩
    rw [LaneSt.inStep, hchk]
    exact ⟨rfl, rfl, rfl, rfl, rfl, rfl, rfl, rfl, hst, hq⟩

end

/-- A lane whose engines have issued, each with what its issue left and did; `d` are the dirty lines. -/
def LaneSt.bothIssued (ln : LaneSt) (m c : Engine × Effect) (d : NMap Nat) : LaneSt :=
  { ln with
    main := m.1, chk := c.1, dbgQ := [], dirty := d, scan := ln.scan.map Scan.on
    storeQ := match m.2.st with | some st => ln.storeQ ++ [st] | none => ln.storeQ
    chkQ := match c.2.st with | some st => ln.chkQ ++ [st] | none => ln.chkQ }

theorem LaneSt.bothIssued_inStep {ln : LaneSt} {m : Engine × Effect} (hst : ln.storeQ = ln.chkQ) (n : Nat) (d : NMap Nat) :
    (ln.bothIssued m (m.1.counted n, m.2) d).inStep :=
  LaneSt.inStep_iff.2 ⟨⟨n, rfl⟩, by unfold LaneSt.bothIssued; rw [hst], rfl⟩

/-- One issue where no debugger action waits and the checker runs: each engine issues the word of its own Code Store. -/
theorem State.laneIssueGo_bothIssue {s : State} {l : Nat} (w : BitVec 32) (hq : (s.lane l).dbgQ = []) (hgo : (s.lane l).chk.halted = false) :
    ∃ d, (s.laneIssueGo l w).lane l = (s.lane l).bothIssued (s.issueOn (s.lane l) (s.lane l).main (s.flag (R.laneStateBusy l)) w)
      (s.issueOn (s.lane l) (s.lane l).chk (s.flag (R.laneStateBusy l)) ((s.lane l).wordAt (s.lane l).chk)) d := by
  have heq : ∃ f i d, s.laneIssueGo l w = (s.modLane l fun ln => ln.bothIssued (s.issueOn (s.lane l) (s.lane l).main (s.flag (R.laneStateBusy l)) w)
      (s.issueOn (s.lane l) (s.lane l).chk (s.flag (R.laneStateBusy l)) ((s.lane l).wordAt (s.lane l).chk)) d).issueDone l f i := by
    unfold State.laneIssueGo
    dsimp only
    rw [hq, drainDbg, hgo]
    exact ⟨_, _, _, rfl⟩
  obtain ⟨f, i, d, heq⟩ := heq
  exact ⟨d, by rw [heq, State.issueDone_lane, State.lane_modLane_same]⟩

/-- An issue keeps the engines in step: both issue the word due, on the same registers, frame and code. -/
theorem State.laneIssueGo_inStep {s : State} {l : Nat} {w : BitVec 32} (h : (s.lane l).inStep) (hgo : (s.lane l).main.halted = false)
    (hw : s.codeNow l = w) : ((s.laneIssueGo l w).lane l).inStep := by
  obtain ⟨⟨n, hchk⟩, hst, hq⟩ := LaneSt.inStep_iff.1 h
  have hword : (s.lane l).wordAt ((s.lane l).main.counted n) = w := hw
  obtain ⟨d, hlane⟩ := State.laneIssueGo_bothIssue w hq (by rw [hchk]; exact hgo)
  rw [hlane, hchk, hword, State.issueOn_counted]
  exact LaneSt.bothIssued_inStep hst _ d

/-! ### The end of a scan -/

/-- An engine with FIRST cleared in the frame header it holds (R131 step 6). -/
def LaneSt.headerDone (ln : LaneSt) (e : Engine) : Engine :=
  match ln.frameWord e 0 with
  | some hd => if getBits hd 48 1 = 1 then ln.putWord e 0 (putBits hd 48 1 0) else e
  | none => e

theorem LaneSt.headerDone_counted (ln : LaneSt) (e : Engine) (n : Nat) : ln.headerDone (e.counted n) = (ln.headerDone e).counted n := by
  unfold LaneSt.headerDone
  rw [show ln.frameWord (e.counted n) 0 = ln.frameWord e 0 from rfl]
  cases ln.frameWord e 0 with
  | none => rfl
  | some hd =>
    dsimp only
    split
    · exact LaneSt.putWord_counted ..
    · rfl

/-- The end of a scan keeps the engines in step: each clears FIRST in the header it holds. -/
theorem State.endScanGo_inStep {s : State} {l : Nat} (h : (s.lane l).inStep) : ((s.endScanGo l).lane l).inStep := by
  obtain ⟨⟨n, hchk⟩, hst, hq⟩ := LaneSt.inStep_iff.1 h
  cases hs : (s.lane l).scan with
  | none => 
    have : s.endScanGo l = s := by unfold State.endScanGo; dsimp only; rw [hs]
    rw [this]; exact h
  | some sc =>
    have heq : ∃ d, s.endScanGo l = (s.modLane l fun ln => { ln with
        main := (s.lane l).headerDone ln.main, chk := (s.lane l).headerDone ln.chk, dirty := d, scan := none,
        next := mput 0 ln.next sc.cls (sc.pos + 1) }).incMod (R.laneBlocksExecuted l) := by
      unfold State.endScanGo
      dsimp only
      rw [hs]
      exact ⟨_, rfl⟩
    obtain ⟨d, heq⟩ := heq
    rw [heq, State.incMod_lane, State.lane_modLane_same]
    exact LaneSt.inStep_iff.2 ⟨⟨n, by rw [hchk]; exact LaneSt.headerDone_counted ..⟩, hst, hq⟩

/-! ### Lane instructions -/

/-- A word that is due is the one both engines issue next. -/
theorem State.codeNow_of_due {s : State} {l : Nat} {w : BitVec 32} (h : s.laneDue l w = true) : s.codeNow l = w := by
  simp only [State.laneDue, Bool.and_eq_true, beq_iff_eq] at h
  exact h.1.2

theorem State.main_runs_of_goes {s : State} {l : Fin 8} (h : s.laneGoes l = true) : (s.lane l.val).main.halted = false := by
  simp only [State.laneGoes, Bool.and_eq_true, Bool.not_eq_true'] at h
  exact h.1.2

section
variable {s : State} {l : Fin 8} {w : BitVec 32} (hg : s.laneGoes l = true) (h : (s.lane l.val).inStep)
include hg h

theorem State.laneIssue_inStep : ((s.laneIssue l.val w).lane l.val).inStep := by
  cases hd : s.laneDue l.val w with
  | false => rw [State.laneIssue_notDue hd]; exact h
  | true =>
    have hissued := State.laneIssueGo_inStep h (State.main_runs_of_goes hg) (State.codeNow_of_due hd)
    rw [State.laneIssue_goes hg hd]
    split
    · exact State.endScanGo_inStep hissued
    · exact hissued

/-- A word that no table assigns is issued and reported, or, not due, does nothing (R141). -/
theorem State.unassigned_inStep : ((s.unassigned l.val w).lane l.val).inStep := by
  unfold State.unassigned
  dsimp only
  split
  · exact h
  · next hgo =>
    simp only [not_or, Bool.not_eq_false] at hgo
    obtain ⟨_, _, _, hd⟩ := hgo
    rw [State.lane, State.report_lanes]
    exact State.laneIssueGo_inStep h (State.main_runs_of_goes hg) (State.codeNow_of_due hd)

end

/-- Settles O13: both engines issue one word with one effect, and END clears one header. -/
theorem enginesStayInStep : Obligations.EnginesStayInStep := by
  unfold Obligations.EnginesStayInStep
  intro s i l w hw hg h
  by_cases hi : ∀ op rest, i ≠ .unassignedOpcode l op rest
  · exact ⟨_, exec_laneWord hw hi, State.laneIssue_inStep hg h⟩
  · push Not at hi
    obtain ⟨op, rest, rfl⟩ := hi
    exact ⟨_, exec_unassignedOpcode s l op rest, State.unassigned_inStep hg h⟩

end Sys2Proof.Machine
end

section
/-! PROOFS. Writes of LOCK (O22). -/

namespace Sys2Proof.Machine

/-- A write of LOCK that reaches its register sets LOCKED and nothing else. -/
theorem State.reach_locks {s : State} {m : Fin 16} {f g : Fld} (h : s.reaches m f = true) (hr : g.lo + g.len ≤ 64) (hlen : g.len = 1) :
    WroteOnly s (s.reach m.val f fun s => s.setFlag g true) [g] ∧ (s.reach m.val f fun s => s.setFlag g true).flag g = true := by
  obtain ⟨honly, hval⟩ := State.reach_setFld h 1 hr
  refine ⟨honly, ?_⟩
  rw [State.flag, show (s.reach m.val f fun s => s.setFlag g true).fld g = _ from hval, hlen]
  rfl

/-- Settles O22: each lock is the LOCKED bit that its write sets. -/
theorem locksClose : Obligations.LocksClose := by
  unfold Obligations.LocksClose
  intro s m
  refine ⟨fun h => ?cmp, fun h => ?stn, fun h => ?fab, fun h => ?fcol, fun h => ?acfg, fun h => ?host⟩
  case cmp | stn | fab | fcol | acfg | host => exact ⟨_, rfl, State.reach_locks h (by decide) rfl⟩

end Sys2Proof.Machine
end

section
/-! PROOFS. The debug replay queue performed by the checker, and the debug gate closed (O27). -/

namespace Sys2Proof.Machine

/-! ### LANEn_DBGSTAT (R272) -/

theorem dbgstat_range (l : Nat) : (R.laneDbgstatHalted l).lo + (R.laneDbgstatHalted l).len ≤ 64 ∧
    (R.laneDbgstatPending l).lo + (R.laneDbgstatPending l).len ≤ 64 ∧ (R.laneDbgstatDepth l).lo + (R.laneDbgstatDepth l).len ≤ 64 :=
  ⟨by simp [R.laneDbgstatHalted], by simp [R.laneDbgstatPending], by simp [R.laneDbgstatDepth]⟩

/-- PENDING and DEPTH follow the queue; nothing else changes. -/
theorem State.dbgStat_shows (s : State) (l : Nat) : FldsOnly s (s.dbgStat l) [R.laneDbgstatPending l, R.laneDbgstatDepth l] ∧
    (s.dbgStat l).flag (R.laneDbgstatPending l) = !(s.lane l).dbgQ.isEmpty ∧
    (s.dbgStat l).fld (R.laneDbgstatDepth l) = (s.lane l).dbgQ.length % 128 := by
  obtain ⟨_, hp, hd⟩ := dbgstat_range l
  refine ⟨?_, ?_, ?_⟩
  · exact ((State.setFld_only s _ hd).trans (State.setFlag_only _ _ hp)).mono (by simp)
  · refine (State.flag_setFlag_same _ _ hp (by simp [R.laneDbgstatPending])).trans ?_
    cases (s.lane l).dbgQ <;> rfl
  · refine (State.fld_setFlag_ne _ _ hp (.inr (.inl (by simp [R.laneDbgstatPending, R.laneDbgstatDepth])))).trans ?_
    exact State.fld_setFld_same s _ hd

/-! ### The queue performed (R259) -/

theorem DbgAct.perform_issued (a : DbgAct) (e : Engine) : (a.perform e).issued = e.issued := by
  cases a
  case setP n b => unfold DbgAct.perform Engine.setP; dsimp only; split <;> rfl
  all_goals rfl

/-- The checker performs the entries in front whose retire point it has reached, in order, and stops at the first other. -/
theorem drainDbg_append {done wait : List DbgEntry} {e : Engine} (hdone : ∀ d ∈ done, d.at_ = e.issued) (hwait : ∀ d ∈ wait.head?, d.at_ ≠ e.issued) :
    drainDbg (done ++ wait) e = (wait, done.foldl (fun e d => d.act.perform e) e) := by
  induction done generalizing e with
  | nil =>
    cases wait with
    | nil => rfl
    | cons d ds => exact if_neg (hwait d rfl)
  | cons d ds ih =>
    have hissued := d.act.perform_issued e
    rw [List.cons_append, drainDbg, if_pos (hdone d List.mem_cons_self), List.foldl_cons]
    exact ih (fun x hx => (hdone x (List.mem_cons_of_mem _ hx)).trans hissued.symm) fun x hx => hissued ▸ hwait x hx

section
variable {s : State} {l : Nat} {done wait : List DbgEntry} (hq : (s.lane l).dbgQ = done ++ wait)
  (hdone : ∀ d ∈ done, d.at_ = (s.lane l).chk.issued) (hwait : ∀ d ∈ wait.head?, d.at_ ≠ (s.lane l).chk.issued)
include hq hdone hwait

/-- The replay queue of a lane performed: the checker with the entries done, the rest waiting, LANEn_DBGSTAT. -/
theorem State.dbgDrain_performs : s.dbgDrain l =
    (s.modLane l fun ln => { ln with dbgQ := wait, chk := done.foldl (fun e d => d.act.perform e) (s.lane l).chk }).dbgStat l := by
  unfold State.dbgDrain
  dsimp only
  rw [hq, drainDbg_append hdone hwait]

theorem State.dbgDrain_lane : (s.dbgDrain l).lane l =
      { s.lane l with dbgQ := wait, chk := done.foldl (fun e d => d.act.perform e) (s.lane l).chk } := by
  rw [State.dbgDrain_performs hq hdone hwait, State.dbgStat_lane, State.lane_modLane_same]

end

theorem State.dbgDrain_regLane (s : State) (l : Nat) : RegLane s (s.dbgDrain l) := (State.modLane_regLane ..).trans (State.dbgStat_regLane ..)

theorem State.dbgDrain_lane_ne (s : State) {l k : Nat} (h : k ≠ l) : (s.dbgDrain l).lane k = s.lane k := by
  unfold State.dbgDrain
  dsimp only
  rw [State.dbgStat_lane, State.lane_modLane_ne _ _ h]

/-! ### The gate (R478) -/

theorem State.gateShut_unasked {s : State} (h : s.acc.closing = false) : s.gateShut = s := by
  unfold State.gateShut
  rw [if_neg fun hc => Bool.false_ne_true (h.symm.trans hc.1)]

/-- DBG_GATE with OPEN and SCOPE cleared. -/
def State.gateCleared (s : State) : State := (s.setFlag R.dbgGateOpen false).setFld R.dbgGateScope 0

theorem State.gateCleared_only (s : State) : FldsOnly s s.gateCleared [R.dbgGateOpen, R.dbgGateScope] :=
  (State.setFlag_only s false (by decide)).trans (State.setFld_only _ 0 (by decide))

theorem State.gateCleared_open (s : State) : s.gateCleared.flag R.dbgGateOpen = false := by
  rw [State.flag, State.gateCleared, State.fld_setFld_ne _ 0 (by decide) (by decide)]
  exact State.flag_setFlag_same s false (by decide) (by decide)

theorem State.gateCleared_scope (s : State) : s.gateCleared.fld R.dbgGateScope = 0 :=
  (State.fld_setFld_same _ 0 (by decide)).trans (Nat.zero_mod _)

/-- A gate told to close closes on empty queues. -/
theorem State.gateShut_shuts {s : State} (h : s.acc.closing = true) (hq : ∀ k < 8, (s.lane k).dbgQ = []) :
    s.gateShut = { s with regs := s.gateShut.regs, acc := { s.acc with closing := false } } ∧ s.gateShut.flag R.dbgGateOpen = false ∧
      s.gateShut.fld R.dbgGateScope = 0 := by
  have hall : (List.range 8).all (fun k => (s.lane k).dbgQ.isEmpty) = true := by
    rw [List.all_eq_true]
    intro k hk
    rw [hq k (List.mem_range.1 hk)]
    rfl
  have heq : s.gateShut = { s.gateCleared with acc := { s.gateCleared.acc with closing := false } } := by
    unfold State.gateShut
    rw [if_pos ⟨h, hall⟩]
    rfl
  have hfld : ∀ f, s.gateShut.fld f = s.gateCleared.fld f := fun f => by rw [heq]; rfl
  refine ⟨?_, ?_, (hfld _).trans s.gateCleared_scope⟩
  · rw [heq, s.gateCleared_only.1]
  · rw [State.flag, hfld]; exact s.gateCleared_open

theorem State.gateShut_lane (s : State) (k : Nat) : s.gateShut.lane k = s.lane k := by
  unfold State.gateShut
  split
  · show ((s.setFlag R.dbgGateOpen false).setFld R.dbgGateScope 0).lane k = _
    rw [State.lane, State.setFld_lanes, State.setFlag_lanes, ← State.lane]
  · rfl

/-- From `s` to `t` no lane and nothing but registers has changed. -/
def LanesKept (s t : State) : Prop := RegLane s t ∧ ∀ k, t.lane k = s.lane k

theorem LanesKept.refl (s : State) : LanesKept s s := ⟨rfl, fun _ => rfl⟩

theorem LanesKept.trans {s t u : State} (h : LanesKept s t) (k : LanesKept t u) : LanesKept s u :=
  ⟨h.1.trans k.1, fun n => (k.2 n).trans (h.2 n)⟩

/-- An empty queue performed. -/
theorem State.dbgDrain_empty {s : State} {l : Nat} (hq : (s.lane l).dbgQ = []) : LanesKept s (s.dbgDrain l) := by
  refine ⟨s.dbgDrain_regLane l, fun k => ?_⟩
  by_cases hk : k = l
  · subst hk
    rw [State.dbgDrain_lane (done := []) (wait := []) hq (by simp) (by simp)]
    exact congrArg (fun q => { s.lane k with dbgQ := q }) hq.symm
  · exact s.dbgDrain_lane_ne hk

/-- A lane let go as the gate is told to close: its queue performed, RESUME where it is halted. -/
def State.letGo (s : State) (l : Nat) : State :=
  let s := s.dbgDrain l
  let s := if (s.lane l).main.halted then s.dbgDo l .resume else s
  s.dbgDrain l

/-- The gate told to close. -/
def State.toldToClose (s : State) : State := { s with acc := { s.acc with closing := true } }

theorem State.gateClose_eq {s : State} (h : s.flag R.dbgGateOpen = true) :
    s.gateClose = ((List.range 8).foldl State.letGo s).toldToClose.gateShut := by
  delta State.gateClose State.letGo State.toldToClose
  dsimp only
  rw [if_neg (not_not.2 h)]

/-- A lane that is not halted and has no entry waiting is left as it is. -/
theorem State.letGo_idle {s : State} {l : Nat} (hrun : (s.lane l).main.halted = false) (hq : (s.lane l).dbgQ = []) : LanesKept s (s.letGo l) := by
  have hfirst := State.dbgDrain_empty hq
  have hlane := hfirst.2 l
  have heq : s.letGo l = (s.dbgDrain l).dbgDrain l := by
    unfold State.letGo
    dsimp only
    rw [hlane, hrun, if_neg Bool.false_ne_true]
  rw [heq]
  exact hfirst.trans (State.dbgDrain_empty (by rw [hlane, hq]))

theorem State.letGo_allIdle {ls : List Nat} {s : State} (h : ∀ k ∈ ls, (s.lane k).main.halted = false ∧ (s.lane k).dbgQ = []) :
    LanesKept s (ls.foldl State.letGo s) := by
  induction ls generalizing s with
  | nil => exact .refl s
  | cons l ls ih =>
    obtain ⟨hrun, hq⟩ := h l List.mem_cons_self
    have hone := State.letGo_idle hrun hq
    exact hone.trans (ih fun k hk => by rw [hone.2 k]; exact h k (List.mem_cons_of_mem _ hk))

/-- Settles O27: a queue is performed up to the first entry not reached, and the gate closes where every queue is then empty. -/
theorem replayQueuesAndTheGate : Obligations.ReplayQueuesAndTheGate := by
  unfold Obligations.ReplayQueuesAndTheGate
  refine fun s => ⟨fun l done wait hq hdone hwait hopen => ?performs, fun l hclosing hothers hall => ?shuts, fun m hr hidle hgate => ?closes⟩
  case performs =>
    have hrest := s.dbgDrain_regLane l.val
    have hacc : (s.dbgDrain l.val).acc.closing = false := by rw [hrest]; exact hopen
    have hlane := State.dbgDrain_lane hq hdone hwait
    obtain ⟨⟨_, hkept⟩, hpending, hdepth⟩ := State.dbgStat_shows
      (s.modLane l.val fun ln => { ln with dbgQ := wait, chk := done.foldl (fun e d => d.act.perform e) (s.lane l.val).chk }) l.val
    rw [State.lane_modLane_same, ← State.dbgDrain_performs hq hdone hwait] at hpending hdepth
    rw [← State.dbgDrain_performs hq hdone hwait] at hkept
    refine ⟨_, congrArg Host.Outcome.next (State.gateShut_unasked hacc), hrest, fun k hk => s.dbgDrain_lane_ne hk, hlane, hkept, hpending, hdepth⟩
  case shuts =>
    have hlane := State.dbgDrain_lane (s := s) (wait := []) (List.append_nil _).symm hall (by simp)
    have hempty : ∀ k < 8, ((s.dbgDrain l.val).lane k).dbgQ = [] := fun k hk => by
      by_cases hkl : k = l.val
      · rw [hkl, hlane]
      · rw [s.dbgDrain_lane_ne hkl, hothers k hk hkl]
    have hacc : (s.dbgDrain l.val).acc.closing = true := by rw [s.dbgDrain_regLane l.val]; exact hclosing
    obtain ⟨hrest, hgate, hscope⟩ := State.gateShut_shuts hacc hempty
    exact ⟨_, rfl, hgate, hscope, by rw [hrest], by rw [State.gateShut_lane, hlane], by rw [State.gateShut_lane, hlane]⟩
  case closes =>
    have hall : ∀ k ∈ List.range 8, (s.lane k).main.halted = false ∧ (s.lane k).dbgQ = [] := fun k hk => hidle k (List.mem_range.1 hk)
    obtain ⟨hrest, hlanes⟩ := State.letGo_allIdle hall
    have hclose := State.gateClose_eq hgate
    generalize (List.range 8).foldl State.letGo s = u at hrest hlanes hclose
    have hempty : ∀ k < 8, (u.toldToClose.lane k).dbgQ = [] := fun k hk => (congrArg LaneSt.dbgQ (hlanes k)).trans (hidle k hk).2
    obtain ⟨hshut, hopen, hscope⟩ := State.gateShut_shuts (s := u.toldToClose) rfl hempty
    rw [← hclose] at hshut hopen hscope
    refine ⟨_, congrArg Host.Outcome.next (State.reach_eq hr _), hopen, hscope, rfl, fun k => ?_, ?_, ?_⟩
    · rw [← hlanes k, State.lane, State.reply_lanes, ← State.lane, hclose, State.gateShut_lane]; rfl
    · rw [State.reply_mem, hshut]; show u.mem = s.mem; rw [hrest]
    · rw [State.reply_tbs, hshut]; show u.tbs = s.tbs; rw [hrest]

end Sys2Proof.Machine
end

section
/-! PROOFS. A debugger action performed by half H and queued for the checker (O26). -/

namespace Sys2Proof.Machine

/-! ### An action performed by half H (R259) -/

/-- Only the registers, the lanes, the bus and the Logbook differ. -/
def DebugMoved (s t : State) : Prop := t = { s with regs := t.regs, lanes := t.lanes, bus := t.bus, log := t.log }

theorem DebugMoved.trans {s t u : State} (h : DebugMoved s t) (k : DebugMoved t u) : DebugMoved s u := by
  obtain ⟨r, l, b, g, rfl⟩ : ∃ r l b g, t = { s with regs := r, lanes := l, bus := b, log := g } := ⟨_, _, _, _, h⟩
  obtain ⟨r', l', b', g', rfl⟩ : ∃ r' l' b' g', u = { s with regs := r', lanes := l', bus := b', log := g' } := ⟨_, _, _, _, k⟩
  rfl

theorem RegLane.debugMoved {s t : State} (h : RegLane s t) : DebugMoved s t := by
  obtain ⟨r, l, rfl⟩ : ∃ r l, t = { s with regs := r, lanes := l } := ⟨_, _, h⟩
  rfl

theorem FldsOnly.debugMoved {s t : State} {fs : List Fld} (h : FldsOnly s t fs) : DebugMoved s t := by
  obtain ⟨r, rfl⟩ : ∃ r, t = { s with regs := r } := ⟨_, h.1⟩
  rfl

/-- From `s` to `u` a debugger's access has been taken up and the lane is as it was, its dirty lines aside: beside the fields listed only the bus,
the Logbook and the lane have moved. -/
structure AccessTaken (s u : State) (l : Nat) (fs : List Fld) : Prop where
  rest : DebugMoved s u
  others : ∀ k, k ≠ l → u.lane k = s.lane k
  lane : u.lane l = { s.lane l with dirty := (u.lane l).dirty }
  flds : FldsKept s u fs

theorem AccessTaken.refl (s : State) (l : Nat) : AccessTaken s s l [] := ⟨rfl, fun _ _ => rfl, rfl, .refl s _⟩

section
variable {s t u : State} {l : Nat} {fs gs : List Fld}

theorem AccessTaken.trans (h : AccessTaken s t l fs) (k : AccessTaken t u l gs) : AccessTaken s u l (fs ++ gs) := by
  refine ⟨h.rest.trans k.rest, fun n hn => (k.others n hn).trans (h.others n hn), ?_, h.flds.trans k.flds⟩
  rw [k.lane, h.lane]

theorem AccessTaken.reply (h : AccessTaken s t l fs) (err : Bool) (data : W64) : AccessTaken s (t.reply err data) l fs :=
  ⟨h.rest.trans rfl, h.others, h.lane, h.flds⟩

theorem AccessTaken.of_flds (h : FldsOnly s u fs) : AccessTaken s u l fs := by
  have hlane : ∀ k, u.lane k = s.lane k := fun k => by rw [State.lane, h.1]; rfl
  exact ⟨h.debugMoved, fun k _ => hlane k, by rw [hlane l], h.2⟩

end

/-- The action on half H and in the queue. -/
def State.acted (s : State) (l : Nat) (a : DbgAct) : State :=
  s.modLane l fun ln => { ln with main := a.perform ln.main, dbgQ := ln.dbgQ ++ [⟨a, ln.main.issued⟩] }

/-- An action where the queue has room; HALTED, PENDING and DEPTH follow. -/
theorem State.dbgDo_room {s : State} {l : Nat} (a : DbgAct) (hroom : (s.lane l).dbgQ.length < 64) :
    s.dbgDo l a = ((s.acted l a).setFlag (R.laneDbgstatHalted l) (a.perform (s.lane l).main).halted).dbgStat l := by
  unfold State.dbgDo State.acted
  rw [if_neg (Nat.not_le.2 hroom)]
  dsimp only
  rw [State.lane_modLane_same]

theorem State.dbgDo_full {s : State} {l : Nat} (a : DbgAct) (hfull : 64 ≤ (s.lane l).dbgQ.length) : s.dbgDo l a = s.reply true 0 := by
  unfold State.dbgDo
  rw [if_pos hfull]

/-- HALTED, PENDING and DEPTH after an action. -/
theorem State.dbgDo_shows {s : State} {l : Nat} (a : DbgAct) (hroom : (s.lane l).dbgQ.length < 64) :
    FldsOnly (s.acted l a) (s.dbgDo l a) [R.laneDbgstatHalted l, R.laneDbgstatPending l, R.laneDbgstatDepth l] ∧
      (s.dbgDo l a).flag (R.laneDbgstatHalted l) = (a.perform (s.lane l).main).halted ∧ (s.dbgDo l a).flag (R.laneDbgstatPending l) = true ∧
      (s.dbgDo l a).fld (R.laneDbgstatDepth l) = (s.lane l).dbgQ.length + 1 := by
  obtain ⟨hh, _, _⟩ := dbgstat_range l
  obtain ⟨hstat, hpending, hdepth⟩ := State.dbgStat_shows ((s.acted l a).setFlag (R.laneDbgstatHalted l) (a.perform (s.lane l).main).halted) l
  have hlane : ((s.acted l a).setFlag (R.laneDbgstatHalted l) (a.perform (s.lane l).main).halted).lane l =
      { s.lane l with main := a.perform (s.lane l).main, dbgQ := (s.lane l).dbgQ ++ [⟨a, (s.lane l).main.issued⟩] } := by
    rw [State.lane, State.setFlag_lanes]
    exact State.lane_modLane_same ..
  rw [hlane] at hpending hdepth
  rw [State.dbgDo_room a hroom]
  refine ⟨(State.setFlag_only _ _ hh).trans hstat, ?_, hpending.trans (by simp), hdepth.trans ?_⟩
  · have hkept := hstat.2 (R.laneDbgstatHalted l) (by simp [apart, R.laneDbgstatHalted, R.laneDbgstatPending, R.laneDbgstatDepth])
    exact (congrArg (· != 0) hkept).trans (State.flag_setFlag_same _ _ hh (by simp [R.laneDbgstatHalted]))
  · rw [List.length_append]
    exact Nat.mod_eq_of_lt (by simp only [List.length_singleton]; omega)

theorem State.dbgDo_bus {s : State} {l : Nat} (a : DbgAct) (hroom : (s.lane l).dbgQ.length < 64) : (s.dbgDo l a).bus = s.bus := by
  rw [(State.dbgDo_shows a hroom).1.1]
  rfl

/-- An action performed where the queue has room. -/
theorem AccessTaken.acted {s u : State} {l : Fin 8} {fs : List Fld} (h : AccessTaken s u l.val fs) (hroom : (s.lane l.val).dbgQ.length < 64) (a : DbgAct) :
    LaneActed s (u.dbgDo l.val a) l a (a.perform (s.lane l.val).main) fs := by
  have hq : (u.lane l.val).dbgQ = (s.lane l.val).dbgQ := by rw [h.lane]
  have hmain : (u.lane l.val).main = (s.lane l.val).main := by rw [h.lane]
  obtain ⟨honly, hhalted, hpending, hdepth⟩ := State.dbgDo_shows (s := u) (l := l.val) a (by rw [hq]; exact hroom)
  have hlanes : ∀ k, (u.dbgDo l.val a).lane k = (u.acted l.val a).lane k := fun k => by rw [State.lane, honly.1]; rfl
  rw [hmain] at hhalted
  rw [hq] at hdepth
  refine ⟨(h.rest.trans (State.modLane_regLane ..).debugMoved).trans honly.debugMoved, fun k hk => ?_, ?_, ?_, hhalted, hpending, hdepth⟩
  · rw [hlanes, State.acted, State.lane_modLane_ne _ _ hk, h.others k hk]
  · rw [hlanes, State.acted, State.lane_modLane_same, h.lane]
  · exact (h.flds.trans honly.2).mono fun f hf => List.mem_append.2 (List.mem_append.1 hf).symm

end Sys2Proof.Machine
end

section
/-! PROOFS. The accesses of a debugger: the grant, LANEn_DBGACC, the DEBUG record, writes, reads, steps (O26). -/

namespace Sys2Proof.Machine

/-! ### The access of master 14 (R272, R474) -/

/-- An access that is granted is taken up and answered. -/
theorem State.laneDebug_open {s : State} {l : Fin 8} (h : s.laneOpen l = true) (act : State → State) :
    s.laneDebug l.val act = act (s.reply false 0) := by
  simp only [State.laneOpen, Bool.and_eq_true] at h
  obtain ⟨⟨⟨hgate, hscope⟩, hgrant⟩, hisland⟩ := h
  have hreach : s.reach 14 (R.laneDbgctl l.val) id = s.reply false 0 :=
    State.reach_eq (m := 14) (by rw [State.reaches, Bool.and_eq_true]; exact ⟨hgrant, hisland⟩) id
  unfold State.laneDebug
  rw [if_pos ⟨hgate, hscope⟩, hreach]
  exact if_neg Bool.false_ne_true

theorem State.laneGranted_iff {s : State} {l : Fin 8} : s.laneGranted l = true ↔ s.laneOpen l = true ∧ (s.lane l.val).dbgQ.length < 64 := by
  rw [State.laneGranted, Bool.and_eq_true, decide_eq_true_iff]

theorem AccessTaken.answered (s : State) (l : Nat) : AccessTaken s (s.reply false 0) l [] := (AccessTaken.refl s l).reply false 0

/-! ### LANEn_DBGACC (R272) -/

theorem dbgacc_range (l : Nat) : (R.laneDbgaccIndex l).lo + (R.laneDbgaccIndex l).len ≤ 64 ∧
    (R.laneDbgaccSpace l).lo + (R.laneDbgaccSpace l).len ≤ 64 ∧ (R.laneDbgaccWord l).lo + (R.laneDbgaccWord l).len ≤ 64 :=
  ⟨by simp [R.laneDbgaccIndex], by simp [R.laneDbgaccSpace], by simp [R.laneDbgaccWord]⟩

theorem State.dbgAcc_only (s : State) (l index space word : Nat) :
    FldsOnly s (s.dbgAcc l index space word) [R.laneDbgaccIndex l, R.laneDbgaccSpace l, R.laneDbgaccWord l] := by
  obtain ⟨hi, hs, hw⟩ := dbgacc_range l
  exact ((State.setFld_only s _ hi).trans (State.setFld_only _ _ hs)).trans (State.setFld_only _ _ hw)

theorem State.dbgAcc_flds (s : State) (l : Nat) (i : BitVec 6) (sp : BitVec 2) (w : BitVec 13) :
    (s.dbgAcc l i.toNat sp.toNat w.toNat).fld (R.laneDbgaccIndex l) = i.toNat ∧
      (s.dbgAcc l i.toNat sp.toNat w.toNat).fld (R.laneDbgaccSpace l) = sp.toNat ∧
      (s.dbgAcc l i.toNat sp.toNat w.toNat).fld (R.laneDbgaccWord l) = w.toNat := by
  obtain ⟨hi, hs, hw⟩ := dbgacc_range l
  have hiw : (R.laneDbgaccIndex l).lo + (R.laneDbgaccIndex l).len ≤ (R.laneDbgaccWord l).lo := by simp [R.laneDbgaccIndex, R.laneDbgaccWord]
  have his : (R.laneDbgaccIndex l).lo + (R.laneDbgaccIndex l).len ≤ (R.laneDbgaccSpace l).lo := by simp [R.laneDbgaccIndex, R.laneDbgaccSpace]
  have hsw : (R.laneDbgaccSpace l).lo + (R.laneDbgaccSpace l).len ≤ (R.laneDbgaccWord l).lo := by simp [R.laneDbgaccSpace, R.laneDbgaccWord]
  unfold State.dbgAcc
  refine ⟨?_, ?_, ?_⟩
  · rw [State.fld_setFld_ne _ _ hw (.inr (.inr hiw)), State.fld_setFld_ne _ _ hs (.inr (.inr his)), State.fld_setFld_same _ _ hi]
    exact Nat.mod_eq_of_lt i.isLt
  · rw [State.fld_setFld_ne _ _ hw (.inr (.inr hsw)), State.fld_setFld_same _ _ hs]
    exact Nat.mod_eq_of_lt sp.isLt
  · rw [State.fld_setFld_same _ _ hw]
    exact Nat.mod_eq_of_lt w.isLt

theorem State.dbgAcc_data (s : State) (l index space word : Nat) :
    (s.dbgAcc l index space word).reg (R.laneDbgdata l).addr = s.reg (R.laneDbgdata l).addr := by
  have hne : (R.laneDbgdata l).addr ≠ (R.laneDbgacc l).addr := by simp [R.laneDbgdata, R.laneDbgacc]
  exact ((State.reg_setFld_ne _ (f := R.laneDbgaccWord l) _ hne).trans (State.reg_setFld_ne _ (f := R.laneDbgaccSpace l) _ hne)).trans
    (State.reg_setFld_ne s (f := R.laneDbgaccIndex l) _ hne)

/-- The state in which a granted access that sets LANEn_DBGACC acts. -/
def State.dbgChosen (s : State) (l : Nat) (i : BitVec 6) (sp : BitVec 2) (w : BitVec 13) : State :=
  (s.reply false 0).dbgAcc l i.toNat sp.toNat w.toNat

theorem AccessTaken.dbgChosen (s : State) (l : Nat) (i : BitVec 6) (sp : BitVec 2) (w : BitVec 13) :
    AccessTaken s (s.dbgChosen l i sp w) l [R.laneDbgaccIndex l, R.laneDbgaccSpace l, R.laneDbgaccWord l] :=
  (AccessTaken.answered s l).trans (.of_flds (State.dbgAcc_only ..))

theorem State.dbgChosen_eq (s : State) (l : Nat) (i : BitVec 6) (sp : BitVec 2) (w : BitVec 13) :
    s.dbgChosen l i sp w = { s with regs := (s.dbgChosen l i sp w).regs, bus := ⟨false, 0⟩ } := (State.dbgAcc_only ..).1

theorem State.dbgChosen_lane (s : State) (l : Nat) (i : BitVec 6) (sp : BitVec 2) (w : BitVec 13) (k : Nat) :
    (s.dbgChosen l i sp w).lane k = s.lane k := by
  rw [State.lane, s.dbgChosen_eq]; rfl

theorem State.dbgChosen_bus (s : State) (l : Nat) (i : BitVec 6) (sp : BitVec 2) (w : BitVec 13) : (s.dbgChosen l i sp w).bus = ⟨false, 0⟩ := by
  rw [s.dbgChosen_eq]

theorem State.dbgChosen_flds (s : State) (l : Nat) (i : BitVec 6) (sp : BitVec 2) (w : BitVec 13) :
    (s.dbgChosen l i sp w).fld (R.laneDbgaccIndex l) = i.toNat ∧ (s.dbgChosen l i sp w).fld (R.laneDbgaccSpace l) = sp.toNat ∧
      (s.dbgChosen l i sp w).fld (R.laneDbgaccWord l) = w.toNat := State.dbgAcc_flds ..

theorem State.dbgChosen_data (s : State) (l : Nat) (i : BitVec 6) (sp : BitVec 2) (w : BitVec 13) :
    (s.dbgChosen l i sp w).reg (R.laneDbgdata l).addr = s.reg (R.laneDbgdata l).addr := State.dbgAcc_data ..

/-! ### The DEBUG record of a write (R262, R545) -/

theorem State.logRate_only (s : State) : FldsOnly s s.logRate [R.logbStatusRate, R.logbStatusBacklog] :=
  (State.setFld_only s (f := R.logbStatusRate) _ (by decide)).trans (State.setFld_only _ (f := R.logbStatusBacklog) _ (by decide))

theorem AccessTaken.logPut (s : State) (l typ flags cls wake : Nat) (body : List Nat) (gs : List GrainEntry) (image : List Host.Cell) (whole : Nat) :
    AccessTaken s (s.logPut typ flags cls wake body gs image whole) l [R.logbStatusRate, R.logbStatusBacklog] := by
  have hlog : ∀ g : LogSt, AccessTaken s { s with log := g } l [] := fun _ => ⟨rfl, fun _ _ => rfl, rfl, fun _ _ => rfl⟩
  unfold State.logPut
  split
  · exact .of_flds (.refl s _)
  · dsimp only
    split
    · exact (hlog _).trans (.of_flds (.refl _ [R.logbStatusRate, R.logbStatusBacklog]))
    · exact (hlog _).trans (.of_flds (State.logRate_only _))

theorem State.logPut_bus (s : State) (typ flags cls wake : Nat) (body : List Nat) (gs : List GrainEntry) (image : List Host.Cell) (whole : Nat) :
    (s.logPut typ flags cls wake body gs image whole).bus = s.bus := by
  unfold State.logPut
  split
  · rfl
  · dsimp only
    split
    · rfl
    · rw [(State.logRate_only _).1]

/-! ### Writes (R259, R273) -/

theorem AccessTaken.dbgLog (s : State) (l space idx : Nat) (v : W64) :
    AccessTaken s (s.dbgLog l space idx v) l [R.logbStatusRate, R.logbStatusBacklog] := .logPut ..

theorem State.dbgLog_bus (s : State) (l space idx : Nat) (v : W64) : (s.dbgLog l space idx v).bus = s.bus := State.logPut_bus ..

/-- The line of a cache word written is dirty for the class of the scan, where the line holds a grain (R133). -/
def LaneSt.wordTouched (ln : LaneSt) (word : Nat) : LaneSt :=
  match ln.scan with
  | some sc => if mget 0 ln.tags (word / 8) = 0 then ln else { ln with dirty := mput 0 ln.dirty (word / 8) (sc.cls + 1) }
  | none => ln

theorem LaneSt.wordTouched_eq (ln : LaneSt) (word : Nat) : ln.wordTouched word = { ln with dirty := (ln.wordTouched word).dirty } := by
  have h : ∃ d, ln.wordTouched word = { ln with dirty := d } := by
    unfold LaneSt.wordTouched
    split
    · split <;> exact ⟨_, rfl⟩
    · exact ⟨_, rfl⟩
  obtain ⟨d, h⟩ := h
  rw [h]

theorem AccessTaken.wordTouched (s : State) (l word : Nat) : AccessTaken s (s.modLane l fun ln => ln.wordTouched word) l [] :=
  ⟨(State.modLane_regLane ..).debugMoved, fun _ hk => State.lane_modLane_ne _ _ hk,
    by rw [State.lane_modLane_same]; exact LaneSt.wordTouched_eq .., fun _ _ => rfl⟩

theorem State.dbgWrite_full {s : State} {l : Nat} (h : 64 ≤ (s.lane l).dbgQ.length) : s.dbgWrite l = s.reply true 0 := by
  unfold State.dbgWrite
  exact if_pos (.inr (.inr (.inr h)))

/-- The action of a WRITE: space 0 is a register, 1 a predicate, 2 a word of the Frame Cache (R272). -/
def DbgAct.write (space index word : Nat) (v : W64) : DbgAct :=
  match space with
  | 0 => .setX index v
  | 1 => .setP (index % 8) (v.getLsbD 0)
  | _ => .setWord word v

/-- A WRITE of a location that a lane has, while the lane is halted and its queue has room, is the action on it. -/
theorem State.dbgWrite_acts {s : State} {l : Nat} {i : BitVec 6} {sp : BitVec 2} {w : BitVec 13} (hhalt : (s.lane l).main.halted = true)
    (hroom : (s.lane l).dbgQ.length < 64) (hsp : sp.toNat ≠ 3) (hword : sp.toNat = 2 → w.toNat < 7168) :
    ∃ u, (s.dbgChosen l i sp w).dbgWrite l = u.dbgDo l (.write sp.toNat i.toNat w.toNat (s.reg (R.laneDbgdata l).addr)) ∧
      AccessTaken (s.dbgChosen l i sp w) u l [R.logbStatusRate, R.logbStatusBacklog] ∧ u.bus = ⟨false, 0⟩ := by
  obtain ⟨hindex, hspace, hw⟩ := s.dbgChosen_flds l i sp w
  have hbus : ∀ space idx v, ((s.dbgChosen l i sp w).dbgLog l space idx v).bus = ⟨false, 0⟩ := fun _ _ _ =>
    (State.dbgLog_bus ..).trans (s.dbgChosen_bus ..)
  have hexists : ¬(sp.toNat = 2 ∧ 7168 ≤ w.toNat) := fun h => Nat.not_le.2 (hword h.1) h.2
  unfold State.dbgWrite
  dsimp only
  rw [hindex, hspace, hw, s.dbgChosen_data, s.dbgChosen_lane, if_neg (by simp [hhalt, hroom, hsp, hexists])]
  split
  case h_1 h => rw [h]; exact ⟨_, rfl, .dbgLog .., hbus ..⟩
  case h_2 h => rw [h]; exact ⟨_, rfl, .dbgLog .., hbus ..⟩
  case h_3 h0 h1 =>
    have h : sp.toNat = 2 := by have := sp.isLt; simp only [imp_false] at h0 h1; omega
    rw [h]
    exact ⟨_, rfl, (AccessTaken.dbgLog ..).trans (.wordTouched ..), hbus ..⟩

/-! ### Reads (R260) -/

/-- A register word written whole. -/
theorem State.setReg_only (s : State) (a : Nat) (w : W64) : FldsOnly s (s.setReg a w) [⟨a, 0, 64⟩] := by
  refine ⟨rfl, fun g hg => ?_⟩
  have hkept := State.fld_setFld_ne s (f := ⟨a, 0, 64⟩) w.toNat (by simp) (hg _ (by simp))
  have hword : putBits (s.reg a) 0 64 w.toNat = w := BitVec.eq_of_toNat_eq (by
    rw [putBits_toNat _ _ (by decide)]
    have := w.isLt
    have := (s.reg a).isLt
    omega)
  rw [← hkept, State.setFld, hword]

theorem State.dbgRead_register {s : State} {l : Nat} (hhalt : (s.lane l).main.halted = true) (i : BitVec 6) (w : BitVec 13) :
    (s.dbgChosen l i 0 w).dbgRead l = (s.dbgChosen l i 0 w).setReg (R.laneDbgdata l).addr ((s.lane l).main.xr i.toNat) := by
  obtain ⟨hindex, hspace, _⟩ := s.dbgChosen_flds l i 0 w
  unfold State.dbgRead
  dsimp only
  rw [hindex, hspace, s.dbgChosen_lane]
  exact if_neg (by simp [hhalt])

/-- A read is refused or sets LANEn_DBGDATA. -/
theorem State.dbgRead_cases (s : State) (l : Nat) : s.dbgRead l = s.reply true 0 ∨ ∃ v, s.dbgRead l = s.setReg (R.laneDbgdata l).addr v := by
  unfold State.dbgRead
  dsimp only
  split
  · exact .inl rfl
  · exact .inr ⟨_, rfl⟩

/-! ### STEP (R259) -/

/-- An instruction of a halted lane that a debugger steps: it takes effect as one register write. -/
theorem State.issueNow_writes {u : State} {l : Fin 8} {w : BitVec 32} {d : BitVec 6} {v : W64} (hop : wordBits w 24 8 ≠ 1)
    (hf : u.issueEffect l w = { xw := some (d.toNat, v) }) :
    LaneOnly u (u.issueNow l.val w) l ∧ (∀ n, (u.issueNow l.val w).laneX l n = if n = d then v else u.laneX l n) ∧
      Engine.went { (u.lane l.val).main with x := ((u.issueNow l.val w).lane l.val).main.x } ((u.issueNow l.val w).lane l.val).main := by
  have heq : u.issueNow l.val w = u.laneIssueGo l.val w := by
    unfold State.issueNow
    exact if_neg fun h => hop h.1
  obtain ⟨sg, n, x, hmain⟩ := u.laneIssueGo_engine l w
  rw [heq]
  refine ⟨?_, fun n => ?_, ?_⟩
  · rw [State.issueEffect] at hf
    exact State.laneIssueGo_only u l w (by rw [hf]) (by rw [hf])
  · rw [State.laneIssueGo_laneX, hf]
    simp only [Option.elim_some, BitVec.toNat_inj]
  · rw [Engine.went, hmain, hf]; rfl

end Sys2Proof.Machine
end

section
/-! PROOFS. What each debugger action does to a lane (O26). -/

namespace Sys2Proof.Machine

/-! ### Predicates of an engine -/

theorem Engine.setP_only (e : Engine) (n : Nat) (b : Bool) : e.setP n b = { e with p := (e.setP n b).p } := by
  unfold Engine.setP; split <;> rfl

/-- Pn after a write, with P0 named as the predicate read (R124). -/
theorem Engine.pr_setP_of_lt (e : Engine) {k : Nat} (b : Bool) (hk : k < 8) (n : BitVec 3) :
    (e.setP k b).pr n.toNat = if n.toNat = k ∧ n ≠ 0 then b else e.pr n.toNat := by
  have hzero : n ≠ 0 ↔ n.toNat ≠ 0 := not_congr BitVec.toNat_inj.symm
  rw [Engine.pr_setP _ _ hk n.isLt]
  by_cases hn : n.toNat = k
  · subst hn; simp only [hzero]
  · simp only [hn, false_and]

/-! ### The commands of the debugger -/

section
variable {s : State} {l : Fin 8} {i : BitVec 6} {sp : BitVec 2} {w : BitVec 13}

theorem State.exec_laneDebugHalt (h : s.laneOpen l = true) : exec (.laneDebugHalt l) s = .next ((s.reply false 0).dbgHalt l.val) :=
  congrArg Host.Outcome.next (State.laneDebug_open h _)

theorem State.exec_laneDebugStep (h : s.laneOpen l = true) (x : BitVec 32) : exec (.laneDebugStep l x) s = .next ((s.reply false 0).dbgStep l.val x) :=
  congrArg Host.Outcome.next (State.laneDebug_open h _)

theorem State.exec_laneDebugResume (h : s.laneOpen l = true) : exec (.laneDebugResume l) s = .next ((s.reply false 0).dbgResume l.val) :=
  congrArg Host.Outcome.next (State.laneDebug_open h _)

theorem State.exec_laneDebugWrite (h : s.laneOpen l = true) : exec (.laneDebugWrite l i sp w) s = .next ((s.dbgChosen l.val i sp w).dbgWrite l.val) :=
  congrArg Host.Outcome.next (State.laneDebug_open h _)

theorem State.exec_laneDebugRead (h : s.laneOpen l = true) : exec (.laneDebugRead l i sp w) s = .next ((s.dbgChosen l.val i sp w).dbgRead l.val) :=
  congrArg Host.Outcome.next (State.laneDebug_open h _)

end

section
variable {s u : State} {l : Nat}

theorem State.dbgHalt_running (h : (s.lane l).main.halted = false) : s.dbgHalt l = s.dbgDo l .halt := by
  unfold State.dbgHalt
  exact if_neg (by simp [h])

theorem State.dbgResume_halted (h : (s.lane l).main.halted = true) : s.dbgResume l = s.dbgDo l .resume := by
  unfold State.dbgResume
  exact if_neg (by simp [h])

theorem State.dbgStep_full (x : BitVec 32) (h : 64 ≤ (s.lane l).dbgQ.length) : s.dbgStep l x = s.reply true 0 := by
  unfold State.dbgStep
  exact if_pos (.inr h)

theorem State.dbgStep_due {x : BitVec 32} (hhalt : (s.lane l).main.halted = true) (hroom : (s.lane l).dbgQ.length < 64)
    (hrun : (s.lane l).stopped = false) (hd : s.laneDue l x = true) : s.dbgStep l x = (s.dbgDo l .step).issueNow l x := by
  unfold State.dbgStep
  rw [if_neg (by simp [hhalt, hroom])]
  exact if_neg (by simp [hrun, hd])

end

/-- A command that acts on a lane whose queue has room. -/
theorem AccessTaken.acts {s u : State} {l : Fin 8} {fs : List Fld} {c : Instr} {a : DbgAct} (h : AccessTaken s u l.val fs)
    (hroom : (s.lane l.val).dbgQ.length < 64) (hx : exec c s = .next (u.dbgDo l.val a)) :
    ∃ t, exec c s = .next t ∧ t.bus = u.bus ∧ LaneActed s t l a (t.lane l.val).main fs ∧ (t.lane l.val).main = a.perform (s.lane l.val).main := by
  have hacted := h.acted hroom a
  have hmain : ((u.dbgDo l.val a).lane l.val).main = a.perform (s.lane l.val).main := by
    obtain ⟨_, _, hlane, _⟩ := hacted
    rw [hlane]
  rw [← hmain] at hacted
  exact ⟨_, hx, State.dbgDo_bus a (by rw [h.lane]; exact hroom), hacted, hmain⟩

/-- HALT, RESUME and the like: the action on a lane as it stands. -/
theorem AccessTaken.performs {s u : State} {l : Fin 8} {fs : List Fld} {c : Instr} {a : DbgAct} (h : AccessTaken s u l.val fs)
    (hroom : (s.lane l.val).dbgQ.length < 64) (hx : exec c s = .next (u.dbgDo l.val a)) :
    ∃ t, exec c s = .next t ∧ t.bus = u.bus ∧ LaneActed s t l a (a.perform (s.lane l.val).main) fs := by
  obtain ⟨t, ht, hbus, hacted, hmain⟩ := h.acts hroom hx
  exact ⟨t, ht, hbus, hmain ▸ hacted⟩

/-! ### STEP, WRITE and READ of a lane -/

/-- The effect of a register instruction of format R whose predicate holds. -/
theorem State.issueEffect_aluR {s : State} {l : Fin 8} {op : Nat} {neg : Bool} {pr : BitVec 3} {d a b : BitVec 6} {v : W64} (hop : op < 256)
    (hp : (s.laneP l pr != neg) = true) (hv : aluX op (s.laneX l d) (s.laneX l a) (s.laneX l b) = some v) :
    s.issueEffect l (wordR op neg pr d a b) = { xw := some (d.toNat, v) } := by
  obtain ⟨f1, f2, f3, f4, f5, f6⟩ := wordR_fields hop neg pr d a b
  have he := State.effect_alu (s := s) (l := s.lane l.val) (e := (s.lane l.val).main) (w := wordR op neg pr d a b) (v := v)
    (by rw [f1, f4, f5, f6]; exact hv)
  rw [State.issueEffect, State.issueOn_effect, f2, f3, he, f4]
  exact if_pos hp

section
variable {s : State} {l : Fin 8} (hopen : s.laneOpen l = true)
include hopen

section
variable (hroom : (s.lane l.val).dbgQ.length < 64)
include hroom

/-- STEP of the word due, a register instruction whose predicate holds: it takes effect on half H, which stays halted (R259). -/
theorem State.laneDebugStep_aluR {op : Nat} {neg : Bool} {pr : BitVec 3} {d a b : BitVec 6} {v : W64} (hop : op < 256 ∧ op ≠ 1)
    (hhalt : (s.lane l.val).main.halted = true) (hrun : (s.lane l.val).stopped = false) (hd : s.laneDue l.val (wordR op neg pr d a b) = true)
    (hp : (s.laneP l pr != neg) = true)
    (hv : aluX op (s.laneX l d) (s.laneX l a) (s.laneX l b) = some v) :
    ∃ t, exec (.laneDebugStep l (wordR op neg pr d a b)) s = .next t ∧ t.bus = ⟨false, 0⟩ ∧
      (∀ n, t.laneX l n = if n = d then v else s.laneX l n) ∧
      Engine.went { (s.lane l.val).main with x := (t.lane l.val).main.x } (t.lane l.val).main ∧
      t.fld (R.laneRetireRetired l.val) = (s.fld (R.laneRetireRetired l.val) + 1) % 2 ^ 64 ∧ ∀ k, k ≠ l.val → t.lane k = s.lane k := by
  have hbus : ((s.reply false 0).dbgDo l.val .step).bus = ⟨false, 0⟩ := State.dbgDo_bus .step hroom
  obtain ⟨_, hothers, hlane, hkept, _⟩ := (AccessTaken.answered s l.val).acted hroom .step
  have hx := State.dbgStep_due (s := s.reply false 0) (l := l.val) hhalt hroom hrun hd
  generalize (s.reply false 0).dbgDo l.val .step = u at hbus hothers hlane hkept hx
  have hmain : (u.lane l.val).main = (s.lane l.val).main := by rw [hlane]; rfl
  have hX : ∀ n, u.laneX l n = s.laneX l n := fun n => congrArg (Engine.xr · n.toNat) hmain
  have hP : ∀ n, u.laneP l n = s.laneP l n := fun n => congrArg (Engine.pr · n.toNat) hmain
  rw [← hP] at hp
  rw [← hX d, ← hX a, ← hX b] at hv
  have hf := State.issueEffect_aluR hop.1 hp hv
  obtain ⟨⟨hrest, hsame, _, hretired⟩, hwrites, hwent⟩ := State.issueNow_writes (by rw [(wordR_fields hop.1 neg pr d a b).1]; exact hop.2) hf
  refine ⟨_, (State.exec_laneDebugStep hopen _).trans (congrArg Host.Outcome.next hx), (congrArg State.bus hrest).trans hbus, fun n => ?_, hmain ▸ hwent, ?_,
    fun k hk => (hsame k hk).trans (hothers k hk)⟩
  · rw [hwrites, hX]
  · rw [hretired, hkept _ fun f hf => .inl ?_]
    simp only [List.append_nil, List.mem_cons, List.not_mem_nil, or_false] at hf
    rcases hf with rfl | rfl | rfl <;> simp [R.laneRetireRetired, R.laneDbgstatHalted, R.laneDbgstatPending, R.laneDbgstatDepth]

/-- The fields that a WRITE sets beside LANEn_DBGSTAT: LANEn_DBGACC, and what the DEBUG record moves. -/
def writeFlds (l : Nat) : List Fld :=
  [R.laneDbgaccIndex l, R.laneDbgaccSpace l, R.laneDbgaccWord l, R.logbStatusRate, R.logbStatusBacklog]

/-- A WRITE of a location that the lane has: what half H and the queue make of it, LANEn_DBGACC and the DEBUG record (R259, R262). -/
theorem State.laneDebugWrite_acts (hhalt : (s.lane l.val).main.halted = true) (i : BitVec 6) (sp : BitVec 2) (w : BitVec 13) (hsp : sp.toNat ≠ 3)
    (hword : sp.toNat = 2 → w.toNat < 7168) :
    let a := DbgAct.write sp.toNat i.toNat w.toNat (s.reg (R.laneDbgdata l.val).addr)
    ∃ t, exec (.laneDebugWrite l i sp w) s = .next t ∧ t.bus = ⟨false, 0⟩ ∧ LaneActed s t l a (t.lane l.val).main (writeFlds l.val) ∧
      (t.lane l.val).main = a.perform (s.lane l.val).main := by
  intro a
  obtain ⟨u, hx, hu, hbus⟩ := State.dbgWrite_acts (i := i) hhalt hroom hsp hword
  obtain ⟨t, ht, htbus, hacted⟩ := ((AccessTaken.dbgChosen s l.val i sp w).trans hu).acts hroom
    ((State.exec_laneDebugWrite hopen).trans (congrArg Host.Outcome.next hx))
  exact ⟨t, ht, htbus.trans hbus, hacted⟩

end

/-- READ of a register: LANEn_DBGDATA takes it (R260). -/
theorem State.laneDebugRead_register (hhalt : (s.lane l.val).main.halted = true) (i : BitVec 6) (w : BitVec 13) : ∃ t, exec (.laneDebugRead l i 0 w) s = .next t ∧
    WroteOnly s t [R.laneDbgaccIndex l.val, R.laneDbgaccSpace l.val, R.laneDbgaccWord l.val, R.laneDbgdata l.val] ∧
    t.reg (R.laneDbgdata l.val).addr = s.laneX l i :=
  ⟨_, (State.exec_laneDebugRead hopen).trans (congrArg Host.Outcome.next (State.dbgRead_register hhalt i w)),
    (State.dbgAcc_only ..).trans (State.setReg_only ..), State.reg_setReg_same ..⟩

end

/-! ### Accesses that are refused (R260) -/

/-- From `s` to `t` no more than the bus and the register fields listed have moved. -/
def AccessOnly (s t : State) (fs : List Fld) : Prop := t = { s with regs := t.regs, bus := t.bus } ∧ FldsKept s t fs

theorem AccessOnly.of_flds {s t : State} {fs : List Fld} (h : FldsOnly (s.reply false 0) t fs) : AccessOnly s t fs := by
  obtain ⟨r, rfl⟩ : ∃ r, t = { s.reply false 0 with regs := r } := ⟨_, h.1⟩
  exact ⟨rfl, h.2⟩

theorem AccessOnly.reply {s t : State} {fs : List Fld} (h : AccessOnly s t fs) (err : Bool) (data : W64) : AccessOnly s (t.reply err data) fs := by
  obtain ⟨r, b, rfl⟩ : ∃ r b, t = { s with regs := r, bus := b } := ⟨_, _, h.1⟩
  exact ⟨rfl, h.2⟩

section
variable {s : State} {l : Fin 8} (hopen : s.laneOpen l = true)
include hopen

theorem State.laneDebugRead_only (i : BitVec 6) (sp : BitVec 2) (w : BitVec 13) : ∃ t, exec (.laneDebugRead l i sp w) s = .next t ∧
    AccessOnly s t [R.laneDbgaccIndex l.val, R.laneDbgaccSpace l.val, R.laneDbgaccWord l.val, R.laneDbgdata l.val] := by
  have hchosen : FldsOnly (s.reply false 0) (s.dbgChosen l.val i sp w) [R.laneDbgaccIndex l.val, R.laneDbgaccSpace l.val, R.laneDbgaccWord l.val] :=
    State.dbgAcc_only ..
  refine ⟨_, State.exec_laneDebugRead hopen, ?_⟩
  rcases (s.dbgChosen l.val i sp w).dbgRead_cases l.val with h | ⟨v, h⟩
  · rw [h]
    exact (AccessOnly.of_flds (hchosen.mono (by simp))).reply true 0
  · rw [h]
    exact .of_flds (hchosen.trans (State.setReg_only ..))

/-- An action that finds the queue full is refused with an error and not performed. -/
theorem State.dbgFull_refused (hfull : 64 ≤ (s.lane l.val).dbgQ.length) {x : BitVec 32} {i : BitVec 6} {sp : BitVec 2} {w : BitVec 13} {c : Instr}
    (hc : (c = .laneDebugHalt l ∧ (s.lane l.val).main.halted = false) ∨ ((s.lane l.val).main.halted = true ∧
      (c = .laneDebugResume l ∨ c = .laneDebugStep l x ∨ c = .laneDebugWrite l i sp w))) :
    ∃ t, exec c s = .next t ∧ t.bus = ⟨true, 0⟩ ∧
      AccessOnly s t [R.laneDbgaccIndex l.val, R.laneDbgaccSpace l.val, R.laneDbgaccWord l.val] := by
  have refused : ∀ u : State, FldsOnly (s.reply false 0) u [R.laneDbgaccIndex l.val, R.laneDbgaccSpace l.val, R.laneDbgaccWord l.val] →
      exec c s = .next (u.reply true 0) → ∃ t, exec c s = .next t ∧ t.bus = ⟨true, 0⟩ ∧
        AccessOnly s t [R.laneDbgaccIndex l.val, R.laneDbgaccSpace l.val, R.laneDbgaccWord l.val] := fun u hu hx =>
    ⟨_, hx, rfl, (AccessOnly.of_flds hu).reply true 0⟩
  rcases hc with ⟨rfl, hrun⟩ | ⟨hhalt, rfl | rfl | rfl⟩
  case inl =>
    refine refused _ (.refl _ _) ((State.exec_laneDebugHalt hopen).trans (congrArg Host.Outcome.next ?_))
    exact (State.dbgHalt_running (s := s.reply false 0) hrun).trans (State.dbgDo_full _ hfull)
  case inr.inl =>
    refine refused _ (.refl _ _) ((State.exec_laneDebugResume hopen).trans (congrArg Host.Outcome.next ?_))
    exact (State.dbgResume_halted (s := s.reply false 0) hhalt).trans (State.dbgDo_full _ hfull)
  case inr.inr.inl =>
    exact refused _ (.refl _ _) ((State.exec_laneDebugStep hopen x).trans (congrArg Host.Outcome.next (State.dbgStep_full x hfull)))
  case inr.inr.inr =>
    have hx := State.dbgWrite_full (s := s.dbgChosen l.val i sp w) (l := l.val) (by rw [s.dbgChosen_lane]; exact hfull)
    exact refused _ (State.dbgAcc_only ..) ((State.exec_laneDebugWrite hopen).trans (congrArg Host.Outcome.next hx))

end

/-! ### Breakpoints (R259, R272) -/

theorem State.breakpointHit_full {s : State} {l : Fin 8} (hfull : 64 ≤ (s.lane l.val).dbgQ.length) : exec (.breakpointHit l) s = .next s := by
  rw [show exec (.breakpointHit l) s = execBreakpointHit l s from rfl, execBreakpointHit]
  cases (s.lane l.val).scan with
  | none => rfl
  | some sc => exact if_neg fun h => absurd h.2.2.2.2 (Nat.not_lt.2 hfull)

theorem State.breakpointHit_halts {s : State} {l : Fin 8} {sc : Scan} (hs : (s.lane l.val).scan = some sc)
    (hen : s.flag (R.laneDbgctlBreakEn l.val) = true) (hpc : sc.pc = s.fld (R.laneDbgctlBreakAddr l.val))
    (hbank : sc.bank = s.fld (R.laneDbgctlBreakBank l.val)) (hrun : (s.lane l.val).main.halted = false) (hroom : (s.lane l.val).dbgQ.length < 64) :
    exec (.breakpointHit l) s = .next (s.dbgDo l.val .halt) := by
  rw [show exec (.breakpointHit l) s = execBreakpointHit l s from rfl, execBreakpointHit, hs]
  exact if_pos ⟨hen, hpc, hbank, hrun, hroom⟩

/-- Settles O26: each granted access is one action on half H and its entry in the queue, a read, or a refusal. -/
theorem debuggerActionsOnALane : Obligations.DebuggerActionsOnALane := by
  unfold Obligations.DebuggerActionsOnALane
  intro s l
  refine ⟨fun hg hrun => ?halt, fun hg hhalt => ?resume, fun neg pr d a b hg hhalt hrun hd hp => ?step, fun i w hg hhalt => ?write,
    fun i w hg hhalt => ?read, fun neg pr d a b i sp w c hopen hfull hc => ?full, fun hfull => State.breakpointHit_full hfull,
    fun i sp w hopen => State.laneDebugRead_only hopen i sp w, fun sc hs hen hpc hbank hrun hroom => ?breakpoint⟩
  case halt =>
    obtain ⟨hopen, hroom⟩ := State.laneGranted_iff.1 hg
    exact (AccessTaken.answered s l.val).performs hroom
      ((State.exec_laneDebugHalt hopen).trans (congrArg Host.Outcome.next (State.dbgHalt_running hrun)))
  case resume =>
    obtain ⟨hopen, hroom⟩ := State.laneGranted_iff.1 hg
    exact (AccessTaken.answered s l.val).performs hroom
      ((State.exec_laneDebugResume hopen).trans (congrArg Host.Outcome.next (State.dbgResume_halted hhalt)))
  case step =>
    obtain ⟨hopen, hroom⟩ := State.laneGranted_iff.1 hg
    obtain ⟨t, ht, hbus, hX, hwent, hretired, hothers⟩ := State.laneDebugStep_aluR hopen hroom (op := 0x10) (by decide) hhalt hrun hd hp rfl
    refine ⟨t, _, ht, hbus, satI64_toInt _, hX, ?_, ?_, ?_, ?_, hretired, hothers⟩ <;> rw [hwent]
    exact hhalt
  case write =>
    obtain ⟨hopen, hroom⟩ := State.laneGranted_iff.1 hg
    have acts := State.laneDebugWrite_acts hopen hroom hhalt i
    refine ⟨?register, ?predicate, fun hw => ?word⟩
    case register =>
      obtain ⟨t, ht, hbus, hacted, hmain⟩ := acts 0 w (by decide) (by simp)
      refine ⟨t, ht, hbus, hacted, by rw [hmain]; rfl, fun n => ?_⟩
      rw [State.laneX, hmain]
      refine (Engine.xr_setX ..).trans ?_
      simp only [BitVec.toNat_inj, State.laneX]
    case predicate =>
      obtain ⟨t, ht, hbus, hacted, hmain⟩ := acts 1 w (by decide) (by simp)
      refine ⟨t, ht, hbus, hacted, by rw [hmain]; exact Engine.setP_only .., fun n => ?_⟩
      rw [State.laneP, hmain]
      exact Engine.pr_setP_of_lt _ _ (Nat.mod_lt _ (by decide)) n
    case word =>
      obtain ⟨t, ht, hbus, hacted, hmain⟩ := acts 2 w (by decide) fun _ => hw
      refine ⟨t, ht, hbus, hacted, by rw [hmain]; rfl, fun n => ?_⟩
      rw [hmain]
      exact mget_mput ..
  case read =>
    obtain ⟨hopen, _⟩ := State.laneGranted_iff.1 hg
    exact State.laneDebugRead_register hopen hhalt i w
  case full => exact State.dbgFull_refused hopen hfull hc
  case breakpoint => exact (AccessTaken.refl s l.val).performs hroom (State.breakpointHit_halts hs hen hpc hbank hrun hroom)

end Sys2Proof.Machine
end

section
/-! PROOFS. What an answer leaves, and an Expert write to a memory whose island is held in reset (O45). -/

namespace Sys2Proof.Machine

/-! ### What an answer leaves (R491 to R493) -/

theorem State.qWrites_queueOnly (q pi : Nat) (es : List (List W64 × Nat)) (s : State) :
    QueueOnly s (es.foldl (fun s e => s.qWrite q (pi + e.2) e.1) s) := by
  induction es generalizing s with
  | nil => exact QueueOnly.refl s
  | cons e es ih =>
    have hw : QueueOnly s (s.qWrite q (pi + e.2) e.1) := QueueOnly.mail s _ rfl rfl
    exact hw.trans (ih _)

/-- A response changes nothing but the queues and what is sent. -/
theorem State.respond_queueOnly (s : State) {p : Nat} (hp : p < 32) (r : Resp) (again : Bool) : QueueOnly s (s.respond p r again) := by
  have hq : 2 * p + 1 < 256 := by omega
  unfold State.respond
  dsimp only
  have hput : ∀ u : State, QueueOnly u (((u.setFld (R.qmgrQIdxPi (2 * p + 1)) (s.fld (R.qmgrQIdxPi (2 * p + 1)) + (respEntries r again).length)).qFullFlag
      (2 * p + 1)).qNotify (2 * p + 1)) := fun u =>
    ((QueueOnly.setPi u _ hq).trans (QueueOnly.fullFlag _ hq)).trans (State.qNotify_queueOnly _ _)
  have h := (State.qWrites_queueOnly (2 * p + 1) (s.fld (R.qmgrQIdxPi (2 * p + 1))) (respEntries r again).zipIdx s).trans (hput _)
  split
  · exact h
  · exact h.trans (QueueOnly.emit _ _)
  · exact h

/-- An answer changes nothing but the queues, its session and what is sent. -/
theorem State.answer_queueOnly (s : State) {p : Nat} (hp : p < 32) (r : Resp) : QueueOnly s (s.answer p r) :=
  (State.modSess_queueOnly s p _).trans (State.respond_queueOnly _ hp r false)

/-! ### An Expert write to a memory whose island is held in reset (R29) -/

/-- A module whose DRAM island I17 is held in reset. A window of colour 0 in force covers the first grain of the DRAM and lets the Expert master write
there; pair 0 is open for client 77 at Expert level with one command posted. -/
def dramHeld : State :=
  ((({ State.reset with
        mail := { State.reset.mail with sess := [(0, { Session.init with bound := some (.service 5 5), isOpen := true, client := 77, level := 1 })] }
        bin := { State.reset.bin with runs := some 0 }
        acc := { State.reset.acc with force := [((R.acfgWin 0).addr, 0x8000000000000000), ((R.acfgMt 15 2).addr, 0x10000)] } }
      ).setFld (R.qmgrQIdxPi 0) 1).setFlag R.acfgCtrlLoaded true).setBit R.rstcIslstatInreset 17 true

/-- The header of an Expert command of client 77 on pair 0. -/
def expertHdr : Hdr := ⟨0, 0, 77, 1, 0, 0, true, .service 5 5, 0, []⟩

/-- EXPERT_WRITE of the word 1 to the first address of the DRAM. -/
def dramWrite : Instr := .expertWrite expertHdr 0x8000000000 0 8 [1]

/-- The first eight bytes of the DRAM in the state that an outcome leaves. -/
def dramAfter : Host.Outcome State Fault Refusal → Option (List Byte)
  | .next t => some (t.bytes 8 0x8000000000)
  | _ => none

/-- The write is dropped. -/
theorem dramAfter_held : dramAfter (exec dramWrite dramHeld) = some (leBytes 8 0) := by decide +kernel

theorem dramHeld_ready : dramHeld.mboxReady expertHdr 0xF01 false = true ∧ dramHeld.mboxFits expertHdr 0 = true := by decide +kernel

theorem State.bytes_congr {s t : State} (h : t.mem = s.mem) (n a : Nat) : t.bytes n a = s.bytes n a := by
  simp only [State.bytes_eq, State.byte, h]

/-- Refutes O45: its clause for EXPERT_WRITE asks that the word stands in memory whenever the target gate grants the access, also where the island of the memory
is held in reset, and there the write is dropped (R29). -/
theorem not_localBlockCommands : ¬ Obligations.LocalBlockCommands := by
  unfold Obligations.LocalBlockCommands
  intro h
  obtain ⟨-, -, -, -, -, -, -, -, -, -, -, -, -, -, -, hwrite, -⟩ := h dramHeld expertHdr
  obtain ⟨v, hv, hbytes, -⟩ := hwrite 0x8000000000 0 8 1 (by decide +kernel) (by decide +kernel) (by decide +kernel) (by decide +kernel)
  have hkept : dramAfter (exec dramWrite dramHeld) = some (leBytes 8 1) := by
    rw [dramWrite, hv dramHeld_ready.1 dramHeld_ready.2]
    exact congrArg some ((State.bytes_congr (State.answer_queueOnly v (by decide) _).mem 8 _).trans hbytes)
  rw [dramAfter_held] at hkept
  exact absurd hkept (by decide)

end Sys2Proof.Machine
end

section
/-! PROOFS. Commands that name modules, the parts of their answers, and Query records (O49). -/

namespace Sys2Proof.Machine

/-! ### Records sent on the pair link (R284, R285, R432) -/

/-- A record that the reaction on the class D lines does not stop is sent, and kept for a resend. -/
theorem State.linkSend_sentRec (s : State) {r : PairRec} (h : linkStops r = false) : s.sentRec (s.linkSend r) r := by
  have hgoes : (s.pair.lineSafe && linkStops r) = false := by rw [h, Bool.and_false]
  refine ⟨State.linkSend_out hgoes, State.linkSend_txSeq hgoes, ?_⟩
  rw [State.linkSend, hgoes]
  rfl

theorem State.sess_linkSend (s : State) (r : PairRec) (p : Nat) : (s.linkSend r).sess p = s.sess p := by rw [State.linkSend_frame]; rfl

theorem State.tb_linkSend (s : State) (r : PairRec) (k : Nat) : (s.linkSend r).tb k = s.tb k := by rw [State.linkSend_frame]; rfl

theorem State.sess_modSess_ne (s : State) {p k : Nat} (f : Session → Session) (h : k ≠ p) : (s.modSess p f).sess k = s.sess k :=
  mget_mmod_ne _ _ _ h

/-! ### A pulse output programmed (R416, R607) -/

/-- The settings of TPO_PROGRAM put in place; whether the output refuses them. -/
def State.tpoPut (s : State) (k : Nat) (p : TpoProg) : State × Bool :=
  let u := if s.flag (R.timeTpoCfgEn k) then s.pulseOff k else s
  ((u.setFld (R.timeTpoStartStart k) p.start).setFld (R.timeTpoPeriodPeriod k) p.period).pulseCfg k
    (BitVec.ofNat 64 (p.base % 4 + p.en.toNat * 4 + p.pol.toNat * 8 + p.width * 256))

section
variable {s : State} {k : Nat} {p : TpoProg} (offs : List Nat)

theorem State.tpoPart_unwired (h : s.tpoWired k = false) : s.tpoPart k p offs = (s, stBadParam, offs.getD 1 0) := by
  simp [State.tpoPart, h]

theorem State.tpoPart_bad {i : Nat} (hw : s.tpoWired k = true) (hbad : s.tpoBad p = some i) :
    s.tpoPart k p offs = (s, stBadParam, offs.getD (i - 1) 0) := by
  simp [State.tpoPart, hw, hbad]

theorem State.tpoPart_enabled (hw : s.tpoWired k = true) (hbad : s.tpoBad p = none) (hen : s.flag (R.timeTpoCfgEn k) = true ∧ p.en = true) :
    s.tpoPart k p offs = (s, stState, s.pstate) := by
  simp [State.tpoPart, hw, hbad, hen]

theorem State.tpoPart_put (hw : s.tpoWired k = true) (hbad : s.tpoBad p = none) (hen : ¬(s.flag (R.timeTpoCfgEn k) = true ∧ p.en = true)) :
    s.tpoPart k p offs = if (s.tpoPut k p).2 then ((s.tpoPut k p).1, stBadParam, offs.getD 3 0) else ((s.tpoPut k p).1, stOk, 0) := by
  simp only [State.tpoPart, hw, hbad, hen, not_true_eq_false, if_false]
  rfl

/-- The part of TPO_PROGRAM that succeeds has no detail. -/
theorem State.tpoPart_detail (h : (s.tpoPart k p offs).2.1 = stOk) : (s.tpoPart k p offs).2.2 = 0 := by
  have hparam : stBadParam ≠ stOk := by decide
  cases hw : s.tpoWired k with
  | false => rw [State.tpoPart_unwired offs hw] at h; exact absurd h hparam
  | true =>
    cases hbad : s.tpoBad p with
    | some i => rw [State.tpoPart_bad offs hw hbad] at h; exact absurd h hparam
    | none =>
      by_cases hen : s.flag (R.timeTpoCfgEn k) = true ∧ p.en = true
      · rw [State.tpoPart_enabled offs hw hbad hen] at h; exact absurd h (show stState ≠ stOk by decide)
      · rw [State.tpoPart_put offs hw hbad hen] at h ⊢
        split at h
        · exact absurd h hparam
        · next hgood => rw [if_neg hgood]

end

theorem State.fld_of_regs {s t : State} (h : t.regs = s.regs) (f : Fld) : t.fld f = s.fld f := by rw [State.fld, State.fld, State.reg, State.reg, h]

theorem State.flag_eq_of_fld {s t : State} {f : Fld} (h : t.fld f = s.fld f) : t.flag f = s.flag f := by rw [State.flag, h, State.flag]

/-- The registers of an output armed: EN set, NEXT at its first edge, MISSED cleared. -/
def State.pulseArmed (s : State) (k t : Nat) : State :=
  ((s.setFlag (R.timeTpoCfgEn k) true).setFld (R.timeTpoNextNext k) t).setFld (R.timeTpoCfgMissed k) 0

theorem State.pulseArmed_fields (s : State) (k t : Nat) :
    (s.pulseArmed k t).flag (R.timeTpoCfgEn k) = true ∧ (s.pulseArmed k t).fld (R.timeTpoStartStart k) = s.fld (R.timeTpoStartStart k) := by
  have hen := State.flag_setFlag_same s (f := R.timeTpoCfgEn k) true (by simp [R.timeTpoCfgEn]) (by simp [R.timeTpoCfgEn])
  have hstart := (s.setFlag_only (f := R.timeTpoCfgEn k) true (by simp [R.timeTpoCfgEn])).2 (R.timeTpoStartStart k)
    (by simp [apart, R.timeTpoStartStart, R.timeTpoCfgEn])
  have hnext := ((s.setFlag (R.timeTpoCfgEn k) true).setFld_only (f := R.timeTpoNextNext k) t (by simp [R.timeTpoNextNext])).trans
    (State.setFld_only _ (f := R.timeTpoCfgMissed k) 0 (by simp [R.timeTpoCfgMissed]))
  exact ⟨(State.flag_eq_of_fld (hnext.2 (R.timeTpoCfgEn k) (by simp [apart, R.timeTpoCfgEn, R.timeTpoNextNext, R.timeTpoCfgMissed]))).trans hen,
    (hnext.2 (R.timeTpoStartStart k) (by simp [apart, R.timeTpoStartStart, R.timeTpoNextNext, R.timeTpoCfgMissed])).trans hstart⟩

theorem State.pulseArm_refused {s : State} {k : Nat} (hf : s.pulseFirst k = none) : s.pulseArm k = (s, true) := by
  rw [State.pulseArm, hf]

theorem State.pulseArm_at {s : State} {k t : Nat} (hf : s.pulseFirst k = some t) :
    ∃ x, s.pulseArm k = ({ s.pulseArmed k t with time := x }, false) := by
  rw [State.pulseArm, hf]
  exact ⟨_, rfl⟩

theorem State.fld_withTime (s : State) (x : TimeSt) (f : Fld) : ({ s with time := x } : State).fld f = s.fld f := rfl

/-- An output armed is enabled, and its START stays (R416). -/
theorem State.pulseArm_armed {s : State} {k : Nat} (h : (s.pulseArm k).2 = false) :
    (s.pulseArm k).1.flag (R.timeTpoCfgEn k) = true ∧ (s.pulseArm k).1.fld (R.timeTpoStartStart k) = s.fld (R.timeTpoStartStart k) := by
  cases hf : s.pulseFirst k with
  | none =>
    rw [State.pulseArm_refused hf] at h
    exact absurd h (by simp)
  | some t =>
    obtain ⟨x, e⟩ := State.pulseArm_at hf
    rw [e]
    dsimp only
    rw [State.flag_eq_of_fld (State.fld_withTime (s.pulseArmed k t) x _), State.fld_withTime (s.pulseArmed k t)]
    exact s.pulseArmed_fields k t

/-- A write of TIME_TPOk_CFG to a disabled output that it accepts: EN as written, START as before (R416). -/
theorem State.pulseCfg_disabled {s : State} {k : Nat} {w : W64} (hen : s.flag (R.timeTpoCfgEn k) = false) (h : (s.pulseCfg k w).2 = false) :
    (s.pulseCfg k w).1.flag (R.timeTpoCfgEn k) = (getBits w 2 1 == 1) ∧
      (s.pulseCfg k w).1.fld (R.timeTpoStartStart k) = s.fld (R.timeTpoStartStart k) := by
  let u : State := { s with time := { s.time with held := mput none s.time.held k none } }
  have hset := ((u.setFld_only (f := R.timeTpoCfgBase k) (getBits w 0 2) (by simp [R.timeTpoCfgBase])).trans
    (State.setFld_only _ (f := R.timeTpoCfgPol k) (getBits w 3 1) (by simp [R.timeTpoCfgPol]))).trans
    (State.setFld_only _ (f := R.timeTpoCfgWidth k) (getBits w 8 32) (by simp [R.timeTpoCfgWidth]))
  have e : s.pulseCfg k w = if getBits w 2 1 == 1 then State.pulseArm (((u.setFld (R.timeTpoCfgBase k) (getBits w 0 2)).setFld
      (R.timeTpoCfgPol k) (getBits w 3 1)).setFld (R.timeTpoCfgWidth k) (getBits w 8 32)) k else (((u.setFld (R.timeTpoCfgBase k)
      (getBits w 0 2)).setFld (R.timeTpoCfgPol k) (getBits w 3 1)).setFld (R.timeTpoCfgWidth k) (getBits w 8 32), false) :=
    if_neg (by rw [show u.flag (R.timeTpoCfgEn k) = false from hen]; exact Bool.false_ne_true)
  generalize ((u.setFld (R.timeTpoCfgBase k) (getBits w 0 2)).setFld (R.timeTpoCfgPol k) (getBits w 3 1)).setFld (R.timeTpoCfgWidth k)
    (getBits w 8 32) = v at hset e
  have hflag : v.flag (R.timeTpoCfgEn k) = false := (State.flag_eq_of_fld (hset.2 (R.timeTpoCfgEn k)
    (by simp [apart, R.timeTpoCfgEn, R.timeTpoCfgBase, R.timeTpoCfgPol, R.timeTpoCfgWidth]))).trans hen
  have hstart : v.fld (R.timeTpoStartStart k) = s.fld (R.timeTpoStartStart k) := hset.2 (R.timeTpoStartStart k)
    (by simp [apart, R.timeTpoStartStart, R.timeTpoCfgBase, R.timeTpoCfgPol, R.timeTpoCfgWidth])
  rw [e] at h ⊢
  cases hw : getBits w 2 1 == 1 with
  | true =>
    rw [hw] at h
    exact ⟨(State.pulseArm_armed h).1, (State.pulseArm_armed h).2.trans hstart⟩
  | false => exact ⟨hflag, hstart⟩

/-- Bit 2 of the word of TIME_TPOk_CFG that TPO_PROGRAM writes is its EN (R416). -/
theorem getBits_tpoWord (p : TpoProg) :
    (getBits (BitVec.ofNat 64 (p.base % 4 + p.en.toNat * 4 + p.pol.toNat * 8 + p.width * 256)) 2 1 == 1) = p.en := by
  rw [getBits, BitVec.toNat_ofNat, show (p.base % 4 + p.en.toNat * 4 + p.pol.toNat * 8 + p.width * 256) % 2 ^ 64 / 2 ^ 2 % 2 ^ 1 = p.en.toNat by
    cases p.en <;> cases p.pol <;> simp only [Bool.toNat_false, Bool.toNat_true] <;> omega]
  cases p.en <;> rfl

/-- A disabled output that TPO_PROGRAM programs: EN and START as the command gives them (R416). -/
theorem State.tpoPart_programmed {s : State} {k : Nat} {p : TpoProg} {offs : List Nat} (hw : s.tpoWired k = true) (hbad : s.tpoBad p = none)
    (hen : s.flag (R.timeTpoCfgEn k) = false) (h : (s.tpoPart k p offs).2.1 = stOk) :
    (s.tpoPart k p offs).1.flag (R.timeTpoCfgEn k) = p.en ∧ (s.tpoPart k p offs).1.fld (R.timeTpoStartStart k) = p.start % 2 ^ 64 := by
  rw [State.tpoPart_put offs hw hbad (by simp [hen])] at h ⊢
  have hput : (s.tpoPut k p).2 = false := by
    by_contra hrefused
    rw [if_pos (Bool.eq_true_of_not_eq_false hrefused)] at h
    exact absurd h (show stBadParam ≠ stOk by decide)
  have hset := (s.setFld_only (f := R.timeTpoStartStart k) p.start (by simp [R.timeTpoStartStart])).trans
    (State.setFld_only _ (f := R.timeTpoPeriodPeriod k) p.period (by simp [R.timeTpoPeriodPeriod]))
  have hflag := (State.flag_eq_of_fld (hset.2 (R.timeTpoCfgEn k)
    (by simp [apart, R.timeTpoCfgEn, R.timeTpoStartStart, R.timeTpoPeriodPeriod]))).trans hen
  have hstart : ((s.setFld (R.timeTpoStartStart k) p.start).setFld (R.timeTpoPeriodPeriod k) p.period).fld (R.timeTpoStartStart k) = p.start % 2 ^ 64 :=
    (State.fld_setFld_ne _ p.period (by simp [R.timeTpoPeriodPeriod]) (by simp [R.timeTpoStartStart, R.timeTpoPeriodPeriod])).trans
      (State.fld_setFld_same s p.start (by simp [R.timeTpoStartStart]))
  have e : s.tpoPut k p = ((s.setFld (R.timeTpoStartStart k) p.start).setFld (R.timeTpoPeriodPeriod k) p.period).pulseCfg k
      (BitVec.ofNat 64 (p.base % 4 + p.en.toNat * 4 + p.pol.toNat * 8 + p.width * 256)) := by simp [State.tpoPut, hen]
  rw [if_neg (by simp [hput])]
  rw [e] at hput ⊢
  obtain ⟨hset1, hset2⟩ := State.pulseCfg_disabled hflag hput
  exact ⟨hset1.trans (getBits_tpoWord p), hset2.trans hstart⟩

/-! ### The parts of TIME_STATUS, FAULT_CLEAR and TPI_CONFIG (R422, R423, R439) -/

/-- Fields written one after the other, each with a value of the state it is written in. -/
theorem State.foldl_setFld_only {α : Type} (F : α → Fld) (v : State → α → Nat) (hF : ∀ x, (F x).lo + (F x).len ≤ 64) (xs : List α) (s : State) :
    FldsOnly s (xs.foldl (fun s x => s.setFld (F x) (v s x)) s) (xs.map F) := by
  induction xs generalizing s with
  | nil => exact FldsOnly.refl s []
  | cons x xs ih => exact (s.setFld_only (v s x) (hF x)).trans (ih (s.setFld (F x) (v s x)))

/-- FAULT_CLEAR with FIRST ends the episode (R439). -/
theorem State.firstCleared (s : State) :
    FldsOnly s ((s.setFlag R.fcolFirst0Valid false).setFld R.fcolStatusWorst 0) [R.fcolFirst0Valid, R.fcolStatusWorst] ∧
      ((s.setFlag R.fcolFirst0Valid false).setFld R.fcolStatusWorst 0).flag R.fcolFirst0Valid = false :=
  ⟨(s.setFlag_only false (by decide)).trans (State.setFld_only _ 0 (by decide)),
    (State.flag_eq_of_fld (State.fld_setFld_ne _ 0 (by decide) (by decide))).trans (State.flag_setFlag_same s false (by decide) (by decide))⟩

theorem State.part_faultClear (s : State) (first acount : Bool) (offs : List Nat) :
    let x := s.part (.faultClear first acount) offs
    x.2 = (stOk, 0, []) ∧
      FldsOnly s x.1 ((if first then [R.fcolFirst0Valid, R.fcolStatusWorst] else []) ++ if acount then [R.fcolStatusAcount] else []) ∧
      (first = true → x.1.flag R.fcolFirst0Valid = false) ∧ (acount = true → x.1.fld R.fcolStatusAcount = 0) := by
  have hcount : ∀ u : State, FldsOnly u (u.setFld R.fcolStatusAcount 0) [R.fcolStatusAcount] ∧
      (u.setFld R.fcolStatusAcount 0).fld R.fcolStatusAcount = 0 ∧ (u.setFld R.fcolStatusAcount 0).flag R.fcolFirst0Valid = u.flag R.fcolFirst0Valid :=
    fun u => ⟨u.setFld_only 0 (by decide), State.fld_setFld_same u 0 (by decide), State.flag_eq_of_fld (State.fld_setFld_ne u 0 (by decide) (by decide))⟩
  obtain ⟨hfirst, hvalid⟩ := s.firstCleared
  cases first with
  | false =>
    cases acount with
    | false => exact ⟨rfl, FldsOnly.refl s [], Bool.noConfusion, Bool.noConfusion⟩
    | true => exact ⟨rfl, (hcount s).1, Bool.noConfusion, fun _ => (hcount s).2.1⟩
  | true =>
    cases acount with
    | false => exact ⟨rfl, hfirst, fun _ => hvalid, Bool.noConfusion⟩
    | true =>
      obtain ⟨honly, hzero, hkept⟩ := hcount ((s.setFlag R.fcolFirst0Valid false).setFld R.fcolStatusWorst 0)
      exact ⟨rfl, hfirst.trans honly, fun _ => hkept.trans hvalid, fun _ => hzero⟩

theorem State.part_timeStatus (s : State) (offs : List Nat) :
    (∀ n < 4, (s.part .timeStatus offs).1.fld (R.timeTbSnapNs n) = s.tb n % 2 ^ 64) ∧
      FldsOnly s (s.part .timeStatus offs).1 ((List.range 4).map R.timeTbSnapNs) :=
  ⟨(s.snaps 4).2, State.foldl_setFld_only R.timeTbSnapNs (fun s n => s.tb n) (fun _ => le_refl 64) (List.range 4) s⟩

section
variable {s : State} {i : Fin 2} {edge : Nat} (offs : List Nat)

theorem State.part_tpiConfig_unwired (h : s.tpiWired i.val = false) : s.part (.tpiConfig i edge) offs = (s, stBadParam, offs.getD 1 0, []) := by
  simp [State.part, h]

theorem State.part_tpiConfig_bad (hw : s.tpiWired i.val = true) (he : 4 ≤ edge) :
    s.part (.tpiConfig i edge) offs = (s, stBadParam, offs.getD 2 0, []) := by
  simp [State.part, hw, he]

theorem State.part_tpiConfig_set (hw : s.tpiWired i.val = true) (he : edge < 4) :
    s.part (.tpiConfig i edge) offs = (s.setFld (R.timeTpiCtlEdge i.val) edge, stOk, 0, []) := by
  simp [State.part, hw, Nat.not_le.2 he]

end

/-! ### Commands that name modules (R634) -/

/-- A part that succeeds has no detail. -/
theorem State.part_detail {s : State} {q : Query} {offs : List Nat} (h : (s.part q offs).2.1 = stOk) : (s.part q offs).2.2.1 = 0 := by
  cases q with
  | tpoProgram k p => exact State.tpoPart_detail offs h
  | tpiConfig i edge =>
    have hparam : stBadParam ≠ stOk := by decide
    cases hw : s.tpiWired i.val with
    | false => rw [State.part_tpiConfig_unwired offs hw] at h; exact absurd h hparam
    | true =>
      rcases Nat.lt_or_ge edge 4 with he | he
      · rw [State.part_tpiConfig_set offs hw he]
      · rw [State.part_tpiConfig_bad offs hw he] at h; exact absurd h hparam
  | _ => rfl

/-- A body that sends the Query record and waits for the partner's part. -/
theorem Asks.of {c : Instr} {s v : State} {h : Hdr} {op : Nat} {body : State → State × Ans} {q : Query} {own : List Byte} {n : Nat}
    (hc : exec c s = .next (s.mbox h op false body))
    (hb : body (s.taken h) = (v.linkSend (.query q h.offs), .later (some n) stOk 0 own)) : Asks c s h op v q own n := by
  intro hr hf
  have room : ansEntries (body (s.taken h)).2 ≤ (s.mboxAck h).qFree (2 * h.pair + 1) := by
    rw [hb]; exact of_decide_eq_true hf
  have hw := State.linkSend_frame v (.query q h.offs)
  have hsent : v.sentRec (v.linkSend (.query q h.offs)) (.query q h.offs) := State.linkSend_sentRec v rfl
  have hsess := State.sess_linkSend v (.query q h.offs)
  have htb := State.tb_linkSend v (.query q h.offs) 3
  rw [hc, State.mbox_ready body hr room, hb]
  generalize v.linkSend (.query q h.offs) = w at hw hsent hsess htb
  refine ⟨w.modSess h.pair fun x => { x with waiting := some ⟨op, h.tally, some n, stOk, 0, own, w.tb 3⟩ }, rfl, hsent, ?_, fun p hp => ?_, ?_, ?_⟩
  · rw [State.sess_modSess_same, hsess, htb]
  · rw [State.sess_modSess_ne _ _ hp, hsess]
  · exact congrArg State.pair hw
  · rw [hw]; rfl

/-- The commands that name modules answer as R634 says. -/
theorem partsAnswer_of {c : Instr} {s : State} {h : Hdr} {op : Nat} {side : Side} {q : Query}
    (hc : exec c s = .next (s.mbox h op false fun u => u.parts side q h.offs)) : PartsAnswer c s h op side q := by
  refine ⟨fun hside => ⟨fun hok => Answers.of hc ?_, fun hne => AnswersWith.of hc ?_⟩, fun hside => ⟨fun hup => Asks.of hc ?_, fun hdown => Answers.of hc ?_⟩,
    fun hside => ⟨fun hne => AnswersWith.of hc ?_, fun hok hup => Asks.of hc ?_, fun hok hdown => Answers.of hc ?_⟩⟩ <;> subst hside <;>
    simp only [State.parts]
  · rw [hok, State.part_detail hok]; rfl
  · rw [if_neg hne]; rfl
  · rw [if_pos hup]
  · rw [if_neg (by simp [hdown])]
  · rw [if_pos hne]
  · rw [if_neg (not_not.2 hok), if_pos hup]
  · rw [if_neg (not_not.2 hok), if_neg (by simp [hdown])]

/-! ### Query records (R285, R634) -/

theorem execQueryRecordRx_serves {s : State} {l : LinkIn} {q : Query} {offs : List Nat} (hreset : (s.linkRx l).inReset 9 = false)
    (hruns : (s.linkRx l).bin.runs ≠ none) :
    let x := (s.linkRx l).part q offs
    execQueryRecordRx l q offs s = .next (x.1.linkSend (.queryReply x.2.1 x.2.2.1 x.2.2.2)) :=
  if_neg (by simp [hreset, hruns])

theorem execQueryRecordRx_silent {s : State} {l : LinkIn} {q : Query} {offs : List Nat}
    (h : (s.linkRx l).inReset 9 = true ∨ (s.linkRx l).bin.runs = none) : execQueryRecordRx l q offs s = .next (s.linkRx l) :=
  if_pos (by simpa using h)

section
variable {s : State} {l : LinkIn} {op : BitVec 16} {status detail : Nat} {bytes : List Byte}

/-- A Query reply, by the command that waits for it. The definition is unfolded as a function: applied, the kernel would evaluate the search for the waiting
command in the state that the record leaves. -/
theorem execQueryReplyRx_unasked (hw : (s.linkRx l).queryWait op.toNat = none) :
    execQueryReplyRx l op status detail bytes s = .next (s.linkRx l) := by
  have e : @execQueryReplyRx = @execQueryReplyRx := rfl
  conv at e => rhs; delta execQueryReplyRx
  rw [e]
  dsimp only
  rw [hw]

@[inherit_doc execQueryReplyRx_unasked]
theorem execQueryReplyRx_asked {p : Nat} {w : Wait} (hw : (s.linkRx l).queryWait op.toNat = some (p, w)) :
    execQueryReplyRx l op status detail bytes s = .next (if status = stOk then (s.linkRx l).finish p stOk 0 (w.own ++ 1 :: bytes)
      else (s.linkRx l).finish p status detail []) := by
  have e : @execQueryReplyRx = @execQueryReplyRx := rfl
  conv at e => rhs; delta execQueryReplyRx
  rw [e]
  dsimp only
  rw [hw]

end

/-- Settles O49: each command is its part behind AVAIL bytes, or a Query record and a wait. -/
theorem commandsThatNameModules : Obligations.CommandsThatNameModules := by
  unfold Obligations.CommandsThatNameModules
  intro s h
  refine ⟨partsAnswer_of rfl, partsAnswer_of rfl, partsAnswer_of rfl, fun n => partsAnswer_of rfl,
    fun side => ⟨partsAnswer_of rfl, partsAnswer_of rfl, fun _ _ => partsAnswer_of rfl, fun _ _ => partsAnswer_of rfl, fun _ _ => partsAnswer_of rfl⟩,
    fun partner => ⟨partsAnswer_of rfl, fun i => partsAnswer_of rfl⟩, fun offs => ?parts, fun l q offs hreset hruns => ?record,
    fun l q offs hsilent => execQueryRecordRx_silent hsilent, fun l op status detail bytes p w hw => ?reply, fun op p w hw => ?timeout,
    fun op hw => ?noTimeout, fun l op status detail bytes hw => ?noReply, fun p w st d r hw => ?finish⟩
  case parts =>
    refine ⟨rfl, rfl, rfl, rfl, rfl, (s.part_timeStatus offs).1, (s.part_timeStatus offs).2, fun first acount => s.part_faultClear first acount offs,
      fun i edge => ⟨State.part_tpiConfig_unwired offs, State.part_tpiConfig_bad offs, fun hw he => ?_⟩, fun k p hw => ?_, fun k p i hw hbad => ?_,
      fun k p hw hbad hen hp => ?_, fun k p hw hbad hen hok => State.tpoPart_programmed hw hbad hen hok⟩
    · rw [State.part_tpiConfig_set offs hw he]
      refine ⟨rfl, (State.fld_setFld_same s edge ?_).trans (Nat.mod_eq_of_lt he), State.setFld_only s edge ?_⟩ <;> simp [R.timeTpiCtlEdge]
    · rw [State.part, State.tpoPart_unwired offs hw]
    · rw [State.part, State.tpoPart_bad offs hw hbad]
    · rw [State.part, State.tpoPart_enabled offs hw hbad ⟨hen, hp⟩]
  case record => exact ⟨_, execQueryRecordRx_serves hreset hruns, State.linkSend_sentRec _ rfl, State.linkSend_frame _ _⟩
  case reply =>
    have e := execQueryReplyRx_asked (status := status) (detail := detail) (bytes := bytes) hw
    exact ⟨fun hok => e.trans (congrArg Host.Outcome.next (if_pos hok)), fun hne => e.trans (congrArg Host.Outcome.next (if_neg hne))⟩
  case timeout =>
    obtain ⟨m, hm, hreach⟩ := s.to3_moved (w.at3 + 5000000)
    refine ⟨s.to3 (w.at3 + 5000000), ?_, by rw [hm], fun hinc hfix ht => ?_⟩
    · show execQueryReplyTimeout op s = _
      rw [execQueryReplyTimeout, hw]
    · rw [hm]
      exact hreach hinc hfix (by omega)
  case noTimeout =>
    show execQueryReplyTimeout op s = _
    rw [execQueryReplyTimeout, hw]
  case noReply => exact execQueryReplyRx_unasked hw
  case finish => rw [State.finish, hw]

end Sys2Proof.Machine
end

section
/-! PROOFS. The class D reaction, escalation and the watchdog's reset (O39). -/

namespace Sys2Proof.Machine

/-! ### What no part of the class D reaction undoes (R432, R441) -/

/-- What FCOL shows of the reaction: SAFE, COPY_FAULT, the sources that report. -/
def collectorFlds : List Fld := [R.fcolStatusSafe, R.fcolStatusCopyFault, R.fcolNowFault 0, R.fcolNowFault 1]

/-- The fields of the reaction: those of FCOL, the switches closed, SAFE_TX. -/
def reactionFlds : List Fld := collectorFlds ++ [R.fldStatusClosed, R.stnSafeSafeTx]

/-- The blocks have performed their steps: switches open, SAFE frames, ALIVE_OUT static, lanes and flips stopped (R351, R432). -/
structure BlocksSafe (t : State) : Prop where
  closed : t.fld R.fldStatusClosed = 0
  safeTx : t.flag R.stnSafeSafeTx = true
  alive : t.pair.aliveStop = true
  flips : t.flipStop = true
  lanes : ∀ l < 8, (t.lane l).stopped = true

/-- From `s` to `t` no block has left its step, and FCOL's own part of the reaction stands. -/
structure ReactionStays (s t : State) : Prop where
  collector : ∀ f ∈ collectorFlds, t.fld f = s.fld f
  fcol : t.fcol = s.fcol
  closed : s.fld R.fldStatusClosed = 0 → t.fld R.fldStatusClosed = 0
  safeTx : s.flag R.stnSafeSafeTx = true → t.flag R.stnSafeSafeTx = true
  alive : s.pair.aliveStop = true → t.pair.aliveStop = true
  flips : s.flipStop = true → t.flipStop = true
  lanes : ∀ l < 8, (s.lane l).stopped = true → (t.lane l).stopped = true

section
variable {s t u : State}

theorem BlocksSafe.stays (h : BlocksSafe s) (k : ReactionStays s t) : BlocksSafe t :=
  ⟨k.closed h.closed, k.safeTx h.safeTx, k.alive h.alive, k.flips h.flips, fun l hl => k.lanes l hl (h.lanes l hl)⟩

theorem ReactionStays.trans (h : ReactionStays s t) (k : ReactionStays t u) : ReactionStays s u :=
  ⟨fun f hf => (k.collector f hf).trans (h.collector f hf), k.fcol.trans h.fcol, k.closed ∘ h.closed, k.safeTx ∘ h.safeTx, k.alive ∘ h.alive,
    k.flips ∘ h.flips, fun l hl => k.lanes l hl ∘ h.lanes l hl⟩

/-- Parts that have stayed, and fields that have stayed or read as the step of their block leaves them. -/
theorem ReactionStays.of_safer (hcollector : ∀ f ∈ collectorFlds, t.fld f = s.fld f)
    (hclosed : t.fld R.fldStatusClosed = s.fld R.fldStatusClosed ∨ t.fld R.fldStatusClosed = 0)
    (hsafeTx : t.fld R.stnSafeSafeTx = s.fld R.stnSafeSafeTx ∨ t.flag R.stnSafeSafeTx = true) (hfcol : t.fcol = s.fcol)
    (halive : t.pair.aliveStop = s.pair.aliveStop) (hflips : t.flipStop = s.flipStop) (hlanes : t.lanes = s.lanes) : ReactionStays s t := by
  refine ⟨hcollector, hfcol, fun h => hclosed.elim (·.trans h) id, fun h => hsafeTx.elim (fun e => ?_) id, halive.trans, hflips.trans, fun l _ h => ?_⟩
  · rw [State.flag, e]
    exact h
  · rw [State.lane, hlanes]
    exact h

/-- None of the fields and parts that the reaction sets has changed. -/
theorem ReactionStays.of_flds (hfld : ∀ f ∈ reactionFlds, t.fld f = s.fld f) (hfcol : t.fcol = s.fcol)
    (halive : t.pair.aliveStop = s.pair.aliveStop) (hflips : t.flipStop = s.flipStop) (hlanes : t.lanes = s.lanes) : ReactionStays s t :=
  .of_safer (fun f hf => hfld f (List.mem_append_left [R.fldStatusClosed, R.stnSafeSafeTx] hf)) (.inl (hfld _ (by simp [reactionFlds, collectorFlds])))
    (.inl (hfld _ (by simp [reactionFlds, collectorFlds]))) hfcol halive hflips hlanes

theorem ReactionStays.of_eq (hregs : t.regs = s.regs) (hfcol : t.fcol = s.fcol) (halive : t.pair.aliveStop = s.pair.aliveStop)
    (hflips : t.flipStop = s.flipStop) (hlanes : t.lanes = s.lanes) : ReactionStays s t :=
  .of_flds (fun f _ => by rw [State.fld, State.reg, hregs]; rfl) hfcol halive hflips hlanes

theorem ReactionStays.refl (s : State) : ReactionStays s s := .of_eq rfl rfl rfl rfl rfl

theorem ReactionStays.of_only {fs : List Fld} (h : FldsOnly s t fs) (hfs : ∀ g ∈ reactionFlds, ∀ f ∈ fs, apart f g) : ReactionStays s t :=
  .of_flds (fun g hg => h.2 g (hfs g hg)) (h.same State.fcol fun _ => rfl) (h.same (·.pair.aliveStop) fun _ => rfl)
    (h.same State.flipStop fun _ => rfl) (h.same State.lanes fun _ => rfl)

/-- A register that holds none of the fields. -/
theorem ReactionStays.setReg (s : State) (a : Nat) (w : W64) (ha : ∀ f ∈ reactionFlds, f.addr ≠ a) : ReactionStays s (s.setReg a w) :=
  .of_flds (fun f hf => by rw [State.fld, State.reg_setReg_ne s w (ha f hf)]; rfl) rfl rfl rfl rfl

theorem ReactionStays.setFld (s : State) (f : Fld) (v : Nat) (hf : ∀ g ∈ reactionFlds, g.addr ≠ f.addr) : ReactionStays s (s.setFld f v) := .setReg s _ _ hf

theorem ReactionStays.ite {p : Prop} [Decidable p] (ht : ReactionStays s t) (hu : ReactionStays s u) : ReactionStays s (if p then t else u) := by
  split_ifs
  · exact ht
  · exact hu

theorem ReactionStays.foldl {α : Type} {f : State → α → State} (hf : ∀ s x, ReactionStays s (f s x)) (xs : List α) (s : State) :
    ReactionStays s (xs.foldl f s) :=
  List.foldlRecOn xs f (motive := ReactionStays s) (.refl s) fun _ h x _ => h.trans (hf _ x)

end

/-! ### Events, Books, the pair state, the Logbook -/

section
variable (s : State)

theorem State.vecPost_stays (v : Nat) : ReactionStays s (s.vecPost v) := by
  unfold State.vecPost
  split <;> exact .of_eq rfl rfl rfl rfl rfl

theorem State.raise_stays (code : Nat) (data : List Byte) : ReactionStays s (s.raise code data) := by
  unfold State.raise
  cases eventVec code with
  | none => exact .of_eq rfl rfl rfl rfl rfl
  | some v => exact (s.vecPost_stays v).trans (.of_eq rfl rfl rfl rfl rfl)

theorem State.logFreeze_stays (t : Nat) : ReactionStays s (s.logFreeze t) := by
  have hlog : ∀ g : LogSt, ReactionStays s { s with log := g } := fun g => .of_eq rfl rfl rfl rfl rfl
  have hfrozen : ∀ (g : LogSt) (n : Nat), ReactionStays s ({ s with log := g }.setFld R.logbStatusFrozen n) := fun g n =>
    (hlog g).trans (.setFld _ R.logbStatusFrozen n (by decide))
  exact .ite (.refl s) (.ite (s.raise_stays ..) ((hfrozen _ _).trans (State.raise_stays _ _ _)))

theorem State.setSlots_stays {f : Fld} (v : Nat) (hf : ∀ g ∈ reactionFlds, g.addr ≠ f.addr) : ReactionStays s (s.setSlots f v) :=
  .ite (.refl s) ((ReactionStays.setFld s f v hf).trans (State.vecPost_stays _ _))

theorem State.setSlotState_stays (i v : Nat) : ReactionStays s (s.setSlotState i v) := by
  have hstate : ReactionStays s (s.setSlots (if i = 0 then R.bookSlotsStateA else R.bookSlotsStateB) v) :=
    s.setSlots_stays v (by split_ifs <;> decide)
  exact hstate.trans (State.setSlots_stays _ _ (by split_ifs <;> decide))

theorem State.turnDrop_stays : ReactionStays s s.turnDrop := by
  unfold State.turnDrop
  split
  · exact .refl s
  · next t _ =>
    extract_lets u b v
    have hu : ReactionStays s u := (s.setSlotState_stays t.target 3).trans (.setReg _ R.bookTurn.addr 0 (by decide))
    have hv : ReactionStays u v := .of_eq rfl rfl rfl rfl rfl
    have hdone : ∀ (x : State) (c : Nat) (f : ClassSt → ClassSt), ReactionStays x (x.modCls c f) := fun x c f => .of_eq rfl rfl rfl rfl rfl
    exact hu.trans (hv.trans (.foldl (fun x c => hdone x c _) _ v))

theorem State.endProgram_stays : ReactionStays s s.endProgram := by
  unfold State.endProgram
  extract_lets u v w x
  have hu : ReactionStays s u := .ite (s.turnDrop_stays.trans (State.raise_stays _ _ _)) (.refl s)
  have hv : ReactionStays u v := by
    unfold v
    split
    · exact u.setSlotState_stays _ _
    · exact .refl u
  have hw : ReactionStays v w := .setReg v _ _ (by decide)
  have hx : ReactionStays w x := (ReactionStays.setFld w R.bookSlotsRevision 0 (by decide)).trans (.setFld _ R.cmpStatusSpare 0 (by decide))
  exact hu.trans (hv.trans (hw.trans (hx.trans (.of_eq rfl rfl rfl rfl rfl))))

/-- The module that becomes SAFE: the Logbook ends, PAIR_STATE reads SAFE, relaying stops (R274, R543). -/
theorem State.enter_safe_stays : ReactionStays s (s.enter psSafe) := by
  have hlog : ReactionStays s (s.logMode s.pstate psSafe) := by
    unfold State.logMode
    rw [if_neg (by decide)]
    exact (ReactionStays.ite (.setFld s R.logbStatusState 0 (by decide)) (.refl s)).trans (.of_eq rfl rfl rfl rfl rfl)
  unfold State.enter
  dsimp only
  rw [if_neg (by decide : ¬psSafe = psStandby)]
  have hstate : ∀ u : State, ReactionStays u (if u.pstate = psSafe then u else (u.setFld R.pairStateState psSafe).vecPost 257) := fun u =>
    .ite (.refl u) ((ReactionStays.setFld u R.pairStateState psSafe (by decide)).trans (State.vecPost_stays _ _))
  refine hlog.trans ((hstate _).trans ?_)
  exact .of_only (State.setFlag_only _ (f := R.stnSafeRelay) _ (by decide)) (by unfold apart; decide)

theorem State.vecPost_fld (v : Nat) (f : Fld) : (s.vecPost v).fld f = s.fld f := by
  unfold State.vecPost
  split <;> rfl

theorem State.enter_safe_pstate : (s.enter psSafe).pstate = psSafe := by
  have hstate : ∀ u : State, ((u.setFld R.pairStateState psSafe).vecPost 257).fld R.pairStateState = psSafe := fun u => by
    rw [State.vecPost_fld, State.fld_setFld_same _ _ (by decide)]
    rfl
  unfold State.enter
  dsimp only
  rw [if_neg (by decide : ¬psSafe = psStandby), State.pstate, State.fld_setFlag_ne _ _ (by decide) (by decide)]
  split_ifs with h
  · exact h
  · exact hstate _

end

/-! ### The step of each block (R351, R432, R442) -/

section
variable (s : State)

/-- The open line asserted: FLD and FLD_STATUS only, every switch open (R560). -/
theorem State.openLine_moved : (∃ x, RegsMoved (· = R.fldStatus.addr) { s with field := x } s.openLine) ∧ s.openLine.fld R.fldStatusClosed = 0 ∧
    s.openLine.flag R.fldStatusOpenline = true := by
  obtain ⟨x, hx⟩ := s.openOutputs_moved
  refine ⟨⟨x, hx.trans (RegsMoved.setFld _ R.fldStatusOpenline _)⟩, ?_, State.flag_setFlag_same _ _ (by decide) (by decide)⟩
  unfold State.openLine State.openOutputs
  rw [State.fld_setFlag_ne _ _ (by decide) (by decide), State.fld_setFlag_ne _ _ (by decide) (by decide), State.fld_setFld_same _ _ (by decide)]
  rfl

/-- A channel put to listen-only: its pending transmission ends, and of the registers MODE of CAN_STATUS alone can change (R581). -/
theorem State.canListen_only (n : Nat) : ∃ x, FldsOnly { s with can := x } (s.canListen n) [R.canStatusMode n] ∧ ((s.canListen n).canOf n).pend = [] ∧
    (s.canListen n).fld (R.canStatusMode n) = if 2 ≤ s.fld (R.canStatusMode n) then 2 else s.fld (R.canStatusMode n) := by
  obtain ⟨x, hx, hpend⟩ : ∃ x, (s.modCan n fun x => { x with pend := [] }) = { s with can := x } ∧ (mget CanSt.init x n).pend = [] :=
    ⟨_, rfl, by rw [mget_mmod_same]⟩
  refine ⟨x, ?_⟩
  unfold State.canListen
  rw [hx]
  have hmode : State.fld { s with can := x } (R.canStatusMode n) = s.fld (R.canStatusMode n) := rfl
  have hin : (R.canStatusMode n).lo + (R.canStatusMode n).len ≤ 64 := by simp [R.canStatusMode]
  dsimp only
  rw [hmode]
  split_ifs
  · exact ⟨State.setFld_only _ 2 hin, hpend, State.fld_setFld_same _ 2 hin⟩
  · exact ⟨FldsOnly.refl _ _, hpend, hmode⟩

/-- SAFE frames take the place of OUTPUT traffic: SAFE_TX of STN_SAFE is set and frames are sent (R351). -/
theorem State.lineStep_stn : ∃ o, FldsOnly { s with out := o } (s.lineStep .stn) [R.stnSafeSafeTx] ∧ (s.lineStep .stn).flag R.stnSafeSafeTx = true := by
  have hsend : ∀ (fs : List StnFrame) (u : State), ∃ o, fs.foldl (fun s f => s.ringSend (ringOf f.station) f) u = { u with out := o } := by
    intro fs u
    refine List.foldlRecOn fs _ (motive := fun v : State => ∃ o, v = { u with out := o }) ⟨u.out, rfl⟩ fun v hv f _ => ?_
    obtain ⟨o, rfl⟩ := hv
    rw [State.ringSend]
    split
    · exact ⟨_, rfl⟩
    · exact ⟨o, rfl⟩
  have honly := fun o => State.setFlag_only { s with out := o } (f := R.stnSafeSafeTx) true (by decide)
  have hset : (s.setFlag R.stnSafeSafeTx true).flag R.stnSafeSafeTx = true := State.flag_setFlag_same _ _ (by decide) (by decide)
  unfold State.lineStep
  dsimp only
  split_ifs
  · exact ⟨s.out, honly _, hset⟩
  · obtain ⟨o, ho⟩ := hsend (s.setFlag R.stnSafeSafeTx true).stn.safeSet (s.setFlag R.stnSafeSafeTx true)
    refine ⟨o, ?_⟩
    rw [ho]
    exact ⟨honly o, hset⟩

/-- Lanes stopped one after the other. -/
theorem State.stopLanes (ls : List Nat) :
    ∃ x, ls.foldl (fun (s : State) l => s.modLane l fun ln => { ln with stopped := true }) s = { s with lanes := x } ∧
      ∀ l, mget LaneSt.init x l = if l ∈ ls then { s.lane l with stopped := true } else s.lane l := by
  induction ls generalizing s with
  | nil => exact ⟨s.lanes, rfl, fun l => (if_neg List.not_mem_nil).symm⟩
  | cons k ls ih =>
    obtain ⟨x, hx, hlanes⟩ := ih (s.modLane k fun ln => { ln with stopped := true })
    refine ⟨x, hx, fun l => ?_⟩
    rw [hlanes]
    by_cases hl : l = k
    · subst hl
      rw [State.lane_modLane_same, if_pos List.mem_cons_self, ite_self]
    · rw [State.lane_modLane_ne s _ hl]
      simp only [List.mem_cons, hl, false_or]

/-- Every lane stopped, and no flip any more. -/
theorem State.lineStep_lanes : ∃ x, s.lineStep .lanes = { s with lanes := x, flipStop := true } ∧
    ∀ l < 8, mget LaneSt.init x l = { s.lane l with stopped := true } := by
  obtain ⟨x, hx, hlanes⟩ := State.stopLanes { s with flipStop := true } (List.range 8)
  exact ⟨x, hx, fun l hl => (hlanes l).trans (if_pos (List.mem_range.2 hl))⟩

end

/-! ### The class D reaction (R432) -/

/-- The step of a block undoes no part of the reaction. -/
theorem State.lineStep_stays (b : LineBlock) (s : State) : ReactionStays s (s.lineStep b) := by
  cases b with
  | rstc => exact ⟨fun _ _ => rfl, rfl, id, id, fun _ => rfl, id, fun _ _ => id⟩
  | pair => exact .of_eq rfl rfl rfl rfl rfl
  | lanes =>
    obtain ⟨x, hx, hlanes⟩ := s.lineStep_lanes
    rw [hx]
    exact ⟨fun _ _ => rfl, rfl, id, id, id, fun _ => rfl, fun l hl _ => congrArg LaneSt.stopped (hlanes l hl)⟩
  | fld =>
    obtain ⟨⟨x, ht, hreg, -⟩, hclosed, -⟩ := s.openLine_moved
    show ReactionStays s s.openLine
    generalize s.openLine = t at ht hreg hclosed
    have hfld : ∀ f : Fld, f.addr ≠ R.fldStatus.addr → t.fld f = s.fld f := fun f hf => by rw [State.fld, hreg _ hf]; rfl
    obtain ⟨r, rfl⟩ : ∃ r, t = { s with field := x, regs := r } := ⟨_, ht⟩
    refine .of_safer (fun f hf => hfld f ?_) (.inr hclosed) (.inl (hfld _ (by decide))) rfl rfl rfl rfl
    revert f
    decide
  | stn =>
    obtain ⟨o, ⟨ht, hkept⟩, hsafeTx⟩ := s.lineStep_stn
    generalize s.lineStep .stn = t at ht hkept hsafeTx
    obtain ⟨r, rfl⟩ : ∃ r, t = { s with out := o, regs := r } := ⟨_, ht⟩
    refine .of_safer (fun f hf => hkept f ?_) (.inl (hkept _ (by unfold apart; decide))) (.inr hsafeTx) rfl rfl rfl rfl
    revert f
    unfold apart
    decide
  | can n =>
    obtain ⟨x, honly, -⟩ := s.canListen_only n.val
    have hcan : ReactionStays s { s with can := x } := .of_eq rfl rfl rfl rfl rfl
    have hoff : ∀ k : Fin 2, ∀ g ∈ reactionFlds, ∀ f ∈ [R.canStatusMode k.val], apart f g := by
      unfold apart
      decide
    exact hcan.trans (.of_only honly (hoff n))

/-- What the step of one block brings about holds after the steps of a list of blocks with it. -/
theorem State.lineSteps_bring {P : State → Prop} {b : LineBlock} {bs : List LineBlock} (hb : b ∈ bs) (hstep : ∀ s : State, P (s.lineStep b))
    (hstays : ∀ {s t : State}, ReactionStays s t → P s → P t) (s : State) : P (bs.foldl (fun s b => s.lineStep b) s) := by
  induction bs generalizing s with
  | nil => cases hb
  | cons c bs ih =>
    rcases List.mem_cons.1 hb with rfl | h
    · exact hstays (.foldl (fun s b => State.lineStep_stays b s) bs _) (hstep s)
    · exact ih h (s.lineStep c)

/-- After the steps of all its receivers the blocks are safe. -/
theorem State.lineBlocks_safe (s : State) : BlocksSafe (lineBlocks.foldl (fun s b => s.lineStep b) s) where
  closed := State.lineSteps_bring (b := .fld) (by decide) (fun s => s.openLine_moved.2.1) (·.closed) s
  safeTx := State.lineSteps_bring (b := .stn) (by decide) (fun s => by obtain ⟨_, _, h⟩ := s.lineStep_stn; exact h) (·.safeTx) s
  alive := State.lineSteps_bring (b := .rstc) (by decide) (fun _ => rfl) (·.alive) s
  flips := State.lineSteps_bring (b := .lanes) (by decide) (fun s => by obtain ⟨_, h, _⟩ := s.lineStep_lanes; rw [h]) (·.flips) s
  lanes := fun l hl => State.lineSteps_bring (P := fun t => (t.lane l).stopped = true) (b := .lanes) (by decide)
    (fun s => by obtain ⟨_, h, k⟩ := s.lineStep_lanes; rw [h]; exact congrArg LaneSt.stopped (k l hl)) (fun h => h.lanes l hl) s

/-- The reaction has been taken: FCOL shows SAFE, the module is SAFE, and so are its blocks (R6, R432). -/
structure Reacted (t : State) : Prop where
  safe : t.flag R.fcolStatusSafe = true
  pstate : t.pstate = psSafe
  blocks : BlocksSafe t

/-- The reaction before the blocks' steps: SAFE shows, and the dwell of the escalation begins (R432, R433). -/
def State.reactionBegun (s : State) : State :=
  { s.setFlag R.fcolStatusSafe true with
    pair := { s.pair with handover := none, waitOut := [] }, fcol := { s.fcol with cAt := none, dAt := some (s.tb 3) } }

theorem State.classD_eq {s : State} (h : s.flag R.fcolStatusSafe = false) :
    s.classD = (lineBlocks.foldl (fun s b => s.lineStep b) s.reactionBegun).endProgram.enter psSafe :=
  if_neg (by rw [h]; exact Bool.false_ne_true)

theorem State.classD_reacted {s : State} (h : s.flag R.fcolStatusSafe = false) : Reacted s.classD ∧
    (∀ f ∈ [R.fcolStatusCopyFault, R.fcolNowFault 0, R.fcolNowFault 1], s.classD.fld f = s.fld f) ∧
    s.classD.fcol = { s.fcol with cAt := none, dAt := some (s.tb 3) } := by
  rw [State.classD_eq h]
  generalize ht : lineBlocks.foldl (fun s b => s.lineStep b) s.reactionBegun = t
  have hblocks : BlocksSafe t := ht ▸ s.reactionBegun.lineBlocks_safe
  have hsteps : ReactionStays s.reactionBegun t := ht ▸ .foldl (fun s b => State.lineStep_stays b s) lineBlocks s.reactionBegun
  have hended := t.endProgram_stays.trans t.endProgram.enter_safe_stays
  obtain ⟨hcollector, hfcol, -⟩ := hsteps.trans hended
  have hsafe : s.reactionBegun.flag R.fcolStatusSafe = true := State.flag_setFlag_same s true (by decide) (by decide)
  have hbegun : ∀ f ∈ [R.fcolStatusCopyFault, R.fcolNowFault 0, R.fcolNowFault 1], s.reactionBegun.fld f = s.fld f := fun f hf =>
    State.fld_setFlag_ne s true (by decide) (by revert f; decide)
  refine ⟨⟨?_, State.enter_safe_pstate _, hblocks.stays hended⟩, fun f hf => (hcollector f (List.mem_cons_of_mem _ hf)).trans (hbegun f hf), hfcol⟩
  rw [State.flag, hcollector _ List.mem_cons_self]
  exact hsafe

/-! ### One report of class D (R429, R437, R439) -/

/-- FCOL takes a report: its source exists, is not under test and does not hold the report yet (R426, R429, R444, R633). -/
def State.takes (s : State) (r : Report) : Bool :=
  decide (r.src < 0x45) && !(s.flag R.fcolCtrlTest && s.fld R.fcolTestPattern != 0 && s.fld R.fcolTestSource == r.src) && !s.srcBroken r.src &&
    (r.broken || (!s.srcNow r.src && !s.inPulse r.src))

/-- The state after one report of class D is recorded and latched, the reaction not yet taken. -/
def State.noted (s : State) (r : Report) : State :=
  let t := (s.pulses [r]).recordReport r
  t.firstLatch (t.entryWord0 r) t.fcolStamp 4

section
variable {s : State} {r : Report} (hclk : s.fcol.clkOut = false)
include hclk

theorem State.takeReports_dropped (h : s.takes r = false) : s.takeReports [r] = s.refit := by
  unfold State.takes at h
  unfold State.takeReports
  rw [if_neg (by rw [hclk]; exact Bool.false_ne_true)]
  simp only [List.foldr, insertReport, List.filter, h, List.foldl]
  rfl

theorem State.takeReports_taken (h : s.takes r = true) (hclass : s.srcClass r.src = 4) :
    s.takeReports [r] = ((s.noted r).classD.logFreeze ((s.noted r).classD.tb 3)).refit := by
  have hpulsed : (s.pulses [r]).srcClass r.src = 4 := hclass
  have hfirst : (!false && decide (2 ≤ 4) && (4 : Nat) == 4) = true := rfl
  have hfreeze : 3 ≤ 4 := by decide
  unfold State.takes at h
  unfold State.takeReports
  rw [if_neg (by rw [hclk]; exact Bool.false_ne_true)]
  simp only [List.foldr, insertReport, List.filter, h, List.foldl, List.any_nil, Bool.false_eq_true, if_false, List.nil_append, hpulsed, hclass,
    Nat.zero_max, hfirst, hfreeze, if_true]
  rfl

end

/-- A report of a source that stands: numbered, and its source shows fault (R425, R436). -/
def State.shown (s : State) (src : Nat) : State :=
  { s with fcol := { s.fcol with seq := s.fcol.seq + 1 } }.setBit (R.fcolNowFault (src / 64)) (src % 64) true

section
variable (s : State)

theorem State.setOpen_stays : ReactionStays s s.setOpen := .of_only s.setOpen_only (by unfold apart; decide)

theorem State.histPut_stays (w0 stamp : Nat) : ReactionStays s (s.histPut w0 stamp) := by
  have hhist : ∀ h < 32, ∀ g ∈ reactionFlds, g.addr ≠ (R.fcolHist0 h).addr ∧ g.addr ≠ (R.fcolHist1 h).addr := by decide
  unfold State.histPut
  extract_lets h u
  have hh : h < 32 := s.fld_lt R.fcolHeadHead
  have hu : ReactionStays s u := (ReactionStays.setFld s (R.fcolHist0 h) w0 fun g hg => (hhist h hh g hg).1).trans
    (.setFld _ (R.fcolHist1 h) stamp fun g hg => (hhist h hh g hg).2)
  exact hu.trans ((ReactionStays.setFld u R.fcolHeadHead _ (by decide)).trans (.setFld _ R.fcolHeadTotal _ (by decide)))

theorem State.firstLatch_stays (w0 stamp cls : Nat) : ReactionStays s (s.firstLatch w0 stamp cls) := by
  unfold State.firstLatch
  have hfirst : ReactionStays s ((s.setFld R.fcolFirst0 w0).setFld R.fcolFirst1Stamp stamp) :=
    (ReactionStays.setFld s R.fcolFirst0 w0 (by decide)).trans (.setFld _ R.fcolFirst1Stamp stamp (by decide))
  exact (ReactionStays.ite (.refl s) hfirst).trans (.of_only (State.setFld_only _ _ (by decide)) (by unfold apart; decide))

end

/-- An entry and its event, the Status FAULT flag and the Reclaim count after them. -/
theorem ReactionStays.entered {s t : State} {w0 stamp : Nat} (h : t = (s.histPut w0 stamp).faultEvent w0 stamp) :
    ReactionStays s { t with pair := { t.pair with faultUntil := t.tb 3 + 1000000000, reclaimFrom := t.pair.reclaimFrom.map fun _ => t.tb 3 } } := by
  have hput : ReactionStays s t := h ▸ (s.histPut_stays w0 stamp).trans (State.raise_stays _ _ _)
  exact hput.trans (.of_eq rfl rfl rfl rfl rfl)

section
variable {src : Nat} (hclass : ∀ u : State, u.srcClass src = 4) (hstands : occursOnly src = false)
include hclass hstands

theorem State.recordReport_stays (s : State) (detail : Nat) : ReactionStays (s.shown src) (s.recordReport ⟨src, detail, false⟩) := by
  unfold State.recordReport State.shown
  simp only [hstands, Bool.false_eq_true, if_false, hclass, show ¬(4 = 1) by decide]
  generalize State.setBit _ _ _ _ = u
  generalize hput : State.faultEvent _ _ _ = put
  exact u.setOpen_stays.trans (.entered hput.symm)

theorem State.noted_stays (s : State) (detail : Nat) :
    ReactionStays ((s.pulses [⟨src, detail, false⟩]).shown src) (s.noted ⟨src, detail, false⟩) :=
  (State.recordReport_stays hclass hstands _ detail).trans (State.firstLatch_stays _ _ _ _)

end

/-- The source shows fault, and SAFE, COPY_FAULT and the clock of FCOL are as they were. -/
theorem State.shown_only (s : State) {src : Nat} (hsrc : src < 0x45) : (s.shown src).srcNow src = true ∧
    (s.shown src).fld R.fcolStatusSafe = s.fld R.fcolStatusSafe ∧ (s.shown src).fld R.fcolStatusCopyFault = s.fld R.fcolStatusCopyFault := by
  have hnow : ∀ k < 0x45, apart (R.fcolNowFault (k / 64)) R.fcolStatusSafe ∧ apart (R.fcolNowFault (k / 64)) R.fcolStatusCopyFault := by
    unfold apart
    decide
  have hword : (R.fcolNowFault (src / 64)).lo + (R.fcolNowFault (src / 64)).len ≤ 64 := by simp [R.fcolNowFault]
  have hin : src % 64 < (R.fcolNowFault (src / 64)).len := Nat.mod_lt _ (by decide)
  exact ⟨State.bit_setBit_true _ hword hin (.inr rfl), State.fld_setFld_ne _ _ hword (hnow src hsrc).1, State.fld_setFld_ne _ _ hword (hnow src hsrc).2⟩

/-! ### A report of class D taken -/

/-- The source whose report is recorded shows fault in every later state in which the reaction stays. -/
theorem ReactionStays.srcNow {s t : State} (h : ReactionStays s t) {src : Nat} (hsrc : src < 0x45) : t.srcNow src = s.srcNow src := by
  have hfld : ∀ k < 0x45, R.fcolNowFault (k / 64) ∈ collectorFlds := by decide
  rw [State.srcNow, State.bit, h.collector _ (hfld src hsrc)]
  rfl

theorem Reacted.stays {s t : State} (h : Reacted s) (k : ReactionStays s t) (hp : t.pstate = s.pstate) : Reacted t := by
  refine ⟨?_, hp.trans h.pstate, h.blocks.stays k⟩
  rw [State.flag, k.collector _ List.mem_cons_self]
  exact h.safe

/-- A SAFE module: FIT does not follow, and a window frozen leaves the pair state. -/
theorem Reacted.frozen {s : State} (h : Reacted s) (t : Nat) :
    Reacted (s.logFreeze t).refit ∧ ReactionStays s (s.logFreeze t).refit := by
  have hpstate : (s.logFreeze t).pstate = s.pstate := (s.logFreeze_kept t).fld (by unfold logReg; decide)
  have hrefit : (s.logFreeze t).refit = s.logFreeze t := if_neg (by rw [hpstate, h.pstate]; decide)
  rw [hrefit]
  exact ⟨h.stays (s.logFreeze_stays t) hpstate, s.logFreeze_stays t⟩

/-- One report of a source of class D that FCOL takes: the reaction is taken, and the source shows fault. -/
theorem State.takeReports_reacted {s : State} {src : Nat} (hsrc : src < 0x45) (hclass : ∀ u : State, u.srcClass src = 4)
    (hstands : occursOnly src = false) (hclk : s.fcol.clkOut = false) (hsafe : s.flag R.fcolStatusSafe = false) (detail : Nat)
    (htakes : s.takes ⟨src, detail, false⟩ = true) :
    let t := s.takeReports [⟨src, detail, false⟩]
    Reacted t ∧ t.fld R.fcolStatusCopyFault = s.fld R.fcolStatusCopyFault ∧ t.srcNow src = true ∧ t.fcol.clkOut = false ∧ t.fcol.cAt = none := by
  rw [State.takeReports_taken hclk htakes (hclass s)]
  intro t
  have hnoted := State.noted_stays hclass hstands s detail
  obtain ⟨hnow, hsafe', hcopy⟩ := (s.pulses [⟨src, detail, false⟩]).shown_only hsrc
  have hflag : (s.noted ⟨src, detail, false⟩).flag R.fcolStatusSafe = false := by
    rw [State.flag, hnoted.collector _ List.mem_cons_self, hsafe']
    exact hsafe
  obtain ⟨hreacted, hkept, hfcol⟩ := State.classD_reacted hflag
  obtain ⟨hfrozen, hstays⟩ := hreacted.frozen ((s.noted ⟨src, detail, false⟩).classD.tb 3)
  refine ⟨hfrozen, ?_, ?_, ?_, ?_⟩
  · rw [hstays.collector _ (by simp [collectorFlds]), hkept _ (by simp), hnoted.collector _ (by simp [collectorFlds]), hcopy]
    rfl
  · have hword : ∀ k < 0x45, R.fcolNowFault (k / 64) ∈ [R.fcolStatusCopyFault, R.fcolNowFault 0, R.fcolNowFault 1] := by decide
    rw [hstays.srcNow hsrc, State.srcNow, State.bit, hkept _ (hword src hsrc)]
    exact (hnoted.srcNow hsrc).trans hnow
  · rw [hstays.fcol, hfcol, hnoted.fcol]
    exact hclk
  · rw [hstays.fcol, hfcol]

/-! ### The time bases of a state in canonical form (R395; assumption 6) -/

/-- What holds of every value a table lists, and of its default, holds of what the table reads as. -/
theorem mget_of_all {α : Type} {p : α → Prop} {d : α} {m : NMap α} (hd : p d) (h : ∀ e ∈ m, p e.2) (k : Nat) : p (mget d m k) := by
  induction m with
  | nil => exact hd
  | cons e m ih =>
    rw [mget]
    split
    · exact h e List.mem_cons_self
    · exact ih fun f hf => h f (List.mem_cons_of_mem e hf)

/-- A write lists its own value, or nothing, beside what the table listed. -/
theorem mem_mput {α : Type} [DecidableEq α] {d : α} {m : NMap α} {k : Nat} {v : α} {e : Nat × α} (h : e ∈ mput d m k v) : e = (k, v) ∨ e ∈ m := by
  unfold mput at h
  split at h
  · exact .inr (mem_mdel_key h).1
  · exact (mem_mins h).imp id fun h => (mem_mdel_key h).1

section
variable {s : State} (hc : s.canonical = true)
include hc

theorem State.canonical_parts : Memory.wf s.mem = true ∧ mwfBy regCold s.regs = true ∧ ∀ e ∈ s.tbs, e.2 < 2 ^ 96 := by
  rw [State.canonical, Bool.and_eq_true, Bool.and_eq_true, List.all_eq_true] at hc
  exact ⟨hc.1.1, hc.1.2, fun e he => of_decide_eq_true (hc.2 e he)⟩

theorem State.canonical_setReg (a : Nat) (w : W64) : (s.setReg a w).canonical = true := by
  obtain ⟨hmem, hregs, htbs⟩ := State.canonical_parts hc
  rw [State.canonical, Bool.and_eq_true, Bool.and_eq_true, List.all_eq_true]
  exact ⟨⟨hmem, mwfBy_mput regCold a w hregs⟩, fun e he => decide_eq_true (htbs e he)⟩

theorem State.canonical_setTbFix (k v : Nat) : (s.setTbFix k v).canonical = true := by
  obtain ⟨hmem, hregs, htbs⟩ := State.canonical_parts hc
  rw [State.canonical, Bool.and_eq_true, Bool.and_eq_true, List.all_eq_true]
  refine ⟨⟨hmem, hregs⟩, fun e he => decide_eq_true ?_⟩
  rcases mem_mput he with rfl | h
  · exact Nat.mod_lt _ (by decide)
  · exact htbs e h

theorem State.canonical_ticks (n : Nat) : (s.ticks n).canonical = true :=
  State.canonical_setTbFix (State.canonical_setTbFix (State.canonical_setTbFix (State.canonical_setTbFix hc _ _) _ _) _ _) _ _

/-- An instant of TB3 that has passed: no clock runs, every base reads as before. -/
theorem State.tbFix_to3_past {t : Nat} (ht : t ≤ s.tb 3) {k : Nat} (hk : k < 4) : (s.to3 t).tbFix k = s.tbFix k := by
  obtain ⟨-, -, htbs⟩ := State.canonical_parts hc
  have hlt : s.tbFix k < 2 ^ 96 := mget_of_all (p := (· < 2 ^ 96)) (by decide) htbs k
  have hpast : t * 2 ^ 32 - s.tbFix 3 = 0 := Nat.sub_eq_zero_of_le ((Nat.le_div_iff_mul_le (by decide)).1 ht)
  have hclocks : s.clocksTo 3 t = 0 := by
    unfold State.clocksTo
    split_ifs with hinc
    · rfl
    · rw [hpast, ceilDiv]
      exact Nat.div_eq_of_lt (by omega)
  rw [State.to3, hclocks, State.tbFix_ticks s 0 hk, Nat.zero_mul, Nat.add_zero, Nat.mod_eq_of_lt hlt]

end

/-! ### Episodes that begin after FCOL or RSTC has moved on (R433, R525) -/

/-- An episode reads of the state before it only the sources asserted, the registers outside RSTC and FCOL and INRESET, memory, the bases, the commands
that wait and what has been sent. -/
theorem EpisodeBegan.of_before {s v t : State} {src : Nat} {f : Fld} {cold : Bool} (h : EpisodeBegan v t src f cold) (hrst : v.rst = s.rst)
    (hreg : ∀ a, a / 0x10000 ≠ 1 → v.reg a = s.reg a) (hmem : v.mem = s.mem) (htb : ∀ k < 4, v.tbFix k = s.tbFix k) (hpending : v.pending = s.pending)
    (hout : v.out = s.out) : EpisodeBegan s t src f cold := by
  have hin : v.inReset 21 = s.inReset 21 := State.inReset_congr (hreg _ (by decide)) 21
  obtain ⟨hon, hepisode, hheld, hreset, hcause, hregs, hlanes, hcls, hreports, hevents, hsess, hbyte, hmram, hbases, hpend, hsent⟩ := h
  refine ⟨by rw [hon, hrst], hepisode, by rw [hheld, hin], hreset, hcause, fun a h0 h1 => by rw [hregs a h0 h1, hreg a h1], hlanes, hcls, hreports,
    hevents, hsess, hbyte, fun a h0 h1 => ?_, fun k hk => by rw [hbases k hk, htb k hk], hpend.trans hpending, hsent.trans hout⟩
  rw [hmram a h0 h1, State.byte, State.byte, hmem]

/-- FCOL_NOW and FCOL_BROKEN alone move where sources fall silent. -/
theorem State.clearSources_words (s : State) (i : Nat) : RegsMoved (fun a => 0x10020 ≤ a ∧ a < 0x10040) s (s.clearSources i) := by
  refine RegsMoved.foldl (fun s src hsrc => ?_) s
  have hlt : src < 0x45 := List.mem_range.1 (List.mem_filter.1 hsrc).1
  refine RegsMoved.trans ((State.setBit_moved _ _ _ _).mono ?_) ((State.setBit_moved _ _ _ _).mono ?_)
  · rintro a rfl; simp only [R.fcolNowFault]; omega
  · rintro a rfl; simp only [R.fcolBrokenBroken]; omega

/-- A warm episode leaves FCOL_ESC to the Warm column (R434, R594). -/
theorem State.assertSource_esc {s : State} (h : s.rst.episode = none) (hs : s.regs.Pairwise fun x y => x.1 < y.1) {src : Nat} (hwarm : srcCold src = false) :
    (s.assertSource src).reg R.fcolEsc.addr = warmWord R.fcolEsc.addr (s.reg R.fcolEsc.addr) := by
  have hm := (s.setReg R.rstcCause.addr 0).causeNamed_moved src false
  have hnamed : ((s.setReg R.rstcCause.addr 0).causeNamed src false).reg R.fcolEsc.addr = s.reg R.fcolEsc.addr :=
    (hm.2.1 R.fcolEsc.addr (by decide)).trans (State.reg_setReg_ne s 0 (by decide : R.fcolEsc.addr ≠ R.rstcCause.addr))
  have hrise := hm.2.2 ((RegsMoved.setReg s R.rstcCause.addr 0).2.2 hs)
  have hoff : (s.episodeIslands src).contains (slotIsland (R.fcolEsc.addr / 0x10000)) = false := by
    rw [List.contains_eq_mem, decide_eq_false_iff_not, State.episodeIslands, hwarm, List.mem_append, not_or]
    refine ⟨by decide, ?_⟩
    split_ifs <;> decide
  rw [State.assertSource_begins h, State.reg_episodeBegun, hwarm]
  generalize (s.setReg R.rstcCause.addr 0).causeNamed src false = u at hnamed hrise
  rw [← hnamed]
  generalize s.episodeIslands src = is at hoff
  have hsilent : RegsMoved (fun a => 0x10020 ≤ a ∧ a < 0x10040) (u.islandsState is false)
      (is.foldl (fun s i => s.clearSources i) (u.islandsState is false)) := .foldl (fun s i _ => s.clearSources_words i) _
  have hsilentRise := hsilent.2.2 (State.islandsState_rising u is false hrise)
  have hreset : (u.resetIslands is false).reg R.fcolEsc.addr = u.reg R.fcolEsc.addr := by
    rw [State.resetIslands_eq, (State.setOpen_moved _).2.1 _ (by decide), (State.setBits_moved is _).2.1 _ (by decide),
      State.reg_columns hsilentRise (by decide) fun _ => by decide, columnWord, if_neg (by rw [hoff]; exact Bool.false_ne_true), hsilent.2.1 _ (by decide),
      State.islandsState_reg u is false (by decide)]
  unfold State.episodeState
  dsimp only
  rw [if_neg Bool.false_ne_true, State.reg_setFld_ne _ _ (by decide), State.reg_setReg_ne _ _ (by decide),
    State.reg_regsReset _ false (State.resetIslands_rising hrise) fun _ => by decide, hreset]
  rfl

/-- COUNT of FCOL_ESC has no Warm value: it is kept (R434). -/
theorem State.assertSource_escCount {s : State} (h : s.rst.episode = none) (hs : s.regs.Pairwise fun x y => x.1 < y.1) {src : Nat}
    (hwarm : srcCold src = false) : (s.assertSource src).fld R.fcolEscCount = s.fld R.fcolEscCount := by
  obtain ⟨r, hr, f, hf, hlo, hlen, hnone⟩ : ∃ r, regOf R.fcolEsc.addr = some r ∧ ∃ f ∈ r.fields, f.lo = 0 ∧ f.len = 4 ∧ f.warm = none :=
    ⟨_, rfl, _, List.mem_cons_self, rfl, rfl, rfl⟩
  have hkept := getBits_putFields (val := (·.warm)) (s.reg R.fcolEsc.addr) (regTable_inWord r (mem_regTable hr)) (regTable_apart r (mem_regTable hr)) hf
  rw [hnone, hlo, hlen] at hkept
  refine (congrArg (getBits · 0 4) (State.assertSource_esc h hs hwarm)).trans ?_
  rw [warmWord_eq hr]
  exact hkept

section
variable {s : State} {m : NMap Nat} {x : FcolSt} (hc : State.canonical { s with tbs := m } = true) (htb : ∀ k < 4, mget 0 m k = s.tbFix k)
  (hepisode : s.rst.episode = none)
include hc htb hepisode

/-- The reset of an escalation: COUNT written, then the warm episode of the escalation source (R433, R434). -/
theorem EpisodeBegan.escalation {n : Nat} (hn : n < 16) :
    let t := (({ s with tbs := m, fcol := x } : State).setFld R.fcolEscCount n).assertSource 3
    EpisodeBegan s t 3 R.rstcCauseEsc false ∧ t.fld R.fcolEscCount = n := by
  intro t
  let v : State := ({ s with tbs := m, fcol := x } : State).setFld R.fcolEscCount n
  have hv : v.canonical = true := State.canonical_setReg (s := { s with tbs := m, fcol := x }) hc _ _
  have hbegan : EpisodeBegan v t 3 R.rstcCauseEsc false := State.assertSource_began (s := v) hepisode hv (by decide)
  refine ⟨hbegan.of_before rfl (fun a ha => State.reg_setReg_ne _ _ ?_) rfl htb rfl rfl, ?_⟩
  · rintro rfl
    exact ha rfl
  · rw [State.assertSource_escCount (s := v) hepisode (State.canonical_rising hv) rfl, State.fld_setFld_same _ _ (by decide)]
    exact Nat.mod_eq_of_lt hn

/-- The reset of the watchdog. -/
theorem EpisodeBegan.watchdog : EpisodeBegan s (({ s with tbs := m } : State).assertSource 2) 2 R.rstcCauseWdog false :=
  (State.assertSource_began (s := { s with tbs := m }) hepisode hc (by decide : 2 ≤ 5)).of_before rfl (fun _ _ => rfl) rfl htb rfl rfl

end

/-- An instant of TB3 that has passed: the table of the bases may be written anew, and it reads as before. -/
theorem State.to3_past {s : State} (hc : s.canonical = true) {t : Nat} (ht : t ≤ s.tb 3) :
    ∃ m, s.to3 t = { s with tbs := m } ∧ State.canonical { s with tbs := m } = true ∧ ∀ k < 4, mget 0 m k = s.tbFix k := by
  obtain ⟨m, hm, -⟩ := s.to3_moved t
  have hcanonical : (s.to3 t).canonical = true := State.canonical_ticks hc _
  have hfix := fun k hk => State.tbFix_to3_past hc ht (k := k) hk
  rw [hm] at hcanonical hfix
  exact ⟨m, hm, hcanonical, hfix⟩

/-! ### Escalation and the watchdog's reset (R433, R434, R525) -/

section
variable {s : State} {t0 : Nat} (hc : s.canonical = true)
include hc

theorem execBinnacleWdogReset_begins (hwdog : s.bin.wdog = some t0) (hexpired : s.flag R.rstcWdogExpired = true) (ht : t0 + 16000000 ≤ s.tb 3)
    (hepisode : s.rst.episode = none) : ∃ t, execBinnacleWdogReset s = .next t ∧ EpisodeBegan s t 2 R.rstcCauseWdog false := by
  obtain ⟨m, hm, hcanonical, htb⟩ := State.to3_past hc ht
  have hexec : execBinnacleWdogReset s = .next ((s.to3 (t0 + 16000000)).assertSource 2) := by
    unfold execBinnacleWdogReset
    rw [hwdog]
    exact if_neg (by rw [hexpired]; decide)
  rw [hm] at hexec
  exact ⟨_, hexec, .watchdog hcanonical htb hepisode⟩

/-- The escalation whose dwell has passed, ESC_LIMIT apart: the bases read as before, and no dwell is counted any more. -/
theorem execEscalationExpiry_due (hdue : s.fcol.dAt = some t0) (hdwell : s.fld R.fcolCfgDDwell ≠ 0)
    (ht : t0 + s.fld R.fcolCfgDDwell * 100000000 ≤ s.tb 3) (hblocked : s.flag R.fcolEscBlocked = false) :
    ∃ m, State.canonical { s with tbs := m } = true ∧ (∀ k < 4, mget 0 m k = s.tbFix k) ∧
      let u : State := { s with tbs := m, fcol := { s.fcol with dAt := none } }
      execEscalationExpiry s = if s.fld R.fcolEscCount = 0 ∨ s.fcol.escFrom + 3600000000000 ≤ u.tb 3 then
          .next (({ u with fcol := { u.fcol with escFrom := u.tb 3 } }.setFld R.fcolEscCount 1).assertSource 3)
        else if s.fld R.fcolEscCount < s.fld R.fcolCfgEscLimit then .next ((u.setFld R.fcolEscCount (s.fld R.fcolEscCount + 1)).assertSource 3)
        else .next ((u.setFlag R.fcolEscBlocked true).raise evEscalationBlocked []) := by
  obtain ⟨m, hm, hcanonical, htb⟩ := State.to3_past hc ht
  refine ⟨m, hcanonical, htb, ?_⟩
  unfold execEscalationExpiry
  rw [hdue]
  dsimp only
  rw [if_neg hdwell, hm, if_neg (by rw [← Bool.not_eq_true] at hblocked; exact hblocked)]
  rfl

/-- The escalation resets the module while its count of the last hour is below ESC_LIMIT, and is blocked at the limit (R433, R434). -/
theorem execEscalationExpiry_outcomes (hdue : s.fcol.dAt = some t0) (hdwell : s.fld R.fcolCfgDDwell ≠ 0)
    (ht : t0 + s.fld R.fcolCfgDDwell * 100000000 ≤ s.tb 3) (hblocked : s.flag R.fcolEscBlocked = false) (hepisode : s.rst.episode = none) :
    let n := s.fld R.fcolEscCount
    let fresh := n = 0 ∨ s.fcol.escFrom + 3600000000000 ≤ s.tb 3
    (fresh → ∃ t, execEscalationExpiry s = .next t ∧ EpisodeBegan s t 3 R.rstcCauseEsc false ∧ t.fld R.fcolEscCount = 1) ∧
    (¬fresh → n < s.fld R.fcolCfgEscLimit → ∃ t, execEscalationExpiry s = .next t ∧ EpisodeBegan s t 3 R.rstcCauseEsc false ∧
      t.fld R.fcolEscCount = n + 1) ∧
    (¬fresh → s.fld R.fcolCfgEscLimit ≤ n → ∃ t, execEscalationExpiry s = .next t ∧ t.rst = s.rst ∧ t.flag R.fcolEscBlocked = true ∧
      t.fld R.fcolEscCount = n ∧ ∃ e, t.events = s.events ++ [e] ∧ e.code = evEscalationBlocked) := by
  intro n fresh
  obtain ⟨m, hcanonical, htb, hexec⟩ := execEscalationExpiry_due hc hdue hdwell ht hblocked
  extract_lets _ u at hexec
  have hnow : u.tb 3 = s.tb 3 := congrArg (· / 2 ^ 32) (htb 3 (by decide))
  rw [hnow] at hexec
  refine ⟨fun hfresh => ⟨_, hexec.trans (if_pos hfresh), EpisodeBegan.escalation hcanonical htb hepisode (by decide)⟩, fun hfresh hlimit => ?_,
    fun hfresh hlimit => ?_⟩
  · have hmax : s.fld R.fcolCfgEscLimit < 16 := s.fld_lt R.fcolCfgEscLimit
    exact ⟨_, hexec.trans ((if_neg hfresh).trans (if_pos hlimit)), EpisodeBegan.escalation hcanonical htb hepisode (by omega)⟩
  · obtain ⟨e, he, hcode, -⟩ := (u.setFlag R.fcolEscBlocked true).raise_unvectored (code := evEscalationBlocked) rfl []
    refine ⟨_, hexec.trans ((if_neg hfresh).trans (if_neg (Nat.not_lt.2 hlimit))), ?_⟩
    rw [he]
    exact ⟨rfl, State.flag_setFlag_same u true (by decide) (by decide), State.fld_setFlag_ne u true (by decide) (by decide), e, rfl, hcode⟩

end

/-! ### What begins the class D reaction (R279, R431, R441, R443) -/

/-- The reaction as the statement lists it. -/
theorem Reacted.parts {t : State} (h : Reacted t) : t.flag R.fcolStatusSafe = true ∧ t.pstate = psSafe ∧ t.flipStop = true ∧
    t.fld R.fldStatusClosed = 0 ∧ t.flag R.stnSafeSafeTx = true ∧ t.pair.aliveStop = true ∧ ∀ l < 8, (t.lane l).stopped = true :=
  ⟨h.safe, h.pstate, h.blocks.flips, h.blocks.closed, h.blocks.safeTx, h.blocks.alive, h.blocks.lanes⟩

/-- FCOL's own data are no part of it. -/
theorem Reacted.withFcol {t : State} (h : Reacted t) (x : FcolSt) : Reacted { t with fcol := x } := by
  obtain ⟨hsafe, hpstate, hclosed, hsafeTx, halive, hflips, hlanes⟩ := h
  exact ⟨hsafe, hpstate, hclosed, hsafeTx, halive, hflips, hlanes⟩

theorem State.classD_safe {s : State} (h : s.flag R.fcolStatusSafe = true) : s.classD = s := if_pos h

/-- FIT follows in PAIR_STATE alone. -/
theorem State.refit_stays (s : State) : ReactionStays s s.refit := .ite (.setFld s R.pairStateFit _ (by decide)) (.refl s)

/-- A source that shows no fault, is not broken and is not under test: FCOL takes its report. -/
theorem State.takes_of {s : State} {src : Nat} (hsrc : src < 0x45) (hstands : occursOnly src = false) (hnow : s.srcNow src = false)
    (hbroken : s.srcBroken src = false) (htest : s.flag R.fcolCtrlTest = true → s.fld R.fcolTestSource ≠ src) (detail : Nat) :
    s.takes ⟨src, detail, false⟩ = true := by
  have hlisten : (s.flag R.fcolCtrlTest && s.fld R.fcolTestPattern != 0 && s.fld R.fcolTestSource == src) = false := by
    cases hflag : s.flag R.fcolCtrlTest with
    | false => rfl
    | true => rw [beq_false_of_ne (htest hflag), Bool.and_false]
  rw [State.takes, State.inPulse, hlisten, hbroken, hnow, hstands, decide_eq_true hsrc]
  rfl

/-- Whatever FCOL does with one report of class D, the reaction that follows it is taken, and COPY_FAULT stands. -/
theorem State.classD_takeReports {s : State} {src : Nat} (hsrc : src < 0x45) (hclass : ∀ u : State, u.srcClass src = 4) (hstands : occursOnly src = false)
    (hsafe : s.flag R.fcolStatusSafe = false) (detail : Nat) : Reacted (s.takeReports [⟨src, detail, false⟩]).classD ∧
      (s.takeReports [⟨src, detail, false⟩]).classD.fld R.fcolStatusCopyFault = s.fld R.fcolStatusCopyFault := by
  have hstill : ∀ t, ReactionStays s t → Reacted t.classD ∧ t.classD.fld R.fcolStatusCopyFault = s.fld R.fcolStatusCopyFault := fun t h => by
    have hflag : t.flag R.fcolStatusSafe = false := by
      rw [State.flag, h.collector _ List.mem_cons_self]
      exact hsafe
    obtain ⟨hreacted, hkept, -⟩ := State.classD_reacted hflag
    exact ⟨hreacted, (hkept _ List.mem_cons_self).trans (h.collector _ (by simp [collectorFlds]))⟩
  cases hclk : s.fcol.clkOut with
  | true =>
    rw [show s.takeReports _ = s from if_pos hclk]
    exact hstill s (.refl s)
  | false =>
    cases htakes : s.takes ⟨src, detail, false⟩ with
    | false =>
      rw [State.takeReports_dropped hclk htakes]
      exact hstill _ s.refit_stays
    | true =>
      obtain ⟨hreacted, hcopy, -⟩ := State.takeReports_reacted hsrc hclass hstands hclk hsafe detail htakes
      rw [State.classD_safe hreacted.safe]
      exact ⟨hreacted, hcopy⟩

section
variable {s : State} (hsafe : s.flag R.fcolStatusSafe = false)
include hsafe

theorem execCollectorCopyMismatch_reacts (off : BitVec 16) : ∃ t, execCollectorCopyMismatch off s = .next t ∧ Reacted t ∧
    t.flag R.fcolStatusCopyFault = true := by
  have hcopy : (s.setFlag R.fcolStatusCopyFault true).flag R.fcolStatusCopyFault = true := State.flag_setFlag_same s true (by decide) (by decide)
  have hclear : (s.setFlag R.fcolStatusCopyFault true).flag R.fcolStatusSafe = false := by
    rw [State.flag, State.fld_setFlag_ne s true (by decide) (by decide)]
    exact hsafe
  obtain ⟨hreacted, hkept⟩ := State.classD_takeReports (src := 0x43) (by decide) (fun _ => rfl) rfl hclear off.toNat
  refine ⟨_, rfl, hreacted, ?_⟩
  rw [State.flag, hkept]
  exact hcopy

theorem execAlwaysOnClockFault_reacts : ∃ t, execAlwaysOnClockFault s = .next t ∧ Reacted t ∧ t.fcol.clkOut = true :=
  ⟨_, rfl, (State.classD_reacted hsafe).1.withFcol _, rfl⟩

theorem execAlwaysOnClockReturn_reacts (hclk : s.fcol.clkOut = true) (hnow : s.srcNow 0x28 = false) (hbroken : s.srcBroken 0x28 = false)
    (htest : s.flag R.fcolCtrlTest = true → s.fld R.fcolTestSource ≠ 0x28) :
    ∃ t, execAlwaysOnClockReturn s = .next t ∧ Reacted t ∧ t.fcol.clkOut = false ∧ t.srcNow 0x28 = true := by
  let u : State := { s with fcol := { s.fcol with clkOut := false } }
  have htakes : u.takes ⟨0x28, 0, false⟩ = true := State.takes_of (s := u) (by decide) rfl hnow hbroken htest 0
  obtain ⟨hreacted, -, hsource, hback, -⟩ :=
    State.takeReports_reacted (s := u) (by decide) (fun _ => rfl) rfl rfl hsafe 0 htakes
  exact ⟨_, if_pos hclk, hreacted, hback, hsource⟩

theorem execClassCResetTimeout_reacts {t0 src : Nat} (hdue : s.fcol.cAt = some (t0, src)) (hclk : s.fcol.clkOut = false) (hnow : s.srcNow 0x44 = false)
    (hbroken : s.srcBroken 0x44 = false) (htest : s.flag R.fcolCtrlTest = true → s.fld R.fcolTestSource ≠ 0x44) :
    ∃ t, execClassCResetTimeout s = .next t ∧ Reacted t ∧ t.fcol.cAt = none ∧ t.srcNow 0x44 = true := by
  obtain ⟨m, hm, -⟩ := s.to3_moved (t0 + 10000000)
  let u : State := { s with tbs := m, fcol := { s.fcol with cAt := none } }
  have hexec : execClassCResetTimeout s = .next (u.takeReports [⟨0x44, src, false⟩]) := by
    unfold execClassCResetTimeout
    rw [hdue]
    dsimp only
    rw [hm]
  have htakes : u.takes ⟨0x44, src, false⟩ = true := State.takes_of (s := u) (by decide) rfl hnow hbroken htest src
  obtain ⟨hreacted, -, hsource, -, hdropped⟩ :=
    State.takeReports_reacted (s := u) (by decide) (fun _ => rfl) rfl hclk hsafe src htakes
  exact ⟨_, hexec, hreacted, hdropped, hsource⟩

end

/-! ### A block that sees 00 or 11 (R442) -/

section
variable (s : State)

theorem execBrokenReportPath_lanes : ∃ t, execBrokenReportPath (.line .lanes) s = .next t ∧ t = { s with lanes := t.lanes, flipStop := true } ∧
    ∀ l < 8, t.lane l = { s.lane l with stopped := true } := by
  obtain ⟨x, hx, hlanes⟩ := s.lineStep_lanes
  exact ⟨_, congrArg Host.Outcome.next hx, rfl, hlanes⟩

theorem execBrokenReportPath_fld : ∃ t, execBrokenReportPath (.line .fld) s = .next t ∧ t.fld R.fldStatusClosed = 0 ∧
    t.flag R.fldStatusOpenline = true ∧ t.mem = s.mem ∧ t.pstate = s.pstate := by
  obtain ⟨⟨x, ht, hreg, -⟩, hclosed, hopen⟩ := s.openLine_moved
  refine ⟨s.openLine, rfl, hclosed, hopen, by rw [ht], ?_⟩
  rw [State.pstate, State.fld, hreg _ (by decide)]
  rfl

theorem execBrokenReportPath_stn : ∃ t, execBrokenReportPath (.line .stn) s = .next t ∧ t.flag R.stnSafeSafeTx = true ∧
    t = { s with regs := t.regs, out := t.out } ∧ FldsKept s t [R.stnSafeSafeTx] := by
  obtain ⟨o, ⟨ht, hkept⟩, hsafeTx⟩ := s.lineStep_stn
  refine ⟨s.lineStep .stn, rfl, hsafeTx, ?_, hkept⟩
  generalize s.lineStep .stn = t at ht
  rw [ht]

theorem execBrokenReportPath_can (n : Fin 2) : ∃ t, execBrokenReportPath (.line (.can n)) s = .next t ∧ t = { s with regs := t.regs, can := t.can } ∧
    (t.canOf n.val).pend = [] ∧ t.fld (R.canStatusMode n.val) = (if 2 ≤ s.fld (R.canStatusMode n.val) then 2 else s.fld (R.canStatusMode n.val)) ∧
    FldsKept s t [R.canStatusMode n.val] := by
  obtain ⟨x, ⟨ht, hkept⟩, hpend, hmode⟩ := s.canListen_only n.val
  refine ⟨s.canListen n.val, rfl, ?_, hpend, hmode, hkept⟩
  generalize s.canListen n.val = t at ht
  rw [ht]

end

/-- Settles O39, block by block and reaction by reaction. That the lanes' block also stops the flips is log entry 62, what an episode leaves of the memories
entry 18, and the comparison of the count with ESC_LIMIT at the expiry of the dwell entry 41. -/
theorem hardwareReactions : Obligations.HardwareReactions := by
  unfold Obligations.HardwareReactions
  intro s
  refine ⟨fun off hsafe => ?_, fun hsafe => ?_, fun hclk hsafe hnow hbroken htest => ?_, fun t0 src hdue hclk hsafe hnow hbroken htest => ?_,
    ⟨_, rfl, rfl⟩, ⟨_, rfl, rfl⟩, execBrokenReportPath_lanes s, execBrokenReportPath_fld s, execBrokenReportPath_stn s, execBrokenReportPath_can s,
    fun t0 hc hdue hdwell ht hblocked hepisode => execEscalationExpiry_outcomes hc hdue hdwell ht hblocked hepisode,
    fun t0 hc hwdog hexpired ht hepisode => execBinnacleWdogReset_begins hc hwdog hexpired ht hepisode⟩
  · obtain ⟨t, hexec, hreacted, hcopy⟩ := execCollectorCopyMismatch_reacts hsafe off
    exact ⟨t, hexec, hreacted.parts, hcopy⟩
  · obtain ⟨t, hexec, hreacted, hout⟩ := execAlwaysOnClockFault_reacts hsafe
    exact ⟨t, hexec, hreacted.parts, hout⟩
  · obtain ⟨t, hexec, hreacted, hrest⟩ := execAlwaysOnClockReturn_reacts hsafe hclk hnow hbroken htest
    exact ⟨t, hexec, hreacted.parts, hrest⟩
  · obtain ⟨t, hexec, hreacted, hrest⟩ := execClassCResetTimeout_reacts hsafe hdue hclk hnow hbroken htest
    exact ⟨t, hexec, hreacted.parts, hrest⟩

end Sys2Proof.Machine
end
